-- ==== Sys2Proof/Word.lean ====
section
/-! DEFINITION. The byte, the octet string, and the 64-bit position-sensor word (00_scope R6, R9). -/

namespace Sys2Proof

/-- One octet of a message, record, frame or flash structure (R9). -/
abbrev Byte := BitVec 8

/-- A string of octets, lowest offset first. -/
abbrev Bytes := List Byte

/-- The sensor word of Table 8.1. -/
abbrev SensorWord := BitVec 64

end Sys2Proof
end

