-- ==== Sys2Proof/Machine/Ops.lean ====
section
/-! DEFINITION. Shared operations on numbers, byte strings and vectors of instances (00_scope R9–R12, R18). -/

namespace Sys2Proof.Machine

/-- Element `i` of a vector of instances; the type's default beyond the last instance. -/
def getI {α : Type} [Inhabited α] {n : Nat} (v : Vector α n) (i : Nat) : α :=
  v[i]?.getD default

/-- The vector with element `i` replaced by `f` of it; unchanged beyond the last instance. -/
def updI {α : Type} {n : Nat} (v : Vector α n) (i : Nat) (f : α → α) : Vector α n :=
  if h : i < n then v.set i (f v[i]) else v

/-- Every element mapped together with its instance number. -/
def mapI {α β : Type} {n : Nat} (v : Vector α n) (f : Nat → α → β) : Vector β n :=
  v.mapIdx f

/-- Element `i` of a list; the type's default beyond its end. -/
def nth {α : Type} [Inhabited α] (l : List α) (i : Nat) : α := l.getD i default

/-- `x` limited to the interval from `lo` to `hi`. -/
def clampI (lo hi x : Int) : Int := if x < lo then lo else if hi < x then hi else x

/-- `x` saturated to a signed format of `w` bits (R11, R18). -/
def satS (w : Nat) (x : Int) : Int := clampI (-(2 ^ (w - 1) : Nat)) ((2 ^ (w - 1) : Nat) - 1) x

/-- `x` saturated to an unsigned format of `w` bits. -/
def satU (w : Nat) (x : Nat) : Nat := if x < 2 ^ w then x else 2 ^ w - 1

/-- A 32-bit count after one more happening; it saturates. -/
def inc32 (x : Nat) : Nat := satU 32 (x + 1)

/-- A 16-bit count after one more happening; it saturates. -/
def inc16 (x : Nat) : Nat := satU 16 (x + 1)

/-- `n / d` rounded to the nearest integer, ties away from zero (R11); `d` positive. -/
def rndDiv (n : Int) (d : Nat) : Int :=
  if 0 ≤ n then (2 * n + d) / (2 * d) else -((2 * (-n) + d) / (2 * d))

/-- Integer quotient rounded toward minus infinity (R18). -/
def fdiv (a : Int) (b : Nat) : Int := Int.fdiv a b

/-- Arithmetic shift right by `k` bits (R18). -/
def sar (x : Int) (k : Nat) : Int := Int.fdiv x (2 ^ k : Nat)

/-- Shift left by `k` bits (R18). -/
def sal (x : Int) (k : Nat) : Int := x * (2 ^ k : Nat)

/-- `x shr k` after rounding to nearest, ties away from zero (R11). -/
def rndSar (x : Int) (k : Nat) : Int := rndDiv x (2 ^ k)

/-- The bit pattern of `x` in `w` bits, two's complement (R10). -/
def toBits (w : Nat) (x : Int) : Nat := (x % (2 ^ w : Nat)).toNat

/-- The signed value of the low `w` bits of `x` (R10). -/
def ofBits (w : Nat) (x : Nat) : Int :=
  let y := x % 2 ^ w
  if y < 2 ^ (w - 1) then (y : Int) else (y : Int) - (2 ^ w : Nat)

/-- Bits `m` down to `l` of `x` (R18). -/
def bitsOf (x m l : Nat) : Nat := (x >>> l) % 2 ^ (m + 1 - l)

/-- Bit `k` of `x` (R6). -/
def bit (x k : Nat) : Bool := x.testBit k

/-- 1 for TRUE, 0 for FALSE. -/
def b2n (b : Bool) : Nat := if b then 1 else 0

/-- The number whose bit `k` says whether `f k` holds, over `n` bits. -/
def maskOf (n : Nat) (f : Nat → Bool) : Nat :=
  (List.range n).foldl (fun m k => if f k then m + 2 ^ k else m) 0

/-- `x` with bit `k` set to `b`. -/
def setBit (x k : Nat) (b : Bool) : Nat :=
  if x.testBit k == b then x else if b then x + 2 ^ k else x - 2 ^ k

/-- Number of bits of `x` that are 1, over `n` bits. -/
def popCount (n x : Nat) : Nat := ((List.range n).filter (fun k => x.testBit k)).length

/-- The largest `r` with `r * r ≤ x`: `k` binary digits are tried from the top. -/
def isqrtAux : Nat → Nat → Nat → Nat
  | 0, _, r => r
  | k + 1, x, r => isqrtAux k x (if (r + 2 ^ k) * (r + 2 ^ k) ≤ x then r + 2 ^ k else r)

/-- Integer square root. -/
def isqrt (x : Nat) : Nat := isqrtAux (x.log2 / 2 + 1) x 0

/-- Distance from the origin of (x, y), scaled by `2 ^ k`, rounded down. -/
def hypotScaled (k : Nat) (x y : Int) : Nat :=
  isqrt ((x * x + y * y).toNat * 2 ^ (2 * k))

/-- The value of a little-endian byte string (R9). -/
def leNat (b : Bytes) : Nat := b.foldr (fun x a => x.toNat + 256 * a) 0

/-- The signed value of a little-endian byte string (R9, R10). -/
def leInt (b : Bytes) : Int := ofBits (8 * b.length) (leNat b)

/-- The low `n` bytes of `x`, little-endian (R9). -/
def leBytes : Nat → Nat → Bytes
  | 0, _ => []
  | n + 1, x => BitVec.ofNat 8 x :: leBytes n (x / 256)

/-- The low `n` bytes of `x`, highest byte first. -/
def beBytes (n x : Nat) : Bytes := (leBytes n x).reverse

/-- The low `n` bytes of the signed `x`, little-endian (R9, R10). -/
def leBytesI (n : Nat) (x : Int) : Bytes := leBytes n (toBits (8 * n) x)

/-- The value of a big-endian byte string. -/
def beNat (b : Bytes) : Nat := b.foldl (fun a x => 256 * a + x.toNat) 0

/-- `len` bytes of `b` from offset `off`. -/
def slice (b : Bytes) (off len : Nat) : Bytes := (b.drop off).take len

/-- The unsigned little-endian field of `len` bytes at offset `off`. -/
def fieldU (b : Bytes) (off len : Nat) : Nat := leNat (slice b off len)

/-- The signed little-endian field of `len` bytes at offset `off`. -/
def fieldI (b : Bytes) (off len : Nat) : Int := ofBits (8 * len) (fieldU b off len)

/-- `b` cut or filled with zero bytes to `n` bytes. -/
def padTo (n : Nat) (b : Bytes) : Bytes := (b ++ List.replicate (n - b.length) 0).take n

/-- One bit of CRC-32C, reflected (R12). -/
def crcStep (c : Nat) : Nat := if c % 2 == 1 then (c / 2) ^^^ 0x82F63B78 else c / 2

/-- One byte of CRC-32C (R12). -/
def crcByte (c : Nat) (b : Byte) : Nat :=
  crcStep (crcStep (crcStep (crcStep (crcStep (crcStep (crcStep (crcStep (c ^^^ b.toNat))))))))

/-- CRC-32C of a byte string: preset to all ones, result inverted (R12). -/
def crc32c (b : Bytes) : Nat := (b.foldl crcByte 0xFFFFFFFF) ^^^ 0xFFFFFFFF

/-- The sum of a list of naturals. -/
def sumN (l : List Nat) : Nat := l.foldl (· + ·) 0

/-- The sum of a list of integers. -/
def sumI (l : List Int) : Int := l.foldl (· + ·) 0

/-- The largest of a list of naturals; 0 of the empty list. -/
def maxN (l : List Nat) : Nat := l.foldl Nat.max 0

/-- Whether `f` holds of some instance number below `n`. -/
def anyI (n : Nat) (f : Nat → Bool) : Bool := (List.range n).any f

/-- Whether `f` holds of every instance number below `n`. -/
def allI (n : Nat) (f : Nat → Bool) : Bool := (List.range n).all f

/-- A state carried through the instance numbers below `n` in increasing order. -/
def forI {σ : Type} (n : Nat) (s : σ) (f : σ → Nat → σ) : σ := (List.range n).foldl f s

end Sys2Proof.Machine
end

