-- ==== Sys2Proof/Machine/ObjRow.lean ====
section
/-! DEFINITION. What a row of an object table says of an object (03_object_dictionary R63–R69, Tables 3.1–3.3). -/

namespace Sys2Proof.Machine

/-- The value of an object: a number, or a string of octets (OCTETS, STRING and TABLE). An F32 is the number of its bit
pattern. -/
inductive Val
  | int (v : Int)
  | oct (b : Bytes)
deriving DecidableEq, Repr, Inhabited

/-- Object types (Table 3.1); sizes in bytes. A TABLE has an element size, a number of elements, and whether the number
varies up to it. -/
inductive ObjType
  | bool
  | uint (size : Nat)
  | sint (size : Nat)
  | f32
  | octets (n : Nat)
  | str (n : Nat)
  | table (element count : Nat) (varies : Bool)
deriving DecidableEq, Repr, Inhabited

/-- Access classes (Table 3.2). -/
inductive Access
  | ro
  | rw
  | wo
  | rws
deriving DecidableEq, Repr, Inhabited

/-- Apply classes (Table 3.3). -/
inductive Apply
  | imm
  | frm
  | lyr
  | stp
  | boot
deriving DecidableEq, Repr, Inhabited

/-- One row of an object table. `ranges` lists the accepted intervals of a number; an empty list accepts the full range of
the type. -/
structure ObjRow where
  base : Nat
  count : Nat
  subs : List Nat
  type : ObjType
  access : Access
  persisted : Bool
  apply : Apply
  dflt : Val
  ranges : List (Int × Int)
deriving DecidableEq, Repr, Inhabited

/-- A row of a read-only object. -/
def roRow (base count : Nat) (subs : List Nat) (type : ObjType) : ObjRow :=
  { base, count, subs, type, access := .ro, persisted := false, apply := .imm, dflt := .int 0, ranges := [] }

/-- A row of a writable object. -/
def wrRow (base count : Nat) (subs : List Nat) (type : ObjType) (access : Access) (persisted : Bool) (apply : Apply)
    (dflt : Val) (ranges : List (Int × Int)) : ObjRow :=
  { base, count, subs, type, access, persisted, apply, dflt, ranges }

/-- Whether the row holds the index (R63, R64). -/
def rowHasIndex (r : ObjRow) (index : Nat) : Bool := decide (r.base ≤ index) && decide (index < r.base + r.count)

/-- Whether the row holds the object (R63, R64). -/
def rowHas (r : ObjRow) (index sub : Nat) : Bool := rowHasIndex r index && r.subs.contains sub

/-- Whether the type is a TABLE, which only block transfer moves (R66, R69 step 2). -/
def isTable (t : ObjType) : Bool :=
  match t with
  | .table _ _ _ => true
  | _ => false

/-- Whether `n` bytes are a length of the type (R69 step 3; Table 3.1). -/
def lengthOk (t : ObjType) (n : Nat) : Bool :=
  match t with
  | .bool => n == 1
  | .uint k => n == k
  | .sint k => n == k
  | .f32 => n == 4
  | .octets k => n == k
  | .str k => n == k
  | .table e c v => if v then decide (n ≤ e * c) && n % e == 0 else n == e * c

/-- A subnormal F32 becomes zero of the same sign (Table 3.1). -/
def flushF32 (x : Nat) : Nat := if (x / 2 ^ 23) % 256 == 0 then (x / 2 ^ 31) * 2 ^ 31 else x

/-- The value that bytes of the right length encode (Table 3.1). -/
def decodeVal (t : ObjType) (b : Bytes) : Val :=
  match t with
  | .bool => .int (leNat b)
  | .uint _ => .int (leNat b)
  | .sint k => .int (ofBits (8 * k) (leNat b))
  | .f32 => .int (flushF32 (leNat b))
  | .octets _ => .oct b
  | .str _ => .oct b
  | .table _ _ _ => .oct b

/-- The bytes that carry a value in a message (Table 3.1). -/
def encodeVal (t : ObjType) (v : Val) : Bytes :=
  match t, v with
  | .bool, .int x => leBytesI 1 x
  | .uint k, .int x => leBytesI k x
  | .sint k, .int x => leBytesI k x
  | .f32, .int x => leBytesI 4 x
  | .octets k, .int x => leBytesI k x
  | .str k, .int x => leBytesI k x
  | .table _ _ _, .int _ => []
  | _, .oct b => b

/-- STRING[n]: bytes 0x20 to 0x7E, and 0x00 from the first 0x00 on (Table 3.1). -/
def stringOk (b : Bytes) : Bool :=
  let head := b.takeWhile (fun x => x != 0)
  head.all (fun x => decide (0x20 ≤ x.toNat) && decide (x.toNat ≤ 0x7E)) && (b.drop head.length).all (fun x => x == 0)

/-- Whether a number lies in one of the row's intervals. -/
def inRanges (rs : List (Int × Int)) (x : Int) : Bool :=
  rs.isEmpty || rs.any (fun r => decide (r.1 ≤ x) && decide (x ≤ r.2))

/-- Whether an F32 is finite (Table 3.1). -/
def finiteF32 (x : Nat) : Bool := (x / 2 ^ 23) % 256 != 255

/-- R69 step 6 as far as the type and the stated range go. -/
def typeValid (r : ObjRow) (v : Val) : Bool :=
  match r.type, v with
  | .bool, .int x => (x == 0 || x == 1) && inRanges r.ranges x
  | .f32, .int x => finiteF32 x.toNat
  | .str _, .oct b => stringOk b
  | _, .int x => inRanges r.ranges x
  | _, .oct _ => true

end Sys2Proof.Machine
end

