-- ==== Sys2Proof/Messages.lean ====
section
/-! DEFINITION. What the commands carry: messages, frames, reports and readings as they reach the device. -/

namespace Sys2Proof

/-- Source of a host message: address family, address as a number, UDP port (R102). -/
structure Src where
  v6 : Bool
  addr : Nat
  udp : Nat
deriving DecidableEq, Repr, Inhabited

/-- Header of a GDP request as received (Tables 4.2, 4.3); `udpLen` is the length of the UDP payload. -/
structure GdpHead where
  port : Fin 2
  src : Src
  udpLen : Nat
  version : Nat
  length : Nat
  reqId : Nat
  status : Nat
  position : Nat
  reserved : Nat
  clk : Nat
deriving DecidableEq, Repr, Inhabited

/-- Header of a Layer Stream message as received (Tables 4.2, 4.5). -/
structure LsHead where
  port : Fin 2
  src : Src
  udpLen : Nat
  version : Nat
  length : Nat
  session : Nat
  sequence : Nat
  status : Nat
  offset : Nat
deriving DecidableEq, Repr, Inhabited

/-- One entry of a READ request (Table 4.4). -/
structure ReadItem where
  index : Nat
  sub : Nat
  reserved : Nat
deriving DecidableEq, Repr, Inhabited

/-- One entry of a WRITE request (Table 4.4). -/
structure WriteItem where
  index : Nat
  sub : Nat
  reserved : Nat
  data : Bytes
deriving DecidableEq, Repr, Inhabited

/-- What an Ethernet frame carries, as Table 4.1 tells frames apart. -/
inductive FrameKind
  | pause
  | arp
  | gptp
  | udp4 (dst : Nat) (checksumOk fragment : Bool)
  | udp6 (dst : Nat) (checksumOk fragment extension : Bool)
  | icmpEcho
  | neighbour
  | dhcp
  | other
deriving DecidableEq, Repr, Inhabited

/-- A frame received on a host port: its length, its tag, its source and its UDP payload (R88, R89). -/
structure EthFrame where
  port : Fin 2
  bytes : Nat
  vlan : Option Nat
  kind : FrameKind
  src : Src
  payload : Bytes
deriving DecidableEq, Repr, Inhabited

/-- A gPTP Announce: the fields that best master selection compares (R50). -/
structure Announce where
  port : Fin 2
  domain : Nat
  priority1 : Nat
  clockClass : Nat
  accuracy : Nat
  variance : Nat
  priority2 : Nat
  identity : Nat
  stepsRemoved : Nat
deriving DecidableEq, Repr, Inhabited

/-- A deadline monitor of R57 or the P4 statistics snapshot (Table 2.4). -/
inductive Monitor
  | se (k : Fin 16)
  | ve (k : Fin 8)
  | zl (p : Fin 64)
  | snapshot
deriving DecidableEq, Repr, Inhabited

/-- One beat of a DDR burst: 128 data bits and 16 check bits (R461, R466). -/
structure Beat where
  dq : BitVec 128
  cb : BitVec 16
deriving DecidableEq, Repr, Inhabited

/-- A code word as a memory holds it: two consecutive beats of a DDR burst, or a row of the SRAM (R464, R466). -/
inductive StoredWord
  | beats (b0 b1 : Beat)
  | row (r : BitVec 288)
deriving DecidableEq, Repr, Inhabited

/-- A word corrected on the fabric or at a demand read (R20, R469): where, its address, and the position of its bad byte. -/
structure CorrectedWord where
  location : Fin 4
  address : Nat
  position : Fin 36
deriving DecidableEq, Repr, Inhabited

/-- One clock of TCK with the levels of the test pins, and the levels that the boundary cells would capture (R524, R526). -/
structure TapEdge where
  trstHigh : Bool
  tms : Bool
  tdi : Bool
  levels : BitVec 1236
deriving DecidableEq, Repr, Inhabited

/-- What the pins and converters give the device in one tick: the ten photodiode codes of each channel in the tick before
(R446), the switch pins (bit 0 home, 1 negative, 2 positive; R376), the MVS averages in mV of windings A and B (R381), the
LAO monitor (R449), the rail voltages in the order of Table 17.9, the VCORE phase currents, the load-switch currents and
outputs, the P2 clocks each scan and servo engine used (Table 2.5), whether LPERMIT_N is high (R438), the words corrected on the fabric and
at demand reads (R20, R471), and in test mode the clocks of TCK (R524). -/
structure TickInputs where
  pd : Vector (Vector Nat 10) 32
  switches : Vector Nat 8
  emf : Vector (Int × Int) 8
  laoMonitor : Vector Nat 32
  rails : Vector Nat 6
  phases : Vector Nat 4
  lswCurrent : Vector Nat 16
  lswVoltage : Vector Nat 16
  p2Clocks : Vector Nat 24
  lpermitHigh : Bool
  corrected : List CorrectedWord
  tap : List TapEdge
deriving DecidableEq, Repr, Inhabited

/-- A node frame as the device receives it: the fields R302 checks, and Unit and Claim (Table 12.2). `codeError` is TRUE
when the frame is not 64 symbols, lacks SOF or holds a code error. -/
structure NodeHead where
  codeError : Bool
  crcOk : Bool
  address : Nat
  unit : Nat
  sequence : Nat
  claim : Nat
  reservedZero : Bool
deriving DecidableEq, Repr, Inhabited

/-- SENSOR RESPONSE payload (Table 12.6). -/
structure SensorPayload where
  tick : Nat
  wordMask : Nat
  ampStatus : Nat
  wordX : SensorWord
  wordY : SensorWord
  wordF : SensorWord
  currents : Vector Int 3
  temperature : Int
  missed : Nat
deriving DecidableEq, Repr, Inhabited

/-- LASER STATUS payload (Table 12.8). -/
structure LaserPayload where
  tick : Nat
  status : Nat
  power : Nat
  backReflection : Nat
  temperature : Int
  missed : Nat
deriving DecidableEq, Repr, Inhabited

/-- Payload of the answer to ENUMERATE (Table 12.10, 0xA1). -/
structure EnumPayload where
  kind : Nat
  version : Nat
  links : Nat
  status : Nat
  vendor : Nat
  model : Nat
  firmware : Nat
  serial : Nat
  rating : Nat
  events : Nat
deriving DecidableEq, Repr, Inhabited

/-- One event of a laser command: offset in 1/1024 tick and power (Table 6.2). -/
structure LaserEvent where
  offset : Nat
  power : Nat
deriving DecidableEq, Repr, Inhabited

/-- The body of a device frame (Tables 12.3, 12.5, 12.7, 12.9, 12.10). -/
inductive FrameBody
  | sensorRequest (tick mask : Nat)
  | statusRequest (tick : Nat)
  | currentCommand (target : Nat) (currents : Vector Int 3) (driveMask : Nat)
  | laserCommand (target start : Nat) (events : List LaserEvent)
  | enumerate (address version : Nat)
  | configWrite (item : Nat) (data : Bytes)
  | configRead (item : Nat)
  | echo
deriving DecidableEq, Repr, Inhabited

/-- A device frame as a node receives it (Table 12.2, R303). -/
structure DeviceFrame where
  codeError : Bool
  crcOk : Bool
  address : Nat
  unit : Nat
  sequence : Nat
  claim : Nat
  reservedZero : Bool
  body : FrameBody
deriving DecidableEq, Repr, Inhabited

/-- A CSI-2 packet header: corrected single-bit error, uncorrectable error, VCX nonzero (Table 9.2); `clk` is the engine clock of the tick at
which it arrives, which decides between the pulses of one tick at a Frame Start (R243). -/
structure CsiHeader where
  clk : Nat
  corrected : Bool
  bad : Bool
  vcx : Bool
deriving DecidableEq, Repr, Inhabited

/-- Cause of a ZL link going down (Table 12.12, row UP). -/
inductive LinkCause
  | codeErrors
  | alignment
  | noResponse
deriving DecidableEq, Repr, Inhabited

/-- A wisp as received (Table 13.5): `valid` is FALSE when its CRC or length fails (R339). -/
structure WispMsg where
  valid : Bool
  tick : Nat
  unitId : Nat
  pairState : Nat
  claim : Nat
  flags : Nat
  digest : Nat
  localTime : Nat
  health : Nat
  decision : Nat
  portsFollowed : Nat
  zlUp : Nat
  camerasReceiving : Nat
  groupsApplied : Nat
  lastPackage : Nat
  handOverTick : Nat
deriving DecidableEq, Repr, Inhabited

/-- HELLO fields (R341 step 1). `roundTrip` is the measured round trip of this exchange in 1/16 ns. -/
structure HelloMsg where
  valid : Bool
  unitId : Nat
  romVersion : Nat
  dictVersion : Nat
  authorityMode : Nat
  homeUnit : Nat
  ddrCapacity : Nat
  jobRunning : Bool
  roundTrip : Nat
deriving DecidableEq, Repr, Inhabited

/-- A mirror entry (R343). -/
inductive MirrorEntry
  | scanner (s : Fin 32) (wordMask ampStatus : Nat) (wordX wordY wordF : SensorWord)
  | laser (n : Fin 32) (status : Nat)
deriving DecidableEq, Repr, Inhabited

/-- A feature set (Table 9.7 without its identity fields). -/
structure FeatureSet where
  frame : Nat
  flags : Nat
  area : Nat
  peak : Nat
  intensity : Nat
  cx : Int
  cy : Int
  elongation : Nat
  outside : Nat
  peakX : Nat
  peakY : Nat
deriving DecidableEq, Repr, Inhabited

/-- What the LED block of the active unit decided for one string (R344, R404): state (Table 15.2), failed and shorted lamps,
E', U, deficit, current, and the pattern changes of the frame as offset and pattern. -/
structure LedReport where
  l : Fin 16
  state : Nat
  failed : Nat
  shorted : Nat
  level : Nat
  lampTime : Nat
  deficit : Bool
  current : Nat
  changes : List (Nat × Nat)
deriving DecidableEq, Repr, Inhabited

/-- A MEASURE message (R344): photodiode averages of the tick before, feature sets due in this tick by context, the throttle
requests, and the decisions of the tick before: stable edges by axis, switch and state, axes with a STALL verdict, LED strings, and
readings with validity by temperature input. -/
structure MeasureMsg where
  valid : Bool
  tick : Nat
  pd : Vector Nat 32
  features : List (Fin 128 × FeatureSet)
  channelThrottle : Nat
  axisThrottle : Nat
  edges : List (Fin 8 × Fin 3 × Bool)
  stalls : List (Fin 8)
  strings : List LedReport
  readings : List (Fin 48 × Int × Nat)
deriving DecidableEq, Repr, Inhabited

/-- One (index, sub, value) of a forwarded write group or of a dictionary copy (R341, R345). -/
structure ObjVal where
  index : Nat
  sub : Nat
  data : Bytes
deriving DecidableEq, Repr, Inhabited

/-- Measured quantities of one temperature slot: diode voltages in µV (R423), or the NTC ratio as a fraction (R424). -/
inductive SlotMeasure
  | diode (v1 v2 v3 : Nat)
  | ntc (num den : Nat)
  | idle
deriving DecidableEq, Repr, Inhabited

/-- A part of the flash content that carries a CRC of its own (R475, R479, R480, R508): a slot of the fault-log ring, an append slot of the
current object copy, a section copy or a selector record by its place. -/
inductive FlashPart
  | ring (slot : Fin 4096)
  | append (slot : Fin 256)
  | sectionCopy (kind : Fin 3) (place : Fin 2)
  | selector (place : Fin 2)
deriving DecidableEq, Repr, Inhabited

/-- What the Basic Flash Parameter Table says (R472, R473): `addressing` the default address mode, 0 for 3-byte, 1 for 3-or-4-byte, 2 for
4-byte only; the ways of DWORD16 into 4-byte addressing; `quadEnable` DWORD15 [22:20]; `programUs` the maximum page-program time. -/
structure FlashParameters where
  revisionB : Bool
  fast144 : Bool
  fast114 : Bool
  erase4K : Bool
  erase64K : Bool
  suspends : Bool
  programUs : Nat
  addressing : Fin 3
  enterB7 : Bool
  enter06B7 : Bool
  enterTable : Bool
  quadEnable : Fin 8
deriving DecidableEq, Repr, Inhabited

/-- How the device sets a flash up after discovery (R473): the instructions that enter 4-byte addressing, none for the 4-byte Address
Instruction Table (`some []`) or for a flash that needs no entry (`none`); the method for the Quad Enable bit; the read mode of Table 19.10. -/
structure FlashSetup where
  enter : Option (List Nat)
  quadEnable : Fin 8
  readMode : Nat
deriving DecidableEq, Repr, Inhabited

/-- What the flash answers at discovery (R472, R473), with the board header it holds (R475) and the parts whose CRC fails; `answers` is
FALSE when the flash does not answer. -/
structure FlashReport where
  invalid : List FlashPart
  answers : Bool
  header : Bytes
  capacityKiB : Nat
  jedec : Nat
  bfpt : FlashParameters
deriving DecidableEq, Repr, Inhabited

/-- Result that ends a start-up phase (R491): the failed self-tests of phase 2 (R493), what the flash answers once phase 2 is over
(R472), and the phase's duration in µs (R494). -/
structure PhaseReport where
  durationUs : Nat
  failedTests : List Nat
  flash : FlashReport
deriving DecidableEq, Repr, Inhabited

/-- A GDP response: type, Status, Position and body (Tables 4.3, 4.4). -/
structure GdpResponse where
  port : Fin 2
  src : Src
  type : Nat
  reqId : Nat
  status : Nat
  position : Nat
  body : Bytes
deriving DecidableEq, Repr, Inhabited

/-- The Layer Stream session as the active unit holds it (R341 step 4). -/
structure SessionCopy where
  id : Nat
  port : Fin 2
  src : Src
  sequence : Nat
  offset : Nat
deriving DecidableEq, Repr, Inhabited

end Sys2Proof
end

