-- ==== Sys2Proof/Machine/BlocksCore.lean ====
section
/-! DEFINITION. State of the fault manager, the timebase, the dictionary, the queues and the pins (chapters 1, 2, 3, 20). -/

namespace Sys2Proof.Machine

/-- Severities (Table 20.4). -/
inductive Severity
  | note
  | warn
  | stopChannel
  | stopJob
  | safe
deriving DecidableEq, Repr, Inhabited

/-- Source kinds of a fault record (Table 20.5). -/
inductive SourceKind
  | device
  | channel
  | servoAxis
  | stepperAxis
  | ledString
  | temperature
  | rail
  | loadSwitch
  | zlPort
  | cameraPort
  | imageContext
  | fen
  | engine
  | memory
  | flash
  | peerLink
  | layerPackage
deriving DecidableEq, Repr, Inhabited

/-- The source of an event, in the order in which P3 admits them (R501). -/
inductive Poster
  | ve (j : Nat)
  | se (k : Nat)
  | zl (p : Nat)
  | block (b : Nat)
  | core (c : Nat)
deriving DecidableEq, Repr, Inhabited

/-- An event as its block decided it (R34): what the fault record will hold (R502, R504); `tick` is the tick of the local action. -/
structure Event where
  poster : Poster
  code : Nat
  severity : Severity
  kind : SourceKind
  inst : Nat
  detail : Bytes
  tick : Nat
deriving DecidableEq, Repr, Inhabited

/-- An event standing in Q63, stamped in its P3 (R501, Table 20.5). -/
structure Stamped where
  ev : Event
  localTime : Nat
  devState : Nat
deriving DecidableEq, Repr, Inhabited

/-- A fault record (Table 20.5). `closed` is the inverse of OPEN. -/
structure Record where
  number : Nat
  link : Nat
  boot : Nat
  st : Stamped
  closed : Bool
  escalated : Bool
  unstored : Bool
  closedByReset : Bool
  sevInForce : Nat
  lost : Nat
deriving DecidableEq, Repr, Inhabited

/-- A valid slot of the fault ring at its position (R508). -/
structure RingSlot where
  record : Record
  sequence : Nat
  position : Nat
deriving DecidableEq, Repr, Inhabited

/-- Device states (Table 20.3). -/
inductive DevState
  | startUp
  | ready
  | running
  | stopping
  | held
deriving DecidableEq, Repr, Inhabited

/-- The fault manager (chapter 20). `posted` holds the events decided since the last P3, `later` those of the first P3 after the tick in
progress (R71), and `readNow` counts the events that CC0 has read in the present P4 (R37); `action` the severity whose
job-level action is due at the next boundary (R37, R498). -/
structure FaultState where
  posted : List Event
  later : List Event
  readNow : Nat
  q63 : List Stamped
  log : List Record
  unstored : List Record
  created : Nat
  boot : Nat
  overflowCount : Nat
  lostEvents : Nat
  lostSince : Nat
  overflowSev : Nat
  overflowPosted : Option Nat
  root : Nat
  action : Option Severity
  allStopped : Bool
  ringKnown : Bool
  ringPending : List Record
  durations : List Nat
  overMaximum : Nat
deriving DecidableEq, Repr, Inhabited

/-- Start-up, reset and test (R489–R494, R527). `phase` is 1 to 7 in START-UP and 0 after it; `phaseOver` says that PF_N has
ended start-up (R510); `resetDue` is the boundary at which an accepted request resets the device (R490). -/
structure StartState where
  inReset : Bool
  cause : Nat
  phase : Nat
  resetDue : Option Nat
  testMode : Bool
  strap : Nat
  phaseOver : Bool
deriving DecidableEq, Repr, Inhabited

/-- Timebase states (Table 2.3). -/
inductive TbState
  | free
  | acquire
  | locked
  | holdover
deriving DecidableEq, Repr, Inhabited

/-- The timebase (chapter 2). `boundary` is the local time of the last tick boundary and `clock` the engine clocks since
it; `step` is a local time to be set at the next boundary (R54); `cutoff` says
that the arrival cut-off of the tick has been reached (R46) and `pins` holds the switch pins of the steppers in the tick (R376). -/
structure TimeState where
  running : Bool
  boundary : Nat
  clock : Nat
  ticks : Nat
  tb : TbState
  inWindow : Nat
  outWindow : Nat
  offset : Int
  tuning : Int
  tuned : Nat
  gm : Nat
  slave : Option (Fin 2)
  announces : Vector (Option Announce) 2
  linkDelay : Vector Nat 2
  pdelayOut : Vector Nat 2
  syncTick : Nat
  stepCount : Nat
  holdoverStart : Nat
  step : Option Nat
  overruns : Vector Nat 26
  overrunPosted : Vector (Option Nat) 89
  overrunUnposted : Vector Nat 89
  p2High : Vector Nat 24
  staleSnapshot : Bool
  cutoff : Bool
  pins : Vector Nat 8
deriving DecidableEq, Repr, Inhabited

/-- A committed write not yet in force (R73, R77, R79). `due` is the ordinal of its immediate boundary, counted in ticks
since start; `tickBound` says that an apply point has moved it into the tick-bound copy; `staged` marks a value the device
staged itself; `mark` is the number of fault records created by the commit (R510). -/
structure PendingWrite where
  index : Nat
  sub : Nat
  val : Val
  apply : Apply
  due : Nat
  commitTime : Nat
  tickBound : Bool
  staged : Bool
  mark : Nat
deriving DecidableEq, Repr, Inhabited

/-- The object dictionary (chapter 3). `vals` holds the values in force that differ from the Default, by rising
`index * 256 + sub`; `boot` the values of BOOT objects stored for the next reset (R72, R84), by the same key; `pending` the
committed writes that are not yet in force, oldest first. -/
structure DictState where
  vals : List (Nat × Val)
  boot : List (Nat × Val)
  pending : List PendingWrite
  commits : Nat
  rejected : Nat
  noEffect : Nat
  lastCommit : Nat
deriving DecidableEq, Repr, Inhabited

/-- Counts of one hardware queue (Table 1.5); the content stands in the owning block. `placed` counts the bytes of messages placed in
the queue since the last tick boundary, and `waiting` says that a producer holds an entry that does not fit (R29). -/
structure QueueStat where
  fill : Nat
  placed : Nat
  waiting : Bool
  high : Nat
  underruns : Nat
  inUnderrun : Bool
  stalls : Nat
deriving DecidableEq, Repr, Inhabited

/-- What a pin class does (Table 20.1). -/
inductive PinDrive
  | unpowered
  | resetState
  | held
  | driven
deriving DecidableEq, Repr, Inhabited

/-- The states of the test access port's controller (IEEE 1149.1, R524). -/
inductive TapCtl
  | reset
  | idle
  | selectDr
  | captureDr
  | shiftDr
  | exit1Dr
  | pauseDr
  | exit2Dr
  | updateDr
  | selectIr
  | captureIr
  | shiftIr
  | exit1Ir
  | pauseIr
  | exit2Ir
  | updateIr
deriving DecidableEq, Repr, Inhabited

/-- TAP instructions (Table 21.12). -/
inductive TapInstr
  | extest
  | sample
  | idcode
  | highz
  | clamp
  | bypass
deriving DecidableEq, Repr, Inhabited

/-- The test access port (R524–R526): controller, instruction, the shift stages of its registers, and the latches of the boundary register. -/
structure TapState where
  ctl : TapCtl
  instr : TapInstr
  irShift : BitVec 8
  idShift : BitVec 32
  bypassBit : Bool
  cells : BitVec 1236
  latch : BitVec 1236
deriving DecidableEq, Repr, Inhabited

/-- The pins of Table 20.1 as classes, the JTAG test mode and its port (R487, R524, R527). -/
structure PinState where
  outputs : PinDrive
  triggers : PinDrive
  zlTx : PinDrive
  peerTx : PinDrive
  ethTx : PinDrive
  jtagEnabled : Bool
  tap : TapState
deriving DecidableEq, Repr, Inhabited

end Sys2Proof.Machine
end

