-- ==== Sys2Proof/Machine/BlocksHost.lean ====
section
/-! DEFINITION. State of the host link: ports, GDP, Layer Stream session, Event destinations (chapter 4). -/

namespace Sys2Proof.Machine

/-- The 802.1Q tag of a frame that the device sends (R89). -/
structure VlanTag where
  id : Nat
  priority : Nat
deriving DecidableEq, Repr, Inhabited

/-- The messages of the DHCPv4 client (RFC 2131; PRESUMED, assumption 33). -/
inductive DhcpKind
  | discover
  | request
  | renew
  | rebind
deriving DecidableEq, Repr, Inhabited

/-- What a host frame of the device carries (R88, R90, R95). -/
inductive HostFrame
  | udp (localPort : Nat) (dst : Src) (payload : Bytes)
  | arpRequest (target : Nat)
  | arpReply (target targetMac address : Nat)
  | gratuitousArp (address : Nat)
  | neighbourSolicitation (target : Nat)
  | neighbourAdvertisement (target : Nat)
  | echoReply (v6 : Bool) (length : Nat)
  | dhcp (kind : DhcpKind)
deriving DecidableEq, Repr, Inhabited

/-- One part of a transaction on a camera port's I²C bus (R235, R236): `free` nine clock pulses and a STOP where a slave holds SDA low
(still low: the transaction ends with status 6), START or repeated START with the address and R/W, bytes written, bytes read of which the
last is answered with NACK, STOP. -/
inductive I2cStep
  | free
  | start (address : Nat) (read : Bool)
  | write (data : Bytes)
  | read (count : Nat)
  | stop
deriving DecidableEq, Repr, Inhabited

/-- A frame or message that the device has put on a wire since the last tick boundary: `frame` on a host port with its tag, `peer` the
octets of a peer message (Table 13.3), `i2c` a transaction with the port's speed and clock-stretch timeout; the flash parts are
what the device sends to the serial flash (R472, R473). -/
inductive Output
  | frame (port : Fin 2) (tag : Option VlanTag) (content : HostFrame)
  | pdelayRequest (port : Fin 2) (sequence : Nat)
  | pdelayResponse (port : Fin 2) (sequence : Nat)
  | pdelayFollowUp (port : Fin 2) (sequence : Nat)
  | trigger (camera : Nat) (offset width : Nat)
  | i2c (camera speed stretch : Nat) (steps : List I2cStep)
  | flashDiscovery (instructions : List Nat)
  | flashSetup (x : FlashSetup)
  | flashErase (address length : Nat)
  | flashWrite (address : Nat) (data : Bytes)
  | writeBack (target address : Nat) (word : StoredWord)
  | tdo (bits : List Bool)
  | peer (message : Bytes)
  | measure (m : MeasureMsg)
  | hello (m : HelloMsg)
  | stateCopy (values pending : List ObjVal) (replay : List GdpResponse) (session : Option SessionCopy) (packages : List Bytes)
  | gate (zl : Nat)
  | zlTraining (port unit : Nat)
  | zlTick (port count : Nat)
  | zlCredit (port freed : Nat)
  | zlFrame (port : Nat) (bytes : Bytes)
  | nodeFrame (port link : Nat) (bytes : Bytes)
deriving DecidableEq, Repr, Inhabited

/-- An open block transfer (R80, R103–R105). `data` is what has arrived, or the copy being read. -/
structure BlockTransfer where
  writing : Bool
  src : Src
  index : Nat
  sub : Nat
  size : Nat
  crc : Nat
  next : Nat
  data : Bytes
  lastTick : Nat
deriving DecidableEq, Repr, Inhabited

/-- A subscription (R106, R107): `reported` is the value last reported, `sampled` the boundary of the last sample. -/
structure Subscription where
  src : Src
  index : Nat
  sub : Nat
  dest : Nat
  period : Nat
  reported : Option Bytes
  sampled : Option Nat
deriving DecidableEq, Repr, Inhabited

/-- DHCPv4 client states (Table 4.9). -/
inductive Dhcp
  | off
  | selecting
  | bound
  | renewing
  | rebinding
  | expired
deriving DecidableEq, Repr, Inhabited

/-- An Ethernet port (Tables 4.1, 4.9). Deadlines are ticks since start. -/
structure EthPort where
  linkUp : Bool
  ipv4 : Nat
  dhcp : Dhcp
  prefixLen : Nat
  gateway : Nat
  t1 : Nat
  t2 : Nat
  leaseEnd : Nat
  arp : List (Nat × Nat × Nat)
  received : Nat
  sent : Nat
  discards : Nat
  overflow : Nat
  high : Nat
  otherFill : Nat
  echoSecond : Nat
  echoCount : Nat
deriving DecidableEq, Repr, Inhabited

/-- A message on its way to queue `queue` of a host port (R29, R88): `hop` is the next hop whose link address it waits for since tick
`since`, none where it waits for space; `counted` says that its stall has been counted. -/
structure Egress where
  queue : Nat
  port : Fin 2
  localPort : Nat
  dst : Src
  payload : Bytes
  hop : Option Nat
  since : Nat
  counted : Bool
deriving DecidableEq, Repr, Inhabited

/-- The body of a GDP request (Table 4.4). `other` is a request that no check of R95 lets pass. -/
inductive GdpBody
  | read (items : List ReadItem)
  | write (items : List WriteItem)
  | readOpen (index sub : Nat)
  | segments (handle count first : Nat)
  | writeOpen (index sub size crc : Nat)
  | segment (handle number : Nat) (data : Bytes)
  | close (handle : Nat)
  | subscribe (index sub dest period : Nat)
  | unsubscribe (id : Nat)
  | other
deriving DecidableEq, Repr, Inhabited

/-- A GDP request waiting to be served (R101): its header, its type, whether the type is defined, the least length of the message and
whether its reserved fields are 0 (R95). -/
structure GdpRequest where
  head : GdpHead
  type : Nat
  known : Bool
  min : Nat
  reservedZero : Bool
  body : GdpBody
deriving DecidableEq, Repr, Inhabited

/-- The handle of a transfer that the device has closed: the abort code, and the index and subindex of its table (R80, R87). -/
structure ClosedHandle where
  code : Nat
  index : Nat
  sub : Nat
deriving DecidableEq, Repr, Inhabited

/-- The Layer Stream session (R109–R113). `closing` holds the port and source of an accepted CLOSE that waits for the data placed
(R113). `id` 0 is no session; `buffer` holds the messages placed in the receive buffer
and not yet released, each with its offset; `released` is the stream offset of the first byte not released. -/
structure Session where
  id : Nat
  port : Fin 2
  src : Src
  sequence : Nat
  offset : Nat
  released : Nat
  buffer : List (Nat × Bytes)
  duplicates : Nat
  gaps : Nat
  exceeded : Nat
  accepted : Nat
  rejected : Nat
  changed : Bool
  lastCredit : Nat
  lastWhole : Nat
  closing : Option (Fin 2 × Src)
deriving DecidableEq, Repr, Inhabited

/-- An OPEN or CLOSE that waits for the next P4 (R109, R113); `beforeNak` says that no message of the tick before it called for a NAK
(R110). -/
structure LsControl where
  port : Fin 2
  src : Src
  session : Nat
  close : Bool
  resume : Bool
  beforeNak : Bool
deriving DecidableEq, Repr, Inhabited

/-- The NAK of a tick: the first message that called for one (R110). -/
structure LsNak where
  port : Fin 2
  src : Src
  session : Nat
  status : Nat
deriving DecidableEq, Repr, Inhabited

/-- An Event destination (R114, R115): `waiting` is the tick at which its next hop began to be resolved, with the
messages held meanwhile. -/
structure Destination where
  sequence : Nat
  dropped : Nat
  waiting : Option Nat
  held : List (Nat × Nat × Bytes)
deriving DecidableEq, Repr, Inhabited

/-- The host link (chapter 4). `closed` is how the device closed the last transfer of each handle, `egress` the messages that wait for
space in a queue or for a link address, `requests` the GDP requests of each port that wait to be served and `turn` the port whose queue
goes first (R101). -/
structure HostState where
  ports : Vector EthPort 2
  replay : List GdpResponse
  transfers : Vector (Option BlockTransfer) 4
  closed : Vector ClosedHandle 4
  egress : List Egress
  requests : Vector (List GdpRequest) 2
  turn : Fin 2
  subs : Vector (Option Subscription) 64
  session : Session
  control : List LsControl
  nak : Option LsNak
  dests : Vector Destination 4
  served : Nat
  replays : Nat
  malformed : Nat
deriving DecidableEq, Repr, Inhabited

end Sys2Proof.Machine
end

