-- ==== Sys2Proof/Machine/BlocksJob.lean ====
section
/-! DEFINITION. State of layer packages, the layer store, job control and the scan engines (chapters 5 and 6). -/

namespace Sys2Proof.Machine

/-- A point of the bed, in 2^-256 count (DESIGN CHOICE, assumption 12). -/
structure Pt where
  x : Int
  y : Int
deriving DecidableEq, Repr, Inhabited

/-- Exposure records (Tables 5.5–5.12). A raster map is held as its runs of equal cells, in map order. -/
inductive Rec
  | jump (settle : Bool) (x y : Int) (focus : Int) (speed : Nat)
  | vec (ramp isOpen : Bool) (x y : Int) (focus : Int) (speed power endPower tag : Nat)
  | poly (isOpen : Bool) (focus : Int) (speed power tag : Nat) (points : List (Int × Int))
  | raster (serpentine isOpen : Bool) (x y : Int) (angle cell pitch cells lines speed : Nat) (focus : Int) (tag : Nat)
      (runs : List (Nat × Nat))
  | dwell (ticks : Nat)
  | mark (observe : Bool) (fen number : Nat) (sx sy ex ey : Int) (speed power : Nat) (focus : Int)
  | endRec
deriving DecidableEq, Repr, Inhabited

/-- A record as it stands in a queue: its byte length, its offset in its section, its layer number and its nominal
duration (R179). `words` holds cells and bytes of each code word of the map of a RASTER longer than the look-ahead buffer, which stays in
the queue while it is decoded (R166); none for any other record. -/
structure QRec where
  body : Rec
  bytes : Nat
  offset : Nat
  layer : Nat
  nominal : Nat
  words : List (Nat × Nat)
deriving DecidableEq, Repr, Inhabited

/-- A fen item: a JUMP and its VEC or POLY (R131). -/
structure FenItem where
  number : Nat
  recs : List QRec
  bytes : Nat
deriving DecidableEq, Repr, Inhabited

/-- A stepper move (Table 14.2): target, or a relative distance, with a dwell after it. The 16 bytes are held. -/
structure StepMove where
  raw : Bytes
deriving DecidableEq, Repr, Inhabited

/-- A fen section (R131). -/
structure FenSection where
  fen : Nat
  chanA : Nat
  chanB : Nat
  items : List FenItem
deriving DecidableEq, Repr, Inhabited

/-- A validated package (Table 5.1, R120). -/
structure Package where
  layer : Nat
  first : Bool
  last : Bool
  interlayer : Nat
  earliest : Nat
  job : Nat
  length : Nat
  channels : List (Nat × List QRec)
  fens : List FenSection
  steppers : List (Nat × List StepMove)
deriving DecidableEq, Repr, Inhabited

/-- A package in the layer store with its octets and with what has not yet moved to the queues (R141, R142). -/
structure Stored where
  head : Package
  bytes : Bytes
  channels : List (Nat × List QRec)
  fens : List FenSection
  steppersMoved : Bool
deriving DecidableEq, Repr, Inhabited

/-- A package whose last byte has arrived, in tick `since`, and that CC2 has not yet checked (R136). -/
structure Arrived where
  since : Nat
  offset : Nat
  bytes : Bytes
deriving DecidableEq, Repr, Inhabited

/-- What the last accepted package says to the next (R137). -/
structure LastAccepted where
  job : Nat
  layer : Nat
  last : Bool
deriving DecidableEq, Repr, Inhabited

/-- Job control on CC1 and CC2 (chapter 5). `partialBytes` is the package being assembled, from stream offset
`partialAt`; `granted` says that a job start is granted and not yet in effect; `nextStart` and `nextLayer` what CC2 has decided for the next
boundary, and `decided` that this tick's decision point is past; `stopped` holds the IDs of the jobs that the device has stopped, each with
whether the event of R138 has been posted since. Ticks are ticks since start. -/
structure JobState where
  dev : DevState
  job : Nat
  layer : Option Nat
  layerSections : List Nat
  isLast : Bool
  granted : Bool
  nextStart : Bool
  nextLayer : Bool
  decided : Bool
  refill : Bool
  boundaryTick : Nat
  completeTick : Option Nat
  store : List Stored
  arrived : List Arrived
  partialBytes : Bytes
  partialAt : Nat
  reserved : Option Nat
  resync : Bool
  last : Option LastAccepted
  stopped : List (Nat × Bool)
  ends : Vector (Option Pt) 32
deriving DecidableEq, Repr, Inhabited

/-- What the laser does along a segment of a path (R169, R170, R175). A ramp runs from `p0` to `p1` over `total`, of which
`s0` lies before the segment. -/
inductive Light
  | dark
  | power (p : Nat) (isOpen : Bool) (tag : Nat)
  | ramp (p0 p1 s0 total : Nat) (isOpen : Bool) (tag : Nat)
  | cells (isOpen : Bool) (tag cell : Nat) (runs : List (Nat × Nat))
deriving DecidableEq, Repr, Inhabited

/-- One straight piece of a path: geometry in 2^-256 count with a unit direction in 2^-256 and the end point `fin`, speeds in the unit of Table 6.3,
times in 2^-256 tick since start, focus offsets in 2^-256 µm, run from `f0` to `f1` over the first `fLen` of it. `vEnter`, `vPeak`, `vLeave`
give its profile (R164) under the limits `acc` and `jerk`; `next` counts the laser events of the segment that stand in the event list; `ends`
holds the nominal durations of the records that complete at its end (R179), `bytes` what they hold of the look-ahead buffer (R164). `inner`
tells a segment that goes on with the exposure of the one before it. `kind` is 0 until the owner is noted, then 1 for the channel's own
stream, 2 for a claimed fen item, 3 for a MARK. -/
structure Seg where
  start : Pt
  fin : Pt
  ux : Int
  uy : Int
  len : Nat
  vProg : Nat
  vEnter : Nat
  vPeak : Nat
  vLeave : Nat
  t0 : Nat
  dur : Nat
  f0 : Int
  f1 : Int
  fLen : Nat
  light : Light
  acc : Nat
  jerk : Nat
  next : Nat
  ends : List Nat
  bytes : Nat
  inner : Bool
  kind : Nat
deriving DecidableEq, Repr, Inhabited

/-- The motion of one axis in the entry move, in sensor counts (R531): from rest at `origin` over `dist` counts, or braking
from the speed `v0` (R186). Speeds and limits in the units of Table 6.3. -/
structure AxisMove where
  origin : Int
  dist : Nat
  neg : Bool
  v0 : Nat
  vPeak : Nat
  a : Nat
  j : Nat
deriving DecidableEq, Repr, Inhabited

/-- A power in force on the laser, as programmed (R169–R171); a ramp is known by the path time at which its vector begins. -/
inductive Lit
  | off
  | power (p : Nat) (isOpen : Bool) (tag : Nat)
  | ramp (key : Nat) (isOpen : Bool) (tag : Nat)
deriving DecidableEq, Repr, Inhabited

/-- A laser event not yet in a command: its wall time in 2^-256 tick since start, and the power from it on. -/
structure EdgeEvent where
  wall : Nat
  lit : Lit
deriving DecidableEq, Repr, Inhabited

/-- A RASTER in progress: the lines still to run (R174). `done` counts lines run. -/
structure RasterRun where
  record : QRec
  speed : Nat
  line : Nat
  runs : List (Nat × Nat)
deriving DecidableEq, Repr, Inhabited

/-- The motion or pause a channel is in. `entry` stands for the entry motion of a JUMP (kind 0; 1 with SETTLE), a RASTER (2)
or a MARK (3), or for a brake (4). -/
inductive Act
  | ready
  | jump (settle : Bool)
  | entry (moves : Vector AxisMove 3) (origin : Nat) (point : Pt) (kind : Nat)
  | settle (since run : Nat)
  | reposition
  | chain
  | rasterMove
  | rasterLine
  | markMove
  | markWait (since : Nat)
  | markReady (start : Nat)
  | markTrack
  | dwell (until_ : Nat)
  | throttle (until_ : Nat)
  | stopping
  | hold
deriving DecidableEq, Repr, Inhabited

/-- A fen item claimed by a channel (R182, R183): its records to execute, `refused` from the first with a point outside the field
on (R168), and `home`, the current position of the channel's own stream, which comes back at the item's end (R124, R156). -/
structure Claimed where
  fen : Nat
  item : Nat
  recs : List QRec
  refused : List QRec
  home : Option Pt
deriving DecidableEq, Repr, Inhabited

/-- Axis set-points of one scanner (Table 6.1): position, velocity, acceleration, and Hold, by axis. -/
structure SetPoint where
  pos : Vector Int 3
  vel : Vector Int 3
  acc : Vector Int 3
  hold : Vector Bool 3
deriving DecidableEq, Repr, Inhabited

/-- Channel states (Table 6.4). -/
inductive ChanState
  | idle
  | run
  | waitEnd
  | waitMark
  | stopping
  | stopped
deriving DecidableEq, Repr, Inhabited

/-- The laser command of one tick (Table 6.2). -/
structure LaserCommand where
  start : Nat
  events : List LaserEvent
deriving DecidableEq, Repr, Inhabited

/-- Gate sources of a channel other than the host's and LPERMIT_N's (Table 6.7). -/
structure Gates where
  feedback : Bool
  overrun : Bool
  stop : Bool
  node : Bool
  job : Bool
deriving DecidableEq, Repr, Inhabited

/-- Counts of a channel (Tables 6.7, 6.8). -/
structure ChanCounts where
  completed : Nat
  markWait : Nat
  claimed : Nat
  lost : Nat
  abandoned : Nat
  throttleDwells : Nat
  rasterReductions : Nat
  speedLimited : Nat
  suppressed : Nat
  merged : Nat
deriving DecidableEq, Repr, Inhabited

/-- Exposure channel n (chapter 6). `queue` is Qn and `ahead` the look-ahead buffer; `segs` the planned path and `past`
the segments the laser still meets; `cur` the current position (R124) with its focus; `rest` where the scanner rests in
bed coordinates; `placed` that the scanner has been moved to the start of the chain that comes next (R156); `mapWords` the code words of a RASTER's map that still stand at the front of Qn (R166). -/
structure Chan where
  state : ChanState
  stopCause : Nat
  stopLayer : Nat
  gates : Gates
  queue : List QRec
  ahead : List QRec
  act : Act
  segs : List Seg
  past : List Seg
  chainOpen : Bool
  active : Option QRec
  raster : Option RasterRun
  item : Option Claimed
  cur : Option Pt
  rest : Option Pt
  focus : Int
  atEnd : Bool
  backlog : Nat
  rejoin : Bool
  underrunPosted : Bool
  rasterPosted : Bool
  spNow : SetPoint
  spNext : SetPoint
  cmdNow : LaserCommand
  cmdNext : LaserCommand
  lit : Lit
  pathLit : Bool
  onWall : Nat
  lastWall : Nat
  edges : List EdgeEvent
  counts : ChanCounts
  blocked : Bool
  placed : Bool
  mapWords : List (Nat × Nat)
deriving DecidableEq, Repr, Inhabited

end Sys2Proof.Machine
end

