-- ==== Sys2Proof/Machine/BlocksAxis.lean ====
section
/-! DEFINITION. State of a servo axis and of its position feedback (chapters 7 and 8). -/

namespace Sys2Proof.Machine

/-- Loop states (Table 7.1). -/
inductive Loop
  | opened
  | capture
  | closed
  | ramp
deriving DecidableEq, Repr, Inhabited

/-- Delay line of a notch filter (R202). -/
structure NotchState where
  x1 : Int
  x2 : Int
  y1 : Int
  y2 : Int
deriving DecidableEq, Repr, Inhabited

/-- State of the control law (R199). -/
structure LawState where
  eqPrev : Int
  df : Int
  integ : Int
  satDir : Int
  notch1 : NotchState
  notch2 : NotchState
deriving DecidableEq, Repr, Inhabited

/-- A capture profile (R210): one rest-to-rest move in sensor counts from the tick `origin`. -/
structure Capture where
  move : AxisMove
  origin : Nat
deriving DecidableEq, Repr, Inhabited

/-- Position feedback of an axis (chapter 8). `received` says that the word of the tick has been checked. -/
structure Feedback where
  word : SensorWord
  valid : Bool
  received : Bool
  lastReason : Nat
  position : Nat
  sine : Int
  cosine : Int
  counter : Nat
  status : Nat
  fails : Vector Nat 7
  repeats : Nat
  skips : Nat
  validWords : Nat
  everValid : Bool
  low : Nat
  high : Nat
  ref : Option SensorWord
  repeatRun : Nat
  runReason : Nat
deriving DecidableEq, Repr, Inhabited

/-- Servo axis a (chapter 7). `u` is the command computed last and `uNow` the one that applies in the tick; `fault` a FAULT
verdict not yet read by the scan engine (R195); `trustedOnce` that the axis has been trusted since reset or since it was enabled (R215); `bank` the bank number and coefficients the law last ran with (R203);
`overrun` an overrun of the servo engine in the tick before, whose ramp enters in the next P2 (R213). -/
structure Axis where
  loop : Loop
  trusted : Bool
  trustedOnce : Bool
  trustRun : Nat
  latched : Nat
  sensorFaulted : Bool
  fault : Bool
  law : LawState
  fresh : Bool
  bank : List Int
  e : Int
  y : Int
  r : Int
  u : Int
  uNow : Int
  prevPos : Int
  prevAcc : Int
  prevHold : Bool
  rampFrom : Int
  rampStep : Nat
  rampLen : Nat
  capture : Option Capture
  captured : Bool
  followRun : Nat
  satRun : Nat
  satPosted : Bool
  peak : Nat
  followFaults : Nat
  limitFaults : Nat
  satTicks : Nat
  captures : Nat
  closeIssued : Bool
  overrun : Bool
  fb : Feedback
deriving DecidableEq, Repr, Inhabited

end Sys2Proof.Machine
end

