-- ==== Sys2Proof/Machine/BlocksImage.lean ====
section
/-! DEFINITION. State of the camera ports, the image contexts and the image pipeline (chapter 9). -/

namespace Sys2Proof.Machine

/-- A line, or the rest of one, in a port's line buffer (R247): its virtual channel, the frame it belongs to, its number and
its raw codes; `done` pixels have been processed. -/
structure CamLine where
  vc : Nat
  serial : Nat
  number : Nat
  codes : List Nat
  done : Nat
deriving DecidableEq, Repr, Inhabited

/-- One stream of a port: the frame being received (R243, R245). -/
structure CamStream where
  isOpen : Bool
  serial : Nat
  index : Nat
  duplicate : Bool
  lines : Nat
  dropping : Bool
  lastIndex : Option Nat
deriving DecidableEq, Repr, Inhabited

/-- What the I²C controller of a port is doing: a host request, or entry `k` of the init script, which a delay entry holds to the
µs `until_` since start (Table 9.4). -/
inductive I2cUse
  | none
  | request (data : Bytes)
  | script (k until_ : Nat)
deriving DecidableEq, Repr, Inhabited

/-- Camera port c (Table 9.9). `pulse` is the frame index of the last pulse and its rising edge and fall in 1/1024 tick, the fall 0 until
the tick in which it rises; `rises` the rising edges of the last 32 frames;
`manual` and `layerDue` are reasons to fire at the next frame boundary at or after a tick count. -/
structure CamPort where
  link : Nat
  use : I2cUse
  status : Nat
  response : Bytes
  ecc : Nat
  headers : Nat
  crc : Nat
  linkErrors : Nat
  overflows : Nat
  ignored : Nat
  high : Nat
  lines : List CamLine
  streams : Vector CamStream 4
  pulse : Option (Nat × Nat × Nat)
  earlier : Option (Nat × Nat × Nat)
  rises : List Nat
  manual : Option Nat
  layerDue : Option Nat
deriving DecidableEq, Repr, Inhabited

/-- The settings a frame runs with from its Frame Start to its end (R242). -/
structure FrameCfg where
  depth : Nat
  width : Nat
  height : Nat
  x0 : Nat
  y0 : Nat
  w : Nat
  h : Nat
  channel : Nat
  black : Nat
  defect : Nat
  defects : Bytes
  shading : Bool
  grid : Bytes
  stats : Nat
  threshold : Nat
  gx : Nat
  gy : Nat
  gw : Nat
  gh : Nat
  ox : Int
  oy : Int
  outMode : Nat
  decimation : Nat
  outDepth : Nat
deriving DecidableEq, Repr, Inhabited

/-- A frame of one context from its Frame Start until its last line is processed: `lines` are the corrected window lines so
far, `ended` that its closing condition has come. `start` is its pulse's boundary, or its Frame Start, in ticks. -/
structure FrameAcc where
  serial : Nat
  index : Nat
  flags : Nat
  start : Nat
  cfg : FrameCfg
  lines : List (List Nat)
  saturated : Bool
  ended : Bool
deriving DecidableEq, Repr, Inhabited

/-- A layer image on its way through Q44 (R256). -/
structure LayerImage where
  index : Nat
  geometry : Nat
  data : Bytes
deriving DecidableEq, Repr, Inhabited

/-- Image context i (Table 9.10). `expected` lists the pulses whose frame has not begun (R244); `ready` the complete feature
sets not yet at their delivery point, with the channel their frames started with; `late` the frames whose delivery point has passed (R255). -/
structure ImageCtx where
  frames : List FrameAcc
  expected : List Nat
  ready : List (Nat × FeatureSet)
  late : List Nat
  armed : Bool
  images : List LayerImage
  received : Nat
  valid : Nat
  truncated : Nat
  overflowed : Nat
  long : Nat
  bad : Nat
  duplicates : Nat
  missing : Nat
  lateSets : Nat
  lastIndex : Nat
  lastFlags : Nat
  lastRecord : Bytes
  histogram : List Nat
  zones : List Nat
  statsIndex : Nat
  image : Bytes
  imageIndex : Nat
  geometry : Nat
deriving DecidableEq, Repr, Inhabited

/-- Cameras and pipeline: `turn` is the port whose turn comes next (R247); `posted` the last posts by `code * 256 + instance`,
in ticks since start, for the limit of R257. -/
structure CamState where
  ports : Vector CamPort 20
  ctxs : Vector ImageCtx 128
  turn : Nat
  posted : List (Nat × Nat)
deriving DecidableEq, Repr, Inhabited

end Sys2Proof.Machine
end

