-- ==== Sys2Proof/Config.lean ====
section
/-! DEFINITION. What one implementation fixes and the spec leaves open: free values and fused identity. No constant of
this file has a body, so no proof can see a value of it. -/

namespace Sys2Proof

/-- A free natural number, one per use: the argument is the counter `State.freeCtr` (DESIGN CHOICE, assumption 2). -/
opaque Config.freeNat : Nat → Nat

/-- A free integer, one per use: the argument is the counter `State.freeCtr` (DESIGN CHOICE, assumption 2). -/
opaque Config.freeInt : Nat → Int

/-- The quotient of `n / d` by 0 in binary64, as a numerator and a denominator less 1 (DESIGN CHOICE, assumption 2). -/
opaque Config.zeroQuotient (n : Int) (d : Nat) : Int × Nat

/-- The PLL tuning, in parts per 10^9, that matches the grandmaster's frequency at a use: the argument is the counter `State.freeCtr`
(R53; DESIGN CHOICE, assumption 2). -/
opaque Config.gmTuning : Nat → Int

/-- The event code of an event whose chapter gives it a severity and no code, by the number this model gives the event: 0 to 4
the state changes of Table 2.3 in its order, 5 a step (R54), 8 an overrun of a ZL port and 9 of the statistics snapshot (Table 2.4), 10 a
lease that expires (R92), 11 a host link that goes down or a last address that leaves use (R93), 12 an internal error (R87)
(DESIGN CHOICE, assumption 4). -/
opaque Config.openCode : Nat → Nat

/-- The values of 0x4200 sub 0x10 that Table 16.2 does not give: of DONE for 0 and of ERROR for 1 (DESIGN CHOICE, assumption 2). -/
opaque Config.rleState : Nat → Nat

/-- The boundary cell of a pin, by its group and number: the order of the cells is the BSDL description's (R526; DESIGN CHOICE, assumption 2). -/
opaque Config.scanCell : Nat → Nat → Nat

/-- 0x1000 sub 0x03: the silicon stepping, an ASCII capital letter (Table 3.6; R2). -/
opaque Config.stepping : Nat

/-- 0x1000 sub 0x04: the ROM firmware version (Table 3.6; R2). -/
opaque Config.romVersion : Nat

/-- 0x1000 sub 0x05: the dictionary version (Table 3.6). -/
opaque Config.dictVersion : Nat

/-- 0x1000 sub 0x06: the fused serial number (Table 3.6). -/
opaque Config.serial : Bytes

/-- 0x1000 sub 0x07: the date code (Table 3.6). -/
opaque Config.dateCode : Nat

/-- 0x1000 sub 0x08: the lot code (Table 3.6). -/
opaque Config.lotCode : Bytes

/-- The fused P-256 public key, if one is fused (Table 3.6 sub 0x09, R477). -/
opaque Config.signingKey : Option (Nat × Nat)

/-- 0x1100+p sub 0x02: the fused MAC address of Ethernet port p, 48 bits (R90). -/
opaque Config.mac : Nat → Nat

end Sys2Proof
end

