-- ==== Sys2Proof/Machine/F64.lean ====
section
/-! DEFINITION. IEEE 754 binary64 and binary32 arithmetic on finite values, for the computations the spec carries out in
binary64 (R202, R286, R423, R424): a value is `m × 2 ^ e`, rounded to nearest, ties to even (DESIGN CHOICE, assumption 13). -/

namespace Sys2Proof.Machine

/-- A finite binary64 value `m × 2 ^ e`. -/
structure F64 where
  m : Int
  e : Int
deriving DecidableEq, Repr, Inhabited

/-- `n / d` rounded to the nearest integer, ties to even; `d` positive. DESIGN CHOICE: assumption 13. -/
def rndEven (n d : Nat) : Nat :=
  let q := n / d
  let r := n % d
  if 2 * r < d then q else if d < 2 * r then q + 1 else if q % 2 = 0 then q else q + 1

/-- A quotient of naturals scaled by a power of two: `n × 2 ^ k` over `d × 2 ^ (-k)` for a signed `k`. -/
def scaled (n d : Nat) (k : Int) : Nat × Nat :=
  if 0 ≤ k then (n * 2 ^ k.toNat, d) else (n, d * 2 ^ (-k).toNat)

/-- The exponent that leaves `p` significant bits of `n / d`, at least `emin`. -/
def expFor (p : Nat) (emin : Int) (n d : Nat) : Int :=
  let k : Int := (n.log2 : Int) - (d.log2 : Int) - p
  let r := scaled n d (-k)
  let k' := if r.1 < r.2 * 2 ^ p then (if r.1 < r.2 * 2 ^ (p - 1) then k - 1 else k) else k + 1
  if k' < emin then emin else k'

/-- A magnitude `n / d` brought to `p` significant bits by the rounding `rnd`. -/
def rndMag (rnd : Nat → Nat → Nat) (p : Nat) (emin : Int) (n d : Nat) : Nat × Int :=
  if n = 0 then (0, 0)
  else
    let e := expFor p emin n d
    let r := scaled n d (-e)
    (rnd r.1 r.2, e)

/-- `n / d` rounded to the nearest natural, ties away from zero (R11). -/
def rndAway (n d : Nat) : Nat := (2 * n + d) / (2 * d)

/-- The binary64 value nearest to `n / d`. DESIGN CHOICE: assumption 13. -/
def f64Of (n : Int) (d : Nat) : F64 :=
  let r := rndMag rndEven 53 (-1074) n.natAbs d
  { m := if n < 0 then -(r.1 : Int) else (r.1 : Int), e := r.2 }

/-- The exact value as a fraction. -/
def f64Frac (x : F64) : Int × Nat :=
  if 0 ≤ x.e then (x.m * (2 ^ x.e.toNat : Nat), 1) else (x.m, 2 ^ (-x.e).toNat)

/-- An integer as binary64. -/
def f64I (n : Int) : F64 := f64Of n 1

/-- Sum. DESIGN CHOICE: assumption 13. -/
def f64Add (x y : F64) : F64 :=
  let a := f64Frac x
  let b := f64Frac y
  f64Of (a.1 * b.2 + b.1 * a.2) (a.2 * b.2)

/-- Difference. -/
def f64Sub (x y : F64) : F64 := f64Add x { m := -y.m, e := y.e }

/-- Product. DESIGN CHOICE: assumption 13. -/
def f64Mul (x y : F64) : F64 :=
  let a := f64Frac x
  let b := f64Frac y
  f64Of (a.1 * b.1) (a.2 * b.2)

/-- Quotient. DESIGN CHOICE: assumption 13. A division by 0, whose result the spec does not state, gives a free value (DESIGN CHOICE,
DESIGN CHOICE, assumption 2). -/
def f64Div (x y : F64) : F64 :=
  let a := f64Frac x
  let b := f64Frac y
  if b.1 = 0 then f64Of (Config.zeroQuotient a.1 a.2).1 ((Config.zeroQuotient a.1 a.2).2 + 1)
  else f64Of (if b.1 < 0 then -(a.1 * b.2) else a.1 * b.2) (a.2 * b.1.natAbs)

/-- Order. -/
def f64Le (x y : F64) : Bool :=
  let a := f64Frac x
  let b := f64Frac y
  decide (a.1 * b.2 ≤ b.1 * a.2)

/-- Strict order. -/
def f64Lt (x y : F64) : Bool := !f64Le y x

/-- Absolute value. -/
def f64Abs (x : F64) : F64 := { m := (x.m.natAbs : Int), e := x.e }

/-- Square root of a nonnegative value. DESIGN CHOICE: assumption 13. -/
def f64Sqrt (x : F64) : F64 :=
  let a := f64Frac x
  f64Of (isqrt (a.1.toNat * 2 ^ 300 / a.2) : Nat) (2 ^ 150)

/-- The value rounded to an integer, ties away from zero (R11). -/
def f64Round (x : F64) : Int :=
  let a := f64Frac x
  rndDiv a.1 a.2

/-- The value of an F32 bit pattern. -/
def ofF32 (b : Nat) : F64 :=
  let ex : Nat := (b / 2 ^ 23) % 256
  let fr : Nat := b % 2 ^ 23
  let sg : Int := if b.testBit 31 then -1 else 1
  if ex = 0 then { m := sg * fr, e := -149 } else { m := sg * ((fr + 2 ^ 23 : Nat) : Int), e := (ex : Int) - 150 }

/-- The F32 bit pattern nearest to the value, ties away from zero (R11); a value beyond the range becomes the largest finite one. -/
def toF32 (x : F64) : Nat :=
  let a := f64Frac x
  let r := rndMag rndAway 24 (-149) a.1.natAbs a.2
  let (m, e) := if r.1 = 2 ^ 24 then (2 ^ 23, r.2 + 1) else r
  let sg : Nat := if a.1 < 0 then 2 ^ 31 else 0
  if m = 0 then 0
  else if m < 2 ^ 23 then sg + m
  else if 104 < e then sg + 0x7F7FFFFF
  else sg + (e + 150).toNat * 2 ^ 23 + (m - 2 ^ 23)

/-- π in units of 2^-200. -/
def piFx : Nat := 5048344754617993871973410141242436836214643421488662971535368

/-- `k` terms of the series of sine or cosine in 2^-200 (compare `trigSeries`). -/
def fxSeries : Nat → Nat → Int → Int → Int
  | 0, _, _, _ => 0
  | k + 1, m, x2, t => t + fxSeries k (m + 2) x2 (-(Int.fdiv (Int.fdiv (t * x2) (2 ^ 200 : Nat)) (m * (m + 1) : Nat)))

/-- The tangent of a value between 0 and a quarter turn, rounded to binary64. DESIGN CHOICE: assumption 13. -/
def f64Tan (x : F64) : F64 :=
  let a := f64Frac x
  let y : Int := Int.fdiv (a.1 * (2 ^ 200 : Nat)) a.2
  let y2 := Int.fdiv (y * y) (2 ^ 200 : Nat)
  let c := fxSeries 60 1 y2 (2 ^ 200 : Nat)
  let s := fxSeries 60 2 y2 y
  if c ≤ 0 then { m := 0, e := 0 } else f64Of s c.toNat

/-- π as binary64. -/
def f64Pi : F64 := f64Of (piFx : Nat) (2 ^ 200)

/-- `k` terms of 2 artanh(z) = 2 (z + z³/3 + …) in 2^-200. -/
def artanhSeries : Nat → Nat → Int → Int → Int
  | 0, _, _, _ => 0
  | k + 1, m, z2, t => Int.fdiv t m + artanhSeries k (m + 2) z2 (Int.fdiv (t * z2) (2 ^ 200 : Nat))

/-- Natural logarithm of `n / d` between 1/2 and 2, in 2^-200. -/
def lnNear (n d : Nat) : Int :=
  let z : Int := Int.fdiv (((n : Int) - d) * (2 ^ 200 : Nat)) ((n + d : Nat) : Int)
  2 * artanhSeries 140 1 (Int.fdiv (z * z) (2 ^ 200 : Nat)) z

/-- ln 2 in 2^-200. -/
def ln2Fx : Int := lnNear 2 1

/-- Natural logarithm of a positive fraction in 2^-200. -/
def lnFx (n d : Nat) : Int :=
  let k : Int := (n.log2 : Int) - d.log2
  let r := scaled n d (-k)
  k * ln2Fx + lnNear r.1 r.2

/-- Natural logarithm of a positive value, rounded to binary64. DESIGN CHOICE: assumption 13. -/
def f64Ln (x : F64) : F64 :=
  let a := f64Frac x
  f64Of (lnFx a.1.toNat a.2) (2 ^ 200)

/-- `k` terms of the exponential series in 2^-200. -/
def expSeries : Nat → Nat → Int → Int → Int
  | 0, _, _, _ => 0
  | k + 1, m, x, t => t + expSeries k (m + 1) x (Int.fdiv (Int.fdiv (t * x) (2 ^ 200 : Nat)) (m : Nat))

end Sys2Proof.Machine
end

