-- ==== Sys2Proof/Machine/BlocksMelt.lean ====
section
/-! DEFINITION. State of melt-pool power control, exposure records, heat history and the quality map (chapter 10), and of the
fens and their registration (chapter 11). -/

namespace Sys2Proof.Machine

/-- What a channel keeps of the laser command of one tick (R264, R265): whether it is lit, its open-loop power, and whether
its g came from the law, and whether lim ≠ 0 for that g. -/
structure LitTick where
  lit : Bool
  pol : Nat
  law : Bool
  lim : Bool
deriving DecidableEq, Repr, Inhabited

/-- The sample point of a tick (R262): bed point in counts, speed in mm/s, tag and what owns it; `open_` that g is fixed. -/
structure SamplePt where
  x : Int
  y : Int
  speed : Nat
  tag : Nat
  open_ : Bool
  fen : Bool
  mark : Bool
deriving DecidableEq, Repr, Inhabited

/-- The delivery point of a tick (R255): the context, frame and latency, and the feature set if it was complete. -/
structure Delivery where
  ctx : Nat
  frame : Nat
  latency : Nat
  set : Option FeatureSet
deriving DecidableEq, Repr, Inhabited

/-- Power control of channel n (R263–R268, Table 10.6). `gNow`, `fvNow` and `fhNow` are g and the factors of the tick, `gNext`, `fv` and
`fh` those of the coming tick; `hist` the last 9 ticks, the present one first; `point` the sample point of the tick; `delivery` the
delivery point of the tick, if one falls in it (R255). -/
structure Melt where
  c : Int
  lim : Int
  p1 : Int
  gNow : Nat
  gNext : Nat
  fv : Int
  fh : Int
  fvNow : Int
  fhNow : Int
  hist : List LitTick
  point : SamplePt
  target : Nat
  lost : Bool
  lowRun : Nat
  absentRun : Nat
  limitRun : Nat
  atLimit : Nat
  pdUpdates : Nat
  camUpdates : Nat
  rejected : Nat
  saturated : Nat
  limitPosted : Bool
  lostPosted : Bool
  saturatedPosted : Bool
  starvedPosted : Bool
  delivery : Option Delivery
deriving DecidableEq, Repr, Inhabited

/-- An exposure record (Table 10.3) with what CC3 needs of the update it reports: the photodiode and camera ratios of the
increments used, the frame they came from, whether that frame's set failed R266 while lit, and whether it failed by its absence. -/
structure ExpRec where
  channel : Nat
  flags : Nat
  tick : Nat
  x : Int
  y : Int
  startPower : Nat
  meanPower : Nat
  factor : Nat
  pd : Nat
  tag : Nat
  speed : Nat
  pdRatio : Option Nat
  frame : Nat
  camRatio : Option Nat
  camFailed : Bool
  camAbsent : Bool
  lost : Bool
deriving DecidableEq, Repr, Inhabited

/-- An entry of Q40–Q43 (R254, R270). -/
inductive MeltRec
  | feature (context channel : Nat) (set : FeatureSet)
  | exposure (r : ExpRec)
deriving DecidableEq, Repr, Inhabited

/-- The heat grid (R272): densities that are not 0, by rising cell number; `ref` is the reference the deviations were formed
with (none until the first update after a job start), `layer` the last layer included. -/
structure HeatGrid where
  cells : List (Nat × Nat)
  ref : Option Nat
  layer : Option Nat
deriving DecidableEq, Repr, Inhabited

/-- Sums of one cell of the quality map (Table 10.4). -/
structure MapCell where
  exposures : Nat
  energy : Nat
  pdSum : Nat
  pdCount : Nat
  gSum : Nat
  gCount : Nat
  camSum : Nat
  camCount : Nat
  elSum : Nat
  elCount : Nat
  spatter : Nat
  flags : Nat
  channels : Nat
  lastChannel : Nat
deriving DecidableEq, Repr, Inhabited

/-- A quality map being gathered (R274–R277): ticks from `boundary` up to but not `until_`; `where_` holds the cell of each
record by tick and channel, and `absent` those of lit ticks whose frame was absent at its delivery point. `completion` is the completion tick, and `closeAt` the tick since start whose records close the map. -/
structure MapAcc where
  layer : Nat
  job : Nat
  boundary : Nat
  until_ : Option Nat
  completion : Option Nat
  closeAt : Option Nat
  x : Int
  y : Int
  q : Nat
  w : Nat
  h : Nat
  mask : Nat
  heatLag : Bool
  stopped : Bool
  outside : Nat
  cells : List (Nat × MapCell)
  where_ : List (Nat × Nat × Nat)
  absent : List (Nat × Nat)
deriving DecidableEq, Repr, Inhabited

/-- A closed map on its way through the run-length engine (R276, R277): its number, the tick of its close, the blocks not yet in Q46 as
plane and block number, how many have not come back through Q47, and the plane objects so far, each with its block count. -/
structure MapClosing where
  serial : Nat
  since : Nat
  map : MapAcc
  todo : List (Nat × Nat)
  left : Nat
  planes : List (Bytes × Nat)
deriving DecidableEq, Repr, Inhabited

/-- An entry of Q46: the cells of one block of a plane of the map with number `serial` (R413). -/
structure MapCells where
  serial : Nat
  plane : Nat
  cells : List Nat
deriving DecidableEq, Repr, Inhabited

/-- An entry of Q47: the block of an entry of Q46 (R413). -/
structure MapBlock where
  serial : Nat
  plane : Nat
  data : Bytes
deriving DecidableEq, Repr, Inhabited

/-- The map objects held (Table 10.7, R280). -/
structure MapHeld where
  layer : Nat
  job : Nat
  completion : Nat
  planes : List Bytes
  closed : Nat
  outside : Nat
deriving DecidableEq, Repr, Inhabited

/-- A completed layer whose heat grid is not in force (R272): completion in ticks since start, decay and reference in force
then, E_L, and the grid once CC3 has computed it. -/
structure HeatDue where
  c : Nat
  layer : Nat
  decay : Nat
  ref : Nat
  energy : List (Nat × Nat)
  grid : Option HeatGrid
deriving DecidableEq, Repr, Inhabited

/-- Melt-pool control of the device (chapter 10). `energy` gathers E_L of the layer in progress; `heatDue` holds the completed
layers whose grid is not in force, and `closing` the closed maps, both oldest first. -/
structure MeltState where
  chans : Vector Melt 32
  queues : Vector (List MeltRec) 4
  heat : HeatGrid
  energy : List (Nat × Nat)
  heatDue : List HeatDue
  heatLags : Nat
  maps : List MapAcc
  closing : List MapClosing
  q46 : List MapCells
  q47 : List MapBlock
  held : MapHeld
deriving DecidableEq, Repr, Inhabited

/-- One side of an observation: not yet known, invalid, or a feature set. -/
inductive Side
  | waiting
  | invalid
  | seen (f : FeatureSet)
deriving DecidableEq, Repr, Inhabited

/-- A mark tick (R282) whose observation record is not yet posted. -/
structure MarkTick where
  fen : Nat
  mark : Nat
  frame : Nat
  x : Int
  y : Int
  ordinal : Nat
  exposerB : Bool
  exposer : Nat
  observer : Nat
  expSide : Side
  obsSide : Side
deriving DecidableEq, Repr, Inhabited

/-- An observation record (Table 11.1). -/
structure Observation where
  fen : Nat
  mark : Nat
  frame : Nat
  x : Int
  y : Int
  expX : Int
  expY : Int
  obsX : Int
  obsY : Int
  flags : Nat
  exposer : Nat
  observer : Nat
deriving DecidableEq, Repr, Inhabited

/-- Status objects of a fen (Table 11.5 subs 0x10–0x1F); F32 values as bit patterns. -/
structure FenStatus where
  layer : Nat
  chanA : Nat
  chanB : Nat
  used : Nat
  rejected : Nat
  tx : Nat
  ty : Nat
  rotation : Nat
  scale : Nat
  cx : Int
  cy : Int
  rms : Nat
  rmax : Nat
  status : Nat
  update : Nat
  solves : Nat
  fewPosted : Bool
deriving DecidableEq, Repr, Inhabited

/-- Correction state of a scanner (Table 11.6 subs 0x10–0x14). `staged` is the layer of an update committed and not in
force, with its largest shift. -/
structure GridStatus where
  generation : Nat
  layer : Nat
  applied : Nat
  unstaged : Nat
  shift : Nat
  staged : Option (Nat × Nat)
deriving DecidableEq, Repr, Inhabited

/-- Outcome of a solve, held until its update decision (R287): status, used, rejected, and t, s, θ, p̄, rms, rmax in that
order (t and p̄ by X and Y), in µm. -/
structure Solved where
  fen : Nat
  status : Nat
  used : Nat
  rejected : Nat
  values : List F64
deriving DecidableEq, Repr, Inhabited

/-- Settings of a fen as its solve and its contribution use them (Table 11.5). -/
structure FenCfg where
  fen : Nat
  chanA : Nat
  chanB : Nat
  mode : Nat
  xMin : Int
  xMax : Int
  yMin : Int
  yMax : Int
  taper : Nat
  nMin : Nat
  spread : Nat
  residual : Nat
  outlier : Nat
  maxStep : Nat
  gain : Nat
deriving DecidableEq, Repr, Inhabited

/-- A completed layer between its completion and its commit (R286, R290): completion in ticks since start; completion and
boundary by tick count; the fens of the layer; the camera matrices and the grid generations of the scanners during the layer;
what is solved; whether the results are written; and the scanners found not to be updated, each with its update status. -/
structure LayerSolve where
  c : Nat
  count : Nat
  boundary : Nat
  layer : Nat
  fens : List FenCfg
  mats : List (Int × Int × Int × Int)
  gens : List Nat
  solved : List Solved
  decided : Bool
  refused : List (Nat × Nat)
deriving DecidableEq, Repr, Inhabited

/-- The MARK track that a channel exposes (R282): fen, mark number, observing channel, whether the exposer is channel b, and the
mark ticks so far. -/
structure Track where
  fen : Nat
  mark : Nat
  observer : Nat
  exposerB : Bool
  ordinal : Nat
deriving DecidableEq, Repr, Inhabited

/-- Registration (chapter 11): mark ticks waiting for their sides, Q45, the observations CC3 has read, and the completed
layers that wait for their commit. `tracks` holds the last MARK track of each exposing channel. -/
structure FenState where
  waiting : List MarkTick
  q45 : List Observation
  read : List Observation
  layers : List LayerSolve
  status : Vector FenStatus 256
  scanners : Vector GridStatus 32
  tracks : Vector (Option Track) 32
deriving DecidableEq, Repr, Inhabited

end Sys2Proof.Machine
end

