-- ==== Sys2Proof/Machine/BlocksZl.lean ====
section
/-! DEFINITION. State of the Zhomon Link ports, of the field nodes at their far ends (chapter 12), and of the pair
(chapter 13). -/

namespace Sys2Proof.Machine

/-- Port states (Table 12.12). -/
inductive PortState
  | disabled
  | train
  | enum
  | up
  | down
  | mismatch
deriving DecidableEq, Repr, Inhabited

/-- What the bring-up of R320, or a host request (R332), waits for; `acknowledged` is the tick boundary after the last
acknowledgement. -/
inductive ServiceStep
  | none
  | enumerate
  | echo (k : Nat) (sum : Int)
  | config (item : Nat)
  | acknowledged
  | request
deriving DecidableEq, Repr, Inhabited

/-- A service frame without an answer yet (R316): the sequences it was sent with, newest first, the tick it was last sent in, how often it
was sent, and whether it is to be sent again in the next slot 2. -/
structure ServiceReq where
  sequences : List Nat
  sentTick : Nat
  sends : Nat
  due : Bool
deriving DecidableEq, Repr, Inhabited

/-- What ENUMERATE told of the node (Table 12.15 subs 0x11–0x18). -/
structure NodeInfo where
  kind : Nat
  vendor : Nat
  model : Nat
  firmware : Nat
  serial : Nat
  rating : Nat
  links : Nat
  delay : Nat
deriving DecidableEq, Repr, Inhabited

/-- Counts of a port (Table 12.15 subs 0x20–0x27). -/
structure PortCounts where
  sent : Nat
  valid : Nat
  crc : Nat
  code : Nat
  other : Nat
  missing : Nat
  stalls : Nat
  downs : Nat
deriving DecidableEq, Repr, Inhabited

/-- Port p (R318, Table 12.15). `since` is the tick of entry into the state; `sentMod` and `freedMod` are the frames sent and
the latest count freed by the node, `freed` the frames freed by the device, modulo 256 (R307); `slot0` the sequence of the tick's request while it is unanswered,
`answered` that its response is at hand, and `missRun` the consecutive ticks without one. `stalled` has bit k set while the slot k
frame of the tick holds no credit (R308). `posted` holds the ticks of the last posts by code (R331); `late` says that
the port has overrun P3 of the tick, so that no later frame leaves in it (Table 2.4). -/
structure ZlPort where
  st : PortState
  since : Nat
  step : ServiceStep
  svc : Option ServiceReq
  info : NodeInfo
  echoUnit : Nat
  echoClaim : Nat
  temperature : Int
  missedCount : Nat
  missedKnown : Bool
  missedPosted : Bool
  counts : PortCounts
  reqStatus : Nat
  reqData : Bytes
  response : Bytes
  sentMod : Nat
  freedMod : Nat
  freed : Nat
  slot0 : Option Nat
  answered : Bool
  missRun : Nat
  stalled : Nat
  posted : List (Nat × Nat)
  late : Bool
  frame0 : Bytes
  frame1 : Bytes
deriving DecidableEq, Repr, Inhabited

/-- What the node of channel n reports (Tables 12.16, 12.8): `status` the status byte of the tick, `amp` the amplifier
status, each none when not received; `clean` the consecutive ticks of R329; `stopDue` that the node gate was set in this tick for the
path stop of Table 6.5. -/
structure LaserNode where
  power : Nat
  backReflection : Nat
  last : Nat
  reason : Nat
  alarms : Nat
  status : Option Nat
  amp : Option Nat
  clean : Nat
  stopDue : Bool
deriving DecidableEq, Repr, Inhabited

/-- One link of a field node (R319, R323, R324): `live` holds while a TICK or frame came within 20 µs and Run is 1; `ts1` is 8 once
8 consecutive TS1 have come, and `count` the count of the last valid TICK. -/
structure NodeLink where
  trained : Bool
  ts1 : Nat
  address : Nat
  run : Bool
  live : Bool
  claim : Nat
  delay : Nat
  count : Option Nat
deriving DecidableEq, Repr, Inhabited

/-- A held copy of a tick frame (R325). -/
structure HeldFrame where
  link : Nat
  frame : DeviceFrame
deriving DecidableEq, Repr, Inhabited

/-- A command accepted by a node for a target tick (R310). -/
inductive NodeCommand
  | laser (target : Nat) (cmd : LaserCommand)
  | currents (target : Nat) (values : Vector Int 3) (mask : Nat)
deriving DecidableEq, Repr, Inhabited

/-- The field node at port p: laser node for p below 32, scanner node otherwise. `reference` is its tick reference and
`tickCount` the count of its last valid TICK; `accepted` the last accepted sequence; `cmds` commands accepted and not yet
applied; `power` the laser command and `currents` the references in force; `gateUpTo` the last target tick whose laser command a GATE discards (R322); `ramp` the step of a ramp to 0 from `rampFrom`. -/
structure FieldNode where
  links : Vector NodeLink 2
  authority : Option (Fin 2)
  reference : Nat
  tickCount : Option Nat
  accepted : Option Nat
  held : Vector (Option HeldFrame) 2
  cmds : List NodeCommand
  power : LaserCommand
  currents : Vector Int 3
  rampFrom : Vector Int 3
  twoLinks : Bool
  missRun : Nat
  missed : Nat
  duplicates : Nat
  commandMissed : Bool
  gateSeen : Bool
  gateUpTo : Option Nat
  ramp : Option Nat
  faultRamp : Nat
  axisMask : Nat
deriving DecidableEq, Repr, Inhabited

/-- Pair states (Table 13.1). -/
inductive PairSt
  | single
  | discover
  | sync
  | active
  | standby
  | alone
  | detached
deriving DecidableEq, Repr, Inhabited

/-- A write group forwarded to the standby and not yet acknowledged (R345), with the GDP response it holds back
and the tick in which WRITE last left. -/
structure Forwarded where
  sequence : Nat
  due : Nat
  sent : Nat
  body : Bytes
  response : Option GdpResponse
deriving DecidableEq, Repr, Inhabited

/-- One bit of the health word (R359): its condition, the tick until which it stays 1 after that, the bit as the tick before left it, and
whether its event has been posted in the job. -/
structure HealthBit where
  active : Bool
  until_ : Nat
  shown : Bool
  posted : Bool
deriving DecidableEq, Repr, Inhabited

/-- The pair as this unit sees it (chapter 13). `lineLow` is PEER_AUTH_N, `drives` that this unit drives it, and `acquire` that
it has decided to acquire it (R352). `wisp` is the last valid wisp, `wispTick` its tick; `measure` and `mirror` are the inputs of
R342 for the tick. `next` is the state, with the cause of its role change, that the coming boundary brings (R335); `chosen` says
in SYNC whether this unit will be the active one (R341 step 2) and `stepped` that its local time has been stepped (step 3); `missTick` is
the last tick whose wisp has been counted as missing; `groupDues` are the boundaries of the write groups of the lockstep that are not yet
in force. -/
structure PairState where
  st : PairSt
  since : Nat
  unitId : Nat
  linkUp : Bool
  downRun : Nat
  wisp : Option WispMsg
  wispTick : Nat
  missRun : Nat
  missTick : Nat
  next : Option (PairSt × Nat)
  chosen : Bool
  stepped : Bool
  groupDues : List Nat
  lineLow : Bool
  drives : Bool
  acquire : Bool
  delay : Nat
  hellos : Nat
  roundTrips : Nat
  passed : Bool
  digest : Nat
  groups : Nat
  forwarded : List Forwarded
  sequences : Vector Nat 9
  lanternSequence : Nat
  lanternDue : Nat
  lantern : Bytes
  missed : Nat
  mismatches : Nat
  handOvers : Nat
  roleTick : Nat
  roleCause : Nat
  laneErrors : Nat
  lockstep : Nat
deriving DecidableEq, Repr, Inhabited

/-- The rest of the pair's state: supervision runs, messages of the tick and what SYNC has brought. `handOver` is the boundary h
of R353 with its cause. -/
structure PairWork where
  localFault : Bool
  handOver : Option (Nat × Nat)
  health : Vector HealthBit 9
  unhealthyRun : Nat
  healthySince : Option Nat
  homeRun : Nat
  peerRuns : Vector Nat 64
  echoPosted : Vector (Option Nat) 64
  measure : Option MeasureMsg
  mirror : List MirrorEntry
  imageValues : List ObjVal
  imagePending : List ObjVal
  imagePackages : List Bytes
  stateSeen : Bool
  stream : Bytes
  streamOffset : Nat
  decision : Nat
  peerOffset : Int
  corrected : Nat
  uncorrectable : Nat
  laneSince : Nat
  laneRecent : List Nat
  passes : Nat
deriving DecidableEq, Repr, Inhabited

end Sys2Proof.Machine
end

