-- ==== Sys2Proof/Machine/BlocksStep.lean ====
section
/-! DEFINITION. State of the stepper axes (chapter 14). -/

namespace Sys2Proof.Machine

/-- Axis states (Table 14.4). -/
inductive StepState
  | idle
  | moving
  | dwell
  | halting
  | homing
  | stopped
deriving DecidableEq, Repr, Inhabited

/-- One phase of a profile (R370): entered at `v0` (2^-256 microstep/s), under the signed rate `a` (microsteps/s²), for `dur`
(2^-256 tick) over `dist` (2^-256 microstep). -/
structure StepPhase where
  v0 : Nat
  a : Int
  dur : Nat
  dist : Nat
deriving DecidableEq, Repr, Inhabited

/-- A profile from position `p0` to `p1` (2^-256 microstep) starting at the time `t0` (2^-256 tick since start). -/
structure StepProfile where
  p0 : Int
  p1 : Int
  t0 : Nat
  phases : List StepPhase
deriving DecidableEq, Repr, Inhabited

/-- The motion an axis is in: profiles one after the other; the back-off or the re-approach of homing from a start position
and tick (R383); or none. -/
inductive StepMotion
  | rest
  | profiles (l : List StepProfile)
  | backOff (p0 : Int) (start : Nat) (b t : Nat)
  | reApproach (p0 : Int) (start : Nat) (vc tr : Nat)
deriving DecidableEq, Repr, Inhabited

/-- A switch input (R376): debounced state, last raw sample, length of the run of samples that differ, and the position
of the first sample of that run. -/
structure Switch where
  state : Bool
  raw : Bool
  run : Nat
  edgePos : Int
deriving DecidableEq, Repr, Inhabited

/-- What one winding does in a tick: duty in clocks, direction, and coast (R366, R381). -/
structure Winding where
  duty : Nat
  reverse : Bool
  coast : Bool
deriving DecidableEq, Repr, Inhabited

/-- The decisions of one tick (R365): stable edges as switch number and new state, and a STALL verdict. -/
structure StepDecision where
  edges : List (Nat × Bool)
  stall : Bool
deriving DecidableEq, Repr, Inhabited

/-- Stepper axis m (Table 14.6). `pos` and `vel` are the sample of the tick and its signed speed, `posNext` and `velNext` those
of the coming tick (2^-16 microstep; 2^-16 microstep/s); `joined` the join speed when the move blends into the next (R371); `cfg`
the profile objects at the start of the move (Vs, A1, V1, A2, Vmax, D2, D1, Vstop). `decision` is that of the tick before,
`stallSeen` the verdict on the measurements of that tick; `cut` says that a halt or stop has removed or ended a move (R380). -/
structure StepAxis where
  st : StepState
  phase : Nat
  queue : List StepMove
  motion : StepMotion
  move : Option StepMove
  joined : Option Nat
  cfg : List Nat
  pos : Int
  vel : Int
  posNext : Int
  velNext : Int
  dwellEnd : Nat
  trusted : Bool
  latched : Nat
  restSince : Nat
  holding : Bool
  released : Bool
  windings : Vector Winding 2
  windingsNext : Vector Winding 2
  switches : Vector Switch 3
  decision : StepDecision
  rawSeen : Option Nat
  angle : Nat
  peak : Nat
  stallRun : Nat
  homeEdge : Int
  moves : Nat
  stalls : Nat
  limitStops : Nat
  chatter : Nat
  stallSeen : Bool
  cut : Bool
deriving DecidableEq, Repr, Inhabited

end Sys2Proof.Machine
end

