-- ==== Sys2Proof/Machine/BlocksPower.lean ====
section
/-! DEFINITION. State of the LED strings, the run-length engine, the temperature front end, the power manager, the analog front
end, the memories and the flash (chapters 15 to 19). -/

namespace Sys2Proof.Machine

/-- String states (Table 15.2). -/
inductive LedState
  | off
  | on
  | locating
  | fault
deriving DecidableEq, Repr, Inhabited

/-- LED string l (Table 15.4). `changes` are the pattern changes of the frame fixed last, as offset in 1/1024 tick and pattern;
`candidates` the lamps still to test in LOCATING (none once the open lamp is located), `test` the lamp under test or probe in that
frame with its offset; `probed` the start of the 100,000 ticks in which each lamp next receives its probe. -/
structure LedString where
  st : LedState
  failed : Nat
  shorted : Nat
  level : Nat
  lampTime : Nat
  deficit : Bool
  current : Nat
  voltages : List Nat
  opens : Nat
  notPlaced : Nat
  changes : List (Nat × Nat)
  candidates : List Nat
  test : Option (Nat × Nat)
  probed : List Nat
  deficitPosted : Option Nat
  notPlacedPosted : Option Nat
deriving DecidableEq, Repr, Inhabited

/-- Host job states (Table 16.2). -/
inductive RleState
  | empty
  | running
  | done
  | full
  | error
deriving DecidableEq, Repr, Inhabited

/-- The run-length engine (chapter 16). `mismatch` counts the failed comparisons of the block in hand (R412). -/
structure RleEngine where
  st : RleState
  consumed : Nat
  output : Bytes
  errorCode : Nat
  errorOffset : Nat
  blocksRun : Nat
  mapBlocks : Nat
  hostBlocks : Nat
  mismatches : Nat
  rejected : Nat
deriving DecidableEq, Repr, Inhabited

/-- Illumination: strings, the tick after the one in which patterns were last fixed, which colour groups last had an invalid input
(R398), and the run-length engine. -/
structure LightState where
  fixed : Nat
  strings : Vector LedString 16
  badGroups : Vector Bool 4
  rle : RleEngine
deriving DecidableEq, Repr, Inhabited

/-- Temperature input k (Table 17.8). `slot` is what its slot of the scan in progress gave: reading, validity, series
resistance; `history` the entries pushed, newest first. -/
structure TempInput where
  reading : Int
  validity : Nat
  series : Nat
  slot : Option (Int × Nat × Nat)
  history : List (Int × Bool)
  rate : Int
  tripped : Bool
  count : Nat
  trips : Nat
  invalid : Nat
deriving DecidableEq, Repr, Inhabited

/-- The temperature front end (R422–R430). `discard` says that the scan in progress is discarded (R426, R455). -/
structure TempState where
  inputs : Vector TempInput 48
  die : Vector Int 8
  peak : Int
  peakKept : Int
  scans : Nat
  discard : Bool
  channelThrottle : Nat
  axisThrottle : Nat
  published : Option (Nat × Nat)
  dieAbove : Bool
  diePosted : Option Nat
deriving DecidableEq, Repr, Inhabited

/-- Load-switch states (Table 17.5). -/
inductive SwitchState
  | off
  | softStart
  | on
  | tripped
  | retry
deriving DecidableEq, Repr, Inhabited

/-- Load switch k (Table 17.10); `since` is the tick of entry into its state. -/
structure LoadSwitch where
  st : SwitchState
  since : Nat
  current : Nat
  voltage : Nat
  reason : Nat
  trips : Nat
  retries : Nat
deriving DecidableEq, Repr, Inhabited

/-- What the power manager is doing (R432–R436): the step of the sequence, waiting for a retry, off for good, powered, the
power-down, or held in reset. -/
inductive PowerSt
  | step (k : Nat)
  | retryWait
  | off
  | powered
  | down
  | reset
deriving DecidableEq, Repr, Inhabited

/-- The power manager (R431–R442). Rails stand in the order of Table 17.9. `record` is the always-on sequence record;
`pfDetected` the tick of a PF_N assertion; `permitLow` the level of LPERMIT_N with the tick since which it has been low. -/
structure PowerState where
  st : PowerSt
  rails : Vector Nat 6
  phases : Vector Nat 4
  outside : Vector Bool 6
  faultTick : Vector (Option Nat) 6
  record : Nat
  attempts : Nat
  retried : Bool
  pfLow : Bool
  pfDetected : Option Nat
  permitLow : Bool
  permitSince : Option Nat
  gate5 : Bool
  negations : Nat
  vinPosted : Option Nat
  switches : Vector LoadSwitch 16
  group : Nat
  groupDue : Option Nat
  groupHalted : Bool
deriving DecidableEq, Repr, Inhabited

/-- A trimmed channel (Table 18.5): `phase` 0 no calibration, 1 before its commit, 2 after it; `since` the tick in
which the measurement of point 0 in progress began. -/
structure Trim where
  status : Nat
  r0 : Int
  rF : Int
  tick : Nat
  count : Nat
  phase : Nat
  started : Nat
  since : Nat
  limited : Bool
deriving DecidableEq, Repr, Inhabited

/-- Analog channel n (Table 18.6) with its closed photodiode average. LAO and LG hold `lao` and `lg` from the tick boundary and then take the
powers of `steps` at their offsets in the tick (R448). -/
structure Analog where
  pd : Nat
  pdMin : Nat
  pdMax : Nat
  overRange : Nat
  lao : Nat
  lg : Bool
  steps : List LaserEvent
  monitor : Nat
deriving DecidableEq, Repr, Inhabited

/-- The analog front end (chapter 18). -/
structure AnalogState where
  trims : Vector Trim 81
  channels : Vector Analog 32
deriving DecidableEq, Repr, Inhabited

/-- The memories (R461–R471, Table 19.11). `recentCorrected` holds the ticks of corrected words in the last 100,000 ticks;
`injection` an armed injection as target and bad bytes; `badObjects` the objects whose dictionary word is uncorrectable. -/
structure MemState where
  population : Vector Nat 2
  state : Vector Nat 2
  initDone : Vector Bool 2
  passesDdr : Nat
  passesSram : Nat
  corrected : Vector Nat 4
  uncorrectable : Vector Nat 4
  record : Bytes
  recentCorrected : List Nat
  ratePosted : Option Nat
  injection : Option (Nat × Nat)
  badObjects : List (Nat × Nat)
deriving DecidableEq, Repr, Inhabited

/-- A slot of the flash for a configuration image (R474, R477): its bytes, status and version. -/
structure ImageSlot where
  bytes : Bytes
  status : Nat
  version : Nat
deriving DecidableEq, Repr, Inhabited

/-- A section copy (R479): which of the two places it has, its generation, and its base entries by `index * 256 + sub`. A copy that a
save has written (`saved`) holds an entry for every object of the section, and the entries not listed hold the Default; an empty copy
holds none (R481, R482). -/
structure Section where
  place : Nat
  generation : Nat
  saved : Bool
  entries : List (Nat × Val)
deriving DecidableEq, Repr, Inhabited

/-- A flash operation in progress (R481–R483): a save with its snapshot and tick, a clear of two or of three sections, or an
upload into a slot. -/
inductive FlashOp
  | none
  | save (snapshot : List (Nat × Val)) (tick : Nat)
  | clear (all : Bool)
  | upload (slot : Nat) (image : Bytes)
deriving DecidableEq, Repr, Inhabited

/-- The serial flash (chapter 19): what it holds survives resets. `present`, `capacity` (KiB), `jedec`, `readMode` and `header` are
what discovery found; `status` is that of the persistence operation; `sections` the current copies by kind 0 object, 1 calibration,
2 table, and `append` the append slots of the object section in order, `none` for one whose CRC fails; `older` and `olderAppend` the same of the copies before them, while
those are valid; `selectorOlder` the slot and generation of the selector record before the governing one, which stands in place
`selectorPlace`; `ringNext` the ring position written next. -/
structure FlashState where
  present : Bool
  capacity : Nat
  jedec : Nat
  readMode : Nat
  failures : Nat
  header : Bytes
  op : FlashOp
  status : Nat
  sections : Vector Section 3
  append : List (Option (Nat × Val))
  older : Vector (Option Section) 3
  olderAppend : List (Option (Nat × Val))
  lastSave : Nat
  slots : Vector ImageSlot 2
  active : Nat
  selected : Nat
  selectorGeneration : Nat
  selectorPlace : Nat
  selectorOlder : Option (Nat × Nat)
  progress : Nat
  ring : List RingSlot
  ringSequence : Nat
  ringNext : Nat
  failTick : Option Nat
deriving DecidableEq, Repr, Inhabited

end Sys2Proof.Machine
end

