-- ==== Sys2Proof/Machine/StateImage.lean ====
section
/-! DEFINITION. The state image by which a standby enters lockstep (13_dual_unit_operation R341 step 5). -/

namespace Sys2Proof.Machine

/-- The tick-bound state of the scan engines, the servo engines, the stepper and LED blocks, the melt-pool law and the heat grid, as
it stands at clock 8,000 of tick s (R341). -/
structure StateImage where
  chans : Vector Chan 32
  axes : Vector Axis 96
  steps : Vector StepAxis 8
  strings : Vector LedString 16
  melt : MeltState
deriving DecidableEq, Repr

end Sys2Proof.Machine
end

