-- ==== Sys2Proof/Syntax.lean ====
section
/-! DEFINITION. The commands of the block: one constructor of `Instr` per row of spec/opcode_table.json, in the
table's order, with the operands that the row's event or command carries. `clk` operands are the engine clock within the
tick at which the command reaches CC0 (R73). -/

namespace Sys2Proof

/-- The commands: one constructor per row of spec/opcode_table.json. -/
inductive Instr
  | tickBoundary (inp : TickInputs)
  | arrivalCutoff
  | overrun (m : Monitor)
  | applyPoint
  | syncReceived (port : Fin 2) (rxLocal gmTime : Nat)
  | announceReceived (a : Announce)
  | pdelayReqReceived (port : Fin 2) (sequence : Nat)
  | syncReceiptTimeout
  | holdoverLimitExpiry
  | localTimeSet (value clk : Nat)
  | objectWrite (index sub : Nat) (data : Bytes) (clk : Nat)
  | resetRequest (value clk : Nat)
  | ethernetFrameReceived (f : EthFrame)
  | arpRequest (port : Fin 2) (target sender : Nat) (senderMac : Nat)
  | arpCacheExpiry (port : Fin 2) (addr : Nat)
  | neighborSolicitation (port : Fin 2) (target : Nat)
  | echoRequest (port : Fin 2) (v6 : Bool) (dst dataLen : Nat)
  | dhcpLeaseBound (port : Fin 2) (addr maskLen gateway t1 t2 lease : Nat)
  | dhcpRenew (port : Fin 2)
  | dhcpRebind (port : Fin 2)
  | dhcpLeaseExpiry (port : Fin 2)
  | hostLinkDown (port : Fin 2)
  | read (h : GdpHead) (items : List ReadItem)
  | write (h : GdpHead) (items : List WriteItem)
  | blockReadOpen (h : GdpHead) (index sub : Nat)
  | blockReadSegments (h : GdpHead) (handle count first : Nat)
  | blockWriteOpen (h : GdpHead) (index sub size crc : Nat)
  | blockWriteSegment (h : GdpHead) (handle segment : Nat) (data : Bytes)
  | blockClose (h : GdpHead) (handle : Nat)
  | blockTransferTimeout (handle : Fin 4)
  | subscribe (h : GdpHead) (index sub dest period : Nat)
  | unsubscribe (h : GdpHead) (id : Nat)
  | subscriptionSample (id : Fin 64)
  | lsOpen (h : LsHead) (flags : Nat)
  | lsData (h : LsHead) (payload : Bytes)
  | lsClose (h : LsHead)
  | creditPeriodic
  | nextHopTimeout (dest : Fin 4)
  | packageValidation
  | decisionPoint
  | settleTimeout (n : Fin 32)
  | dwellEnd (n : Fin 32)
  | throttleDwellEnd (n : Fin 32)
  | hostLaserEnable (n : Fin 32) (value clk : Nat)
  | channelStop (n : Fin 32) (clk : Nat)
  | rejoin (n : Fin 32) (clk : Nat)
  | axisClose (a : Fin 96) (clk : Nat)
  | axisOpen (a : Fin 96) (clk : Nat)
  | axisClearFault (a : Fin 96) (clk : Nat)
  | startUpClose (a : Fin 96)
  | captureComplete (a : Fin 96)
  | faultRampEnd (a : Fin 96)
  | followingError (a : Fin 96)
  | currentSaturated (a : Fin 96)
  | trustRestored (a : Fin 96)
  | sensorResponse (n : Fin 32) (h : NodeHead) (p : SensorPayload)
  | clearAmplitudeMarks (a : Fin 96) (value clk : Nat)
  | frameStart (c : Fin 20) (vc : Fin 4) (h : CsiHeader)
  | longPacket (c : Fin 20) (vc : Fin 4) (h : CsiHeader) (dataType : Nat) (payload : Bytes) (crcOk : Bool)
  | pipelineUnit (c : Fin 20)
  | frameEnd (c : Fin 20) (vc : Fin 4) (h : CsiHeader)
  | frameTimeout (i : Fin 128)
  | missingFrame (i : Fin 128)
  | triggerPulse (c : Fin 20)
  | manualTrigger (c : Fin 20) (value clk : Nat)
  | deliveryPoint (i : Fin 128)
  | linkError (c : Fin 20)
  | i2cRequest (c : Fin 20) (data : Bytes) (clk : Nat)
  | i2cTransactionComplete (c : Fin 20) (status : Nat) (readBytes : Bytes)
  | clockStretchTimeout (c : Fin 20)
  | streamingEnable (c : Fin 20) (value clk : Nat)
  | initScriptEntryDone (c : Fin 20) (status : Nat)
  | snapshotArm (i : Fin 128) (value clk : Nat)
  | layerImageStored (i : Fin 128)
  | signalLoss (n : Fin 32)
  | cameraTermStarved (n : Fin 32)
  | correctionAtLimit (n : Fin 32)
  | heatGridUpdate
  | qualityMapClose
  | mapPlanesReplaced
  | observationRecord (n : Fin 32)
  | fenSolve (z : Fin 256)
  | gridUpdateCommit
  | laserStatus (n : Fin 32) (h : NodeHead) (p : LaserPayload)
  | enumerateResponse (p : Fin 64) (h : NodeHead) (e : EnumPayload)
  | echoResponse (p : Fin 64) (h : NodeHead) (roundTrip turnaround : Nat)
  | configWriteResponse (p : Fin 64) (h : NodeHead) (item status : Nat)
  | configReadResponse (p : Fin 64) (h : NodeHead) (item status : Nat) (data : Bytes)
  | serviceFrameTimeout (p : Fin 64)
  | zlCredit (p : Fin 64) (count : Nat)
  | creditStall (p : Fin 64) (slot : Fin 2)
  | ts2Received (p : Fin 64) (echoed kind : Nat) (codeError : Bool)
  | trainTimeout (p : Fin 64)
  | zlLinkDown (p : Fin 64) (cause : LinkCause)
  | downTimeout (p : Fin 64)
  | portEnable (p : Fin 64) (value clk : Nat)
  | portCommand (p : Fin 64) (clk : Nat)
  | nodeRequest (p : Fin 64) (data : Bytes) (clk : Nat)
  | nodeGateRelease (n : Fin 32)
  | nodeTs1Received (p : Fin 64) (link : Fin 2) (idle : Bool)
  | nodeTickReceived (p : Fin 64) (link : Fin 2) (count : Nat) (complementOk : Bool) (arrival : Nat)
  | nodeTickMissing (p : Fin 64)
  | nodeFrameReceived (p : Fin 64) (link : Fin 2) (f : DeviceFrame)
  | nodeHoldDeadline (p : Fin 64) (slot : Fin 2)
  | nodeServiceFrame (p : Fin 64) (link : Fin 2) (f : DeviceFrame)
  | nodeApplyCommand (p : Fin 64)
  | nodeCommandMissed (p : Fin 64)
  | nodeAuthorityLost (p : Fin 64)
  | nodeGateReceived (p : Fin 64) (link : Fin 2)
  | hello (m : HelloMsg)
  | state (valid : Bool) (values pending : List ObjVal) (replay : List GdpResponse) (session : Option SessionCopy) (packages : List Bytes)
  | lockstepEntry (image : Machine.StateImage)
  | discoverTimeout
  | wisp (w : WispMsg)
  | wispMissing
  | mirror (valid : Bool) (entries : List MirrorEntry)
  | measure (m : MeasureMsg)
  | peerWrite (valid : Bool) (sequence : Nat) (items : List ObjVal) (commitTime boundary : Nat) (response : Option GdpResponse)
  | ack (valid : Bool) (type sequence : Nat)
  | peerAckTimeout
  | stream (valid : Bool) (offset sequence : Nat) (data : Bytes)
  | heartbeatLoss
  | peerAuthAcquire (highNs : Nat) (highAtSample : Bool)
  | handOver
  | pairCommand (clk : Nat)
  | unitLocalFault
  | echoRule
  | reversion
  | healthRule
  | lanternReport
  | peerLinkDown
  | peerLinkUp
  | moveRequest (m : Fin 8) (data : Bytes) (clk : Nat)
  | retarget (m : Fin 8) (target : Int) (clk : Nat)
  | setPosition (m : Fin 8) (value : Int) (clk : Nat)
  | halt (m : Fin 8) (clk : Nat)
  | stop (m : Fin 8) (clk : Nat)
  | home (m : Fin 8) (clk : Nat)
  | stepperClearFault (m : Fin 8) (clk : Nat)
  | moveStart (m : Fin 8)
  | moveEnd (m : Fin 8)
  | moveDwellEnd (m : Fin 8)
  | stableEdge (m : Fin 8) (sw : Fin 3)
  | stall (m : Fin 8)
  | homingPhaseEnd (m : Fin 8)
  | homingFailed (m : Fin 8)
  | standstillDelay (m : Fin 8)
  | patternFix
  | openDetected (l : Fin 16) (window current : Nat)
  | locateTest (l : Fin 16) (current : Nat)
  | probe (l : Fin 16) (current voltage : Nat)
  | probeNotPlaced (l : Fin 16)
  | stringEnable (l : Fin 16) (value clk : Nat)
  | clearFailedLamps (l : Fin 16) (value clk : Nat)
  | mapBlockCompress (mismatches : Nat)
  | rleStart (clk : Nat)
  | rleResume (clk : Nat)
  | rleUnload (clk : Nat)
  | rleBlock (mismatches : Nat) (uncorrectable : Bool)
  | temperatureSlot (k : Fin 48) (m : SlotMeasure) (die : Vector Int 8)
  | scanPublish
  | dieWarning
  | dieShutdown
  | railOutsideWindow (rail : Fin 6)
  | railFaultPersists
  | vinWarning
  | vaux33Loss
  | powerSequenceStep
  | powerSequenceStepTimeout (rail : Fin 6)
  | powerSequenceRetry
  | pfNAsserted
  | holdUpExpiry
  | pfNRelease
  | lpermitNNegated
  | permitRestored
  | switchOff (k : Fin 16) (clk : Nat)
  | switchOn (k : Fin 16) (clk : Nat)
  | resetTrip (k : Fin 16) (clk : Nat)
  | powerGood (k : Fin 16)
  | softStartTimeout (k : Fin 16)
  | loadSwitchTrip (k : Fin 16) (twice : Bool)
  | retryDelayExpiry (k : Fin 16)
  | startUpGroup
  | calibrationCommand (j : Fin 81) (value clk : Nat)
  | calibrationCommit (j : Fin 81) (sum0 sumF : Int)
  | calibrationComplete (j : Fin 81) (sum0 sumF : Int)
  | ddrTraining (ch : Fin 2) (ok : Bool)
  | backgroundInitComplete (ch : Fin 2)
  | scrub (target : Fin 3) (address region : Nat) (word : StoredWord)
  | uncorrectableWord (location : Fin 4) (address region : Nat) (foundBy item : Nat)
  | errorInjection (value clk : Nat)
  | imageUpload (image : Bytes) (crc clk : Nat)
  | imageProgramComplete (verified : Bool)
  | activate (value clk : Nat)
  | save (clk : Nat)
  | saveComplete
  | clearObjectsAndTables (clk : Nat)
  | clearAll (clk : Nat)
  | flashOperationFailed
  | powerOn (strap : Fin 2)
  | resetN
  | watchdogExpiry (core : Fin 4)
  | startupPhaseComplete (r : PhaseReport)
  | startupPhaseMaximum
  | stoppingComplete
  | acknowledge (value clk : Nat)
  | ringWrite
  | clearRing (clk : Nat)
  | testEnRise
  | testEnFall
  | pdelayRespReceived (port : Fin 2) (t1 t2 t3 t4 : Nat)
  | hostLinkUp (port : Fin 2)
  | nodeLinkUntrained (p : Fin 64) (link : Fin 2)
  | nodeLinkNotLive (p : Fin 64) (link : Fin 2)
  | peerAuthNFault
  | dieShutdownRelease
  | powerDownEnd
  | pllOutOfLock
deriving DecidableEq, Repr

end Sys2Proof
end

