-- ==== Sys2Proof/Decode.lean ====
section
/-! DEFINITION. The command that a table word spells. No row of spec/opcode_table.json gives bits: a command is an event or a
message, not a word, so no word spells one. -/

namespace Sys2Proof

/-- The command spelled by the `nbits` low bits of `w` under the table: none, because every row's field list is empty. -/
def decodeTableWord (_nbits _w : Nat) : Option Instr := none

end Sys2Proof
end

