-- ==== Sys2Proof/Machine/ObjTable.lean ====
section
/-! DEFINITION. The object table: one row per object or group of like subindices of the object tables of every chapter
(R16, R63, R64), with its type, access class, persistence, default, apply class and range. -/

namespace Sys2Proof.Machine

/-- The objects of chapter 01. -/
def objects01 : List ObjRow := [
  roRow 0x6000 64 [0x00] (.uint 4),
  roRow 0x6000 64 [0x01] (.uint 4),
  wrRow 0x6000 64 [0x02] (.uint 4) .rw false .imm (.int 0) [(0, 0)],
  roRow 0x6000 64 [0x03] (.uint 4),
  roRow 0x6000 64 [0x04] (.uint 4),
  roRow 0x6000 64 [0x05] (.uint 1)]

/-- The objects of chapter 02. -/
def objects02 : List ObjRow := [
  wrRow 0x2000 1 [0x00] (.uint 1) .rws true .stp (.int 0) [(0, 1)],
  wrRow 0x2000 1 [0x01] (.bool) .rw true .imm (.int 0) [],
  wrRow 0x2000 1 [0x02] (.uint 1) .rws true .stp (.int 0) [(0, 127)],
  wrRow 0x2000 1 [0x03] (.uint 4) .rw true .imm (.int 6000000) [],
  wrRow 0x2000 1 [0x04] (.uint 4) .rw true .imm (.int 10000) [],
  wrRow 0x2000 1 [0x05] (.uint 4) .rw true .imm (.int 100) [(10, 100000)],
  wrRow 0x2000 1 [0x06] (.uint 1) .rws true .stp (.int 3) [(0, 3)],
  wrRow 0x2000 1 [0x07] (.uint 8) .wo false .stp (.int 0) [],
  roRow 0x2001 1 [0x00] (.uint 1),
  roRow 0x2001 1 [0x01] (.uint 8),
  roRow 0x2001 1 [0x02] (.uint 8),
  roRow 0x2001 1 [0x03] (.sint 8),
  roRow 0x2001 1 [0x04] (.sint 4),
  roRow 0x2001 1 [0x05] (.octets 8),
  roRow 0x2001 1 [0x06] (.uint 1),
  roRow 0x2001 1 [0x07] (.uint 4),
  roRow 0x2001 1 [0x08] (.octets 16),
  roRow 0x2001 1 [0x09] (.uint 4),
  roRow 0x2001 1 [0x0A] (.uint 4),
  roRow 0x2002 1 [0x00, 0x01, 0x02, 0x03, 0x04, 0x05, 0x06, 0x07, 0x08, 0x09, 0x0A, 0x0B, 0x0C, 0x0D, 0x0E, 0x0F] (.uint 4),
  roRow 0x2002 1 [0x10, 0x11, 0x12, 0x13, 0x14, 0x15, 0x16, 0x17] (.uint 4),
  roRow 0x2002 1 [0x18] (.uint 4),
  roRow 0x2002 1 [0x19] (.uint 4),
  wrRow 0x2003 1 [0x00, 0x01, 0x02, 0x03, 0x04, 0x05, 0x06, 0x07, 0x08, 0x09, 0x0A, 0x0B, 0x0C, 0x0D, 0x0E, 0x0F] (.uint 2) .rw false .imm (.int 0) [(0, 0)],
  wrRow 0x2003 1 [0x10, 0x11, 0x12, 0x13, 0x14, 0x15, 0x16, 0x17] (.uint 2) .rw false .imm (.int 0) [(0, 0)]]

/-- The objects of chapter 03. -/
def objects03 : List ObjRow := [
  roRow 0x1000 1 [0x00] (.str 16),
  roRow 0x1000 1 [0x01] (.str 16),
  roRow 0x1000 1 [0x02] (.str 24),
  roRow 0x1000 1 [0x03] (.uint 1),
  roRow 0x1000 1 [0x04] (.uint 4),
  roRow 0x1000 1 [0x05] (.uint 2),
  roRow 0x1000 1 [0x06] (.octets 8),
  roRow 0x1000 1 [0x07] (.uint 2),
  roRow 0x1000 1 [0x08] (.str 8),
  roRow 0x1000 1 [0x09] (.octets 32),
  wrRow 0x1000 1 [0x0A] (.str 32) .rw true .imm (.oct (List.replicate 32 0)) [],
  roRow 0x1001 1 [0x00] (.uint 1),
  roRow 0x1001 1 [0x01] (.uint 1),
  roRow 0x1001 1 [0x02] (.uint 2),
  roRow 0x1001 1 [0x03] (.uint 1),
  roRow 0x1001 1 [0x04] (.uint 8),
  roRow 0x1001 1 [0x05] (.uint 4),
  roRow 0x1001 1 [0x06] (.uint 2),
  roRow 0x1001 1 [0x07] (.bool),
  roRow 0x1001 1 [0x08] (.uint 8),
  roRow 0x1001 1 [0x09] (.uint 4),
  roRow 0x1001 1 [0x0A] (.uint 1),
  roRow 0x1001 1 [0x0B] (.uint 2),
  roRow 0x1001 1 [0x0C] (.uint 4),
  wrRow 0x1002 1 [0x00] (.uint 4) .wo false .imm (.int 0) [(24158, 24158)]]

/-- The objects of chapter 04. -/
def objects04 : List ObjRow := [
  wrRow 0x1100 2 [0x00] (.bool) .rws true .stp (.int 1) [],
  wrRow 0x1100 2 [0x01] (.uint 1) .rws true .stp (.int 0) [(0, 1)],
  roRow 0x1100 2 [0x02] (.octets 6),
  wrRow 0x1100 2 [0x03] (.bool) .rws true .stp (.int 0) [],
  wrRow 0x1100 2 [0x04] (.uint 2) .rws true .stp (.int 1) [(1, 4094)],
  wrRow 0x1100 2 [0x05] (.uint 1) .rws true .stp (.int 0) [(0, 7)],
  wrRow 0x1100 2 [0x06] (.uint 1) .rws true .stp (.int 2) [(0, 2)],
  wrRow 0x1100 2 [0x07] (.uint 4) .rws true .stp (.int 0) [],
  wrRow 0x1100 2 [0x08] (.uint 1) .rws true .stp (.int 24) [(8, 30)],
  wrRow 0x1100 2 [0x09] (.uint 4) .rws true .stp (.int 0) [],
  wrRow 0x1100 2 [0x0A] (.uint 1) .rws true .stp (.int 1) [(0, 2)],
  wrRow 0x1100 2 [0x0B] (.octets 16) .rws true .stp (.oct (List.replicate 16 0)) [],
  wrRow 0x1100 2 [0x0C] (.uint 1) .rws true .stp (.int 64) [(1, 128)],
  wrRow 0x1100 2 [0x0D] (.octets 16) .rws true .stp (.oct (List.replicate 16 0)) [],
  roRow 0x1100 2 [0x10] (.uint 1),
  roRow 0x1100 2 [0x11] (.uint 4),
  roRow 0x1100 2 [0x12] (.uint 1),
  roRow 0x1100 2 [0x13] (.octets 16),
  roRow 0x1100 2 [0x14] (.uint 4),
  roRow 0x1100 2 [0x15] (.uint 4),
  roRow 0x1100 2 [0x16] (.uint 4),
  wrRow 0x1100 2 [0x17] (.uint 4) .rw false .imm (.int 0) [(0, 0)],
  roRow 0x1100 2 [0x18] (.uint 4),
  roRow 0x1110 1 [0x00] (.uint 2),
  roRow 0x1110 1 [0x01] (.uint 2),
  roRow 0x1110 1 [0x02] (.uint 2),
  wrRow 0x1110 1 [0x03] (.bool) .rws true .stp (.int 0) [],
  roRow 0x1110 1 [0x04] (.uint 4),
  roRow 0x1110 1 [0x05] (.uint 1),
  roRow 0x1110 1 [0x06] (.uint 4),
  roRow 0x1110 1 [0x07] (.uint 8),
  roRow 0x1110 1 [0x08] (.uint 8),
  roRow 0x1110 1 [0x09] (.uint 4),
  roRow 0x1110 1 [0x0A] (.uint 4),
  roRow 0x1110 1 [0x0B] (.uint 4),
  roRow 0x1110 1 [0x0C] (.uint 4),
  roRow 0x1110 1 [0x0D] (.uint 4),
  roRow 0x1110 1 [0x0E] (.uint 4),
  roRow 0x1110 1 [0x0F] (.uint 4),
  roRow 0x1110 1 [0x10] (.uint 4),
  roRow 0x1110 1 [0x11] (.uint 1),
  roRow 0x1110 1 [0x12] (.uint 1),
  wrRow 0x1111 1 [0x00, 0x01, 0x02, 0x03] (.uint 4) .rws true .stp (.int 0) [],
  wrRow 0x1111 1 [0x04, 0x05, 0x06, 0x07] (.octets 16) .rws true .stp (.oct (List.replicate 16 0)) [],
  wrRow 0x1118 4 [0x00] (.bool) .rw true .imm (.int 0) [],
  wrRow 0x1118 4 [0x01] (.uint 1) .rw true .imm (.int 4) [(4, 4), (6, 6)],
  wrRow 0x1118 4 [0x02] (.uint 4) .rw true .imm (.int 0) [],
  wrRow 0x1118 4 [0x03] (.octets 16) .rw true .imm (.oct (List.replicate 16 0)) [],
  wrRow 0x1118 4 [0x04] (.uint 2) .rw true .imm (.int 47412) [(1, 65535)],
  wrRow 0x1118 4 [0x05] (.uint 1) .rw true .imm (.int 0) [(0, 1)],
  wrRow 0x1118 4 [0x06] (.uint 1) .rw true .imm (.int 7) [(0, 7)],
  wrRow 0x1118 4 [0x07] (.uint 1) .rw true .imm (.int 1) [(1, 5)],
  roRow 0x1118 4 [0x08] (.uint 4)]

/-- The objects of chapter 06. -/
def objects06 : List ObjRow := [
  wrRow 0x3000 32 [0x00] (.bool) .rw false .imm (.int 0) [],
  roRow 0x3000 32 [0x01] (.uint 2),
  wrRow 0x3000 32 [0x02] (.uint 2) .rw true .lyr (.int 65535) [],
  wrRow 0x3000 32 [0x03] (.uint 2) .rws true .stp (.int 0) [(0, 4096)],
  wrRow 0x3000 32 [0x04] (.uint 2) .rws true .stp (.int 0) [(0, 4096)],
  roRow 0x3000 32 [0x05] (.uint 4),
  roRow 0x3000 32 [0x0C] (.uint 4),
  wrRow 0x3100 32 [0x00] (.uint 2) .rw true .lyr (.int 10000) [(1, 40000)],
  wrRow 0x3100 32 [0x01] (.uint 4) .rw true .lyr (.int 50000) [(1000, 500000)],
  wrRow 0x3100 32 [0x02] (.uint 4) .rw true .lyr (.int 500000000) [(1000000, 4000000000)],
  wrRow 0x3100 32 [0x03] (.uint 2) .rw true .lyr (.int 500) [(0, 20000)],
  wrRow 0x3100 32 [0x04] (.bool) .rw true .lyr (.int 1) [],
  wrRow 0x3100 32 [0x05] (.uint 2) .rws true .stp (.int 1536) [(0, 8192)],
  wrRow 0x3100 32 [0x06] (.uint 4) .rw true .lyr (.int 256) [(1, 1048576)],
  wrRow 0x3100 32 [0x07] (.uint 2) .rw true .lyr (.int 3) [(1, 1000)],
  wrRow 0x3100 32 [0x08] (.uint 4) .rw true .lyr (.int 2000) [(10, 100000)],
  wrRow 0x3100 32 [0x09] (.uint 4) .rw true .lyr (.int 2000) [(0, 6000000)],
  wrRow 0x3100 32 [0x0A] (.uint 4) .rw true .lyr (.int 100) [(1, 100000)],
  wrRow 0x3100 32 [0x0B] (.sint 4) .rws true .stp (.int 2560) [],
  wrRow 0x3100 32 [0x0C] (.uint 1) .wo false .imm (.int 0) [(1, 2)],
  roRow 0x3100 32 [0x10] (.uint 1),
  roRow 0x3100 32 [0x11] (.uint 4),
  roRow 0x3100 32 [0x12] (.uint 4),
  roRow 0x3100 32 [0x13] (.uint 4),
  roRow 0x3100 32 [0x14] (.uint 4),
  roRow 0x3100 32 [0x15] (.uint 4),
  roRow 0x3100 32 [0x16] (.uint 4),
  roRow 0x3100 32 [0x17] (.uint 4),
  roRow 0x3100 32 [0x18] (.uint 4),
  roRow 0x3100 32 [0x19] (.uint 4),
  roRow 0x3100 32 [0x1A] (.uint 1),
  roRow 0x3100 32 [0x1B] (.uint 4),
  roRow 0x3100 32 [0x1C] (.bool),
  roRow 0x3100 32 [0x1D] (.bool)]

/-- The objects of chapter 07. -/
def objects07 : List ObjRow := [
  wrRow 0x3200 96 [0x00] (.bool) .rws true .stp (.int 1) [],
  wrRow 0x3200 96 [0x01] (.bool) .rw true .boot (.int 1) [],
  wrRow 0x3200 96 [0x02] (.uint 1) .wo false .imm (.int 0) [(1, 3)],
  roRow 0x3200 96 [0x03] (.uint 1),
  roRow 0x3200 96 [0x04] (.bool),
  roRow 0x3200 96 [0x05] (.uint 2),
  wrRow 0x3200 96 [0x06] (.uint 1) .rw true .lyr (.int 0) [(0, 1)],
  wrRow 0x3200 96 [0x08] (.uint 4) .rw true .lyr (.int 524288) [(256, 2147483647)],
  wrRow 0x3200 96 [0x09] (.uint 4) .rw true .lyr (.int 6553600) [(1, 2147483647)],
  wrRow 0x3200 96 [0x0A] (.uint 4) .rw true .lyr (.int 6553600) [(1, 2147483647)],
  wrRow 0x3200 96 [0x0B] (.uint 4) .rw true .lyr (.int 16384) [(16, 8388607)],
  wrRow 0x3200 96 [0x0C] (.uint 2) .rw true .lyr (.int 5) [(1, 100)],
  wrRow 0x3200 96 [0x0D] (.sint 2) .rw true .lyr (.int 32767) [(1, 32767)],
  wrRow 0x3200 96 [0x0E] (.uint 2) .rw true .imm (.int 20) [(1, 1000)],
  wrRow 0x3200 96 [0x0F] (.uint 2) .rw true .imm (.int 100) [(1, 60000)],
  wrRow 0x3200 96 [0x10] (.uint 4) .rw true .imm (.int 256000) [(256, 2147483647)],
  wrRow 0x3200 96 [0x11] (.uint 4) .rw true .imm (.int 3276800) [(1, 2147483647)],
  wrRow 0x3200 96 [0x12] (.uint 4) .rw true .imm (.int 327680) [(1, 2147483647)],
  wrRow 0x3200 96 [0x13] (.uint 2) .rw true .imm (.int 100) [(1, 60000)],
  wrRow 0x3200 96 [0x14] (.uint 1) .rws true .stp (.int 12) [(4, 23)],
  wrRow 0x3200 96 [0x15] (.uint 1) .rws true .stp (.int 8) [(0, 24)],
  wrRow 0x3200 96 [0x16] (.uint 1) .rws true .stp (.int 16) [(0, 31)],
  wrRow 0x3200 96 [0x17] (.bool) .rw true .lyr (.int 0) [],
  wrRow 0x3200 96 [0x18] (.bool) .rw true .lyr (.int 0) [],
  wrRow 0x3200 96 [0x19] (.sint 4) .rws true .stp (.int (-524288)) [],
  wrRow 0x3200 96 [0x1A] (.uint 1) .rws true .stp (.int 10) [(4, 16)],
  wrRow 0x3200 96 [0x1B] (.uint 4) .rw true .lyr (.int 256) [(1, 2147483647)],
  wrRow 0x3200 96 [0x1C] (.table 2 1025 false) .rw true .lyr (.oct (List.replicate 2050 0)) [],
  wrRow 0x3200 96 [0x1D] (.table 2 1025 false) .rw true .lyr (.oct (List.replicate 2050 0)) [],
  roRow 0x3200 96 [0x50] (.sint 4),
  roRow 0x3200 96 [0x51] (.sint 4),
  roRow 0x3200 96 [0x52] (.sint 4),
  roRow 0x3200 96 [0x53] (.sint 2),
  roRow 0x3200 96 [0x54] (.sint 8),
  roRow 0x3200 96 [0x55] (.sint 1),
  wrRow 0x3200 96 [0x56] (.uint 4) .rw false .imm (.int 0) [(0, 0)],
  roRow 0x3200 96 [0x57] (.uint 4),
  roRow 0x3200 96 [0x58] (.uint 4),
  roRow 0x3200 96 [0x59] (.uint 4),
  roRow 0x3200 96 [0x5A] (.uint 4),
  wrRow 0x3200 96 [0x20, 0x30] (.sint 2) .rw true .lyr (.int 0) [],
  wrRow 0x3200 96 [0x21, 0x31] (.sint 2) .rw true .lyr (.int 0) [],
  wrRow 0x3200 96 [0x22, 0x32] (.sint 2) .rw true .lyr (.int 0) [],
  wrRow 0x3200 96 [0x23, 0x33] (.sint 2) .rw true .lyr (.int 32767) [(0, 32767)],
  wrRow 0x3200 96 [0x24, 0x34] (.sint 2) .rw true .lyr (.int 0) [],
  wrRow 0x3200 96 [0x25, 0x35] (.sint 2) .rw true .lyr (.int 0) [],
  wrRow 0x3200 96 [0x26, 0x36] (.uint 1) .rw true .lyr (.int 0) [(0, 8)],
  wrRow 0x3200 96 [0x27, 0x37] (.sint 2) .rw true .lyr (.int 8192) [(0, 32767)],
  wrRow 0x3200 96 [0x28, 0x38] (.uint 2) .rw true .lyr (.int 0) [(0, 0), (100, 40000)],
  wrRow 0x3200 96 [0x29, 0x39] (.uint 2) .rw true .lyr (.int 1024) [(128, 5120)],
  wrRow 0x3200 96 [0x2A, 0x3A] (.sint 2) .rw true .lyr (.int 0) [(0, 32767)],
  wrRow 0x3200 96 [0x2B, 0x3B] (.uint 2) .rw true .lyr (.int 0) [(0, 0), (100, 40000)],
  wrRow 0x3200 96 [0x2C, 0x3C] (.uint 2) .rw true .lyr (.int 1024) [(128, 5120)],
  wrRow 0x3200 96 [0x2D, 0x3D] (.sint 2) .rw true .lyr (.int 0) [(0, 32767)],
  roRow 0x3200 96 [0x2E, 0x3E] (.octets 20)]

/-- The objects of chapter 08. -/
def objects08 : List ObjRow := [
  wrRow 0x3300 96 [0x00] (.uint 2) .rw true .imm (.int 900) [(16, 3620)],
  wrRow 0x3300 96 [0x01] (.uint 2) .rw true .imm (.int 2400) [(16, 3620)],
  wrRow 0x3300 96 [0x02] (.sint 2) .rw true .imm (.int 0) [(-512, 511)],
  wrRow 0x3300 96 [0x03] (.sint 2) .rw true .imm (.int 0) [(-512, 511)],
  wrRow 0x3300 96 [0x04] (.uint 1) .rw true .imm (.int 8) [(0, 15)],
  roRow 0x3300 96 [0x10] (.octets 8),
  roRow 0x3300 96 [0x11] (.bool),
  roRow 0x3300 96 [0x12] (.uint 1),
  roRow 0x3300 96 [0x13] (.uint 4),
  roRow 0x3300 96 [0x14] (.sint 2),
  roRow 0x3300 96 [0x15] (.sint 2),
  roRow 0x3300 96 [0x16] (.uint 2),
  roRow 0x3300 96 [0x17] (.uint 1),
  roRow 0x3300 96 [0x18] (.uint 1),
  roRow 0x3300 96 [0x20, 0x21, 0x22, 0x23, 0x24, 0x25, 0x26] (.uint 4),
  roRow 0x3300 96 [0x27] (.uint 4),
  roRow 0x3300 96 [0x28] (.uint 4),
  roRow 0x3300 96 [0x29] (.uint 4),
  roRow 0x3300 96 [0x2A] (.uint 2),
  roRow 0x3300 96 [0x2B] (.uint 2),
  wrRow 0x3300 96 [0x2C] (.bool) .wo false .imm (.int 0) [(1, 1)]]

/-- Part 1 of the objects of chapter 09. -/
def objects09p1 : List ObjRow := [
  wrRow 0x3500 20 [0x00] (.bool) .rw true .imm (.int 1) [],
  roRow 0x3500 20 [0x01] (.uint 1),
  wrRow 0x3500 20 [0x02] (.uint 2) .rws true .stp (.int 2500) [(80, 2500)],
  wrRow 0x3500 20 [0x03] (.uint 2) .rws true .stp (.int 12816) [],
  wrRow 0x3500 20 [0x04] (.uint 1) .rws true .stp (.int 0) [(0, 31)],
  wrRow 0x3500 20 [0x05] (.uint 1) .rw true .imm (.int 1) [(0, 2)],
  wrRow 0x3500 20 [0x06] (.uint 4) .rw true .imm (.int 0) [(1, 150000)],
  wrRow 0x3500 20 [0x07] (.uint 4) .rw true .imm (.int 0) [],
  wrRow 0x3500 20 [0x08] (.uint 1) .rw true .imm (.int 2) [(0, 3)],
  wrRow 0x3500 20 [0x09] (.uint 2) .rw true .imm (.int 0) [(0, 4095)],
  wrRow 0x3500 20 [0x0A] (.uint 2) .rw true .imm (.int 205) [(1, 4095)],
  wrRow 0x3500 20 [0x0B] (.bool) .wo false .imm (.int 0) [(1, 1)],
  wrRow 0x3500 20 [0x0C] (.uint 2) .rw true .imm (.int 0) [],
  wrRow 0x3500 20 [0x0D] (.uint 2) .rw true .imm (.int 1024) [(1, 65535)],
  wrRow 0x3500 20 [0x0E] (.uint 1) .rws true .stp (.int 2) [(0, 2)],
  wrRow 0x3500 20 [0x0F] (.uint 2) .rw true .imm (.int 100) [(1, 10000)],
  wrRow 0x3500 20 [0x10] (.octets 40) .wo false .imm (.int 0) [],
  roRow 0x3500 20 [0x11] (.uint 1),
  roRow 0x3500 20 [0x12] (.octets 32),
  wrRow 0x3500 20 [0x13] (.table 8 512 true) .rw true .stp (.oct []) [],
  roRow 0x3500 20 [0x20] (.uint 1),
  roRow 0x3500 20 [0x21] (.uint 4),
  roRow 0x3500 20 [0x22] (.uint 4),
  roRow 0x3500 20 [0x23] (.uint 4),
  roRow 0x3500 20 [0x24] (.uint 4),
  roRow 0x3500 20 [0x25] (.uint 4),
  roRow 0x3500 20 [0x26] (.uint 4),
  wrRow 0x3500 20 [0x27] (.uint 1) .rw false .imm (.int 0) [(0, 0)],
  wrRow 0x3400 128 [0x00] (.bool) .rw true .imm (.int 0) [],
  wrRow 0x3400 128 [0x01] (.uint 1) .rws true .stp (.int 0) [(0, 19), (255, 255)],
  wrRow 0x3400 128 [0x02] (.uint 1) .rws true .stp (.int 0) [],
  wrRow 0x3400 128 [0x03] (.uint 1) .rws true .stp (.int 0) [(42, 44)],
  wrRow 0x3400 128 [0x04] (.uint 2) .rws true .stp (.int 0) [],
  wrRow 0x3400 128 [0x05] (.uint 2) .rws true .stp (.int 0) [],
  wrRow 0x3400 128 [0x06] (.uint 2) .rw true .frm (.int 0) [],
  wrRow 0x3400 128 [0x07] (.uint 2) .rw true .frm (.int 0) [],
  wrRow 0x3400 128 [0x08] (.uint 2) .rw true .frm (.int 0) [(8, 65535)],
  wrRow 0x3400 128 [0x09] (.uint 2) .rw true .frm (.int 0) [(8, 65535)],
  wrRow 0x3400 128 [0x0A] (.uint 1) .rw true .frm (.int 0) [(0, 31), (255, 255)],
  wrRow 0x3400 128 [0x0B] (.uint 4) .rw true .imm (.int 0) [(4, 6000000)],
  wrRow 0x3400 128 [0x0C] (.uint 2) .rw true .frm (.int 0) [(0, 4095)],
  wrRow 0x3400 128 [0x0D] (.uint 1) .rw true .frm (.int 0) [(0, 2)],
  wrRow 0x3400 128 [0x0E] (.table 4 256 true) .rw true .frm (.oct []) [],
  wrRow 0x3400 128 [0x0F] (.bool) .rw true .frm (.int 0) [],
  wrRow 0x3400 128 [0x10] (.table 2 289 false) .rw true .frm (.int 0) [],
  wrRow 0x3400 128 [0x11] (.uint 1) .rw true .frm (.int 0) [(0, 7)],
  wrRow 0x3400 128 [0x12] (.uint 2) .rw true .frm (.int 1024) [(1, 4095)],
  wrRow 0x3400 128 [0x13] (.uint 2) .rw true .frm (.int 0) [],
  wrRow 0x3400 128 [0x14] (.uint 2) .rw true .frm (.int 0) [],
  wrRow 0x3400 128 [0x15] (.uint 2) .rw true .frm (.int 64) [(1, 256)]]

/-- Part 2 of the objects of chapter 09. -/
def objects09p2 : List ObjRow := [
  wrRow 0x3400 128 [0x16] (.uint 2) .rw true .frm (.int 64) [(1, 256)],
  wrRow 0x3400 128 [0x17] (.uint 2) .rw true .frm (.int 2048) [(0, 16384)],
  wrRow 0x3400 128 [0x18] (.uint 2) .rw true .frm (.int 2048) [(0, 16384)],
  wrRow 0x3400 128 [0x19] (.uint 1) .rw true .imm (.int 5) [(2, 8)],
  wrRow 0x3400 128 [0x1A] (.uint 1) .rw true .frm (.int 0) [(0, 2)],
  wrRow 0x3400 128 [0x1B] (.uint 1) .rw true .frm (.int 1) [(1, 2), (4, 4)],
  wrRow 0x3400 128 [0x1C] (.uint 1) .rw true .frm (.int 8) [(8, 8), (16, 16)],
  wrRow 0x3400 128 [0x1D] (.bool) .wo false .imm (.int 0) [(1, 1)],
  roRow 0x3400 128 [0x30] (.uint 4),
  roRow 0x3400 128 [0x31] (.uint 4),
  roRow 0x3400 128 [0x32] (.uint 4),
  roRow 0x3400 128 [0x33] (.uint 4),
  roRow 0x3400 128 [0x34] (.uint 4),
  roRow 0x3400 128 [0x35] (.uint 4),
  roRow 0x3400 128 [0x36] (.uint 4),
  roRow 0x3400 128 [0x37] (.uint 4),
  roRow 0x3400 128 [0x38] (.uint 4),
  roRow 0x3400 128 [0x39] (.uint 8),
  roRow 0x3400 128 [0x3A] (.uint 2),
  roRow 0x3400 128 [0x3B] (.octets 32),
  roRow 0x3400 128 [0x3C] (.table 4 256 false),
  roRow 0x3400 128 [0x3D] (.table 2 64 false),
  roRow 0x3400 128 [0x3E] (.uint 8),
  roRow 0x3400 128 [0x3F] (.table 1 16777216 true),
  roRow 0x3400 128 [0x40] (.uint 8),
  roRow 0x3400 128 [0x41] (.uint 4)]

/-- The objects of chapter 09. -/
def objects09 : List ObjRow := objects09p1 ++ objects09p2

/-- The objects of chapter 10. -/
def objects10 : List ObjRow := [
  wrRow 0x3600 32 [0x00] (.bool) .rw true .lyr (.int 0) [],
  wrRow 0x3600 32 [0x01] (.uint 1) .rw true .lyr (.int 3) [(0, 15)],
  wrRow 0x3600 32 [0x02] (.uint 2) .rw true .lyr (.int 4915) [(0, 4915)],
  wrRow 0x3600 32 [0x03] (.uint 2) .rw true .lyr (.int 4915) [(0, 4915)],
  wrRow 0x3600 32 [0x04] (.uint 2) .rw true .lyr (.int 16384) [(0, 16384)],
  wrRow 0x3600 32 [0x05] (.uint 2) .rw true .lyr (.int 0) [(0, 16384)],
  wrRow 0x3600 32 [0x06] (.uint 4) .rw true .lyr (.int 0) [],
  wrRow 0x3600 32 [0x07] (.uint 2) .rw true .lyr (.int 164) [(0, 16384)],
  wrRow 0x3600 32 [0x08] (.uint 2) .rw true .lyr (.int 256) [(1, 65534)],
  wrRow 0x3600 32 [0x09] (.uint 2) .rw true .lyr (.int 50) [(1, 60000)],
  wrRow 0x3600 32 [0x0A] (.uint 1) .rw true .lyr (.int 0) [(0, 1)],
  wrRow 0x3600 32 [0x0B] (.uint 4) .rw true .lyr (.int 0) [],
  wrRow 0x3600 32 [0x0C] (.uint 2) .rw true .lyr (.int 819) [(0, 16384)],
  wrRow 0x3600 32 [0x0D] (.uint 2) .rw true .lyr (.int 640) [(1, 16384)],
  wrRow 0x3600 32 [0x0E] (.uint 2) .rw true .lyr (.int 8) [],
  wrRow 0x3600 32 [0x0F] (.uint 2) .rw true .lyr (.int 25) [(1, 60000)],
  wrRow 0x3600 32 [0x10] (.uint 2) .rw true .lyr (.int 100) [(1, 60000)],
  wrRow 0x3600 32 [0x11] (.uint 1) .rw true .lyr (.int 0) [(0, 1)],
  roRow 0x3600 32 [0x20] (.uint 2),
  roRow 0x3600 32 [0x21] (.sint 4),
  roRow 0x3600 32 [0x22] (.uint 2),
  roRow 0x3600 32 [0x23] (.uint 2),
  roRow 0x3600 32 [0x24] (.uint 2),
  roRow 0x3600 32 [0x25] (.uint 2),
  roRow 0x3600 32 [0x26] (.bool),
  roRow 0x3600 32 [0x27] (.uint 4),
  roRow 0x3600 32 [0x28] (.uint 4),
  roRow 0x3600 32 [0x29] (.uint 4),
  roRow 0x3600 32 [0x2A] (.uint 4),
  roRow 0x3600 32 [0x2B] (.uint 4),
  wrRow 0x3600 1 [0x40] (.bool) .rw true .lyr (.int 1) [],
  wrRow 0x3600 1 [0x41] (.sint 4) .rw true .lyr (.int (-4000000)) [],
  wrRow 0x3600 1 [0x42] (.sint 4) .rw true .lyr (.int (-4000000)) [],
  wrRow 0x3600 1 [0x43] (.uint 4) .rw true .lyr (.int 4000) [(800, 800000)],
  wrRow 0x3600 1 [0x44] (.uint 2) .rw true .lyr (.int 2000) [(1, 4096)],
  wrRow 0x3600 1 [0x45] (.uint 2) .rw true .lyr (.int 2000) [(1, 4096)],
  wrRow 0x3600 1 [0x46] (.uint 1) .rw true .lyr (.int 255) [],
  wrRow 0x3600 1 [0x47] (.sint 4) .rw true .lyr (.int (-4000000)) [],
  wrRow 0x3600 1 [0x48] (.sint 4) .rw true .lyr (.int (-4000000)) [],
  wrRow 0x3600 1 [0x49] (.uint 4) .rw true .lyr (.int 32000) [(8000, 320000)],
  wrRow 0x3600 1 [0x4A] (.uint 2) .rw true .lyr (.int 49152) [],
  wrRow 0x3600 1 [0x4B] (.uint 4) .rw true .lyr (.int 1000000000) [(1, 4294967295)],
  roRow 0x3600 1 [0x4C] (.table 4 65536 false),
  roRow 0x3600 1 [0x4D] (.uint 4),
  roRow 0x3600 1 [0x4E] (.uint 4),
  roRow 0x3600 1 [0x4F] (.uint 4),
  roRow 0x3600 1 [0x50] (.uint 4),
  roRow 0x3600 1 [0x51] (.uint 8),
  roRow 0x3600 1 [0x52] (.octets 32),
  roRow 0x3600 1 [0x53] (.uint 4),
  roRow 0x3600 1 [0x54] (.uint 4),
  roRow 0x3600 1 [0x55, 0x56, 0x57, 0x58, 0x59, 0x5A, 0x5B, 0x5C] (.table 1 16777216 true)]

/-- The objects of chapter 11. -/
def objects11 : List ObjRow := [
  wrRow 0x3700 256 [0x00] (.uint 1) .rw true .lyr (.int 1) [],
  wrRow 0x3700 256 [0x01] (.sint 4) .rw true .lyr (.int 0) [],
  wrRow 0x3700 256 [0x02] (.sint 4) .rw true .lyr (.int 0) [],
  wrRow 0x3700 256 [0x03] (.sint 4) .rw true .lyr (.int 0) [],
  wrRow 0x3700 256 [0x04] (.sint 4) .rw true .lyr (.int 0) [],
  wrRow 0x3700 256 [0x05] (.uint 4) .rw true .lyr (.int 80000) [(0, 800000)],
  wrRow 0x3700 256 [0x06] (.uint 1) .rw true .lyr (.int 2) [(0, 16)],
  wrRow 0x3700 256 [0x07] (.uint 2) .rw true .lyr (.int 16) [(4, 65535)],
  wrRow 0x3700 256 [0x08] (.uint 4) .rw true .lyr (.int 8000) [(0, 800000)],
  wrRow 0x3700 256 [0x09] (.f32) .rw true .lyr (.int 0x41200000) [],
  wrRow 0x3700 256 [0x0A] (.f32) .rw true .lyr (.int 0x42480000) [],
  wrRow 0x3700 256 [0x0B] (.f32) .rw true .lyr (.int 0x41C80000) [],
  wrRow 0x3700 256 [0x0C] (.uint 2) .rw true .lyr (.int 8192) [(0, 16384)],
  roRow 0x3700 256 [0x10] (.uint 4),
  roRow 0x3700 256 [0x11] (.uint 1),
  roRow 0x3700 256 [0x12] (.uint 1),
  roRow 0x3700 256 [0x13] (.uint 4),
  roRow 0x3700 256 [0x14] (.uint 4),
  roRow 0x3700 256 [0x15] (.f32),
  roRow 0x3700 256 [0x16] (.f32),
  roRow 0x3700 256 [0x17] (.f32),
  roRow 0x3700 256 [0x18] (.f32),
  roRow 0x3700 256 [0x19] (.sint 4),
  roRow 0x3700 256 [0x1A] (.sint 4),
  roRow 0x3700 256 [0x1B] (.f32),
  roRow 0x3700 256 [0x1C] (.f32),
  roRow 0x3700 256 [0x1D] (.uint 1),
  roRow 0x3700 256 [0x1E] (.uint 1),
  roRow 0x3700 256 [0x1F] (.uint 4),
  wrRow 0x3800 32 [0x00] (.sint 4) .rw true .lyr (.int (-2000000)) [],
  wrRow 0x3800 32 [0x01] (.sint 4) .rw true .lyr (.int (-2000000)) [],
  wrRow 0x3800 32 [0x02] (.uint 4) .rw true .lyr (.int 62500) [(1000, 62500)],
  wrRow 0x3800 32 [0x03] (.table 4 12675 false) .rw true .lyr (.oct (List.replicate 50700 0)) [],
  wrRow 0x3800 32 [0x04] (.sint 4) .rw true .lyr (.int 163840) [],
  wrRow 0x3800 32 [0x05] (.sint 4) .rw true .lyr (.int 0) [],
  wrRow 0x3800 32 [0x06] (.sint 4) .rw true .lyr (.int 0) [],
  wrRow 0x3800 32 [0x07] (.sint 4) .rw true .lyr (.int 163840) [],
  wrRow 0x3800 32 [0x08] (.bool) .rw true .lyr (.int 1) [],
  roRow 0x3800 32 [0x10] (.uint 4),
  roRow 0x3800 32 [0x11] (.uint 4),
  roRow 0x3800 32 [0x12] (.uint 4),
  roRow 0x3800 32 [0x13] (.uint 4),
  roRow 0x3800 32 [0x14] (.f32)]

/-- The objects of chapter 12. -/
def objects12 : List ObjRow := [
  wrRow 0x5000 64 [0x00] (.bool) .rws true .stp (.int 1) [],
  wrRow 0x5000 64 [0x01] (.octets 8) .rws true .stp (.oct (List.replicate 8 0)) [],
  wrRow 0x5000 64 [0x02] (.uint 2) .rws true .stp (.int 20) [(1, 1000)],
  wrRow 0x5000 64 [0x03] (.uint 1) .wo false .imm (.int 0) [(1, 1)],
  wrRow 0x5000 64 [0x04] (.octets 40) .wo false .imm (.int 0) [],
  roRow 0x5000 64 [0x05] (.uint 1),
  roRow 0x5000 64 [0x06] (.octets 36),
  roRow 0x5000 64 [0x10] (.uint 1),
  roRow 0x5000 64 [0x11] (.uint 1),
  roRow 0x5000 64 [0x12] (.uint 2),
  roRow 0x5000 64 [0x13] (.uint 2),
  roRow 0x5000 64 [0x14] (.uint 4),
  roRow 0x5000 64 [0x15] (.octets 8),
  roRow 0x5000 64 [0x16] (.uint 4),
  roRow 0x5000 64 [0x17] (.uint 1),
  roRow 0x5000 64 [0x18] (.uint 4),
  roRow 0x5000 64 [0x19] (.uint 2),
  roRow 0x5000 64 [0x1A] (.sint 2),
  roRow 0x5000 64 [0x1B] (.uint 2),
  roRow 0x5000 64 [0x20] (.uint 4),
  roRow 0x5000 64 [0x21] (.uint 4),
  roRow 0x5000 64 [0x22] (.uint 4),
  roRow 0x5000 64 [0x23] (.uint 4),
  roRow 0x5000 64 [0x24] (.uint 4),
  roRow 0x5000 64 [0x25] (.uint 4),
  roRow 0x5000 64 [0x26] (.uint 4),
  roRow 0x5000 64 [0x27] (.uint 4),
  wrRow 0x3000 32 [0x06] (.uint 2) .rw true .imm (.int 100) [(1, 60000)],
  roRow 0x3000 32 [0x07] (.uint 2),
  roRow 0x3000 32 [0x08] (.uint 2),
  roRow 0x3000 32 [0x09] (.uint 1),
  roRow 0x3000 32 [0x0A] (.uint 1),
  roRow 0x3000 32 [0x0B] (.uint 4)]

/-- The objects of chapter 13. -/
def objects13 : List ObjRow := [
  wrRow 0x2400 1 [0x00] (.bool) .rw true .boot (.int 0) [],
  wrRow 0x2400 1 [0x01] (.uint 1) .rw true .boot (.int 0) [(0, 1)],
  wrRow 0x2400 1 [0x02] (.uint 1) .rw true .boot (.int 0) [(0, 1)],
  wrRow 0x2400 1 [0x03] (.uint 2) .rws true .stp (.int 3) [(2, 100)],
  wrRow 0x2400 1 [0x04] (.uint 2) .rws true .stp (.int 10) [(2, 10000)],
  wrRow 0x2400 1 [0x05] (.bool) .rw true .imm (.int 1) [],
  wrRow 0x2400 1 [0x06] (.uint 4) .rw true .imm (.int 6000000) [(100000, 360000000)],
  wrRow 0x2400 1 [0x07] (.uint 4) .rw true .imm (.int 100000) [(10000, 6000000)],
  wrRow 0x2400 1 [0x08] (.uint 4) .rw true .imm (.int 255) [(0, 511)],
  wrRow 0x2400 1 [0x09] (.uint 1) .wo false .imm (.int 0) [(1, 1)],
  roRow 0x2401 1 [0x00] (.uint 1),
  roRow 0x2401 1 [0x01] (.uint 1),
  roRow 0x2401 1 [0x02] (.uint 1),
  roRow 0x2401 1 [0x03] (.uint 1),
  roRow 0x2401 1 [0x04] (.uint 1),
  roRow 0x2401 1 [0x05] (.uint 4),
  roRow 0x2401 1 [0x06] (.uint 4),
  roRow 0x2401 1 [0x07] (.uint 4),
  roRow 0x2401 1 [0x08] (.uint 4),
  roRow 0x2401 1 [0x09] (.uint 4),
  roRow 0x2401 1 [0x0A] (.uint 1),
  roRow 0x2401 1 [0x0B] (.uint 1),
  roRow 0x2401 1 [0x0C] (.sint 4),
  roRow 0x2401 1 [0x0D] (.uint 4),
  roRow 0x2401 1 [0x0E] (.uint 8),
  roRow 0x2401 1 [0x0F] (.uint 1),
  roRow 0x2401 1 [0x10] (.uint 4),
  roRow 0x2401 1 [0x11] (.octets 64),
  roRow 0x2401 1 [0x12] (.uint 8)]

/-- The objects of chapter 14. -/
def objects14 : List ObjRow := [
  wrRow 0x4000 8 [0x00] (.bool) .rws true .stp (.int 1) [],
  wrRow 0x4000 8 [0x01] (.uint 4) .rw true .lyr (.int 12800) [(1, 1024000)],
  wrRow 0x4000 8 [0x02] (.uint 4) .rw true .lyr (.int 1024000) [(1000, 100000000)],
  wrRow 0x4000 8 [0x03] (.uint 4) .rw true .lyr (.int 102400) [(1, 1024000)],
  wrRow 0x4000 8 [0x04] (.uint 4) .rw true .lyr (.int 512000) [(1000, 100000000)],
  wrRow 0x4000 8 [0x05] (.uint 4) .rw true .lyr (.int 256000) [(1, 1024000)],
  wrRow 0x4000 8 [0x06] (.uint 4) .rw true .lyr (.int 512000) [(1000, 100000000)],
  wrRow 0x4000 8 [0x07] (.uint 4) .rw true .lyr (.int 1024000) [(1000, 100000000)],
  wrRow 0x4000 8 [0x08] (.uint 4) .rw true .lyr (.int 12800) [(1, 1024000)],
  wrRow 0x4000 8 [0x09] (.sint 4) .rw true .lyr (.int (-2147483648)) [],
  wrRow 0x4000 8 [0x0A] (.sint 4) .rw true .lyr (.int 2147483647) [],
  wrRow 0x4000 8 [0x0B] (.uint 4) .rw true .lyr (.int 1000) [(1, 6000000)],
  wrRow 0x4000 8 [0x10] (.table 2 256 false) .rws true .stp (.int 0) [],
  wrRow 0x4000 8 [0x11] (.uint 2) .rw true .lyr (.int 1000) [(0, 20000)],
  wrRow 0x4000 8 [0x12] (.uint 2) .rw true .lyr (.int 500) [(0, 20000)],
  wrRow 0x4000 8 [0x13] (.uint 4) .rw true .lyr (.int 50000) [(0, 6000000)],
  wrRow 0x4000 8 [0x14] (.uint 4) .rw true .lyr (.int 1000) [(10, 100000)],
  wrRow 0x4000 8 [0x15] (.uint 4) .rw true .lyr (.int 2000) [(0, 1000000)],
  wrRow 0x4000 8 [0x16] (.uint 4) .rw true .lyr (.int 50) [(1, 100000)],
  wrRow 0x4000 8 [0x17] (.uint 4) .rw true .lyr (.int 48000) [(5000, 100000)],
  wrRow 0x4000 8 [0x18] (.uint 2) .rw true .lyr (.int 9800) [(0, 10000)],
  wrRow 0x4000 8 [0x20] (.bool) .rw true .lyr (.int 0) [],
  wrRow 0x4000 8 [0x21] (.uint 4) .rw true .lyr (.int 51200) [(1, 1024000)],
  wrRow 0x4000 8 [0x22] (.uint 2) .rw true .lyr (.int 16) [(0, 64)],
  wrRow 0x4000 8 [0x23] (.uint 1) .rw true .lyr (.int 70) [(1, 90)],
  wrRow 0x4000 8 [0x24] (.uint 1) .rw true .lyr (.int 2) [(1, 64)],
  wrRow 0x4000 8 [0x30] (.uint 1) .rw true .imm (.int 0) [(0, 2)],
  wrRow 0x4000 8 [0x31] (.uint 1) .rw true .imm (.int 0) [(0, 1)],
  wrRow 0x4000 8 [0x32] (.uint 4) .rw true .imm (.int 6400) [(1, 1024000)],
  wrRow 0x4000 8 [0x33] (.uint 4) .rw true .imm (.int 2560000) [(1, 2147483647)],
  wrRow 0x4000 8 [0x34] (.uint 4) .rw true .imm (.int 5120) [(1, 2147483647)],
  wrRow 0x4000 8 [0x35] (.uint 4) .rw true .imm (.int 25600) [(100, 1024000)],
  wrRow 0x4000 8 [0x36] (.uint 4) .rw true .imm (.int 1280) [(1, 1024000)],
  wrRow 0x4000 8 [0x37] (.uint 4) .rw true .imm (.int 10000) [(1, 1000000)],
  wrRow 0x4000 8 [0x38] (.sint 4) .rw true .imm (.int 0) [],
  wrRow 0x4000 8 [0x39] (.uint 2) .rw true .imm (.int 20) [(1, 10000)],
  wrRow 0x4000 8 [0x3A] (.uint 4) .rw true .imm (.int 50000) [(10, 6000000)],
  wrRow 0x4000 8 [0x3B] (.uint 1) .rw true .imm (.int 0) [(0, 7)],
  wrRow 0x4000 8 [0x40] (.uint 1) .wo false .imm (.int 0) [(1, 4)],
  wrRow 0x4000 8 [0x41] (.octets 16) .wo false .imm (.int 0) [],
  wrRow 0x4000 8 [0x42] (.sint 4) .wo false .imm (.int 0) [],
  wrRow 0x4000 8 [0x43] (.sint 4) .wo false .imm (.int 0) [],
  roRow 0x4000 8 [0x50] (.uint 1),
  roRow 0x4000 8 [0x51] (.uint 1),
  roRow 0x4000 8 [0x52] (.sint 4),
  roRow 0x4000 8 [0x53] (.sint 4),
  roRow 0x4000 8 [0x54] (.bool),
  roRow 0x4000 8 [0x55] (.uint 2),
  roRow 0x4000 8 [0x56] (.uint 1),
  roRow 0x4000 8 [0x57] (.uint 1),
  wrRow 0x4000 8 [0x58] (.uint 1) .rw false .imm (.int 0) [(0, 0)],
  roRow 0x4000 8 [0x59] (.sint 4),
  roRow 0x4000 8 [0x5A] (.uint 4),
  roRow 0x4000 8 [0x5B] (.uint 4),
  roRow 0x4000 8 [0x5C] (.uint 4),
  roRow 0x4000 8 [0x5D] (.uint 4),
  roRow 0x4000 8 [0x5E] (.bool)]

/-- The objects of chapter 15. -/
def objects15 : List ObjRow := [
  wrRow 0x4100 16 [0x00] (.bool) .rw true .imm (.int 0) [],
  wrRow 0x4100 16 [0x01] (.uint 1) .rws true .stp (.int 16) [(1, 16)],
  wrRow 0x4100 16 [0x02] (.uint 1) .rws true .stp (.int 0) [(0, 3)],
  wrRow 0x4100 16 [0x03] (.uint 2) .rw true .imm (.int 0) [],
  wrRow 0x4100 16 [0x04] (.uint 2) .rw true .imm (.int 0) [],
  wrRow 0x4100 16 [0x05] (.uint 1) .rw true .imm (.int 0) [(0, 2)],
  wrRow 0x4100 16 [0x06] (.uint 1) .rw true .imm (.int 255) [(0, 19), (255, 255)],
  wrRow 0x4100 16 [0x07] (.uint 2) .rw true .imm (.int 0) [(0, 4095)],
  wrRow 0x4100 16 [0x08] (.uint 4) .rw true .imm (.int 1048575) [(0, 1048575)],
  wrRow 0x4100 16 [0x09] (.uint 2) .rw true .imm (.int 1024) [(0, 3850)],
  wrRow 0x4100 16 [0x0A] (.uint 2) .rw true .imm (.int 200) [(1, 4095)],
  wrRow 0x4100 16 [0x0B] (.uint 2) .rw true .imm (.int 400) [(0, 4095)],
  wrRow 0x4100 16 [0x0C] (.bool) .wo false .imm (.int 0) [(1, 1)],
  roRow 0x4100 16 [0x10] (.uint 1),
  roRow 0x4100 16 [0x11] (.uint 2),
  roRow 0x4100 16 [0x12] (.uint 2),
  roRow 0x4100 16 [0x13] (.uint 2),
  roRow 0x4100 16 [0x14] (.uint 4),
  roRow 0x4100 16 [0x15] (.bool),
  roRow 0x4100 16 [0x16] (.uint 2),
  roRow 0x4100 16 [0x17] (.table 2 16 false),
  roRow 0x4100 16 [0x18] (.uint 4),
  roRow 0x4100 16 [0x19] (.uint 4),
  wrRow 0x4100 1 [0x40, 0x43, 0x46, 0x49] (.uint 1) .rw true .imm (.int 255) [(0, 47), (255, 255)],
  wrRow 0x4100 1 [0x41, 0x44, 0x47, 0x4A] (.sint 2) .rw true .imm (.int 1600) [],
  wrRow 0x4100 1 [0x42, 0x45, 0x48, 0x4B] (.sint 4) .rw true .imm (.int 0) [(-65536, 65536)]]

/-- The objects of chapter 16. -/
def objects16 : List ObjRow := [
  wrRow 0x4200 1 [0x00] (.uint 1) .wo false .imm (.int 0) [(1, 3)],
  wrRow 0x4200 1 [0x01] (.uint 1) .rws false .stp (.int 0) [(0, 1)],
  wrRow 0x4200 1 [0x02] (.table 1 16777216 true) .rws false .stp (.oct []) [],
  wrRow 0x4200 1 [0x03] (.uint 4) .rws false .stp (.int 16777216) [(20, 16777216)],
  wrRow 0x4200 1 [0x04] (.uint 2) .rws false .stp (.int 32768) [(1, 32768)],
  roRow 0x4200 1 [0x10] (.uint 1),
  roRow 0x4200 1 [0x11] (.uint 4),
  roRow 0x4200 1 [0x12] (.uint 4),
  roRow 0x4200 1 [0x13] (.table 1 16777216 true),
  roRow 0x4200 1 [0x14] (.uint 1),
  roRow 0x4200 1 [0x15] (.uint 4),
  roRow 0x4200 1 [0x16] (.uint 4),
  roRow 0x4200 1 [0x20] (.uint 4),
  roRow 0x4200 1 [0x21] (.uint 4),
  roRow 0x4200 1 [0x22] (.uint 4),
  roRow 0x4200 1 [0x23] (.uint 4)]

/-- The objects of chapter 17. -/
def objects17 : List ObjRow := [
  roRow 0x2200 1 [0x00] (.sint 2),
  roRow 0x2200 1 [0x01] (.octets 16),
  wrRow 0x2200 1 [0x02] (.sint 2) .rw true .imm (.int 7040) [(3200, 7360)],
  roRow 0x2200 1 [0x03] (.sint 2),
  roRow 0x2200 1 [0x04] (.uint 4),
  roRow 0x2200 1 [0x05] (.uint 4),
  roRow 0x2200 1 [0x06] (.uint 1),
  wrRow 0x2210 48 [0x00] (.uint 1) .rws true .stp (.int 0) [],
  wrRow 0x2210 48 [0x01] (.uint 2) .rw true .imm (.int 16515) [(14746, 19661)],
  wrRow 0x2210 48 [0x02] (.uint 2) .rw true .imm (.int 100) [(1, 10000)],
  wrRow 0x2210 48 [0x03] (.uint 4) .rws true .stp (.int 10000000) [(100000, 1000000000)],
  wrRow 0x2210 48 [0x04] (.uint 4) .rw true .imm (.int 10000000) [],
  wrRow 0x2210 48 [0x05] (.uint 2) .rw true .imm (.int 3435) [(1000, 10000)],
  wrRow 0x2210 48 [0x06] (.table 8 33 false) .rw true .imm (.oct (List.replicate 264 0)) [],
  wrRow 0x2210 48 [0x07] (.sint 2) .rw true .imm (.int 0) [(-640, 640)],
  wrRow 0x2210 48 [0x08] (.uint 2) .rw true .imm (.int 0) [],
  wrRow 0x2210 48 [0x09] (.uint 1) .rw true .imm (.int 50) [(1, 255)],
  wrRow 0x2210 48 [0x0A] (.uint 2) .rw true .imm (.int 1) [(1, 600)],
  wrRow 0x2210 48 [0x0B] (.uint 1) .rw true .imm (.int 0) [(0, 2)],
  wrRow 0x2210 48 [0x0C] (.uint 2) .rw true .imm (.int 10) [(1, 1000)],
  wrRow 0x2210 48 [0x0D] (.uint 4) .rw true .imm (.int 0) [],
  wrRow 0x2210 48 [0x0E] (.uint 1) .rw true .imm (.int 0) [],
  roRow 0x2210 48 [0x10] (.sint 2),
  roRow 0x2210 48 [0x11] (.uint 1),
  roRow 0x2210 48 [0x12] (.uint 2),
  roRow 0x2210 48 [0x13] (.sint 4),
  roRow 0x2210 48 [0x14] (.uint 1),
  roRow 0x2210 48 [0x15] (.uint 4),
  roRow 0x2210 48 [0x16] (.uint 4),
  roRow 0x2100 1 [0x00, 0x01, 0x02, 0x03, 0x04, 0x05] (.uint 2),
  roRow 0x2100 1 [0x06] (.uint 2),
  roRow 0x2100 1 [0x07] (.octets 8),
  roRow 0x2100 1 [0x08] (.uint 1),
  wrRow 0x2100 1 [0x09] (.uint 4) .rw false .imm (.int 0) [(0, 0)],
  wrRow 0x2100 1 [0x0A] (.uint 4) .rws true .stp (.int 2000) [(100, 10000)],
  roRow 0x2100 1 [0x0B] (.bool),
  roRow 0x2100 1 [0x0C] (.uint 1),
  wrRow 0x2100 1 [0x0D] (.uint 4) .rw true .imm (.int 10000) [(1, 6000000)],
  wrRow 0x2100 1 [0x0E] (.uint 2) .rw true .imm (.int 10800) [(10000, 12000)],
  roRow 0x2100 1 [0x0F] (.uint 4),
  wrRow 0x2100 1 [0x10] (.uint 4) .rw true .boot (.int 10000) [(0, 6000000)],
  wrRow 0x2110 16 [0x00] (.uint 1) .wo false .imm (.int 0) [(0, 2)],
  wrRow 0x2110 16 [0x01] (.uint 4) .rw true .imm (.int 5000) [(10, 100000)],
  wrRow 0x2110 16 [0x02] (.uint 4) .rws true .stp (.int 5000) [(100, 1000000)],
  wrRow 0x2110 16 [0x03] (.uint 2) .rw true .imm (.int 20) [(1, 100)],
  wrRow 0x2110 16 [0x04] (.uint 4) .rw true .imm (.int 1000) [(10, 100000)],
  wrRow 0x2110 16 [0x05] (.uint 4) .rw true .imm (.int 5000) [],
  wrRow 0x2110 16 [0x06] (.uint 2) .rw true .imm (.int 20000) [(1000, 60000)],
  wrRow 0x2110 16 [0x07] (.uint 1) .rw true .imm (.int 0) [(0, 10)],
  wrRow 0x2110 16 [0x08] (.uint 4) .rw true .imm (.int 100000) [(1000, 6000000)],
  wrRow 0x2110 16 [0x09] (.uint 1) .rw true .imm (.int 4) [(2, 2), (4, 5)],
  wrRow 0x2110 16 [0x0A] (.bool) .rw true .imm (.int 1) [],
  wrRow 0x2110 16 [0x0B] (.uint 1) .rw true .boot (.int 0) [(0, 4)],
  roRow 0x2110 16 [0x10] (.uint 1),
  roRow 0x2110 16 [0x11] (.uint 4),
  roRow 0x2110 16 [0x12] (.uint 2),
  roRow 0x2110 16 [0x13] (.uint 1),
  roRow 0x2110 16 [0x14] (.uint 4)]

/-- The objects of chapter 18. -/
def objects18 : List ObjRow := [
  wrRow 0x4300 81 [0x00] (.sint 2) .rw true .lyr (.int 0) [(-512, 511)],
  wrRow 0x4300 81 [0x01] (.sint 2) .rw true .lyr (.int 0) [(-512, 511)],
  wrRow 0x4300 81 [0x02] (.uint 1) .wo false .stp (.int 0) [(1, 1)],
  roRow 0x4300 81 [0x03] (.uint 1),
  roRow 0x4300 81 [0x04] (.sint 2),
  roRow 0x4300 81 [0x05] (.sint 2),
  roRow 0x4300 81 [0x06] (.uint 8),
  roRow 0x4300 81 [0x07] (.uint 4),
  wrRow 0x4351 1 [0x00, 0x01, 0x02, 0x03] (.uint 2) .rw true .imm (.int 64) [(1, 32767)],
  wrRow 0x4400 32 [0x00] (.bool) .rw true .imm (.int 0) [],
  roRow 0x4400 32 [0x01] (.uint 2),
  roRow 0x4400 32 [0x02] (.bool),
  roRow 0x4400 32 [0x03] (.uint 2),
  roRow 0x4400 32 [0x04] (.uint 2),
  roRow 0x4400 32 [0x05] (.uint 2),
  roRow 0x4400 32 [0x06] (.uint 4)]

/-- The objects of chapter 19. -/
def objects19 : List ObjRow := [
  wrRow 0x1200 1 [0x00] (.uint 1) .wo false .imm (.int 0) [(1, 3)],
  roRow 0x1200 1 [0x01] (.uint 1),
  roRow 0x1200 1 [0x02, 0x03, 0x04] (.uint 4),
  roRow 0x1200 1 [0x05] (.uint 2),
  roRow 0x1200 1 [0x06] (.uint 8),
  roRow 0x1201 1 [0x00] (.uint 4),
  roRow 0x1201 1 [0x01] (.octets 3),
  roRow 0x1201 1 [0x02] (.uint 1),
  roRow 0x1201 1 [0x03] (.uint 4),
  roRow 0x1201 1 [0x04] (.octets 64),
  roRow 0x1201 1 [0x05] (.uint 4),
  roRow 0x1202 1 [0x00] (.uint 1),
  roRow 0x1202 1 [0x01] (.uint 1),
  roRow 0x1202 1 [0x02, 0x03] (.uint 1),
  roRow 0x1202 1 [0x04, 0x05] (.uint 4),
  wrRow 0x1202 1 [0x06] (.table 1 16777216 true) .wo false .imm (.int 0) [],
  roRow 0x1202 1 [0x07] (.uint 4),
  wrRow 0x1202 1 [0x08] (.uint 1) .wo false .imm (.int 0) [(0, 1)],
  roRow 0x2300 1 [0x00, 0x01] (.uint 2),
  roRow 0x2300 1 [0x02, 0x03] (.uint 1),
  roRow 0x2300 1 [0x04] (.bool),
  wrRow 0x2300 1 [0x05] (.uint 4) .rw true .imm (.int 360000000) [(6000000, 4000000000)],
  wrRow 0x2300 1 [0x06] (.uint 4) .rw true .imm (.int 100000) [(10000, 6000000)],
  roRow 0x2300 1 [0x07, 0x08] (.uint 4),
  roRow 0x2300 1 [0x10, 0x11, 0x12, 0x13] (.uint 4),
  roRow 0x2300 1 [0x14, 0x15, 0x16, 0x17] (.uint 4),
  roRow 0x2300 1 [0x18] (.octets 32),
  wrRow 0x2300 1 [0x19] (.uint 1) .wo false .stp (.int 0) [(4, 6), (8, 10), (12, 14)]]

/-- The objects of chapter 20. -/
def objects20 : List ObjRow := [
  roRow 0x1080 1 [0x00] (.uint 4),
  roRow 0x1080 1 [0x01] (.uint 4),
  roRow 0x1080 1 [0x02] (.uint 4),
  roRow 0x1080 1 [0x03] (.uint 4),
  roRow 0x1080 1 [0x04] (.uint 4),
  roRow 0x1080 1 [0x05] (.uint 4),
  wrRow 0x1080 1 [0x06] (.uint 4) .wo false .imm (.int 0) [],
  wrRow 0x1080 1 [0x07] (.uint 4) .rw false .imm (.int 0) [],
  roRow 0x1080 1 [0x08] (.uint 2),
  roRow 0x1080 1 [0x09] (.uint 2),
  roRow 0x1080 1 [0x0A] (.uint 2),
  roRow 0x1080 1 [0x0B] (.uint 1),
  wrRow 0x1080 1 [0x0C] (.uint 1) .wo false .stp (.int 0) [(1, 1)],
  roRow 0x1080 1 [0x0D] (.octets 14),
  roRow 0x1080 1 [0x0E] (.uint 1),
  roRow 0x1081 1 [0x00] (.octets 64),
  roRow 0x1082 1 [0x00] (.table 64 256 true),
  roRow 0x1083 1 [0x00] (.table 64 4080 true)]

/-- The rows whose index lies in the ranges of one chapter, chosen by the index map (Table 3.4). -/
def objectsOf (index : Nat) : List ObjRow :=
  if index < 0x1080 then objects03
  else   if index < 0x1100 then objects20
  else   if index < 0x1200 then objects04
  else   if index < 0x2000 then objects19
  else   if index < 0x2100 then objects02
  else   if index < 0x2300 then objects17
  else   if index < 0x2400 then objects19
  else   if index < 0x3000 then objects13
  else   if index < 0x3100 then objects06 ++ objects12
  else   if index < 0x3200 then objects06
  else   if index < 0x3300 then objects07
  else   if index < 0x3400 then objects08
  else   if index < 0x3600 then objects09
  else   if index < 0x3700 then objects10
  else   if index < 0x4000 then objects11
  else   if index < 0x4100 then objects14
  else   if index < 0x4200 then objects15
  else   if index < 0x4300 then objects16
  else   if index < 0x5000 then objects18
  else   if index < 0x6000 then objects12
  else objects01

end Sys2Proof.Machine
end

