-- ==== Sys2Proof/Machine/Trajectory.lean ====
section
/-! DEFINITION. Jerk-limited trajectories and the path planner (06_scan_execution R157, R162–R164, R186). Speeds,
accelerations and jerks stand in the units of Table 6.3; lengths in 2^-256 count and times in 2^-256 tick (DESIGN CHOICE, assumption 12). -/

namespace Sys2Proof.Machine

/-- One in 2^-64. -/
def one64 : Nat := 2 ^ 64

/-- One in 2^-256, the unit of the geometry and the times of a path. DESIGN CHOICE: assumption 12. -/
def oneP : Nat := 2 ^ 256

/-- A value of a path (2^-256) with the rounding of its computation taken back: the multiple of 2^-156 that it lies within 2^-192 of,
else itself. DESIGN CHOICE: assumption 12. -/
def snapP (x : Int) : Int :=
  let r := Int.fdiv (2 * x + (2 ^ 100 : Nat)) (2 ^ 101 : Nat) * (2 ^ 100 : Nat)
  if (x - r).natAbs ≤ 2 ^ 64 then r else x

/-- `snapP` of a natural. -/
def snapN (x : Nat) : Nat := (snapP x).toNat

/-- A value of a path rounded to the nearest multiple of 2^(k - 256) (R11). -/
def rndP (x : Int) (k : Nat) : Int := rndSar (snapP x) k

/-- A length of a path in whole counts, rounded up. -/
def ceilP (x : Nat) : Nat := (snapN x + oneP - 1) / oneP

/-- `n / d` rounded up. -/
def ceilDiv (n d : Nat) : Nat := (n + d - 1) / d

/-- The least natural whose square is at least `x`. -/
def ceilSqrt (x : Nat) : Nat := let r := isqrt x; if r * r = x then r else r + 1

/-- The duration T of a speed change by `dv` under the limits `a` and `j`, in 2^-16 tick (R162). DESIGN CHOICE: assumption 12. -/
def changeTime (dv a j : Nat) : Nat :=
  if dv * j ≤ a * a then ceilSqrt (ceilDiv (4 * dv * 2 ^ 32) j)
  else ceilDiv (2 ^ 16 * (dv * j + a * a)) (a * j)

/-- |v1 − v2|. -/
def absDiff (v1 v2 : Nat) : Nat := if v1 ≤ v2 then v2 - v1 else v1 - v2

/-- D(v1 → v2) in 2^-256 count (R162): (v1 + v2) × T in 2^-33 count. -/
def changeDist (v1 v2 a j : Nat) : Nat := (v1 + v2) * changeTime (absDiff v1 v2) a j * 2 ^ 223

/-- The largest `v` from `lo` up, in steps of the bits below `k`, at which `ok` holds; `lo` where it never does. -/
def largestV : Nat → Nat → (Nat → Bool) → Nat
  | 0, lo, _ => lo
  | k + 1, lo, ok => largestV k (if ok (lo + 2 ^ k) then lo + 2 ^ k else lo) ok

/-- The largest `v` between `lo` and `hi` at which `ok` holds, for an `ok` that holds up to some speed. -/
def largestIn (lo hi : Nat) (ok : Nat → Bool) : Nat :=
  if ok hi then hi else largestV (hi.log2 + 1) lo (fun v => decide (v ≤ hi) && ok v)

/-- The highest speed of a profile over `len` from `vE` to `vL` (R164): the programmed speed, or what the length allows. -/
def peakSpeed (vE vL vProg len a j : Nat) : Nat :=
  largestIn (Nat.max vE vL) (Nat.max vProg (Nat.max vE vL))
    (fun v => decide (changeDist vE v a j + changeDist v vL a j ≤ len))

/-- A sample along a line: distance, speed and acceleration, each in 2^-256. -/
structure Along where
  s : Int
  v : Int
  a : Int
deriving DecidableEq, Repr, Inhabited

/-- `x * y` of two numbers in 2^-64. -/
def mul64 (x y : Int) : Int := Int.fdiv (x * y) one64

/-- `x * y` of two numbers in 2^-256. -/
def mulP (x y : Int) : Int := Int.fdiv (x * y) oneP

/-- The rise half of a speed change (R162): time `t` after its start, from speed `v` (2^-256), signed change `dv` (2^-256)
in all, whole duration `T` (2^-256), limits `a` and `j`. -/
def changeRise (t T : Nat) (v dv : Int) (a j : Nat) : Along :=
  if T = 0 then { s := 0, v := v, a := 0 }
  else
    let d16 := dv.natAbs / 2 ^ 240
    if d16 * j ≤ a * a then
      { s := mulP v t + Int.fdiv (2 * dv * (t ^ 3 : Nat)) (3 * T ^ 2 * oneP : Nat)
        v := v + Int.fdiv (2 * dv * (t ^ 2 : Nat)) (T ^ 2 : Nat)
        a := Int.fdiv (4 * dv * (t * oneP : Nat)) (T ^ 2 : Nat) }
    else
      let sg : Int := if dv < 0 then -1 else 1
      let tj := T / 2 - isqrt (T ^ 2 / 4 - d16 * 2 ^ 512 / j)
      let j64 : Nat := j * 2 ^ 240
      if t ≤ tj then
        { s := mulP v t + sg * ((j64 * t ^ 3 / (6 * oneP ^ 3) : Nat) : Int)
          v := v + sg * ((j64 * t ^ 2 / (2 * oneP ^ 2) : Nat) : Int)
          a := sg * ((j64 * t / oneP : Nat) : Int) }
      else
        let ap := j64 * tj / oneP
        let u := t - tj
        { s := mulP v t + sg * ((j64 * tj ^ 3 / (6 * oneP ^ 3) + j64 * tj ^ 2 * u / (2 * oneP ^ 3)
                + ap * u ^ 2 / (2 * oneP ^ 2) : Nat) : Int)
          v := v + sg * ((j64 * tj ^ 2 / (2 * oneP ^ 2) + ap * u / oneP : Nat) : Int)
          a := sg * (ap : Int) }

/-- The S-curve of a speed change from `v1` to `v2` (Table 6.3 units) at time `t` (2^-256 tick) after its start (R162): the
second half mirrors the first. -/
def changeAt (t v1 v2 a j : Nat) : Along :=
  let T := changeTime (absDiff v1 v2) a j * 2 ^ 240
  let w1 : Int := (v1 : Int) * (2 ^ 240 : Nat)
  let w2 : Int := (v2 : Int) * (2 ^ 240 : Nat)
  if 2 * t ≤ T then changeRise t T w1 (w2 - w1) a j
  else
    let r := changeRise (T - t) T w2 (w1 - w2) a j
    { s := (changeDist v1 v2 a j : Int) - r.s, v := r.v, a := -r.a }

/-- Duration of a profile in 2^-256 tick: change, cruise, change (R164). -/
def profileTime (vE vP vL len a j : Nat) : Nat :=
  let d := changeDist vE vP a j + changeDist vP vL a j
  (changeTime (absDiff vE vP) a j + changeTime (absDiff vP vL) a j) * 2 ^ 240
    + (if vP = 0 then 0 else (len - d) * 2 ^ 16 / vP)

/-- A profile at time `t` (2^-256 tick) after its start, evaluated in closed form (R162). -/
def profileAt (t vE vP vL len a j : Nat) : Along :=
  let t1 := changeTime (absDiff vE vP) a j * 2 ^ 240
  let t3 := changeTime (absDiff vP vL) a j * 2 ^ 240
  let d1 := changeDist vE vP a j
  let d3 := changeDist vP vL a j
  let t2 := if vP = 0 then 0 else (len - (d1 + d3)) * 2 ^ 16 / vP
  if t < t1 then changeAt t vE vP a j
  else if t < t1 + t2 then
    { s := (d1 : Int) + ((vP * (t - t1) / 2 ^ 16 : Nat) : Int), v := (vP : Int) * (2 ^ 240 : Nat), a := 0 }
  else if t < t1 + t2 + t3 then
    let c := changeAt (t - t1 - t2) vP vL a j
    { s := (len : Int) - (d3 : Int) + c.s, v := c.v, a := c.a }
  else { s := (len : Int), v := (vL : Int) * (2 ^ 240 : Nat), a := 0 }

/-- The time at which a profile has covered `s` on its part at peak speed (R171, R175). -/
def crossTime (s vE vP a j : Nat) : Nat :=
  changeTime (absDiff vE vP) a j * 2 ^ 240
    + (if vP = 0 then 0 else (s - changeDist vE vP a j) * 2 ^ 16 / vP)

/-- A whole count as a coordinate in 2^-256 count. -/
def cnt (x : Int) : Int := x * (oneP : Nat)

/-- Distance between two points in 2^-256 count. -/
def ptDist (p q : Pt) : Nat := isqrt ((q.x - p.x) ^ 2 + (q.y - p.y) ^ 2).toNat

/-- The point at distance `s` (2^-256 count) from `p` along the unit direction `u`. -/
def ptAlong (p : Pt) (ux uy s : Int) : Pt := { x := p.x + mulP ux s, y := p.y + mulP uy s }

/-- The unit direction from `p` to `q` in 2^-256; (1, 0) where they agree. DESIGN CHOICE: assumption 12. -/
def unitDir (p q : Pt) : Int × Int :=
  let d := ptDist p q
  if d = 0 then ((oneP : Nat), 0)
  else (Int.fdiv ((q.x - p.x) * (oneP : Nat)) (d : Nat), Int.fdiv ((q.y - p.y) * (oneP : Nat)) (d : Nat))

/-- A straight piece from `p` to `q` without times: programmed speed `v`, focus from `f0` to `f1`. DESIGN CHOICE: assumption 12. -/
def mkSeg (p q : Pt) (v a j : Nat) (f0 f1 : Int) (light : Light) (ends : List Nat) : Seg :=
  let u := unitDir p q
  { start := p, fin := q, ux := u.1, uy := u.2, len := ptDist p q, vProg := v, vEnter := 0, vPeak := 0, vLeave := 0,
    t0 := 0, dur := 0, f0, f1, fLen := ptDist p q, light, acc := a, jerk := j, next := 0, ends, bytes := 0, inner := false, kind := 0 }

/-- The end point of a segment. -/
def segEnd (g : Seg) : Pt := g.fin

/-- The point of a segment at distance `s` from its start. -/
def segPos (g : Seg) (s : Int) : Pt := if (g.len : Int) ≤ s then g.fin else ptAlong g.start g.ux g.uy s

/-- A segment with its speeds fixed and its time set from `t0` (R164). -/
def timeSeg (g : Seg) (vE vL t0 : Nat) : Seg :=
  let vP := peakSpeed vE vL g.vProg g.len g.acc g.jerk
  { g with vEnter := vE, vPeak := vP, vLeave := vL, t0 := t0, dur := profileTime vE vP vL g.len g.acc g.jerk }

/-- The segment sampled at absolute time `t` (2^-256 tick). -/
def segAt (g : Seg) (t : Nat) : Along :=
  let x := profileAt (t - g.t0) g.vEnter g.vPeak g.vLeave g.len g.acc g.jerk
  { s := snapP x.s, v := snapP x.v, a := snapP x.a }

/-- The time at which a segment ends. -/
def segStop (g : Seg) : Nat := snapN (g.t0 + g.dur)

/-- The rest-to-rest move from `p` to `q` at speed `v` with its time origin at `t0` (R156, R159). -/
def restMove (p q : Pt) (v a j t0 : Nat) (f0 f1 : Int) (ends : List Nat) : Seg :=
  timeSeg (mkSeg p q v a j f0 f1 .dark ends) 0 0 t0

/-- The length of a run-in to speed `v`: D(0 → v) rounded up to a whole count, in counts (R157). -/
def runInCounts (v a j : Nat) : Nat := ceilDiv (changeDist 0 v a j) oneP

/-- |d_in − d_out| of two unit directions, in 2^-256 (R163). DESIGN CHOICE: assumption 12. -/
def turnOf (g h : Seg) : Nat :=
  let dx := snapP (g.ux - h.ux)
  let dy := snapP (g.uy - h.uy)
  isqrt (dx ^ 2 + dy ^ 2).toNat

/-- The join speed that programmed speeds and the corner allow, rounded down (R163). -/
def joinLimit (dvMax : Nat) (g h : Seg) : Nat :=
  let t := turnOf g h
  let m := Nat.min g.vProg h.vProg
  if t = 0 then m else Nat.min m (snapN (dvMax * oneP * oneP / t) / oneP)

/-- The backward pass (R164) over segments in path order: the leaving speed of each, with `last` after the final one. -/
def backward (dvMax last : Nat) : List Seg → List Nat
  | [] => []
  | [_] => [last]
  | g :: h :: rest =>
    match backward dvMax last (h :: rest) with
    | [] => [last]
    | n :: ns =>
      let lim := joinLimit dvMax g h
      let v := if n < lim && decide (h.len < changeDist lim n h.acc h.jerk)
        then largestIn n lim (fun v => decide (changeDist v n h.acc h.jerk ≤ h.len)) else lim
      v :: n :: ns

/-- The forward pass (R164) and the profiles: each segment timed from `t0`, entered at `v0`. -/
def forward : Nat → Nat → List Seg → List Nat → List Seg
  | _, _, [], _ => []
  | _, _, _ :: _, [] => []
  | t0, v0, g :: gs, v :: vs =>
    let w := if v0 < v && decide (g.len < changeDist v0 v g.acc g.jerk)
      then largestIn v0 v (fun x => decide (changeDist v0 x g.acc g.jerk ≤ g.len)) else v
    let g' := timeSeg g v0 w t0
    g' :: forward (segStop g') w gs vs

/-- The plan of a chain from absolute time `t0` at entry speed `v0` (R164). `last` is the speed allowed at its end: 0 at the
horizon, the programmed speed where a run-out follows. DESIGN CHOICE: assumption 12. -/
def planPath (dvMax t0 v0 last : Nat) (gs : List Seg) : List Seg := forward t0 v0 gs (backward dvMax last gs)

/-- The straight run-out after a segment: braking over exactly D(v → 0), with the last segment's focus offset (R157, R158). -/
def runOut (g : Seg) (ends : List Nat) : Seg :=
  let d := changeDist g.vLeave 0 g.acc g.jerk
  { g with start := segEnd g, fin := ptAlong (segEnd g) g.ux g.uy d, len := d, vProg := g.vLeave, vEnter := g.vLeave, vPeak := g.vLeave, vLeave := 0,
           t0 := segStop g, dur := changeTime g.vLeave g.acc g.jerk * 2 ^ 240, f0 := g.f1, f1 := g.f1, fLen := d,
           light := .dark, next := 0, ends := ends, inner := false }

/-- The segment in force at absolute time `t`: the first that has not ended, or the last. -/
def segFor (t : Nat) : List Seg → Option Seg
  | [] => none
  | [g] => some g
  | g :: h :: rest => if t < segStop g then some g else segFor t (h :: rest)

/-- The focus offset of a segment at distance `s`: linear over `fLen`, then at its end value (R158, R186). -/
def focusAt (g : Seg) (s : Int) : Int :=
  if (g.fLen : Int) ≤ s then g.f1 else g.f0 + Int.fdiv ((g.f1 - g.f0) * s) g.fLen

/-- The rate of the focus offset over the distance at `s`, as numerator over `fLen` (R158, R167). -/
def focusSlope (g : Seg) (s : Int) : Int := if (g.fLen : Int) ≤ s then 0 else g.f1 - g.f0

/-- The path stop from a sample of a segment (R186): straight along the segment's direction, from its speed to rest; the focus offset
goes on along the segment from the present sample and rests where the segment ends. DEDUCED: assumption 39. -/
def stopSeg (g : Seg) (t a j : Nat) : Seg :=
  let p := segAt g t
  let v := (rndP p.v 240).toNat
  let d := changeDist v 0 a j
  let left := Nat.min d (g.fLen - p.s.toNat)
  { g with start := segPos g p.s, fin := ptAlong (segPos g p.s) g.ux g.uy d, len := d, vProg := v, vEnter := v, vPeak := v, vLeave := 0,
           t0 := t, dur := changeTime v a j * 2 ^ 240, f0 := focusAt g p.s, f1 := focusAt g (p.s + left), fLen := left,
           light := .dark, acc := a, jerk := j, next := 0, ends := [], bytes := 0, inner := false }

/-- An entry move of one axis at `t` (2^-256 tick) after its origin: position offset, speed, acceleration (R531). -/
def axisAt (m : AxisMove) (t : Nat) : Along :=
  let len := m.dist * oneP
  if m.v0 = 0 then profileAt t 0 m.vPeak 0 len m.a m.j
  else profileAt t m.v0 m.v0 0 (changeDist m.v0 0 m.a m.j) m.a m.j

/-- Duration of an entry move of one axis. -/
def axisTime (m : AxisMove) : Nat :=
  if m.v0 = 0 then profileTime 0 m.vPeak 0 (m.dist * oneP) m.a m.j
  else changeTime m.v0 m.a m.j * 2 ^ 240

/-- The entry move of one axis from `p` to `q` with speed limit `v` (R531). -/
def axisMove (p q : Int) (v a j : Nat) : AxisMove :=
  { origin := p, dist := (q - p).natAbs, neg := decide (q < p), v0 := 0,
    vPeak := peakSpeed 0 0 v ((q - p).natAbs * oneP) a j, a, j }

/-- Speed in mm/s as Table 6.3 holds it: × 5,242.88, rounded. -/
def speedOf (mms : Nat) : Nat := (rndDiv ((mms * 524288 : Nat) : Int) 100).toNat

/-- Acceleration in m/s² as Table 6.3 holds it: × 52.4288, rounded. -/
def accelOf (x : Nat) : Nat := (rndDiv ((x * 524288 : Nat) : Int) 10000).toNat

/-- Jerk in m/s³ as Table 6.3 holds it: × 0.000524288, rounded. -/
def jerkOf (x : Nat) : Nat := (rndDiv ((x * 524288 : Nat) : Int) 1000000000).toNat

end Sys2Proof.Machine
end

