-- ==== Sys2Proof/Machine/ScanPath.lean ====
section
/-! DEFINITION. What a scan engine does with the records of one channel (06_scan_execution R156–R161, R163–R168,
R173–R180, R183, R185, R186, R531). Everything here acts on one channel and a reading of its environment. -/

namespace Sys2Proof.Machine

/-- What one channel's P2 work reads beside the channel itself: objects in force, the correction grid, feedback and
throttle. `now` is the tick m in ticks since start; `gNext` the factor g for tick m + 1 (R263); `node i j q` a grid node
(R167); `partnerOf` and `stoppedOf` tell the other channel of a fen and whether it is STOPPED; `limits` its path limits and
tracking lag. -/
structure ScanEnv where
  n : Nat
  now : Nat
  layer : Nat
  jump : Nat
  a : Nat
  j : Nat
  dv : Nat
  runIn : Bool
  lag : Nat
  leadOn : Nat
  leadOff : Nat
  settleCount : Nat
  settleTimeout : Nat
  throttleDwell : Nat
  focusGain : Int
  pMax : Nat
  entry : Vector (Nat × Nat × Nat) 3
  gx : Int
  gy : Int
  gd : Nat
  node : Nat → Nat → Nat → Int
  throttle : Bool
  errOk : Bool
  gNext : Nat
  gated : Bool
  partnerOf : Nat → Option Nat
  stoppedOf : Nat → Bool
  limits : Nat → Nat × Nat × Nat

/-- The event a channel posts (Table 6.6). -/
def chanEvent (n code : Nat) (sev : Severity) (detail : Bytes) : Event :=
  { poster := .se (n / 2), code, severity := sev, kind := .channel, inst := n, detail, tick := 0 }

/-- Whether a bed point lies outside the field; the test is exact (R167). -/
def outside (e : ScanEnv) (p : Pt) : Bool :=
  let x := snapP p.x
  let y := snapP p.y
  decide (x < cnt e.gx) || decide (cnt (e.gx + 64 * e.gd) < x) || decide (y < cnt e.gy) || decide (cnt (e.gy + 64 * e.gd) < y)

/-- Cell and fraction of one coordinate in 2^-16 count (R167). -/
def gridCell (x x0 : Int) (d : Nat) : Nat × Int :=
  let g := Int.fdiv (x - x0 * 65536) d
  let i := (Int.fdiv g 65536).toNat.min 63
  (i, g - 65536 * (i : Int))

/-- The field transform of a grid at a point in 2^-16 count: cell, fractions and the four nodes weighted (R167). -/
def fieldAt (x0 y0 : Int) (d : Nat) (node : Nat → Nat → Nat → Int) (x y : Int) (q : Nat) : Int :=
  let (i, u) := gridCell x x0 d
  let (j, w) := gridCell y y0 d
  rndDiv ((65536 - u) * (65536 - w) * node i j q + u * (65536 - w) * node (i + 1) j q
    + (65536 - u) * w * node i (j + 1) q + u * w * node (i + 1) (j + 1) q) (2 ^ 32)

/-- The field transform of a point in 2^-16 count (R167). -/
def gridValue (e : ScanEnv) (x y : Int) (q : Nat) : Int := fieldAt e.gx e.gy e.gd e.node x y q

/-- J applied to a vector in 2^-16 count at a point: the numerator over 65,536 × d × 65,536 (R167). -/
def gridSlope (e : ScanEnv) (x y vx vy : Int) (q : Nat) : Int :=
  let (i, u) := gridCell x e.gx e.gd
  let (j, w) := gridCell y e.gy e.gd
  let n00 := e.node i j q
  let n10 := e.node (i + 1) j q
  let n01 := e.node i (j + 1) q
  let n11 := e.node (i + 1) (j + 1) q
  ((65536 - w) * (n10 - n00) + w * (n11 - n01)) * vx + ((65536 - u) * (n01 - n00) + u * (n11 - n10)) * vy

/-- A focus offset in 2^-256 µm from an offset in µm. -/
def foc (f : Int) : Int := f * (oneP : Nat)

/-- Three axis values from a function of the axis. -/
def three (f : Nat → Int) : Vector Int 3 := Vector.ofFn (fun q => f q.val)

/-- The set-point of a bed point with the focus offset `f` (2^-256 µm) (R167). -/
def bedPoint (e : ScanEnv) (p : Pt) (f : Int) : Vector Int 3 :=
  let x := rndP p.x 240
  let y := rndP p.y 240
  three (fun q =>
    if q = 2 then satS 32 (satS 32 (gridValue e x y 2) + satS 32 (rndDiv (snapP f * e.focusGain) (256 * oneP)))
    else satS 32 (gridValue e x y q))

/-- The set-point of a sample of a segment: position and feed-forwards (R158, R167, Table 6.1), the sample of the profile rounded to Table 6.3
before the Jacobian (R162). DEDUCED: assumption 39. -/
def segPoint (e : ScanEnv) (g : Seg) (t : Nat) : SetPoint :=
  let s := segAt g t
  let p := segPos g s.s
  let x := rndP p.x 240
  let y := rndP p.y 240
  let den : Nat := 65536 * e.gd * 65536
  let slope := fun (v : Int) (q : Nat) => gridSlope e x y (rndP (mulP v g.ux) 240) (rndP (mulP v g.uy) 240) q
  let df : Int := Int.fdiv (focusSlope g s.s * s.v) (Nat.max g.fLen 1)
  { pos := bedPoint e p (focusAt g s.s)
    vel := three (fun q => satS 32 (
      if q = 2 then rndDiv (256 * (slope s.v 2 * (256 * oneP : Nat) + e.focusGain * df * (den : Nat))) (den * (256 * oneP))
      else rndDiv (256 * slope s.v q) den))
    acc := three (fun q => satS 32 (rndDiv (65536 * slope s.a q) den))
    hold := Vector.replicate 3 false }

/-- The set-point that repeats the last delivered one (R152, Table 6.1). -/
def holdPoint (p : SetPoint) : SetPoint :=
  { pos := p.pos, vel := three (fun _ => 0), acc := three (fun _ => 0), hold := Vector.replicate 3 true }

/-- A whole-count point. -/
def ptOf (x y : Int) : Pt := { x := cnt x, y := cnt y }

/-- `k` further terms of a power series in the unit `1 / u`: from term `t`, each is the last times `-x²` over `m (m + 1)`. -/
def trigSeries (u : Nat) : Nat → Nat → Int → Int → Int
  | 0, _, _, _ => 0
  | k + 1, m, x2, t => t + trigSeries u k (m + 2) x2 (-(Int.fdiv (Int.fdiv (t * x2) u) (m * (m + 1) : Nat)))

/-- A quarter turn in radians, in 2^-64. -/
def quarterTurn : Nat := 28976077832308491370

/-- A quarter turn in radians, in 2^-256. -/
def quarterTurnP : Nat :=
  181885788445883162140117471388864931326696688664196214979386075558969447233092

/-- Cosine and sine of `k` / 65,536 turn in 2^-256, for `k` below a quarter turn (R129). -/
def trigQuarter (k : Nat) : Int × Int :=
  let x : Int := ((quarterTurnP * k / 16384 : Nat) : Int)
  let x2 := mulP x x
  (trigSeries oneP 36 1 x2 (oneP : Nat), trigSeries oneP 36 2 x2 x)

/-- Cosine and sine of an angle in 1/65,536 turn, in 2^-256 (R128, R129). DESIGN CHOICE: assumption 12. -/
def trigTurn (k : Nat) : Int × Int :=
  let q := (k % 65536) / 16384
  let (c, s) := trigQuarter (k % 16384)
  if q = 0 then (c, s) else if q = 1 then (-s, c) else if q = 2 then (-c, -s) else (s, -c)

/-- The start of line `i` of a RASTER in its direction of exposure, that direction, and the line's end (R129). -/
def rasterLine (serpentine : Bool) (x y : Int) (angle cell pitch cells i : Nat) : Pt × (Int × Int) × Pt :=
  let (c, s) := trigTurn angle
  let p : Pt := { x := cnt x - (i * pitch : Nat) * s, y := cnt y + (i * pitch : Nat) * c }
  let q : Pt := { x := p.x + (cells * cell : Nat) * c, y := p.y + (cells * cell : Nat) * s }
  if serpentine && i % 2 == 1 then (q, (-c, -s), p) else (p, (c, s), q)

/-- The end of the last line of a RASTER (R124). -/
def rasterEnd (serpentine : Bool) (x y : Int) (angle cell pitch cells lines : Nat) : Pt :=
  (rasterLine serpentine x y angle cell pitch cells (lines - 1)).2.2

/-- The point at which the motion of a record ends (R124); none for a record without motion. -/
def recEnd (r : Rec) : Option Pt :=
  match r with
  | .jump _ x y _ _ => some (ptOf x y)
  | .vec _ _ x y _ _ _ _ _ => some (ptOf x y)
  | .poly _ _ _ _ _ pts => match pts.getLast? with | some (x, y) => some (ptOf x y) | none => none
  | .raster sp _ x y an c h cs ls _ _ _ _ => some (rasterEnd sp x y an c h cs ls)
  | .mark _ _ _ _ _ ex ey _ _ _ => some (ptOf ex ey)
  | .dwell _ => none
  | .endRec => none

/-- Whether a record is one that an exposure chain joins (R156). -/
def isChainRec (r : Rec) : Bool :=
  match r with
  | .vec _ _ _ _ _ _ _ _ _ => true
  | .poly _ _ _ _ _ _ => true
  | _ => false

/-- Whether a record is END (R133). -/
def isEndRec (r : Rec) : Bool :=
  match r with
  | .endRec => true
  | _ => false

/-- Segments a record needs in the look-ahead buffer (R164). -/
def recSegs (r : Rec) : Nat :=
  match r with
  | .vec _ _ _ _ _ _ _ _ _ => 1
  | .poly _ _ _ _ _ pts => pts.length
  | _ => 0

/-- The segments of a POLY through points: `total` is the length of the whole path, of which `cum` lies before `p`; the focus offset runs
linearly over it from `f0` by `df` in all (R127, R158). -/
def polySegs (a j v : Nat) (light : Light) (f0 df : Int) (total : Nat) : Nat → Pt → Bool → List (Int × Int) → List Seg
  | _, _, _, [] => []
  | cum, p, inner, (x, y) :: l =>
    let q := ptOf x y
    let next := cum + ptDist p q
    let f := fun (k : Nat) => f0 + Int.fdiv (df * (k : Int)) (Nat.max total 1)
    { mkSeg p q v a j (f cum) (f next) light [] with inner } :: polySegs a j v light f0 df total next q true l

/-- The length of a path from `p` through points (R127). -/
def polyLength (p : Pt) (pts : List (Int × Int)) : Nat :=
  (pts.foldl (fun (acc : Nat × Pt) xy => (acc.1 + ptDist acc.2 (ptOf xy.1 xy.2), ptOf xy.1 xy.2)) (0, p)).1

/-- The first `k` segments of a VEC or POLY from `p`, with the focus offset `f0` at its start (R126, R127, R156, R158). -/
def chainSegs (a j : Nat) (p : Pt) (f0 : Int) (r : Rec) (k : Nat) : List Seg :=
  match r with
  | .vec ramp op x y f sp pw pe tag =>
    let q := ptOf x y
    let light := if ramp then .ramp pw pe 0 (ptDist p q) op tag else .power pw op tag
    [mkSeg p q (speedOf sp) a j f0 (foc f) light []]
  | .poly op f sp pw tag pts =>
    polySegs a j (speedOf sp) (.power pw op tag) f0 (foc f - f0) (polyLength p pts) 0 p false (pts.take k)
  | _ => []

/-- What is left of a POLY after its first `k` points; none of any other record. -/
def polyRest (r : Rec) (k : Nat) : Option Rec :=
  match r with
  | .poly op f sp pw tag pts => if k < pts.length then some (.poly op f sp pw tag (pts.drop k)) else none
  | _ => none

/-- The focus offset that a record brings (R158). -/
def recFocus (r : Rec) (f : Int) : Int :=
  match r with
  | .jump _ _ _ fo _ => foc fo
  | .vec _ _ _ _ fo _ _ _ _ => foc fo
  | .poly _ fo _ _ _ _ => foc fo
  | .raster _ _ _ _ _ _ _ _ _ _ fo _ _ => foc fo
  | .mark _ _ _ _ _ _ _ _ _ fo => foc fo
  | .dwell _ => f
  | .endRec => f

/-- The programmed speed of a record that opens a chain. -/
def recSpeed (r : Rec) : Nat :=
  match r with
  | .vec _ _ _ _ _ sp _ _ _ => speedOf sp
  | .poly _ _ sp _ _ _ => speedOf sp
  | _ => 0

/-- The first point of a VEC or POLY. -/
def recFirst (r : Rec) : Option Pt :=
  match r with
  | .vec _ _ x y _ _ _ _ _ => some (ptOf x y)
  | .poly _ _ _ _ _ pts => match pts with | (x, y) :: _ => some (ptOf x y) | [] => none
  | _ => none

/-- The start of the run-in of a chain that record `r` opens at `p`: a straight extension backward (R157). -/
def runInStart (a j : Nat) (p : Pt) (r : Rec) : Pt :=
  match recFirst r with
  | some q =>
    let u := unitDir p q
    let d : Int := cnt (runInCounts (recSpeed r) a j)
    ptAlong p u.1 u.2 (-d)
  | none => p

/-- The end of a run-out of a chain that record `r` closes, from `p` on (R157). -/
def runOutEnd (a j : Nat) (p : Pt) (r : Rec) : Pt :=
  match (chainSegs a j p 0 r (recSegs r)).getLast? with
  | some g => ptAlong (segEnd g) g.ux g.uy (changeDist g.vProg 0 a j)
  | none => p

/-- The limits of a MARK track: the smaller of the two channels' (R176). -/
def markLimits (e : ScanEnv) (fen : Nat) : Nat × Nat :=
  match e.partnerOf fen with
  | some k => (Nat.min e.a (e.limits k).1, Nat.min e.j (e.limits k).2.1)
  | none => (e.a, e.j)

/-- The start of the run-in of a MARK track (R176). -/
def markStart (e : ScanEnv) (fen : Nat) (p q : Pt) (speed : Nat) : Pt :=
  let (a, j) := markLimits e fen
  let u := unitDir p q
  ptAlong p u.1 u.2 (-(cnt (runInCounts (speedOf speed) a j)))

/-- Whether a test holds of every line of a RASTER: of its first and last two lines, between which the others lie (R129). `test` is given
the start, the direction and the end of the line. -/
def everyLine (sp : Bool) (x y : Int) (an c h cs ls : Nat) (test : Pt → Int × Int → Pt → Bool) : Bool :=
  [0, 1, ls - 2, ls - 1].all (fun i =>
    if i < ls then
      let (p, u, q) := rasterLine sp x y an c h cs i
      test p u q
    else true)

/-- Whether the run-ins of every line of a RASTER lie in the field at speed `v` (R173). -/
def runInsFit (e : ScanEnv) (sp : Bool) (x y : Int) (an c h cs ls v : Nat) : Bool :=
  everyLine sp x y an c h cs ls (fun p u _ => !outside e (ptAlong p u.1 u.2 (-(cnt (runInCounts v e.a e.j)))))

/-- Whether the corners and every run-in and run-out of a RASTER lie in the field at speed `v` (R168). -/
def rasterFits (e : ScanEnv) (sp : Bool) (x y : Int) (an c h cs ls v : Nat) : Bool :=
  runInsFit e sp x y an c h cs ls v && everyLine sp x y an c h cs ls (fun p u q =>
    !outside e p && !outside e q && !outside e (ptAlong q u.1 u.2 (changeDist v 0 e.a e.j)))

/-- The playback speed of a RASTER (R173): record speed, 2.5 µs plus the difference of the leads for each cell, and the
field. -/
def playback (e : ScanEnv) (r : Rec) : Nat :=
  match r with
  | .raster sp _ x y an c h cs ls speed _ _ _ =>
    let diff := absDiff e.leadOn e.leadOff
    let v2 := c * 65536 * 1024 / (256 + diff)
    let m := Nat.min (speedOf speed) v2
    largestIn 1 m (fun v => runInsFit e sp x y an c h cs ls v)
  | _ => 0

/-- Where the move of a JUMP to `q` ends: at the run-in start of the chain that the record after it begins (R157). DEDUCED: assumption 39. -/
def jumpEnd (e : ScanEnv) (q : Pt) (next : Option QRec) : Pt :=
  match next with
  | some v => if isChainRec v.body && e.runIn then runInStart e.a e.j q v.body else q
  | none => q

/-- Whether a record has a point outside the field (R168). `opens` and `closes` say whether it begins and ends an exposure
chain; `p` is the current position before it, and `next` the record after it. DEDUCED: assumption 39. -/
def recOutside (e : ScanEnv) (p : Option Pt) (opens closes : Bool) (next : Option QRec) (r : Rec) : Bool :=
  match r with
  | .jump _ x y _ _ => outside e (ptOf x y) || outside e (jumpEnd e (ptOf x y) next)
  | .vec _ _ x y _ _ _ _ _ =>
    let p0 := p.getD (ptOf x y)
    outside e (ptOf x y) || outside e p0 || (e.runIn && opens && outside e (runInStart e.a e.j p0 r))
      || (e.runIn && closes && outside e (runOutEnd e.a e.j p0 r))
  | .poly _ _ _ _ _ pts =>
    let p0 := p.getD { x := 0, y := 0 }
    pts.any (fun xy => outside e (ptOf xy.1 xy.2)) || outside e p0
      || (e.runIn && opens && outside e (runInStart e.a e.j p0 r))
      || (e.runIn && closes && outside e (runOutEnd e.a e.j p0 r))
  | .raster sp _ x y an c h cs ls _ _ _ _ => !rasterFits e sp x y an c h cs ls (playback e r)
  | .mark _ z _ sx sy ex ey speed _ _ =>
    let s := ptOf sx sy
    let t := ptOf ex ey
    let u := unitDir s t
    let (a, j) := markLimits e z
    outside e s || outside e t || outside e (markStart e z s t speed)
      || outside e (ptAlong t u.1 u.2 (changeDist (speedOf speed) 0 a j))
  | .dwell _ => false
  | .endRec => false

/-- The records of the stream in execution: the claimed item's, or the channel's own (R156). -/
def stream (c : Chan) : List QRec :=
  match c.item with
  | some it => it.recs
  | none => c.ahead

/-- Whether the records of the stream in execution end before one with a point outside the field (R168). -/
def cutShort (c : Chan) : Bool :=
  match c.item with
  | some it => !it.refused.isEmpty
  | none => c.blocked

/-- The records that follow the stream and are not executed, the first of them with a point outside the field (R168). -/
def refused (c : Chan) : List QRec :=
  match c.item with
  | some it => it.refused
  | none => if c.blocked then c.queue else []

/-- The channel with the first record of its stream taken. -/
def popRec (c : Chan) : Chan :=
  match c.item with
  | some it => { c with item := some { it with recs := it.recs.drop 1 } }
  | none => { c with ahead := c.ahead.drop 1 }

/-- Backlog and count after own records of these nominal durations complete (R179). -/
def complete (c : Chan) (ends : List Nat) : Chan :=
  { c with backlog := c.backlog - sumN ends, counts := { c.counts with completed := satU 32 (c.counts.completed + ends.length) } }

/-- The nominal durations a record brings when it completes: none in a claimed item (R179). -/
def ownEnds (c : Chan) (r : QRec) : List Nat := if c.item.isSome then [] else [r.nominal]

/-- Bytes of records in a list. -/
def bytesOf (l : List QRec) : Nat := sumN (l.map (fun r => r.bytes))

/-- Whether the chain would open with this record: the last record of the look-ahead is no VEC or POLY. -/
def opensChain (c : Chan) (taken : List QRec) : Bool :=
  match taken.getLast? with
  | some r => !isChainRec r.body
  | none => !c.chainOpen

/-- The position after the records of the look-ahead buffer, from the end of the channel's own record in execution (R124). -/
def aheadEnd (c : Chan) (taken : List QRec) : Option Pt :=
  taken.foldl (fun p r => match recEnd r.body with | some q => some q | none => p)
    (match c.item with | some it => it.home | none => c.cur)

/-- Bytes that stand in Qn: its records, and the map of a RASTER that is being decoded (R27, R166). -/
def queueBytes (c : Chan) : Nat := bytesOf c.queue + sumN (c.mapWords.map (fun w => w.2))

/-- Bytes of the look-ahead buffer: the records that wait and the channel's own records in execution (R164). -/
def heldBytes (c : Chan) : Nat :=
  bytesOf c.ahead + sumN (c.segs.map (fun g => g.bytes)) + (if c.item.isSome then 0 else ((c.active.map (fun r => r.bytes)).getD 0))

/-- Segments of the look-ahead buffer (R164). -/
def heldSegs (c : Chan) : Nat :=
  sumN (c.ahead.map (fun x => recSegs x.body)) + (if c.item.isSome then 0 else (c.segs.filter (fun g => g.light != .dark)).length)

/-- Fetch from Qn into the look-ahead buffer (R151, R164, R166): whole records, up to 32,768 bytes and 1,024 segments, no
record beyond END (R143), and no record with a point outside the field (R168). One larger than the buffer is held alone; of a RASTER larger
than it only the 40 bytes before the map are fetched, and its map stays at the front of Qn. `fuel` bounds the records. DEDUCED: assumption 39. -/
def fetchRecs (e : ScanEnv) : Nat → Chan → Chan × List Event
  | 0, c => (c, [])
  | k + 1, c =>
    match c.queue with
    | [] => (c, [])
    | r :: rest =>
      let x : QRec := if r.words.isEmpty then r else { r with bytes := 40 }
      let ended := c.atEnd || c.ahead.any (fun x => isEndRec x.body)
      let full := decide (32768 < heldBytes c + x.bytes) && decide (0 < heldBytes c)
        || decide (1024 < heldSegs c + recSegs r.body) && decide (0 < heldSegs c)
      if ended || full || c.blocked || !c.mapWords.isEmpty || r.layer != e.layer then (c, [])
      else
        let closes := match rest with | x :: _ => !isChainRec x.body | [] => true
        if recOutside e (aheadEnd c c.ahead) (opensChain c c.ahead) closes rest.head? r.body then
          ({ c with blocked := true }, [chanEvent e.n 0x0601 .stopChannel (leBytes 4 r.offset)])
        else fetchRecs e k { c with queue := rest, ahead := c.ahead ++ [x], mapWords := r.words }

/-- The records of an item before the first one with a point outside the field, and the records from that one on (R168). -/
def itemInside (e : ScanEnv) : Option Pt → Bool → List QRec → List QRec × List QRec
  | _, _, [] => ([], [])
  | p, opens, r :: rest =>
    let closes := match rest with | x :: _ => !isChainRec x.body | [] => true
    if recOutside e p opens closes rest.head? r.body then ([], r :: rest)
    else
      let x := itemInside e (match recEnd r.body with | some q => some q | none => p) (!isChainRec r.body) rest
      (r :: x.1, x.2)

/-- The claimed item fetched into the look-ahead buffer (R168, R183). -/
def fetchItem (e : ScanEnv) (c : Chan) : Chan × List Event :=
  match c.item with
  | none => (c, [])
  | some it =>
    let x := itemInside e c.cur true it.recs
    match x.2 with
    | [] => (c, [])
    | r :: _ => ({ c with item := some { it with recs := x.1, refused := x.2 } },
        [chanEvent e.n 0x0601 .stopChannel (leBytes 4 r.offset)])

/-- Whether every planned segment has ended at absolute time `t`. -/
def pathDone (c : Chan) (t : Nat) : Bool := c.segs.all (fun g => decide (segStop g ≤ t))

/-- The end of the planned path. -/
def pathEnd (c : Chan) : Option Pt := (c.segs.getLast?).map segEnd

/-- Whether a segment is a speed-limited segment of an exposure chain (R164). -/
def speedLimitedSeg (g : Seg) : Bool :=
  match g.light with
  | .dark => false
  | _ => decide (g.vPeak < g.vProg)

/-- The channel at rest at the end of its path, with the segments laid by for the laser. -/
def settleAt (c : Chan) : Chan :=
  let lim := (c.segs.filter speedLimitedSeg).length
  { c with counts := { c.counts with speedLimited := satU 32 (c.counts.speedLimited + lim) },
           past := c.past ++ c.segs, segs := [], rest := (pathEnd c).orElse (fun _ => c.rest),
           focus := match c.segs.getLast? with | some g => g.f1 | none => c.focus }

/-- After an exposure chain or raster line: a throttle dwell while the request is in force (R185), or on. -/
def afterRun (e : ScanEnv) (c : Chan) : Chan :=
  if e.throttle then
    { c with act := .throttle (e.now + e.throttleDwell),
             counts := { c.counts with throttleDwells := inc32 c.counts.throttleDwells } }
  else { c with act := .ready }

/-- The channel after the last record of its claimed item: back at the current position of its own stream, and in WAIT-END when that stands at
END (R124, R183, R187). -/
def leaveItem (c : Chan) : Chan :=
  match c.item with
  | some it =>
    if it.recs.isEmpty && it.refused.isEmpty then
      { c with item := none, cur := it.home, state := if c.atEnd then .waitEnd else c.state }
    else c
  | none => c

/-- The path up to time `t`, as the laser still meets it after the path ends there: no event of it is to come (R186). -/
def cutPath (c : Chan) (t : Nat) : List Seg :=
  let run := c.segs.filter (fun g => decide (g.t0 < t))
  (c.past ++ run.map (fun (g : Seg) => { g with dur := Nat.min g.dur (t - g.t0) })).map (fun (g : Seg) => { g with next := 2 ^ 32 })

/-- What a channel stop leaves of the motion in progress (R186): at rest, or braking from the present sample; `holdNow` is the
feedback-fault hold. DEDUCED: assumption 38. -/
def brake (e : ScanEnv) (c : Chan) (holdNow : Bool) : Chan :=
  let t := e.now * oneP
  let held := { c with segs := [], past := cutPath c t, act := .hold }
  if holdNow then { held with rest := none }
  else match c.act with
    | .entry moves origin p _ =>
      if origin * oneP < t then
        { c with act := .entry (moves.map (fun m =>
            let s := axisAt m (t - origin * oneP)
            { m with origin := m.origin + (if m.neg then -(rndP s.s 256) else rndP s.s 256), dist := 0,
                     v0 := (rndP s.v 240).toNat })) e.now p 4 }
      else { c with act := .hold, rest := none }
    | _ =>
      if pathDone c t then held
      else match segFor t c.segs with
        | some g => { c with segs := [stopSeg g t e.a e.j], past := cutPath c t, act := .stopping, rest := none }
        | none => held

/-- A channel stop (R186, R188): STOPPING from this tick, the stop gate set, the path braked from the present sample; a
claimed item is abandoned (R183). The feedback-fault hold replaces a path stop in progress. DEDUCED: assumption 38. -/
def stopChannel (e : ScanEnv) (c : Chan) (cause : Nat) (holdNow : Bool) : Chan × List Event :=
  let fresh := !(c.state == .stopping || c.state == .stopped || c.state == .idle)
  let braked := if holdNow || fresh then brake e c holdNow else c
  if fresh then
    let ev := match c.item with
      | some it => [chanEvent e.n 0x0609 .warn (leBytes 1 it.fen ++ leBytes 4 it.item)]
      | none => []
    ({ braked with state := .stopping, stopCause := cause, stopLayer := e.layer,
                   gates := { c.gates with stop := true }, edges := [], lit := .off, pathLit := false, raster := none,
                   active := none, chainOpen := false, item := none, placed := false,
                   counts := { c.counts with abandoned := if c.item.isSome then inc32 c.counts.abandoned
                                                          else c.counts.abandoned } }, ev)
  else (braked, [])

/-- The first part of P2 for the motion in progress: what ends with the set-point of tick m at rest (R159–R161, R174, R176,
R187). -/
def finishAct (e : ScanEnv) (c : Chan) : Chan × List Event :=
  let t := e.now * oneP
  match c.act with
  | .jump settle =>
    if pathDone c t then
      let c := settleAt c
      let c := match c.active with | some r => complete c (ownEnds c r) | none => c
      ({ c with active := none, act := if settle then .settle e.now 0 else .ready }, [])
    else (c, [])
  | .entry moves origin p kind =>
    if moves.toList.all (fun m => decide (origin * oneP + axisTime m ≤ t)) then
      if kind = 4 then ({ c with act := .hold }, [])
      else
        let f := match c.active with | some r => recFocus r.body c.focus | none => c.focus
        let c := { c with rest := some p, focus := f }
        if kind = 2 then ({ c with act := .rasterMove }, [])
        else if kind = 3 then ({ c with act := .markWait e.now }, [])
        else
          let c := match c.active with
            | some r => complete c (ownEnds c r)
            | none => c
          ({ c with active := none, act := if kind = 1 then .settle e.now 0 else .ready }, [])
    else (c, [])
  | .settle since run =>
    let run' := if since < e.now then (if e.errOk then run + 1 else 0) else run
    if e.settleCount ≤ run' then ({ c with act := .ready }, [])
    else if since + e.settleTimeout ≤ e.now then
      let (c', ev) := stopChannel e c 3 false
      (c', chanEvent e.n 0x0602 .stopChannel [] :: ev)
    else ({ c with act := .settle since run' }, [])
  | .reposition => if pathDone c t then ({ settleAt c with act := .ready }, []) else (c, [])
  | .chain =>
    if pathDone c t && !c.chainOpen then
      let c := complete (settleAt c) (((c.segs.getLast?).map (fun g => g.ends)).getD [])
      (afterRun e (leaveItem c), [])
    else (c, [])
  | .rasterMove => if pathDone c t then ({ settleAt c with act := .rasterMove, active := c.active }, []) else (c, [])
  | .rasterLine =>
    if pathDone c t then
      let c := settleAt c
      match c.raster with
      | some rr =>
        let total := match rr.record.body with | .raster _ _ _ _ _ _ _ _ ls _ _ _ _ => ls | _ => 0
        if total ≤ rr.line + 1 then
          (afterRun e { complete c [rr.record.nominal] with raster := none, active := none }, [])
        else (afterRun e { c with raster := some { rr with line := rr.line + 1 } }, [])
      | none => ({ c with act := .ready }, [])
    else (c, [])
  | .markMove => if pathDone c t then ({ settleAt c with act := .markWait e.now }, []) else (c, [])
  | .markTrack =>
    if pathDone c t then
      let c := settleAt c
      let c := match c.active with
        | some r => complete c (ownEnds c r)
        | none => c
      ({ c with active := none, act := .ready }, [])
    else (c, [])
  | .dwell u =>
    if u ≤ e.now then
      let c := match c.active with | some r => complete c (ownEnds c r) | none => c
      ({ c with active := none, act := .ready }, [])
    else (c, [])
  | .throttle u => if u ≤ e.now then ({ c with act := .ready }, []) else (c, [])
  | .stopping => if pathDone c t then ({ settleAt c with act := .hold, rest := none }, []) else (c, [])
  | .markWait _ => (c, [])
  | .markReady _ => (c, [])
  | .ready => (c, [])
  | .hold => (c, [])

/-- STOPPING becomes STOPPED once the path is at rest (Table 6.4). -/
def finishStop (c : Chan) : Chan :=
  if c.state == .stopping && c.act == .hold then
    { c with state := .stopped, queue := c.queue.filter (fun r => r.layer != c.stopLayer), ahead := [], blocked := false,
             mapWords := [] }
  else c

/-- Whether the channel rests between two records: after the last one, or in the SETTLE wait behind it (R160). -/
def betweenRecs (c : Chan) : Bool :=
  match c.act with
  | .ready => true
  | .settle _ _ => true
  | _ => false

/-- Whether the channel is at a claim point (R180). DEDUCED: assumption 38. -/
def claimPoint (c : Chan) : Bool :=
  (c.state == .run || c.state == .waitEnd) && betweenRecs c && c.raster.isNone && c.item.isNone
    && (c.atEnd || (match c.ahead with
      | r :: _ => !isChainRec r.body
      | [] => false))

/-- The segments of a record with what they carry for it: on the last, unless points of it are still to come, its nominal duration and its
bytes in the look-ahead buffer, for the channel's own; the first goes on with the exposure where points of it came before. -/
def ownSegs (own more whole : Bool) (r : QRec) (gs : List Seg) : List Seg :=
  let gs := match gs with
    | g :: l => { g with inner := more } :: l
    | [] => []
  match gs.getLast? with
  | some g => if own && whole then gs.dropLast ++ [{ g with ends := [r.nominal], bytes := r.bytes }] else gs
  | none => []

/-- Pulls the VEC and POLY records that stand next in the stream into at most `room` segments, from position `p` and focus `f` (R156, R164); a
POLY with more points goes on when segments come free. `more` says that points of the first record came before. DEDUCED: assumption 39. -/
def pullChain (e : ScanEnv) (room : Nat) : Nat → Chan → Pt → Int → Bool → List Seg → Chan × Pt × List Seg
  | 0, c, p, _, _, acc => (c, p, acc)
  | k + 1, c, p, f, more, acc =>
    match stream c with
    | [] => (c, p, acc)
    | r :: _ =>
      let left := room - acc.length
      let gs := chainSegs e.a e.j p f r.body left
      if !isChainRec r.body || left = 0 then (c, p, acc)
      else match polyRest r.body left with
        | some b =>
          let q := ((gs.getLast?).map segEnd).getD p
          ({ c with ahead := { r with body := b } :: c.ahead.drop 1 }, q, acc ++ ownSegs true more false r gs)
        | none =>
          pullChain e room k (popRec c) ((recEnd r.body).getD p) (recFocus r.body f) false (acc ++ ownSegs c.item.isNone more true r gs)

/-- Whether the chain is known to end with what has been pulled: a record that is no VEC or POLY stands next, or the item
is at its end (R156). -/
def chainKnownEnd (c : Chan) : Bool :=
  match (stream c ++ refused c).head? with
  | some r => !isChainRec r.body
  | none => c.item.isSome

/-- The plan closed with its run-out, the last record completing where the chain comes to rest (R157, R179). -/
def closePlan (runIn : Bool) (gs : List Seg) : List Seg :=
  match gs.getLast? with
  | some g =>
    if runIn then gs.dropLast ++ [{ g with ends := [], bytes := 0 }, runOut g g.ends] else gs
  | none => gs

/-- The speed at the end of a chain's segments: their last programmed speed where a run-out follows, else rest (R157, R164). -/
def lastSpeed (e : ScanEnv) (known : Bool) (gs : List Seg) : Nat :=
  if known && e.runIn then ((gs.getLast?).map (fun g => g.vProg)).getD 0 else 0

/-- The run-in of a chain that record `r` opens at `p`: its exact direction and its whole length in counts, at the focus offset `f` (R157, R158). -/
def runInSeg (e : ScanEnv) (p : Pt) (r : Rec) (f : Int) : Seg :=
  let len := runInCounts (recSpeed r) e.a e.j * oneP
  let u := match recFirst r with | some q => unitDir p q | none => unitDir p p
  { mkSeg (runInStart e.a e.j p r) p (recSpeed r) e.a e.j f f .dark [] with ux := u.1, uy := u.2, len := len, fLen := len }

/-- Starts an exposure chain at `p` (R156–R159): run-in, segments, and the run-out where the end is known. -/
def startChain (e : ScanEnv) (c : Chan) (p : Pt) : Chan :=
  let f := match stream c with | r :: _ => if e.runIn then recFocus r.body c.focus else c.focus | [] => c.focus
  let lead := match stream c with | r :: _ => if e.runIn then [runInSeg e p r.body f] else [] | [] => []
  let (c', _, gs) := pullChain e 1024 1024 c p f false []
  let known := chainKnownEnd c'
  let plan := planPath e.dv ((e.now + 1) * oneP) 0 (lastSpeed e known gs) (lead ++ gs)
  { c' with act := .chain, chainOpen := !known, cur := (gs.getLast?).map segEnd,
            segs := if known then closePlan e.runIn plan else plan }

/-- A segment cut at the present sample: what is left of it, entered at the sample's speed, in the same exposure unless that has ended on the
laser (R165). DEDUCED: assumption 39. -/
def cutSeg (g : Seg) (t : Nat) : Seg :=
  let s := segAt g t
  let d := s.s.toNat
  let v := (rndP s.v 240).toNat
  { g with start := segPos g s.s, len := g.len - d, vEnter := v, t0 := t, f0 := focusAt g s.s, fLen := g.fLen - d
           next := if v = 0 || 2 ≤ g.next then 0 else 1, inner := decide (g.next < 2)
           light := match g.light with
             | .ramp a b s0 tot op tag => .ramp a b (s0 + d) tot op tag
             | l => l }

/-- Whether points of the record next in the stream came before: the last segment belongs to a record of the channel's own that it does not
complete. -/
def midRecord (c : Chan) : Bool :=
  match c.segs.getLast? with
  | some g => c.item.isNone && g.light != .dark && g.bytes == 0
  | none => false

/-- Replans a chain in progress when records have joined its horizon (R164, R165): from the start of the segment in
progress where the present sample agrees, else from the present sample; from rest where the path rests. DEDUCED: assumption 39. -/
def extendChain (e : ScanEnv) (c : Chan) : Chan :=
  let t := e.now * oneP
  let p := c.cur.getD { x := 0, y := 0 }
  let f := match c.segs.getLast? with | some g => g.f1 | none => c.focus
  let (c', q, gs) := pullChain e (1024 - heldSegs { c with ahead := [] }) 1024 c p f (midRecord c) []
  let known := chainKnownEnd c'
  let close := fun (plan : List Seg) => if known then closePlan e.runIn plan else plan
  if pathDone c t then
    if gs.isEmpty then c
    else { settleAt c' with chainOpen := !known, cur := some q,
                            segs := close (planPath e.dv ((e.now + 1) * oneP) 0 (lastSpeed e known gs) gs) }
  else if gs.isEmpty && !known then c
  else
    match c.segs with
    | [] => c
    | g :: rest =>
      let all := g :: rest ++ gs
      let last := lastSpeed e known all
      let plan := planPath e.dv g.t0 g.vEnter last all
      let same := match plan with
        | g' :: _ => decide (t ≤ g.t0)
          || decide (g.next < 2) && decide ((segAt g t).s = (segAt g' t).s) && decide ((segAt g t).v = (segAt g' t).v)
        | [] => false
      let cut := cutSeg g t
      if same then { c' with chainOpen := !known, cur := some q, segs := close plan }
      else { c' with chainOpen := !known, cur := some q, past := c'.past ++ [{ g with dur := t - g.t0 }],
                     segs := close (planPath e.dv t cut.vEnter last (cut :: rest ++ gs)) }

/-- A chain that rests in an underrun ends when a record arrives that it does not join: no run-out is added (R165). -/
def closeRest (e : ScanEnv) (c : Chan) : Chan × List Event :=
  if c.act == .chain && c.chainOpen && pathDone c (e.now * oneP) && chainKnownEnd c then finishAct e { c with chainOpen := false }
  else (c, [])

/-- The entry move of the first motion in a job or after a rejoin (R531), or none where the target is outside. -/
def startEntry (e : ScanEnv) (c : Chan) (target : Pt) (f : Int) (kind : Nat) : Chan :=
  let dest := bedPoint e target f
  let moves : Vector AxisMove 3 := Vector.ofFn (fun q =>
    let l := e.entry[q]
    axisMove c.spNow.pos[q] dest[q] l.1 l.2.1 l.2.2)
  { c with act := .entry moves (e.now + 1) target kind }

/-- A rest-to-rest move to `q`, decided in P2 of tick m (R156, R159); the entry move where the channel has no current
position. -/
def startMove (e : ScanEnv) (c : Chan) (q : Pt) (v : Nat) (f : Int) (act : Act) (kind : Nat) : Chan :=
  match c.rest with
  | some p => { c with act := act, segs := [restMove p q v e.a e.j ((e.now + 1) * oneP) c.focus f []] }
  | none => startEntry e c q f kind

/-- The code words of a map after the next `k` cells are decoded: a word counts until its first cell is (R166). -/
def dropCells : Nat → List (Nat × Nat) → List (Nat × Nat)
  | _, [] => []
  | k, (m, b) :: rest =>
    if k = 0 then (m, b) :: rest else if m ≤ k then dropCells (k - m) rest else (m - k, 0) :: rest

/-- A line of a RASTER: its run-in, its cells and its run-out (R174, R175); its cells are decoded from the map (R166). -/
def startLine (e : ScanEnv) (c : Chan) (rr : RasterRun) : Chan :=
  match rr.record.body with
  | .raster sp op x y an cell h cs _ _ f tag _ =>
    let (p, u, q) := rasterLine sp x y an cell h cs rr.line
    let mk := fun (s t : Pt) (len : Nat) (light : Light) =>
      { mkSeg s t rr.speed e.a e.j (foc f) (foc f) light [] with ux := u.1, uy := u.2, len := len, fLen := len }
    let inLen := runInCounts rr.speed e.a e.j * oneP
    let g0 := timeSeg (mk (ptAlong p u.1 u.2 (-(inLen : Int))) p inLen .dark) 0 rr.speed ((e.now + 1) * oneP)
    let taken := takeRuns cs rr.runs
    let g1 := timeSeg (mk p q (cs * cell * oneP) (.cells op tag cell taken.1)) rr.speed rr.speed (segStop g0)
    { c with act := .rasterLine, segs := [g0, g1, runOut g1 []], raster := some { rr with runs := taken.2 }
             mapWords := dropCells cs c.mapWords }
  | _ => c
where
  /-- The runs that cover the next `k` cells, and the runs left (R130). -/
  takeRuns (k : Nat) : List (Nat × Nat) → List (Nat × Nat) × List (Nat × Nat)
    | [] => ([], [])
    | (m, p) :: rest =>
      if k = 0 then ([], (m, p) :: rest)
      else if m ≤ k then
        let r := takeRuns (k - m) rest
        ((m, p) :: r.1, r.2)
      else ([(k, p)], (m - k, p) :: rest)

/-- The start of the run-in of a raster line (R174). -/
def lineEntry (e : ScanEnv) (rr : RasterRun) : Pt :=
  match rr.record.body with
  | .raster sp _ x y an cell h cs _ _ _ _ _ =>
    let (p, u, _) := rasterLine sp x y an cell h cs rr.line
    ptAlong p u.1 u.2 (-(cnt (runInCounts rr.speed e.a e.j)))
  | _ => { x := 0, y := 0 }

/-- Starts the next record of the stream in P2 of tick m (R151 step 5, R159); called with the channel at rest. -/
def startRecord (e : ScanEnv) (c : Chan) : Chan × List Event :=
  match c.raster with
  | some rr => (startMove e c (lineEntry e rr) e.jump (foc (rasterFocus rr)) .rasterMove 2, [])
  | none =>
    match stream c with
    | [] => (if c.atEnd && c.item.isNone then { c with state := .waitEnd } else c, [])
    | r :: rest =>
      match r.body with
      | .jump settle x y f sp =>
        let q := ptOf x y
        let target := jumpEnd e q ((rest ++ refused c).head?)
        let v := if sp = 0 then e.jump else speedOf sp
        ({ startMove e (popRec c) target v (foc f) (.jump settle) (b2n settle) with
            active := some r, cur := some q }, [])
      | .vec _ _ _ _ _ _ _ _ _ => (chainFrom e c r, [])
      | .poly _ _ _ _ _ _ => (chainFrom e c r, [])
      | .raster _ _ _ _ _ _ _ _ _ speed f _ runs =>
        let v := playback e r.body
        let rr : RasterRun := { record := r, speed := v, line := 0, runs := runs }
        let reduced := decide (v < speedOf speed)
        let c1 := { startMove e (popRec c) (lineEntry e rr) e.jump (foc f) .rasterMove 2 with
                      raster := some rr, active := some r, cur := recEnd r.body, rasterPosted := c.rasterPosted || reduced,
                      counts := { c.counts with rasterReductions := if reduced then inc32 c.counts.rasterReductions
                                                                    else c.counts.rasterReductions } }
        (c1, if reduced && !c.rasterPosted then [chanEvent e.n 0x0607 .note []] else [])
      | .dwell k => ({ popRec c with act := .dwell (e.now + k), active := some r }, [])
      | .mark _ z _ sx sy ex ey speed _ f =>
        let skip := match e.partnerOf z with | some k => e.stoppedOf k | none => true
        if skip then ({ complete (popRec c) (ownEnds c r) with act := .ready, cur := recEnd r.body },
          [chanEvent e.n 0x0608 .note []])
        else
          let p := markStart e z (ptOf sx sy) (ptOf ex ey) speed
          ({ startMove e (popRec c) p e.jump (foc f) .markMove 3 with active := some r, cur := recEnd r.body }, [])
      | .endRec => ({ complete (popRec c) [r.nominal] with atEnd := true, state := .waitEnd }, [])
where
  /-- The focus offset of a raster, in µm. -/
  rasterFocus (rr : RasterRun) : Int :=
    match rr.record.body with
    | .raster _ _ _ _ _ _ _ _ _ _ f _ _ => f
    | _ => 0
  /-- Starts a chain, after the reposition to its run-in where the scanner rests elsewhere (R156). -/
  chainFrom (e : ScanEnv) (c : Chan) (r : QRec) : Chan :=
    let p := c.cur.getD { x := 0, y := 0 }
    let target := if e.runIn then runInStart e.a e.j p r.body else p
    if c.rest == some target then { startChain e c p with placed := false }
    else { startMove e c target e.jump (recFocus r.body c.focus) .reposition 0 with placed := true }

/-- The MARK track of a channel in the P2 after its rendezvous (R147, R176, R177). -/
def startTrack (e : ScanEnv) (c : Chan) : Chan :=
  match c.active with
  | some r =>
    match r.body with
    | .mark obs z _ sx sy ex ey speed power f =>
      let (a, j) := markLimits e z
      let s := ptOf sx sy
      let q := ptOf ex ey
      let p := markStart e z s q speed
      let other := match e.partnerOf z with | some k => (e.limits k).2.2 | none => e.lag
      let base : Int := (e.now + 1) * oneP
      let t0 := if obs then (base + ((other : Int) - e.lag) * (2 ^ 246 : Nat)).toNat else base.toNat
      let light := if obs then .dark else .power power true 0
      let v := speedOf speed
      let u := unitDir s q
      let len := runInCounts v a j * oneP
      let g0 := timeSeg { mkSeg p s v a j (foc f) (foc f) .dark [] with ux := u.1, uy := u.2, len := len, fLen := len } 0 v t0
      let g1 := timeSeg (mkSeg s q v a j (foc f) (foc f) light []) v v (segStop g0)
      { c with act := .markTrack, segs := [g0, g1, runOut g1 []] }
    | _ => c
  | none => c

/-- A MARK skipped while it waits (R148). -/
def skipMark (e : ScanEnv) (c : Chan) : Chan × List Event :=
  match c.act, c.active with
  | .markWait _, some r =>
    match r.body with
    | .mark _ z _ _ _ _ _ _ _ _ =>
      let gone := match e.partnerOf z with | some k => e.stoppedOf k | none => true
      if gone then
        ({ complete c (ownEnds c r) with act := .ready, active := none, state := .run },
          [chanEvent e.n 0x0608 .note []])
      else (c, [])
    | _ => (c, [])
  | _, _ => (c, [])

/-- Starts what the channel does next in P2 of tick m. `fuel` bounds records that take no time. -/
def startNext (e : ScanEnv) : Nat → Chan → Chan × List Event
  | 0, c => (c, [])
  | k + 1, c =>
    if c.state == .run then
      match c.act with
      | .ready =>
        let (c', ev) := startRecord e c
        if c'.act == .ready && c'.state == .run && decide ((stream c').length < (stream c).length) then
          let (c2, ev2) := startNext e k c'
          (c2, ev ++ ev2)
        else (c', ev)
      | .rasterMove =>
        if pathDone c (e.now * oneP) then
          match c.raster with
          | some rr => (startLine e { c with segs := [] } rr, [])
          | none => (c, [])
        else (c, [])
      | .markReady st => if st ≤ e.now then (startTrack e c, []) else (c, [])
      | .chain =>
        (if c.chainOpen then extendChain e c else c, [])
      | _ => (c, [])
    else (c, [])

/-- The channel comes to rest with its next record outside the field: it stops (R168, Table 6.5). -/
def stopOutside (e : ScanEnv) (c : Chan) : Chan × List Event :=
  let atRest := match c.act with
    | .ready => c.raster.isNone && (stream c).isEmpty
    | .chain => c.chainOpen && pathDone c (e.now * oneP) && (stream c).isEmpty
    | _ => false
  if cutShort c && atRest && c.state == .run then stopChannel e c 2 false else (c, [])

/-- A set-point with Hold TRUE for each axis whose set-point repeats the last one with both feed-forwards 0 (Table 6.1). -/
def markHold (last p : SetPoint) : SetPoint :=
  { p with hold := Vector.ofFn (fun (q : Fin 3) => decide (p.pos[q] = last.pos[q] ∧ p.vel[q] = 0 ∧ p.acc[q] = 0)) }

/-- The sample for tick m + 1 (R151 step 5, R162): the set-point. -/
def pathSample (e : ScanEnv) (c : Chan) : Chan :=
  let t := (e.now + 1) * oneP
  match c.act with
  | .entry moves origin _ _ =>
    if origin * oneP ≤ t then
      let at' := fun (q : Nat) (m : AxisMove) =>
        let s := axisAt m (t - origin * oneP)
        let sg : Int := if m.neg then -1 else 1
        (m.origin + sg * rndP s.s 256, sg * rndDiv (snapP s.v * 256) oneP, sg * rndDiv (snapP s.a * 65536) oneP, q)
      let r := moves.mapIdx at'
      { c with spNext := { pos := r.map (fun x => x.1), vel := r.map (fun x => x.2.1), acc := r.map (fun x => x.2.2.1), hold := Vector.replicate 3 false } }
    else { c with spNext := holdPoint c.spNow }
  | _ =>
    match segFor t c.segs with
    | some g =>
      if segStop g ≤ e.now * oneP then { c with spNext := holdPoint c.spNow }
      else { c with spNext := segPoint e g t }
    | none => { c with spNext := holdPoint c.spNow }

/-- The set-point delivered for tick m + 1 (R152). -/
def samplePath (e : ScanEnv) (c : Chan) : Chan :=
  let c := pathSample e c
  { c with spNext := markHold c.spNow c.spNext }

/-- The channel with a segment it leaves counted: its records complete, a speed-limited one adds to its count (R164, R179). -/
def leaveSeg (c : Chan) (g : Seg) : Chan :=
  let c := complete c g.ends
  if speedLimitedSeg g then { c with counts := { c.counts with speedLimited := inc32 c.counts.speedLimited } } else c

/-- Segments that the sample for tick m + 1 has left: their records complete and they are laid by for the laser (R179). The
last segment stays until the path is found at rest; of a chain whose end is not known its records complete here (R165). -/
def dropDone (t : Nat) : Nat → Chan → Chan
  | 0, c => c
  | k + 1, c =>
    match c.segs with
    | g :: h :: rest =>
      if segStop g ≤ t then dropDone t k (leaveSeg { c with segs := h :: rest, past := c.past ++ [g] } g) else c
    | [g] => if c.chainOpen && decide (segStop g ≤ t) then { complete c g.ends with segs := [{ g with ends := [] }] } else c
    | [] => c

end Sys2Proof.Machine
end

