-- ==== Sys2Proof/Machine/State.lean ====
section
/-! DEFINITION. The state of the GY-5032, its reset value, and the reasons a step can stop. -/

namespace Sys2Proof.Machine

/-- A fault is where the machine itself stops. No command of this block stops it: every fault of the device is an event that a
command's effect posts, and the device goes on (R34). -/
inductive Fault
deriving DecidableEq, Repr

/-- A refusal is where the model has no effect to give. -/
inductive Refusal
  /-- Raised by an arm of `exec` for a command whose meaning has not been written; safe. -/
  | notModelled (mnemonic : String)
deriving DecidableEq, Repr

/-- The fen buffer of one fen (R142): items moved from the store and not yet claimed. -/
structure FenBuf where
  fen : Nat
  layer : Nat
  chanA : Nat
  chanB : Nat
  items : List FenItem
deriving DecidableEq, Repr, Inhabited

/-- The scan engines: channels, fen buffers, and the grants of the tick as fen, item and channel (R182, R349). -/
structure ScanState where
  chans : Vector Chan 32
  bufs : List FenBuf
  grants : List (Nat × Nat × Nat)
deriving DecidableEq, Repr, Inhabited

/-- The Zhomon Link: ports, what laser and scanner nodes report by channel, and the field nodes (chapter 12). -/
structure LinkState where
  ports : Vector ZlPort 64
  lasers : Vector LaserNode 32
  nodes : Vector FieldNode 64
deriving DecidableEq, Repr, Inhabited

/-- Everything the spec gives the device: one component per block. -/
structure Blocks where
  time : TimeState
  start : StartState
  faults : FaultState
  dict : DictState
  pins : PinState
  queues : Vector QueueStat 64
  host : HostState
  job : JobState
  scan : ScanState
  axes : Vector Axis 96
  cams : CamState
  melt : MeltState
  reg : FenState
  link : LinkState
  pair : PairState
  work : PairWork
  steps : Vector StepAxis 8
  light : LightState
  temp : TempState
  power : PowerState
  analog : AnalogState
  mem : MemState
  flash : FlashState
deriving DecidableEq, Repr

/-- The state of the model: the device; `seen`, the device at the last tick boundary, which reads return, and `sampled`, the device in P4
of the tick before it, from which objects that count or measure are read (R65); `freeCtr`, the
model's own count of free values used (DESIGN CHOICE, assumption 2); `out`, what the device has sent since the last tick boundary; and
`pending`, the queue of commands. -/
structure State extends Blocks where
  seen : Blocks
  sampled : Blocks
  freeCtr : Nat
  out : List Output
  pending : List Instr
deriving DecidableEq, Repr

/-- Timebase at reset: not running until the power sequence ends (R41); nominal tuning (R53). -/
def timeReset : TimeState :=
  { (default : TimeState) with tb := .free }

/-- Start-up at reset: phase 1 (R491), the cause given. -/
def startReset (cause : Nat) : StartState :=
  { (default : StartState) with cause := cause, phase := 1 }

/-- The fault manager at reset: no record, no severity in force (R502, R508). -/
def faultReset : FaultState :=
  { (default : FaultState) with durations := List.replicate 7 0 }

/-- Pins from reset to the end of the power sequence (Table 20.1). -/
def pinReset : PinState :=
  { outputs := .resetState, triggers := .resetState, zlTx := .resetState, peerTx := .resetState, ethTx := .resetState
    jtagEnabled := false
    tap := { (default : TapState) with ctl := .reset, instr := .idcode } }

/-- A channel at reset: IDLE at rest without a position (Table 6.4, R531), every gate but the host's released. DEDUCED: assumption 84. -/
def chanReset : Chan :=
  { (default : Chan) with
      state := .idle, act := .ready
      spNow := { (default : SetPoint) with hold := Vector.replicate 3 true }
      spNext := { (default : SetPoint) with hold := Vector.replicate 3 true }
      cmdNow := { start := 0, events := [] }, cmdNext := { start := 0, events := [] } }

/-- Position feedback of an axis at reset (Table 8.3). -/
def feedbackReset : Feedback :=
  { (default : Feedback) with low := 0xFFFF }

/-- A servo axis at reset: OPEN and untrusted (R208, R215). -/
def axisReset : Axis :=
  { (default : Axis) with loop := .opened, prevHold := true, fb := feedbackReset }

/-- A camera port at reset: link state 0 (Table 9.9). -/
def camPortReset : CamPort := default

/-- An image context at reset: no frame, no statistics, no image (Table 9.10). -/
def imageReset : ImageCtx :=
  { (default : ImageCtx) with
      lastRecord := List.replicate 32 0, histogram := List.replicate 256 0, zones := List.replicate 64 0
      statsIndex := 2 ^ 64 - 1, imageIndex := 2 ^ 64 - 1 }

/-- The quality map of a plane before the first close (R280): the header alone. -/
def planeBlank (p : Nat) : Bytes :=
  leBytes 4 0x4D515947 ++ leBytes 2 1 ++ leBytes 1 p ++ leBytes 1 0 ++ leBytes 4 0xFFFFFFFF ++ leBytes 52 0

/-- Power control of one channel at reset (R263, R267). -/
def meltChanReset : Melt :=
  { (default : Melt) with
      p1 := 16384, gNow := 16384, gNext := 16384, fv := 16384, fh := 16384, fvNow := 16384, fhNow := 16384
      hist := List.replicate 9 { lit := false, pol := 0, law := false, lim := false } }

/-- Melt-pool control at reset: an empty heat grid and no map (R272, R280). -/
def meltReset : MeltState :=
  { chans := Vector.replicate 32 meltChanReset, queues := Vector.replicate 4 []
    heat := { cells := [], ref := none, layer := none }, energy := [], heatDue := [], heatLags := 0
    maps := [], closing := [], q46 := [], q47 := []
    held := { layer := 0xFFFFFFFF, job := 0, completion := 0, planes := (List.range 8).map planeBlank, closed := 0, outside := 0 } }

/-- Registration at reset: nothing solved, generations 0 (Tables 11.5, 11.6). -/
def regReset : FenState :=
  { (default : FenState) with
      status := Vector.replicate 256 { (default : FenStatus) with layer := 0xFFFFFFFF }
      scanners := Vector.replicate 32 { (default : GridStatus) with layer := 0xFFFFFFFF } }

/-- A field node before it sees a device: links untrained, power and currents 0 (R319, R321). -/
def nodeReset : FieldNode :=
  { (default : FieldNode) with
      links := Vector.replicate 2 { (default : NodeLink) with address := 0xFF }, faultRamp := 20, axisMask := 7 }

/-- The Zhomon Link at reset: every port DISABLED (Table 12.12). -/
def linkReset (nodes : Vector FieldNode 64) : LinkState :=
  { ports := Vector.replicate 64 { (default : ZlPort) with response := List.replicate 36 0 }
    lasers := Vector.replicate 32 default, nodes := nodes }

/-- The pair at reset: SINGLE until the persisted pair enable is known (R337). -/
def pairReset (unitId : Nat) : PairState :=
  { (default : PairState) with st := .single, unitId := unitId, lantern := List.replicate 64 0 }

/-- A stepper axis at reset: IDLE, untrusted, its windings coasting (R386, R488). -/
def stepReset : StepAxis :=
  { (default : StepAxis) with
      st := .idle, motion := .rest, released := true, holding := true
      windings := Vector.replicate 2 { duty := 0, reverse := false, coast := true }
      windingsNext := Vector.replicate 2 { duty := 0, reverse := false, coast := true } }

/-- A LED string at reset: OFF, every lamp healthy (R393, R403). -/
def ledReset : LedString :=
  { (default : LedString) with
      voltages := List.replicate 16 0, probed := List.replicate 16 0 }

/-- A temperature input at reset: mode 0, so its reading is invalid with reason 5 (Table 17.1). -/
def tempInputReset : TempInput :=
  { (default : TempInput) with reading := -32768, validity := 5 }

/-- The power manager at the start of the power sequence (R432), the always-on record kept. -/
def powerReset (record : Nat) : PowerState :=
  { (default : PowerState) with st := .step 1, record := record, permitLow := true }

/-- The memories at reset (R462, R463). -/
def memReset : MemState :=
  { (default : MemState) with record := List.replicate 32 0 }

/-- A flash that holds nothing and has not been discovered (DESIGN CHOICE, assumption 3). -/
def flashBlank : FlashState :=
  { (default : FlashState) with
      active := 0xFF, header := List.replicate 64 0, jedec := 0 }

/-- The host link at reset: no session, no subscription, no transfer (R92, R102, R109). -/
def hostReset : HostState := default

/-- The layer store and job control at reset: START-UP, no job, no package (Table 20.3). -/
def jobReset : JobState :=
  { (default : JobState) with dev := .startUp, ends := Vector.replicate 32 none }

/-- The device at the start of start-up phase 1 after a reset with a cause, with what outlives a reset: the pins' straps, the
always-on sequence record, the flash and the field nodes. DESIGN CHOICE: assumption 10. -/
def blocksReset (cause unitId record : Nat) (flash : FlashState) (nodes : Vector FieldNode 64) : Blocks :=
  { time := timeReset
    start := startReset cause
    faults := faultReset
    dict := default
    pins := pinReset
    queues := Vector.replicate 64 default
    host := hostReset
    job := jobReset
    scan := { chans := Vector.replicate 32 chanReset, bufs := [], grants := [] }
    axes := Vector.replicate 96 axisReset
    cams := { ports := Vector.replicate 20 camPortReset, ctxs := Vector.replicate 128 imageReset, turn := 0, posted := [] }
    melt := meltReset
    reg := regReset
    link := linkReset nodes
    pair := pairReset unitId
    work := default
    steps := Vector.replicate 8 stepReset
    light := { (default : LightState) with strings := Vector.replicate 16 ledReset }
    temp := { (default : TempState) with inputs := Vector.replicate 48 tempInputReset }
    power := powerReset record
    analog := default
    mem := memReset
    flash := flash }

/-- The machine at the start of start-up phase 1 after a reset, with the free-value counter and the waiting commands kept. -/
def State.restart (cause unitId record : Nat) (flash : FlashState) (nodes : Vector FieldNode 64) (freeCtr : Nat)
    (pending : List Instr) : State :=
  let b := blocksReset cause unitId record flash nodes
  { b with seen := b, sampled := b, freeCtr, out := [], pending }

/-- The machine right after power-on reset: start-up phase 1, cause 0, a blank flash, UNIT_ID strapped 0 (R489, R491).
DESIGN CHOICE: assumption 3. DESIGN CHOICE: assumption 10. -/
def State.reset : State := State.restart 0 0 0 flashBlank (Vector.replicate 64 nodeReset) 0 []

end Sys2Proof.Machine
end

