-- ==== Sys2Proof/Machine/Objects.lean ====
section
/-! DEFINITION. Values of writable objects: defaults, values in force, and how a value replaces another (R63–R65, R71, R77). -/

namespace Sys2Proof.Machine

/-- The key of an object in the lists of the dictionary. -/
def objKey (index sub : Nat) : Nat := index * 256 + sub

/-- The row of an object, if the object exists (R63, R83). -/
def rowFor (index sub : Nat) : Option ObjRow := (objectsOf index).find? (fun r => rowHas r index sub)

/-- Whether an index exists (R63, R83). -/
def indexExists (index : Nat) : Bool := (objectsOf index).any (fun r => rowHasIndex r index)

/-- Entry `k` of the default microstep table (R374). -/
def sineEntry (k : Nat) : Nat := (rndDiv (4095 * (trigQuarter (k * 64)).2) oneP).toNat

/-- The default microstep table (R374). -/
def sineTable : Bytes := (List.range 256).flatMap (fun k => leBytes 2 (sineEntry k))

/-- Defaults of image context `i` that differ between instances (Table 9.10). DEDUCED: assumption 44. -/
def contextDefault (i sub : Nat) : Option Val :=
  let num (a b : Nat) : Option Val := some (.int (if i < 32 then (a : Int) else (b : Int)))
  match sub with
  | 0x00 => some (.int (if i < 36 then 1 else 0))
  | 0x01 => some (.int (if i < 32 then ((i / 2 : Nat) : Int) else if i < 36 then ((i - 16 : Nat) : Int) else 0xFF))
  | 0x02 => num (i % 2) 0
  | 0x03 => num 0x2B 0x2C
  | 0x04 => num 64 4000
  | 0x05 => num 64 3000
  | 0x08 => num 64 4000
  | 0x09 => num 64 3000
  | 0x0A => num i 0xFF
  | 0x0B => num 8 20000
  | 0x10 => some (.oct ((List.range 289).flatMap (fun _ => leBytes 2 4096)))
  | 0x11 => num 7 3
  | 0x1A => some (.int (if 32 ≤ i && i < 36 then 1 else 0))
  | _ => none

/-- The Default of an object (R71): the row's, or that of its instance; the reserved half of a two-lane map is 0 (R7, Table 9.9).
DEDUCED: assumption 52. -/
def defaultVal (index sub : Nat) : Val :=
  let row := ((rowFor index sub).map (fun r => r.dflt)).getD (.int 0)
  if 0x3400 ≤ index && index < 0x3480 then (contextDefault (index - 0x3400) sub).getD row
  else if 0x3500 ≤ index && index < 0x3514 && sub == 0x06 then .int (if index < 0x3510 then 1 else 2500)
  else if 0x3500 ≤ index && index < 0x3510 && sub == 0x03 then .int 0x10
  else if 0x4000 ≤ index && index < 0x4008 && sub == 0x10 then .oct sineTable
  else row

/-- The entry of a sorted list by key. -/
def lookKey {α : Type} (k : Nat) : List (Nat × α) → Option α
  | [] => none
  | (i, x) :: l => if i = k then some x else if k < i then none else lookKey k l

/-- A sorted list with the entry of a key set. -/
def putKey {α : Type} (k : Nat) (x : α) : List (Nat × α) → List (Nat × α)
  | [] => [(k, x)]
  | (i, y) :: l => if k < i then (k, x) :: (i, y) :: l else if i = k then (k, x) :: l else (i, y) :: putKey k x l

/-- A list without the entry of a key. -/
def dropKey {α : Type} (k : Nat) (l : List (Nat × α)) : List (Nat × α) := l.filter (fun e => e.1 != k)

/-- The value in force of a writable object (R65). -/
def objVal (d : DictState) (index sub : Nat) : Val := (lookKey (objKey index sub) d.vals).getD (defaultVal index sub)

/-- A number as a value; 0 of a byte string. -/
def valI (v : Val) : Int :=
  match v with
  | .int x => x
  | .oct _ => 0

/-- A byte string as a value; none of a number. -/
def valB (v : Val) : Bytes :=
  match v with
  | .int _ => []
  | .oct b => b

/-- The dictionary with a value in force; a value equal to the Default is not listed. -/
def setVal (d : DictState) (index sub : Nat) (v : Val) : DictState :=
  let k := objKey index sub
  { d with vals := if v == defaultVal (k / 256) (k % 256) then dropKey k d.vals else putKey k v d.vals }

/-- The signed number in force of an object. -/
def Blocks.objI (s : Blocks) (index sub : Nat) : Int := valI (objVal s.dict index sub)

/-- The unsigned number in force of an object. -/
def Blocks.objN (s : Blocks) (index sub : Nat) : Nat := (s.objI index sub).toNat

/-- The BOOL in force of an object. -/
def Blocks.objB (s : Blocks) (index sub : Nat) : Bool := s.objI index sub != 0

/-- The octets in force of an object. -/
def Blocks.objT (s : Blocks) (index sub : Nat) : Bytes := valB (objVal s.dict index sub)

/-- The tick in ticks since start. -/
def Blocks.now (s : Blocks) : Nat := s.time.ticks

/-- The tick count (R42). -/
def Blocks.tickCount (s : Blocks) : Nat := (s.time.boundary / 10000) % 2 ^ 48

/-- The frame index (R42). -/
def Blocks.frameIndex (s : Blocks) : Nat := s.tickCount / 4

/-- Local time at the clock reached within the tick (R41). -/
def Blocks.localTime (s : Blocks) : Nat := (s.time.boundary + s.time.clock) % 2 ^ 64

/-- Whether a job is running: device state RUNNING or STOPPING (Table 3.6). -/
def Blocks.jobRuns (s : Blocks) : Bool := s.job.dev == .running || s.job.dev == .stopping

/-- The number of a device state (Table 20.3). -/
def devNum (d : DevState) : Nat :=
  match d with
  | .startUp => 0
  | .ready => 1
  | .running => 2
  | .stopping => 3
  | .held => 4

/-- Unit role (Table 3.6): 0 single, 1 active, 2 standby. -/
def Blocks.role (s : Blocks) : Nat :=
  match s.pair.st with
  | .active => 1
  | .alone => 1
  | .standby => 2
  | .single => 0
  | _ => 2

/-- Posts an event: it stands with the block until its P3 (R34, R501). -/
def State.post (s : State) (e : Event) : State :=
  { s with faults := { s.faults with posted := s.faults.posted ++ [{ e with tick := s.tickCount }] } }

/-- Posts several events in order. -/
def State.postAll (s : State) (es : List Event) : State :=
  { s with faults := { s.faults with posted := s.faults.posted ++ es.map (fun e => { e with tick := s.tickCount }) } }

/-- Puts a frame or message on a wire. -/
def State.send (s : State) (o : Output) : State := { s with out := s.out ++ [o] }

/-- An event of a control core or fixed block (R501, R504). DEDUCED: assumption 18. -/
def mkEvent (poster : Poster) (code : Nat) (severity : Severity) (kind : SourceKind) (inst : Nat) (detail : Bytes) : Event :=
  { poster, code, severity, kind, inst, detail, tick := 0 }

/-- The clock within the tick moved on to `clk`; a clock never runs back. DEDUCED: assumption 23. -/
def State.atClock (s : State) (clk : Nat) : State :=
  { s with time := { s.time with clock := if s.time.clock < clk then clk else s.time.clock } }

/-- A free natural number and the state with its counter advanced (DESIGN CHOICE, assumption 2). -/
def State.free (s : State) : Nat × State := (Config.freeNat s.freeCtr, { s with freeCtr := s.freeCtr + 1 })

/-- `k` free natural numbers (DESIGN CHOICE, assumption 2). -/
def State.frees : Nat → State → List Nat × State
  | 0, s => ([], s)
  | k + 1, s =>
    let (v, s) := s.free
    let (l, s) := s.frees k
    (v :: l, s)

end Sys2Proof.Machine
end

