-- ==== Sys2Proof/Machine/EventLink.lean ====
section
/-! DEFINITION. Event messages to the host, and what an Ethernet port has in use (04_host_link R91, R92, R114, R115). -/

namespace Sys2Proof.Machine

/-- The link-local IPv6 address of port `p` by the modified EUI-64 method (R91). -/
def linkLocal (p : Nat) : Nat :=
  let m := Config.mac p % 2 ^ 48
  let top := (m / 2 ^ 24) ^^^ 0x020000
  0xFE80 * 2 ^ 112 + top * 2 ^ 40 + 0xFFFE * 2 ^ 24 + m % 2 ^ 24

/-- Whether port `p` may send: enabled, its link up and its transmit pairs driven (R115; Table 20.1). -/
def portReady (s : Blocks) (p : Nat) : Bool := s.objB (0x1100 + p) 0x00 && (getI s.host.ports p).linkUp

/-- The IPv4 address in use on port `p`; 0 when none (R92, Table 4.9 sub 0x11). -/
def ipv4InUse (s : Blocks) (p : Nat) : Nat := (getI s.host.ports p).ipv4

/-- Whether port `p` has an address in use of a family (R91, R92, R115). -/
def familyInUse (s : Blocks) (p : Nat) (v6 : Bool) : Bool :=
  if v6 then s.objN (0x1100 + p) 0x0A != 0 else ipv4InUse s p != 0

/-- Whether an address is on the link of port `p`, given the port's own address, prefix and width. -/
def onLink (width prefixLen own addr : Nat) : Bool := own / 2 ^ (width - prefixLen) == addr / 2 ^ (width - prefixLen)

/-- The next hop for an address: the address itself on the link or without a gateway, the gateway otherwise (R88).
DESIGN CHOICE: assumption 32. -/
def nextHop (s : Blocks) (p : Nat) (v6 : Bool) (addr : Nat) : Nat :=
  if v6 then
    let gw := beNat (s.objT (0x1100 + p) 0x0D)
    let own := if s.objN (0x1100 + p) 0x0A == 2 then beNat (s.objT (0x1100 + p) 0x0B) else linkLocal p
    if gw == 0 || onLink 128 10 (linkLocal p) addr || onLink 128 (s.objN (0x1100 + p) 0x0C) own addr then addr else gw
  else
    let e := getI s.host.ports p
    let stat := s.objN (0x1100 + p) 0x06 == 1
    let gw := if stat then s.objN (0x1100 + p) 0x09 else e.gateway
    let len := if stat then s.objN (0x1100 + p) 0x08 else e.prefixLen
    if gw == 0 || onLink 32 len e.ipv4 addr then addr else gw

/-- Whether the link address of a next hop is cached on port `p` (R88). -/
def resolved (s : Blocks) (p hop : Nat) : Bool := (getI s.host.ports p).arp.any (fun e => e.1 == hop)

/-- Fields of Event destination `d` (Table 4.9): egress port, family 6, address. -/
def destPort (s : Blocks) (d : Nat) : Nat := s.objN (0x1118 + d) 0x05

/-- Whether destination `d` uses IPv6. -/
def destV6 (s : Blocks) (d : Nat) : Bool := s.objN (0x1118 + d) 0x01 == 6

/-- The address of destination `d`. -/
def destAddr (s : Blocks) (d : Nat) : Nat :=
  if destV6 s d then beNat (s.objT (0x1118 + d) 0x03) else s.objN (0x1118 + d) 0x02

/-- The next hop of destination `d`. -/
def destHop (s : Blocks) (d : Nat) : Nat := nextHop s (destPort s d) (destV6 s d) (destAddr s d)

/-- The host link with one destination updated. -/
def State.updDest (s : State) (d : Nat) (f : Destination → Destination) : State :=
  { s with host := { s.host with dests := updI s.host.dests d f } }

/-- The queue of Event messages of port `p` (Table 1.4). -/
def eventQueue (p : Nat) : Nat := if p == 0 then 50 else 54

/-- A hardware queue with its count of bytes placed since the last tick boundary raised. DESIGN CHOICE: assumption 16. -/
def State.fillQueue (s : State) (q bytes : Nat) : State :=
  { s with queues := updI s.queues q (fun x => { x with placed := x.placed + bytes }) }

/-- Port p changed by `f`. -/
def State.updEth (s : State) (p : Nat) (f : EthPort → EthPort) : State :=
  { s with host := { s.host with ports := updI s.host.ports p f } }

/-- The host link changed by `f`. -/
def State.updHost (s : State) (f : HostState → HostState) : State := { s with host := f s.host }

/-- A frame sent on port p counted (Table 4.9 sub 0x18). -/
def countSent (s : State) (p : Nat) : State := s.updEth p (fun e => { e with sent := (e.sent + 1) % 2 ^ 32 })

/-- Whether CC0 and CC1 serve the host: from the start of start-up phase 4 on, and not in reset (R491, Table 20.2).
DEDUCED: assumption 30. -/
def served (s : Blocks) : Bool := s.time.running && !s.start.inReset && (s.start.phase == 0 || decide (4 ≤ s.start.phase))

/-- A frame received on port p counted, while the port serves the host (Table 4.9 sub 0x14). -/
def countReceived (s : State) (p : Nat) : State :=
  if served s.toBlocks && portReady s.toBlocks p then s.updEth p (fun e => { e with received := (e.received + 1) % 2 ^ 32 }) else s

/-- The tag of the frames that port p sends, gPTP frames apart (R89). -/
def vlanTag (s : Blocks) (p : Nat) : Option VlanTag :=
  if s.objB (0x1100 + p) 0x03 then some { id := s.objN (0x1100 + p) 0x04, priority := s.objN (0x1100 + p) 0x05 } else none

/-- A frame sent on port p (R89, R90). -/
def sendFrame (s : State) (p : Nat) (f : HostFrame) : State :=
  countSent (s.send (.frame (Fin.ofNat 2 p) (vlanTag s.toBlocks p) f)) p

/-- An address comes into use on port p: one gratuitous ARP (R88). -/
def announceAddress (s : State) (p : Nat) : State :=
  if portReady s.toBlocks p && ipv4InUse s.toBlocks p != 0 then sendFrame s p (.gratuitousArp (ipv4InUse s.toBlocks p)) else s

/-- The DHCPv4 client of port p begins to look for a lease (R88; PRESUMED, assumption 33). -/
def seekLease (s : State) (p : Nat) : State :=
  if portReady s.toBlocks p && (getI s.host.ports p).dhcp == .selecting then sendFrame s p (.dhcp .discover) else s

/-- The prefix of Table 4.2 before the rest of a message, whose length it states. -/
def message (type : Nat) (rest : Bytes) : Bytes := leBytes 1 1 ++ leBytes 1 type ++ leBytes 2 (4 + rest.length) ++ rest

/-- The octets of a GDP response (Table 4.3). -/
def gdpBytes (r : GdpResponse) : Bytes :=
  message r.type (leBytes 4 r.reqId ++ leBytes 4 r.status ++ leBytes 2 r.position ++ leBytes 2 0 ++ r.body)

/-- The octets of a Layer Stream message (Table 4.5). -/
def streamBytes (type session sequence status offset : Nat) (body : Bytes) : Bytes :=
  message type (leBytes 4 session ++ leBytes 4 sequence ++ leBytes 4 status ++ leBytes 8 offset ++ body)

/-- The octets of an Event message (Table 4.7). -/
def eventBytes (s : Blocks) (type sequence dropped time : Nat) (body : Bytes) : Bytes :=
  message type (leBytes 4 sequence ++ leBytes 1 s.role ++ leBytes 1 s.pair.unitId ++ leBytes 2 dropped ++ leBytes 4 0 ++ leBytes 8 time ++ body)

/-- Whether a message of `len` bytes fits in the free space of message queue q (R29, Table 1.4). -/
def roomIn (s : Blocks) (q len : Nat) : Bool := decide ((getI s.queues q).placed + len ≤ 65536)

/-- A message placed in its queue and sent from it, or waiting behind the others that find no space, with one stall counted for the
message that the producer holds (R28, R29). DESIGN CHOICE: assumption 16. DEDUCED: assumption 34. -/
def placeMessage (s : State) (e : Egress) : State :=
  let behind := s.host.egress.any (fun x => x.queue == e.queue && x.hop.isNone)
  if !behind && roomIn s.toBlocks e.queue e.payload.length then
    sendFrame (s.fillQueue e.queue e.payload.length) e.port (.udp e.localPort e.dst e.payload)
  else
    let held := !behind && !e.counted
    let s := s.updHost (fun h => { h with egress := h.egress ++ [{ e with hop := none, counted := e.counted || held }] })
    if held then { s with queues := updI s.queues e.queue (fun x => { x with stalls := inc32 x.stalls }) } else s

/-- Whether some message of port p already waits for the link address of a next hop. -/
def hopAsked (s : Blocks) (p hop : Nat) : Bool :=
  s.host.egress.any (fun e => e.port.val == p && e.hop == some hop)
    || anyI 4 (fun d => (getI s.host.dests d).waiting.isSome && destPort s d == p && destHop s d == hop)

/-- The link address of a next hop asked for, once while messages wait for it (R88). DESIGN CHOICE: assumption 32. -/
def askHop (s : State) (p : Nat) (v6 : Bool) (hop : Nat) : State :=
  if hopAsked s.toBlocks p hop then s else sendFrame s p (if v6 then .neighbourSolicitation hop else .arpRequest hop)

/-- A UDP message of the device to a host (R88, R90): placed in its queue, held until the link address of its next hop is known, or not
sent where the port cannot send to that family. DESIGN CHOICE: assumption 32. -/
def sendUdp (s : State) (queue : Nat) (port : Fin 2) (localPort : Nat) (dst : Src) (payload : Bytes) : State :=
  let hop := nextHop s.toBlocks port dst.v6 dst.addr
  let e : Egress := { queue, port, localPort, dst, payload, hop := none, since := s.now, counted := false }
  if !portReady s.toBlocks port || !familyInUse s.toBlocks port dst.v6 then s
  else if resolved s.toBlocks port hop then placeMessage s e
  else (askHop s port dst.v6 hop).updHost (fun h => { h with egress := h.egress ++ [{ e with hop := some hop }] })

/-- The messages that wait for space in a queue, at a boundary that has drained the queues. DESIGN CHOICE: assumption 16. -/
def drainEgress (s : State) : State :=
  let l := s.host.egress.filter (fun e => e.hop.isNone)
  l.foldl placeMessage (s.updHost (fun h => { h with egress := h.egress.filter (fun e => e.hop.isSome) }))

/-- The messages of port p that wait for a next hop, once its link address is known. -/
def releaseEgress (s : State) (p hop : Nat) : State :=
  let mine := fun (e : Egress) => e.port.val == p && e.hop == some hop
  (s.host.egress.filter mine).foldl placeMessage (s.updHost (fun h => { h with egress := h.egress.filter (fun e => !mine e) }))

/-- A Layer Stream message sent (R108; Q48 and Q52). -/
def sendStream (s : State) (port : Fin 2) (src : Src) (type session sequence status offset : Nat) (body : Bytes) : State :=
  sendUdp s (if port == 0 then 48 else 52) port 47411 src (streamBytes type session sequence status offset body)

/-- Destination `d` as the far end of a message (Table 4.9). -/
def destSrc (s : Blocks) (d : Nat) : Src := { v6 := destV6 s d, addr := destAddr s d, udp := s.objN (0x1118 + d) 0x04 }

/-- One message put on its way to destination `d` (R114). -/
def emitEvent (s : State) (d type time : Nat) (body : Bytes) : State :=
  let x := getI s.host.dests d
  let b := eventBytes s.toBlocks type x.sequence x.dropped time body
  let p := destPort s.toBlocks d
  let s := sendFrame (s.fillQueue (eventQueue p) b.length) p (.udp 47412 (destSrc s.toBlocks d) b)
  s.updDest d (fun x => { x with sequence := (x.sequence + 1) % 2 ^ 32, dropped := 0 })

/-- One message not sent (R115). DESIGN CHOICE: assumption 32. -/
def dropEvent (s : State) (d : Nat) : State := s.updDest d (fun x => { x with dropped := satU 16 (x.dropped + 1) })

/-- Whether destination `d` is enabled and selects a class (Table 4.9 subs 0x00, 0x06). -/
def destSelects (s : Blocks) (d cls : Nat) : Bool := s.objB (0x1118 + d) 0x00 && bit (s.objN (0x1118 + d) 0x06) cls

/-- Whether a message to destination `d` meets a port that cannot send it, or a full queue (R115). -/
def eventBlocked (s : Blocks) (d len : Nat) : Bool :=
  let p := destPort s d
  !portReady s p || !familyInUse s p (destV6 s d) || !roomIn s (eventQueue p) (24 + len)

/-- An Event message of a class to one destination: sent, dropped, or held while its next hop is resolved (R114, R115). -/
def eventTo (s : State) (d cls type time : Nat) (body : Bytes) : State :=
  if !destSelects s.toBlocks d cls then s
  else if eventBlocked s.toBlocks d body.length then dropEvent s d
  else if resolved s.toBlocks (destPort s.toBlocks d) (destHop s.toBlocks d) then emitEvent s d type time body
  else (askHop s (destPort s.toBlocks d) (destV6 s.toBlocks d) (destHop s.toBlocks d)).updDest d (fun x =>
    { x with held := x.held ++ [(type, time, body)], waiting := some (x.waiting.getD s.now) })

/-- An Event message to every destination that selects its class, in increasing destination number. -/
def eventToAll (s : State) (cls type time : Nat) (body : Bytes) : State :=
  forI 4 s (fun s d => eventTo s d cls type time body)

/-- The messages that waited for a next hop, sent in the order in which they were posted. -/
def releaseHeld (s : State) (d : Nat) : State :=
  let x := getI s.host.dests d
  let s := s.updDest d (fun x => { x with held := [], waiting := none })
  x.held.foldl (fun s m => emitEvent s d m.1 m.2.1 m.2.2) s

/-- After the cache of port `p` has gained an address: every destination whose next hop it is goes on (R88, R115). -/
def hopResolved (s : State) (p hop : Nat) : State :=
  forI 4 (releaseEgress s p hop) (fun s d => if destPort s.toBlocks d == p && destHop s.toBlocks d == hop then releaseHeld s d else s)

/-- An address and its link address entered in the cache of port `p`, which holds 64 entries for 60 s each (R88). -/
def learn (s : State) (p addr mac : Nat) : State :=
  let s := { s with host := { s.host with ports := updI s.host.ports p (fun e =>
    { e with arp := ((addr, mac, s.now + 6000000) :: e.arp.filter (fun x => x.1 != addr)).take 64 }) } }
  hopResolved s p addr

/-- The octets of a peer message (R339, Table 13.3). -/
def peerBytes (type sequence tick : Nat) (payload : Bytes) : Bytes :=
  let b := leBytes 1 type ++ leBytes 1 0 ++ leBytes 2 (20 + payload.length) ++ leBytes 4 sequence ++ leBytes 8 tick ++ payload
  b ++ leBytes 4 (crc32c b)

/-- A peer message sent with the next sequence of its type (R339, Table 13.3). -/
def sendPeer (s : State) (type : Nat) (body : Bytes) : State :=
  let q := getI s.pair.sequences type
  { s.send (.peer (peerBytes type q s.tickCount body)) with pair := { s.pair with sequences := updI s.pair.sequences type (fun x => (x + 1) % 2 ^ 32) } }

end Sys2Proof.Machine
end

