-- ==== Sys2Proof/Machine/Faults.lean ====
section
/-! DEFINITION. The fault manager: posting to Q63, fault records, severity, the on-chip log and the ring's queue
(20_startup_and_faults R498–R509; 01_architecture R29, R37). -/

namespace Sys2Proof.Machine

/-- The value of a severity (Table 20.4). -/
def Severity.num : Severity → Nat
  | .note => 1
  | .warn => 2
  | .stopChannel => 3
  | .stopJob => 4
  | .safe => 5

/-- The code of a source kind (Table 20.5). -/
def SourceKind.num : SourceKind → Nat
  | .device => 0
  | .channel => 1
  | .servoAxis => 2
  | .stepperAxis => 3
  | .ledString => 4
  | .temperature => 5
  | .rail => 6
  | .loadSwitch => 7
  | .zlPort => 8
  | .cameraPort => 9
  | .imageContext => 10
  | .fen => 11
  | .engine => 12
  | .memory => 13
  | .flash => 14
  | .peerLink => 15
  | .layerPackage => 16

/-- The place of a source within one P3 (R501): servo engines, scan engines, ZL ports, the other blocks as Table 1.1 lists them, control cores. -/
def Poster.rank : Poster → Nat
  | .ve j => j
  | .se k => 100 + k
  | .zl p => 200 + p
  | .block b => 300 + b
  | .core c => 400 + c

/-- An event inserted behind those that go before it or stand level with it. -/
def insertEvent (e : Event) : List Event → List Event
  | [] => [e]
  | x :: l => if x.poster.rank ≤ e.poster.rank then x :: insertEvent e l else e :: x :: l

/-- Events in the order in which P3 admits them (R501). -/
def orderEvents (l : List Event) : List Event := l.foldl (fun acc e => insertEvent e acc) []

/-- Events that Q63 holds: 65,536 bytes of 64 (DEDUCED, assumption 6). -/
def q63Capacity : Nat := 1024

/-- One event lost or one record not held: the overflow count, and event 0x1404 for the first in any 100,000 ticks (R505). -/
def noteOverflow (s : State) : State :=
  let f := s.faults
  let due := match f.overflowPosted with
    | none => true
    | some t => decide (t + 100000 ≤ s.now)
  let s := { s with faults := { f with
    overflowCount := inc32 f.overflowCount, overflowPosted := if due then some s.now else f.overflowPosted } }
  if due then s.post (mkEvent (.core 0) 0x1404 .warn .device 0 []) else s

/-- One event offered to Q63 in P3: queued with its stamp, or lost when the queue is full (R29, R501). -/
def admitEvent (s : State) (e : Event) : State :=
  if s.faults.q63.length < q63Capacity then
    { s with faults := { s.faults with q63 := s.faults.q63 ++
      [{ ev := e, localTime := (s.time.boundary + 7000) % 2 ^ 64, devState := devNum s.job.dev }] } }
  else
    let s := { s with faults := { s.faults with
      lostEvents := inc32 s.faults.lostEvents, lostSince := satU 16 (s.faults.lostSince + 1) } }
    noteOverflow s

/-- P3: every event decided since the last P3 enters Q63 (R501). -/
def postEvents (s : State) : State :=
  let l := orderEvents s.faults.posted
  l.foldl admitEvent { s with faults := { s.faults with posted := [] } }

/-- The open records, stored and unstored. -/
def openRecords (f : FaultState) : List Record := (f.log.filter (fun r => !r.closed)) ++ f.unstored

/-- The severity in force (R500): the highest of the open records and the overflow severity; 0 for none. -/
def sevInForce (f : FaultState) : Nat :=
  maxN (f.overflowSev :: (openRecords f).map (fun r => r.st.ev.severity.num))

/-- The log with a record added; none when all 256 records held are open (R505). -/
def logAdd (log : List Record) (r : Record) : Option (List Record) :=
  if log.length < 256 then some (log ++ [r])
  else if log.any (fun x => x.closed) then some (log.eraseIdx (log.findIdx (fun x => x.closed)) ++ [r])
  else none

/-- The 64 bytes of a fault record (Table 20.5). -/
def recordBytes (unitId : Nat) (r : Record) : Bytes :=
  leBytes 4 r.number ++ leBytes 4 r.link ++ leBytes 4 r.boot ++ leBytes 2 r.st.ev.code ++ leBytes 1 r.st.ev.severity.num
    ++ leBytes 1 (b2n (!r.closed) + 2 * b2n r.escalated + 4 * b2n r.unstored + 8 * b2n r.closedByReset)
    ++ leBytes 8 r.st.localTime ++ leBytes 8 r.st.ev.tick ++ leBytes 1 r.st.ev.kind.num ++ leBytes 1 unitId
    ++ leBytes 2 r.st.ev.inst ++ leBytes 1 r.st.devState ++ leBytes 1 r.sevInForce ++ leBytes 2 r.lost
    ++ padTo 24 r.st.ev.detail

/-- The severer of two job-level actions (R500). -/
def severer (a : Option Severity) (b : Severity) : Severity :=
  match a with
  | none => b
  | some x => if x.num < b.num then b else x

/-- The ring entries that stand in Q62, 64 bytes each; the others wait in CC0 (R29, Table 1.4). DESIGN CHOICE: assumption 16. -/
def ringQueued (f : FaultState) : Nat := Nat.min 1024 f.ringPending.length

/-- The stall that CC0 counts for the ring entry that it holds while Q62 is full (R29). DEDUCED: assumption 34. -/
def noteRingStall (s : State) : State :=
  if ringQueued s.faults < s.faults.ringPending.length then
    { s with queues := updI s.queues 62 (fun x => { x with stalls := inc32 x.stalls }) }
  else s

/-- A ring entry put into Q62, or held by CC0 behind those that find no space there (R29, R507). -/
def queueRing (s : State) (r : Record) : State :=
  let first := decide (s.faults.ringPending.length ≤ 1024)
  let s := { s with faults := { s.faults with ringPending := s.faults.ringPending ++ [r] } }
  if first then noteRingStall s else s

/-- The first ring entry taken from Q62, into which the one that CC0 holds then passes (R29). -/
def takeRing (s : State) : State := noteRingStall { s with faults := { s.faults with ringPending := s.faults.ringPending.drop 1 } }

/-- FAULT messages of a record (R114, R115). -/
def sendFault (s : State) (r : Record) : State :=
  let body := recordBytes s.pair.unitId r
  forI 4 s (fun s d =>
    if s.objN (0x1118 + d) 0x07 ≤ r.st.ev.severity.num then eventTo s d 0 0x81 r.st.localTime body else s)

/-- The record of one event that CC0 has read (R502, R503, R505), with its severity's effect (R498, R500). -/
def createRecord (s : State) (st : Stamped) : State :=
  let f := s.faults
  let before := sevInForce f
  let root := if (openRecords f).isEmpty then 0 else f.root
  let number := (f.created + 1) % 2 ^ 32
  let sev := st.ev.severity
  let r0 : Record :=
    { number, link := root, boot := f.boot, st, closed := false, escalated := decide (before < sev.num), unstored := false
      closedByReset := false, sevInForce := Nat.max before sev.num, lost := f.lostSince }
  let f := { f with
    created := inc32 f.created, root := if root == 0 then number else root, lostSince := 0
    action := if before < sev.num && 4 ≤ sev.num then some (severer f.action sev) else f.action }
  let stored := logAdd f.log r0
  let r := if stored.isSome then r0 else { r0 with unstored := true }
  let s := { s with faults := match stored with
    | some log => { f with log := log }
    | none => { f with unstored := f.unstored ++ [r], overflowSev := Nat.max f.overflowSev sev.num } }
  let s := if r.unstored then noteOverflow s else s
  let s := if 3 ≤ sev.num then queueRing s r else s
  sendFault s r

/-- P4: CC0 reads events from Q63 in the order of posting, up to 16 in a tick (R37). -/
def readEvents (s : State) : State :=
  let k := 16 - s.faults.readNow
  let l := s.faults.q63.take k
  l.foldl createRecord { s with faults := { s.faults with q63 := s.faults.q63.drop k, readNow := s.faults.readNow + l.length } }

/-- The events that a block decides after clock 7,000 of a tick whose P3 has run, posted in that P3 (R34): `held` are the events that wait
for the next one. -/
def postInTick (held : List Event) (s : State) : State :=
  let s := readEvents (postEvents s)
  { s with faults := { s.faults with posted := held ++ s.faults.posted } }

/-- Whether a record may be acknowledged in the present state (R506). -/
def ackEligible (s : Blocks) (code sev : Nat) : Bool :=
  if code == 0x1401 then false
  else if sev ≤ 3 then true
  else if sev == 4 then s.job.dev == .ready || s.job.dev == .held
  else s.job.dev == .held && !s.power.pfLow && allI 6 (fun k => !getI s.power.outside k)

/-- Whether an acknowledge of a value is accepted (R506). -/
def ackAccepted (s : Blocks) (v : Nat) : Bool :=
  v == 0xFFFFFFFF ||
    s.faults.log.any (fun r => r.number == v && !r.closed && ackEligible s r.st.ev.code r.st.ev.severity.num)

/-- One record closed and its ring entry queued (R506, R507). -/
def closeRecord (s : State) (number : Nat) : State :=
  match s.faults.log.find? (fun r => r.number == number && !r.closed) with
  | none => s
  | some r =>
    let c := { r with closed := true }
    queueRing { s with faults := { s.faults with
      log := s.faults.log.map (fun x => if x.number == number && !x.closed then c else x) } } c

/-- Whether some open record, or the overflow severity, is SAFE. DEDUCED: assumption 59. -/
def safeOpen (f : FaultState) : Bool := (openRecords f).any (fun r => r.st.ev.severity == .safe) || f.overflowSev == 5

/-- The records that an acknowledge may close: those created before its commit, up to number `upTo` (R510). -/
def ackTargets (s : Blocks) (v upTo : Nat) : List Nat :=
  (s.faults.log.filter (fun r => !r.closed && decide (r.number ≤ upTo) && (v == 0xFFFFFFFF || r.number == v) &&
    ackEligible s r.st.ev.code r.st.ev.severity.num)).map (fun r => r.number)

/-- The overflow severity and the unstored records closed by an acknowledge of all (R506). -/
def closeUnstored (s : State) : State :=
  if s.faults.overflowSev == 0 || !ackEligible s.toBlocks 0 s.faults.overflowSev then s
  else
    let l := (s.faults.unstored.filter (fun r => r.st.ev.code != 0x1401)).map (fun r => { r with closed := true })
    l.foldl queueRing { s with faults := { s.faults with
      unstored := s.faults.unstored.filter (fun r => r.st.ev.code == 0x1401), overflowSev := 0 } }

/-- The job gate of every channel set or released (R497). -/
def setJobGates (s : State) (b : Bool) : State :=
  { s with scan := { s.scan with chans := s.scan.chans.map (fun c => { c with gates := { c.gates with job := b } }) } }

/-- HELD is left when the last open SAFE record has closed: READY, the job gates released, event 0x1407 (R496, R497, R506). -/
def releaseHold (s : State) : State :=
  if s.job.dev == .held && !safeOpen s.faults then
    (setJobGates { s with job := { s.job with dev := .ready } } false).post (mkEvent (.core 0) 0x1407 .note .device 0 [])
  else s

/-- The acknowledge of a value at its immediate boundary (R506). -/
def acknowledgeAt (s : State) (v upTo : Nat) : State :=
  let s := (ackTargets s.toBlocks v upTo).foldl closeRecord s
  let s := if v == 0xFFFFFFFF then closeUnstored s else s
  releaseHold s

/-- The event code of the first open SAFE record; 0 when not HELD (Table 20.8 sub 0x08). -/
def holdCauseOf (s : Blocks) : Nat :=
  if s.job.dev == .held then
    (((openRecords s.faults).find? (fun r => r.st.ev.severity == .safe)).map (fun r => r.st.ev.code)).getD 0
  else 0

/-- A producer that holds an entry that does not fit counts one stall for the entry (R29); `fresh` says that others moved before.
DEDUCED: assumption 34. -/
def noteStall (s : State) (q : Nat) (waits fresh : Bool) : State :=
  { s with queues := updI s.queues q (fun x =>
    { x with waiting := waits, stalls := if waits && (fresh || !x.waiting) then inc32 x.stalls else x.stalls }) }

end Sys2Proof.Machine
end

