-- ==== Sys2Proof/Machine/DictCore.lean ====
section
/-! DEFINITION. The pending store: commits, moments of effect and values coming into force (03_object_dictionary R72–R79). -/

namespace Sys2Proof.Machine

/-- The immediate boundary of a commit at the clock reached, in ticks since start (R73). DEDUCED: assumption 23. -/
def commitDue (s : Blocks) : Nat := if s.time.clock < 9000 then s.now + 1 else s.now + 2

/-- The tick count of the immediate boundary (R73, R100). -/
def boundaryCount (s : Blocks) : Nat := (s.tickCount + (if s.time.clock < 9000 then 1 else 2)) % 2 ^ 48

/-- Whether two pending values of one object have the same moment of effect, seen in tick `now` (R74, R77): the same immediate boundary,
or, for a LYR value that waits beyond its own one, the next boundary. DEDUCED: assumption 26. -/
def sameMoment (now : Nat) (x w : PendingWrite) : Bool :=
  x.due == w.due || (w.apply == .lyr && decide (x.due ≤ now) && w.due == now + 1)

/-- A pending value entered behind the others; one of the same object with the same moment of effect leaves (R77, R79).
DEDUCED: assumption 26. -/
def putPending (now : Nat) (l : List PendingWrite) (w : PendingWrite) : List PendingWrite :=
  l.filter (fun x => !(x.index == w.index && x.sub == w.sub && sameMoment now x w)) ++ [w]

/-- The apply class of an object. -/
def applyOf (index sub : Nat) : Apply := ((rowFor index sub).map (fun r => r.apply)).getD .imm

/-- Whether an object is a TABLE. -/
def isTableObj (index sub : Nat) : Bool := ((rowFor index sub).map (fun r => isTable r.type)).getD false

/-- Writes in the pending store that count against its 1,024 places (R79). -/
def storeCount (l : List PendingWrite) : Nat := (l.filter (fun w => !w.staged && !isTableObj w.index w.sub)).length

/-- Committed tables not yet in force (R79). -/
def tableCount (l : List PendingWrite) : Nat := (l.filter (fun w => !w.staged && isTableObj w.index w.sub)).length

/-- A pending write committed at the clock reached. -/
def newPending (s : Blocks) (index sub : Nat) (v : Val) (staged : Bool) : PendingWrite :=
  { index, sub, val := v, apply := applyOf index sub, due := commitDue s, commitTime := s.localTime, tickBound := false, staged
    mark := s.faults.created }

/-- The dictionary changed by `f`. -/
def State.updDict (s : State) (f : DictState → DictState) : State := { s with dict := f s.dict }

/-- A value that the device stages itself (R76, R77). -/
def stageValue (s : State) (index sub : Nat) (v : Val) : State :=
  let w := newPending s.toBlocks index sub v true
  s.updDict (fun d => { d with pending := putPending s.now d.pending w })

/-- Of several values of one object whose boundary has come, only the last committed stays (R77). DEDUCED: assumption 26. -/
def dropReplaced (now : Nat) (l : List PendingWrite) : List PendingWrite :=
  match l with
  | [] => []
  | w :: r =>
    if w.due ≤ now && r.any (fun x => x.index == w.index && x.sub == w.sub && decide (x.due ≤ now)) then dropReplaced now r
    else w :: dropReplaced now r

/-- A LYR value that waits beyond its boundary leaves where a later one of its object has the next boundary: both now have the same moment
of effect (R77, R79). DEDUCED: assumption 26. -/
def dropWaiting (now : Nat) (l : List PendingWrite) : List PendingWrite :=
  match l with
  | [] => []
  | w :: r =>
    if w.apply == .lyr && decide (w.due ≤ now) &&
        r.any (fun x => x.index == w.index && x.sub == w.sub && decide (x.due ≤ now + 1)) then dropWaiting now r
    else w :: dropWaiting now r

/-- The value expected of an object once every pending value is in force (R70): the last pending one, or the one in force. -/
def pendingVal (d : DictState) (index sub : Nat) : Val :=
  match (d.pending.filter (fun w => w.index == index && w.sub == sub)).getLast? with
  | some w => w.val
  | none => objVal d index sub

/-- The number of a pending or present value. -/
def Blocks.nextN (s : Blocks) (index sub : Nat) : Nat := (valI (pendingVal s.dict index sub)).toNat

/-- Moves every committed value whose boundary is the next one into the tick-bound copy (R73). -/
def bindPending (s : State) : State :=
  s.updDict (fun d => { d with pending := d.pending.map (fun w =>
    if w.due ≤ s.now + 1 then { w with tickBound := true } else w) })

/-- APPLY_POINT (R73): clock 9,000. -/
def execApplyPoint (s : State) : Host.Outcome State Fault Refusal := .next (bindPending (s.atClock 9000))

end Sys2Proof.Machine
end

