-- ==== Sys2Proof/Machine/Thermal.lean ====
section
/-! DEFINITION. The temperature front end: readings, validity, rate-of-rise limits, throttle requests and the die
(17_thermal_and_power R422–R430, R443, R444). -/

namespace Sys2Proof.Machine

/-- An event of the temperature front end. -/
def tempEvent (k code : Nat) (sev : Severity) (detail : Bytes) : Event := mkEvent (.block 4) code sev .temperature k detail

/-- 64 × T as a reading with its offset (R423). -/
def readingOf (t : F64) (offset : Int) : Int := satS 16 (satS 16 (f64Round (f64Mul (f64I 64) t)) + offset)

/-- T and Rs of the diode model (R423): voltages in µV, `n` the ideality factor in 2^-14. -/
def diodeModel (v1 v2 v3 n : Nat) : F64 × F64 :=
  let v := fun (x : Nat) => f64Of (x : Int) 1000000
  let d1 := f64Sub (v v2) (v v1)
  let d2 := f64Sub (v v3) (v v2)
  let a := f64Div (f64Sub (f64Mul (f64I 4) d1) d2) (f64I 3)
  let rs := f64Div (f64Sub d2 d1) (f64Of 72 1000000)
  let t := f64Sub (f64Div (f64Mul (f64Of 11604518 1000) a) (f64Mul (f64Of (n : Int) 16384) (f64Ln (f64I 4)))) (f64Of 27315 100)
  (t, rs)

/-- R of an NTC in mΩ (R424): the ratio as a fraction, the reference resistor in mΩ. -/
def ntcResistance (num den rref : Nat) : F64 :=
  let rho := f64Of (num : Int) den
  f64Div (f64Mul (f64I (rref : Int)) rho) (f64Sub (f64I 1) rho)

/-- T of the β model (R424). -/
def betaModel (r : F64) (rnom beta : Nat) : F64 :=
  let x := f64Add (f64Div (f64I 1) (f64Of 29815 100)) (f64Div (f64Ln (f64Div r (f64I (rnom : Int)))) (f64I (beta : Int)))
  f64Sub (f64Div (f64I 1) x) (f64Of 27315 100)

/-- Entry `i` of a thermistor table: resistance in mΩ and temperature in 1/64 °C. -/
def ntcEntry (t : Bytes) (i : Nat) : Nat × Int := (fieldU t (8 * i) 4, fieldI t (8 * i + 4) 2)

/-- T from a table (R424): linear in ln R between the two points that enclose R; none outside the table. -/
def tableModel (t : Bytes) (r : F64) : Option F64 :=
  ((List.range 32).find? (fun i =>
    f64Le r (f64I ((ntcEntry t i).1 : Int)) && f64Le (f64I ((ntcEntry t (i + 1)).1 : Int)) r)).map (fun i =>
      let (r0, t0) := ntcEntry t i
      let (r1, t1) := ntcEntry t (i + 1)
      let l0 := f64Ln (f64I (r0 : Int))
      let l1 := f64Ln (f64I (r1 : Int))
      let x := f64Div (f64Sub (f64Ln r) l0) (f64Sub l1 l0)
      f64Add (f64Of t0 64) (f64Mul (f64Sub (f64Of t1 64) (f64Of t0 64)) x))

/-- Whether T lies in the range of Table 17.1. -/
def inTempRange (t : F64) : Bool := f64Le (f64I (-55)) t && f64Le t (f64I 300)

/-- What a slot gives: reading, reason of Table 17.1, series resistance in Ω. -/
def slotResult (s : Blocks) (k : Nat) (m : SlotMeasure) : Int × Nat × Nat :=
  let i := 0x2210 + k
  let offset := s.objI i 0x07
  match s.objN i 0x00, m with
  | 1, .diode v1 v2 v3 =>
    let (t, rs) := diodeModel v1 v2 v3 (s.objN i 0x01)
    let series := satU 16 (f64Round rs).toNat
    if 1200000 ≤ v3 then (-32768, 1, series)
    else if v1 < 150000 then (-32768, 2, series)
    else if f64Lt (f64I (s.objN i 0x02 : Int)) rs then (-32768, 3, series)
    else if !inTempRange t then (-32768, 4, series)
    else (readingOf t offset, 0, series)
  | 1, _ => (-32768, 1, 0)
  | 0, _ => (-32768, 5, 0)
  | mode, .ntc num den =>
    if 998 * den < 1000 * num then (-32768, 1, 0)
    else if 1000 * num < 2 * den then (-32768, 2, 0)
    else
      let r := ntcResistance num den (s.objN i 0x03)
      match (if mode = 2 then some (betaModel r (s.objN i 0x04) (s.objN i 0x05)) else tableModel (s.objT i 0x06) r) with
      | none => (-32768, 4, 0)
      | some t => if inTempRange t then (readingOf t offset, 0, 0) else (-32768, 4, 0)
  | _, _ => (-32768, 1, 0)

/-- Input k changed by `f`. -/
def State.updTemp (s : State) (k : Nat) (f : TempInput → TempInput) : State :=
  { s with temp := { s.temp with inputs := updI s.temp.inputs k f } }

/-- The die temperature: the highest of its sensors (R430). -/
def dieTemp (t : TempState) : Int := t.die.toList.foldl max (getI t.die 0)

/-- TEMPERATURE_SLOT (R426): the slot's result is kept for its scan, and the die sensors are read once (R430). -/
def execTemperatureSlot (k : Fin 48) (m : SlotMeasure) (die : Vector Int 8) (s : State) : Host.Outcome State Fault Refusal :=
  let r := slotResult s.toBlocks k m
  let s := if s.objN (0x2210 + k.val) 0x00 = 0 then s else s.updTemp k (fun x => { x with slot := some r })
  let hot := dieTemp { s.temp with die }
  .next { s with temp := { s.temp with
    die, peak := max s.temp.peak hot, dieAbove := s.temp.dieAbove && decide (s.objI 0x2200 0x02 < hot) } }

/-- Entry `w` of a history, with its validity. -/
def historyAt (h : List (Int × Bool)) (w : Nat) : Option (Int × Bool) := h[w]?

/-- The evaluation of an input after a push (R427, R428): window W, period P, limit L. -/
def evalRise (k w p l release : Nat) (sev : Severity) (x : TempInput) : TempInput × List Event :=
  match historyAt x.history 0, historyAt x.history w with
  | some (tn, true), some (to_, true) =>
    if l = 0 then (x, [])
    else
      let dt := tn - to_
      let x := { x with rate := rndDiv (dt * 100) (w * p : Nat) }
      let crossed := decide (((l * w * p : Nat) : Int) < dt * 100)
      if !x.tripped then
        if crossed then ({ x with tripped := true, count := 0, trips := inc32 x.trips }, [tempEvent k 0x1101 sev []]) else (x, [])
      else if crossed then ({ x with count := 0 }, [])
      else if release ≤ x.count + 1 then ({ x with tripped := false, count := 0 }, [tempEvent k 0x110B .note []])
      else ({ x with count := x.count + 1 }, [])
  | _, _ => (x, [])

/-- One input at publishing (R425–R428). DEDUCED: assumption 58. -/
def publishInput (s : Blocks) (scan k : Nat) (x : TempInput) : TempInput × List Event :=
  let i := 0x2210 + k
  let (reading, why, series) := if s.objN i 0x00 = 0 then ((-32768 : Int), 5, 0) else x.slot.getD (x.reading, x.validity, x.series)
  let es := if x.validity == 0 && why != 0 then [tempEvent k 0x1105 .warn []] else []
  let x := { x with
    reading, validity := why, series, slot := none
    invalid := if why != 0 && why != 5 then inc32 x.invalid else x.invalid }
  let p := s.objN i 0x0A
  if p = 0 || scan % p != 0 then (x, es)
  else
    let x := { x with history := ((reading, why == 0) :: x.history).take 256 }
    let sev := if s.objN i 0x0B = 2 then Severity.stopJob else .warn
    let (x, es2) := evalRise k (s.objN i 0x09) p (s.objN i 0x08) (s.objN i 0x0C) sev x
    (x, es ++ es2)

/-- The throttle requests of all TRIPPED inputs whose action is 1 or 2, by the mask at `sub` (R429). -/
def throttleMask (s : Blocks) (sub : Nat) : Nat :=
  (List.range 48).foldl (fun m k =>
    if (getI s.temp.inputs k).tripped && s.objN (0x2210 + k) 0x0B != 0 then m ||| s.objN (0x2210 + k) sub else m) 0

/-- The publishing of a scan (R426–R429). -/
def publishScan (s : State) : State :=
  let scan := s.tickCount / 1000
  let s := forI 48 s (fun s k =>
    let r := publishInput s.toBlocks scan k (getI s.temp.inputs k)
    (s.updTemp k (fun _ => r.1)).postAll r.2)
  { s with temp := { s.temp with
    scans := (s.temp.scans + 1) % 2 ^ 32, published := some (scan, s.now)
    channelThrottle := throttleMask s.toBlocks 0x0D, axisThrottle := throttleMask s.toBlocks 0x0E } }

/-- Whether the scan of the tick is due for publishing: P4 of tick 1,000s + 959, not discarded, not published (R426). -/
def scanDue (s : Blocks) : Bool :=
  s.tickCount % 1000 == 959 && !s.temp.discard && s.temp.published.map (fun p => p.1) != some (s.tickCount / 1000)

/-- The scan in progress discarded: its slots are dropped (R426, R455). -/
def discardScan (s : State) : State :=
  { s with temp := { s.temp with discard := true, inputs := s.temp.inputs.map (fun x => { x with slot := none }) } }

/-- At a multiple of 1,000 ticks a new scan starts (R426). -/
def startScan (s : State) : State :=
  if s.tickCount % 1000 = 0 then { s with temp := { s.temp with discard := false, published := none } } else s

/-- The history of an input emptied: its mode, window or history period was written (R427). -/
def emptyHistory (s : State) (k : Nat) : State := s.updTemp k (fun x => { x with history := [] })

/-- DIE_WARNING (R430): the die has risen above the warning threshold; 0x1108 at most once per 100,000 ticks. -/
def execDieWarning (s : State) : Host.Outcome State Fault Refusal :=
  if dieTemp s.temp ≤ s.objI 0x2200 0x02 || s.temp.dieAbove then .next s
  else
    let due := match s.temp.diePosted with
      | none => true
      | some t => decide (t + 100000 ≤ s.now)
    let s := { s with temp := { s.temp with dieAbove := true, diePosted := if due then some s.now else s.temp.diePosted } }
    .next (if due then s.post (mkEvent (.block 4) 0x1108 .warn .device 0 []) else s)

end Sys2Proof.Machine
end

