-- ==== Sys2Proof/Machine/Analog.lean ====
section
/-! DEFINITION. Photodiode averages, analog laser outputs, and the calibration of trimmed channels
(18_analog_io_and_trims R446–R460). -/

namespace Sys2Proof.Machine

/-- PD of the ten codes of a tick (R447). -/
def pdAverage (codes : Vector Nat 10) : Nat :=
  let l := codes.toList
  if l.any (fun c => c = 0xFFFF) then 0xFFFF else satU 16 (rndDiv (sumN l : Int) 10).toNat

/-- The photodiode average of channel n closed in P0 (R446, R447). -/
def closePhotodiode (codes : Vector Nat 10) (a : Analog) : Analog :=
  let l := codes.toList
  let pd := pdAverage codes
  { a with
    pd, pdMin := l.foldl Nat.min 0xFFFF, pdMax := maxN l, overRange := if pd = 0xFFFF then inc32 a.overRange else a.overRange }

/-- The kind of trim index j (Table 18.1): 0 LAO, 1 photodiode, 2 MVS, 3 temperature. -/
def trimKind (j : Nat) : Nat := if j < 32 then 0 else if j < 64 then 1 else if j < 80 then 2 else 3

/-- Whether a channel is IDLE or STOPPED. -/
def chanResting (s : Blocks) (n : Nat) : Bool :=
  let c := getI s.scan.chans n
  c.state == .idle || c.state == .stopped

/-- Whether trimmed channel j is idle (Table 18.1). -/
def trimIdle (s : Blocks) (j : Nat) : Bool :=
  if j < 64 then chanResting s (j % 32)
  else if j < 80 then
    let m := (j - 64) / 2
    let ax := getI s.steps m
    ax.st == .idle || ax.st == .stopped || !s.objB (0x4000 + m) 0x00
  else true

/-- Whether a calibration of index j runs. -/
def calibrating (s : Blocks) (j : Nat) : Bool := (getI s.analog.trims j).phase != 0

/-- Whether any calibration runs (R457). -/
def anyCalibration (s : Blocks) : Bool := anyI 81 (fun j => calibrating s j)

/-- E0 and EF of a kind (Table 18.2). -/
def calPoints (kind : Nat) : F64 × F64 :=
  match kind with
  | 0 => (f64I 2048, f64I 61440)
  | 1 => (f64I 0, f64Of 589824 10)
  | 2 => (f64I 0, f64Of 294912 10)
  | _ => (f64I 0, f64Of 69905067 100)

/-- The mean of 1,024 conversions in LSB: codes, or monitor readings in mV for LAO (R453). -/
def calMean (kind : Nat) (sum : Int) : F64 :=
  let m := f64Of sum 1024
  if kind = 0 then f64Div (f64Mul m (f64I 65536)) (f64I 2500) else m

/-- e0 and eg of R454. -/
def calErrors (kind : Nat) (sum0 sumF : Int) : F64 × F64 :=
  let (x0, xf) := calPoints kind
  let m0 := calMean kind sum0
  let mf := calMean kind sumF
  let span := f64Sub xf x0
  (f64Sub m0 x0, f64Div (f64Sub (f64Sub mf m0) span) span)

/-- A trim code limited to its range (R451). -/
def trimClamp (x : Int) : Int := clampI (-512) 511 x

/-- The codes a calibration commits (R454). -/
def calCodes (kind : Nat) (o k sum0 sumF : Int) : Int × Int :=
  let (e0, eg) := calErrors kind sum0 sumF
  (trimClamp (o - f64Round (f64Mul (f64I 4) e0)), trimClamp (k - f64Round (f64Mul (f64I 16384) eg)))

/-- r0 and rF in 1/16 LSB (R454). -/
def calResiduals (kind : Nat) (sum0 sumF : Int) : Int × Int :=
  let (x0, xf) := calPoints kind
  let m0 := calMean kind sum0
  let mf := calMean kind sumF
  (satS 16 (f64Round (f64Mul (f64I 16) (f64Sub m0 x0))),
    satS 16 (f64Round (f64Mul (f64I 16) (f64Sub (f64Sub mf m0) (f64Sub xf x0)))))

/-- Trim index j changed by `f`. -/
def State.updTrim (s : State) (j : Nat) (f : Trim → Trim) : State :=
  { s with analog := { s.analog with trims := updI s.analog.trims j f } }

/-- An event of the analog front end; its detail is the trim index (Table 18.4). -/
def trimEvent (j code : Nat) (sev : Severity) : Event := mkEvent (.block 5) code sev .device 0 (leBytes 2 (0x4300 + j))

/-- Analog channel n changed by `f`. -/
def State.updAnalog (s : State) (n : Nat) (f : Analog → Analog) : State :=
  { s with analog := { s.analog with channels := updI s.analog.channels n f } }

/-- Whether a calibration command is accepted beyond idleness (R457). -/
def calibrationAccepted (s : Blocks) (j : Nat) : Bool := !calibrating s j

/-- The effect of a calibration command at its boundary (R454, R455). -/
def startCalibration (s : State) (j : Nat) : State :=
  s.updTrim j (fun t => { t with status := 1, phase := 1, started := s.tickCount, since := s.now, limited := false })

/-- A calibration aborted (R456). -/
def abortCalibration (s : State) (j : Nat) : State :=
  if !calibrating s.toBlocks j then s
  else (s.updTrim j (fun t => { t with status := 5, phase := 0, tick := s.tickCount, count := inc32 t.count })).post (trimEvent j 0x1204 .warn)

/-- Every calibration aborted: a power-fail or rail event (R457). -/
def abortAllCalibrations (s : State) : State := forI 81 s abortCalibration

/-- Every LAO calibration aborted: LPERMIT_N negated (R457). -/
def abortLaoCalibrations (s : State) : State := forI 32 s abortCalibration

/-- CALIBRATION_COMMIT (R454): the codes computed from both points are staged (R452). -/
def execCalibrationCommit (j : Fin 81) (sum0 sumF : Int) (s : State) : Host.Outcome State Fault Refusal :=
  if (getI s.analog.trims j).phase != 1 then .next s
  else
    let i := 0x4300 + j.val
    let (o, k) := calCodes (trimKind j) (s.objI i 0x00) (s.objI i 0x01) sum0 sumF
    let s := stageValue (stageValue s i 0x00 (.int o)) i 0x01 (.int k)
    .next (s.updTrim j (fun t => { t with phase := 2, since := s.now + 21, limited := o == -512 || o == 511 || k == -512 || k == 511 }))

/-- CALIBRATION_COMPLETE (R454, R456). -/
def execCalibrationComplete (j : Fin 81) (sum0 sumF : Int) (s : State) : Host.Outcome State Fault Refusal :=
  let t := getI s.analog.trims j
  if t.phase != 2 then .next s
  else
    let (r0, rF) := calResiduals (trimKind j) sum0 sumF
    let limit := s.objN 0x4351 (trimKind j)
    let beyond := decide (limit < r0.natAbs) || decide (limit < rF.natAbs)
    let status := if t.limited then 3 else if beyond then 4 else 2
    let e := if t.limited then trimEvent j 0x1202 .warn else if beyond then trimEvent j 0x1203 .warn else trimEvent j 0x1201 .note
    .next ((s.updTrim j (fun t => { t with status, r0, rF, tick := s.tickCount, count := inc32 t.count, phase := 0 })).post e)

/-- Whether a temperature calibration takes the scan of the tick (R455): the one after the scan in which it started, unless it ended
before that scan began. -/
def scanCalibrated (s : Blocks) : Bool :=
  let t := getI s.analog.trims 80
  t.status != 0 && s.tickCount / 1000 == t.started / 1000 + 1 && (t.phase != 0 || t.tick / 1000 == s.tickCount / 1000)

/-- The publishing of the scan that is due (R426); a scan that a calibration takes publishes nothing (R455). -/
def publishDue (s : State) : State := if scanDue s.toBlocks && !scanCalibrated s.toBlocks then publishScan s else s

/-- SCAN_PUBLISH (R426). -/
def execScanPublish (s : State) : Host.Outcome State Fault Refusal := .next (publishDue s)

/-- Whether LAO and LG of channel n follow the laser command: LAO enable, LPERMIT_N low, and no calibration (R437, R448, R454). -/
def laoFollows (s : Blocks) (n : Nat) : Bool := s.objB (0x4400 + n) 0x00 && !s.power.gate5

/-- The code that a calibration drives on LAO[n]: that of point 0 for 123 ticks, then that of point F (R453, R454, Table 18.2).
DESIGN CHOICE: assumption 93. -/
def calibrationCode (s : Blocks) (n : Nat) : Nat :=
  if s.now - (getI s.analog.trims n).since < 123 then 2048 else 61440

/-- LAO and LG of channel n at a tick boundary under the laser command then in force: the start power now, each event at its offset
(R153, R155, R448); while LAO[n] calibrates, the code of the point in progress with LG[n] low (R453, R454). -/
def latchAnalog (s : State) (n : Nat) : State :=
  if calibrating s.toBlocks n then
    s.updAnalog n (fun a => { a with lao := if s.power.gate5 then 0 else calibrationCode s.toBlocks n, lg := false, steps := [] })
  else
    let k := (getI s.scan.chans n).cmdNow
    let onNow := laoFollows s.toBlocks n
    s.updAnalog n (fun a => { a with
      lao := if onNow then k.start else 0, lg := onNow && k.start != 0, steps := if onNow then k.events else [] })

/-- Every analog laser output off (Table 17.4, R430). -/
def analogOff (s : State) : State :=
  { s with analog := { s.analog with channels := s.analog.channels.map (fun a => { a with lao := 0, lg := false, steps := [] }) } }

end Sys2Proof.Machine
end

