-- ==== Sys2Proof/Machine/ScanLaser.lean ====
section
/-! DEFINITION. Laser power and edge timing of one channel (06_scan_execution R153–R155, R163, R169–R172, R175). -/

namespace Sys2Proof.Machine

/-- P_cmd of R169 from a programmed power, the factor g and the maximum power. -/
def cmdPower (pMax g prog : Nat) : Nat := Nat.min pMax (satU 16 (rndDiv ((prog * g : Nat) : Int) 16384).toNat)

/-- The power of a RAMP at path time `t` (R170): rounded once from the distance. -/
def rampPower (g : Seg) (t : Nat) : Nat :=
  match g.light with
  | .ramp p0 p1 s0 total _ _ =>
    let s : Int := (segAt g (Nat.min t (segStop g))).s + s0
    if total = 0 then p0 else satU 16 (rndDiv ((p0 : Int) * total + ((p1 : Int) - p0) * s) total).toNat
  | .power p _ _ => p
  | _ => 0

/-- Whether a segment is a RAMP. -/
def isRamp (g : Seg) : Bool :=
  match g.light with
  | .ramp _ _ _ _ _ _ => true
  | _ => false

/-- The part of the RAMP whose vector begins at path time `key` that holds path time `t`: a part cut off by a replan follows the one before it
(R165, R170). -/
def rampFor (c : Chan) (key t : Nat) : Option Seg :=
  match (c.past ++ c.segs).filter (fun g => isRamp g && decide (key ≤ g.t0)) with
  | [] => none
  | g :: rest => (((g :: rest.takeWhile (fun h => h.inner)).filter (fun h => decide (h.t0 ≤ t))).getLast?).orElse (fun _ => some g)

/-- Path time that the laser meets at wall time `w` (R171). -/
def metAt (e : ScanEnv) (w : Nat) : Nat := w - e.lag * 2 ^ 246

/-- The programmed power in force at wall time `w`, and whether its record carries OPEN (R169–R171): a RAMP's is that of the path point that
the laser meets, at its event that of its start. -/
def litProg (e : ScanEnv) (c : Chan) (l : Lit) (w : Nat) : Nat × Bool :=
  match l with
  | .off => (0, true)
  | .power p op _ => (p, op)
  | .ramp key op _ =>
    let t := Nat.max (metAt e w) key
    (((rampFor c key t).map (fun g => rampPower g t)).getD 0, op)

/-- The power command for a programmed power in force at wall time `w` (R169–R171). -/
def litPower (e : ScanEnv) (c : Chan) (l : Lit) (w : Nat) : Nat :=
  let (p, op) := litProg e c l w
  cmdPower e.pMax (if op then 16384 else e.gNext) p

/-- An event added at wall time `w`, moved to the event before it where it would fall earlier (R154 step 2). -/
def pushEdge (c : Chan) (w : Nat) (l : Lit) : Chan :=
  let w' := Nat.max w c.lastWall
  { c with edges := c.edges ++ [{ wall := w', lit := l }], lastWall := w' }

/-- Wall time of an on edge or a change of power at path time `t` (R171). -/
def onWallOf (e : ScanEnv) (t : Nat) : Nat := ((t : Int) + ((e.lag : Int) - e.leadOn) * (2 ^ 246 : Nat)).toNat

/-- Wall time of an off edge at path time `t` (R171). -/
def offWallOf (e : ScanEnv) (t : Nat) : Nat := ((t : Int) + ((e.lag : Int) - e.leadOff) * (2 ^ 246 : Nat)).toNat

/-- An on edge, or a change from one power to another, at path time `t`. -/
def edgeOn (e : ScanEnv) (c : Chan) (t : Nat) (l : Lit) : Chan :=
  let c' := pushEdge c (onWallOf e t) l
  { c' with pathLit := true, onWall := c'.lastWall }

/-- An off edge at path time `t`; where it falls at or before its on edge the exposure is suppressed (R172). -/
def edgeOff (e : ScanEnv) (c : Chan) (t : Nat) : Chan :=
  if c.pathLit then
    let w := offWallOf e t
    let c' := { pushEdge c w .off with pathLit := false }
    if w ≤ c.onWall then { c' with counts := { c'.counts with suppressed := inc32 c'.counts.suppressed } } else c'
  else c

/-- Events at the cell boundaries of a raster line (R175): `cum` cells precede the run, `prev` is the power before it, `idx`
the runs already placed. Answers the channel and the runs placed by wall time `limit`. -/
def cellEdges (e : ScanEnv) (limit : Nat) (g : Seg) (op : Bool) (tag cell : Nat) :
    List (Nat × Nat) → Nat → Nat → Nat → Chan → Chan × Nat
  | [], _, _, idx, c => (c, idx)
  | (m, p) :: rest, cum, prev, idx, c =>
    let t := snapN (g.t0 + (if g.vPeak = 0 then 0 else cum * cell * oneP * 2 ^ 16 / g.vPeak))
    if idx < g.next || p == prev then cellEdges e limit g op tag cell rest (cum + m) p (idx + 1) c
    else if (if p = 0 then offWallOf e t else onWallOf e t) < limit then
      cellEdges e limit g op tag cell rest (cum + m) p (idx + 1) (if p = 0 then edgeOff e c t else edgeOn e c t (.power p op tag))
    else (c, idx)

/-- Whether segment `h` goes on from the one before it with light and without rest (R163, R171). -/
def goesOn (g h : Seg) : Bool := h.light != .dark && h.vEnter != 0 && h.t0 == segStop g

/-- The events of a segment up to those of its end: its exposure's on edge or change of power, or those of its cells (R171, R175). `flows` says
that the segment before it goes on into it. Answers the channel and the events placed. -/
def startEdges (e : ScanEnv) (limit : Nat) (flows : Bool) (c : Chan) (g : Seg) : Chan × Nat :=
  let one := fun (l : Lit) =>
    if g.next ≠ 0 then (c, g.next)
    else if g.inner && flows then (c, 1)
    else if onWallOf e g.t0 < limit then (edgeOn e c g.t0 l, 1)
    else (c, 0)
  match g.light with
  | .dark => (c, 0)
  | .power p op tag => one (.power p op tag)
  | .ramp _ _ _ _ op tag => one (.ramp g.t0 op tag)
  | .cells op tag cell runs => if g.next ≤ runs.length then cellEdges e limit g op tag cell runs 0 0 0 c else (c, g.next)

/-- The number of events of a segment before the one of its end. -/
def startCount (g : Seg) : Nat :=
  match g.light with
  | .dark => 0
  | .power _ _ _ => 1
  | .ramp _ _ _ _ _ _ => 1
  | .cells _ _ _ runs => runs.length

/-- The events of a path in path order, as far as each falls before wall time `limit` (R154 step 2, R163, R171, R175): the light of a segment
ends where no lit segment goes on from it without rest. Answers the channel and the segments with their events counted. -/
def placeEdges (e : ScanEnv) (limit : Nat) : Bool → List Seg → Chan → Chan × List Seg
  | _, [], c => (c, [])
  | flows, g :: rest, c =>
    let (c1, k) := startEdges e limit flows c g
    let n := startCount g
    let on := match rest with | h :: _ => g.light != .dark && goesOn g h | [] => false
    if k < n then (c1, { g with next := k } :: rest)
    else if n = 0 || n < k || on then
      let (c2, l) := placeEdges e limit on rest c1
      (c2, { g with next := Nat.max k (n + 1) } :: l)
    else if offWallOf e (segStop g) < limit then
      let (c2, l) := placeEdges e limit false rest (edgeOff e c1 (segStop g))
      (c2, { g with next := n + 1 } :: l)
    else (c1, { g with next := k } :: rest)

/-- The events of the path that fall before the end of tick m + 1, those that the command of that tick can carry (R171). -/
def pathEdges (e : ScanEnv) (c : Chan) : Chan :=
  let (c', l) := placeEdges e ((e.now + 2) * oneP) false (c.past ++ c.segs) c
  { c' with past := l.take c.past.length, segs := l.drop c.past.length }

/-- Sub-tick offset of a wall time in the tick that starts at `w0` (R11, R48). -/
def offsetOf (w0 w : Nat) : Nat := if w ≤ w0 then 0 else (rndDiv (((snapN w - w0) * 1024 : Nat) : Int) oneP).toNat

/-- The edges that fall into tick m + 1: those whose offset rounds to 1,024 go to the next (R154 step 1, R48). -/
def dueEdges (e : ScanEnv) (c : Chan) : List EdgeEvent :=
  let w0 := (e.now + 1) * oneP
  c.edges.filter (fun x => decide (x.wall < w0 + oneP) && decide (offsetOf w0 x.wall < 1024))

/-- Of events at one offset only the last in path order stays (R154 step 3). -/
def keepLast : List LaserEvent → List LaserEvent
  | [] => []
  | [a] => [a]
  | a :: b :: rest => if a.offset = b.offset then keepLast (b :: rest) else a :: keepLast (b :: rest)

/-- Events whose power is already in force are dropped (R154 step 4). -/
def dropEqual : Nat → List LaserEvent → List LaserEvent
  | _, [] => []
  | p, a :: rest => if a.power = p then dropEqual p rest else a :: dropEqual a.power rest

/-- At most four events: the first three, and one at the offset of the fourth with the last power (R154 step 5). -/
def mergeFour (l : List LaserEvent) : List LaserEvent :=
  match l.drop 3, l.getLast? with
  | d :: _ :: _, some z => l.take 3 ++ [{ offset := d.offset, power := z.power }]
  | _, _ => l

/-- The laser command for tick m + 1 (R151 step 6, R153–R155, R170): start power, events, and the channel with what is
carried on. -/
def laserCommand (e : ScanEnv) (c : Chan) : Chan :=
  let w0 := (e.now + 1) * oneP
  let w1 := (e.now + 2) * oneP
  let now := dueEdges e c
  let later := (c.edges.filter (fun x => !(decide (x.wall < w1) && decide (offsetOf w0 x.wall < 1024)))).map
    (fun x => if x.wall < w1 then { x with wall := w1 } else x)
  let start := litPower e c c.lit w0
  let evs := now.map (fun x => { offset := offsetOf w0 x.wall, power := litPower e c x.lit (Nat.max x.wall w0) : LaserEvent })
  let four := dropEqual start (keepLast evs)
  let lit := match now.getLast? with | some x => x.lit | none => c.lit
  let merged := !e.gated && decide (4 < four.length)
  { c with
      edges := later
      lit := lit
      past := c.past.filter (fun g => decide (e.now * oneP < segStop g + 9 * oneP))
      counts := { c.counts with merged := if merged then inc32 c.counts.merged else c.counts.merged }
      cmdNext := if e.gated then { start := 0, events := [] } else { start := start, events := mergeFour four } }

end Sys2Proof.Machine
end

