-- ==== Sys2Proof/Machine/MeltPool.lean ====
section
/-! DEFINITION. The power law of one channel and what supervises it, exposure records, heat history and the layer quality map
(10_melt_pool_control R260–R278, R280). -/

namespace Sys2Proof.Machine

/-- What the law of one channel reads in P2 of tick m: settings in force, the photodiode average of tick m − 1, and, when
m = 4f + D, the delivery point of frame f; `exposing` that the command of the tick carries power. `delta` is the heat deviation at a bed point in counts. -/
structure LawEnv where
  n : Nat
  enable : Bool
  terms : Nat
  lower : Int
  upper : Int
  kv : Int
  kh : Int
  gPd : Nat
  kPd : Int
  pdMin : Nat
  lossCount : Nat
  metric : Nat
  gCam : Nat
  kCam : Int
  window : Int
  outLimit : Nat
  absentCount : Nat
  holdCount : Nat
  pd : Nat
  delivery : Option Delivery
  exposing : Bool
  delta : Int → Int → Int


/-- C and lim set to 0 (R267): the ticks at limit in a row end (Table 10.2). -/
def clearCorrection (m : Melt) : Melt := { m with c := 0, lim := 0, limitRun := 0 }

/-- `integrate` of R263. -/
def integrate (v : LawEnv) (lim c inc : Int) : Int :=
  if (decide (0 < lim) && decide (0 < inc)) || (decide (lim < 0) && decide (inc < 0)) then c
  else clampI (-v.lower) v.upper (c + inc)

/-- The error e of R263 for a target and a measurement. -/
def lawError (t m : Int) : Int := clampI (-16384) 16384 (rndDiv (16384 * (t - m)) t.toNat)

/-- The photodiode target of tick m − 1 (R263). -/
def pdTarget (v : LawEnv) (k : LitTick) : Nat := Nat.min 65535 (rndDiv ((k.pol * v.gPd : Nat) : Int) 65536).toNat

/-- pd_valid(m − 1) of R265; `k` is tick m − 1. -/
def pdValid (v : LawEnv) (k : LitTick) : Bool :=
  k.lit && k.law && decide (v.pdMin ≤ v.pd) && decide (v.pd < 0xFFFF) && decide (pdTarget v k ≠ 0)

/-- The metric M of R266. -/
def metricOf (v : LawEnv) (f : FeatureSet) : Nat := if v.metric = 0 then f.intensity else f.area

/-- The camera target (R263). -/
def camTarget (v : LawEnv) (k : LitTick) : Int := satS 32 (rndDiv ((k.pol * v.gCam : Nat) : Int) 65536)

/-- Conditions of R266 on the feature set itself. -/
def featureUsable (window : Int) (outLimit : Nat) (f : FeatureSet) : Bool :=
  bit f.flags 0 && !bit f.flags 7 && !bit f.flags 6 && decide (f.cx.natAbs ≤ window.toNat)
    && decide (f.cy.natAbs ≤ window.toNat) && decide (f.outside ≤ outLimit)

/-- cam_valid(f) of R266 for a delivered set; `k` is tick 4f. -/
def camValid (v : LawEnv) (k : LitTick) (f : FeatureSet) : Bool :=
  featureUsable v.window v.outLimit f && k.lit && k.law && decide (camTarget v k ≠ 0)

/-- What the measurement part of the law did in one P2. -/
structure Measured where
  melt : Melt
  events : List Event
  pdRatio : Option Nat
  frame : Nat
  camRatio : Option Nat
  camFailed : Bool
  camAbsent : Bool

/-- Photodiode signal lost (R268, Table 10.2): the state and its event once the count is reached. -/
def loseSignal (v : LawEnv) (m : Melt) : Melt × List Event :=
  if decide (v.lossCount ≤ m.lowRun) && !m.lost then
    ({ m with lost := true, lostPosted := true }, if m.lostPosted then [] else [chanEvent v.n 0x0A02 .warn []])
  else (m, [])

/-- Camera term starved (R268, Table 10.2). -/
def starveCamera (v : LawEnv) (m : Melt) : Melt × List Event :=
  if decide (v.absentCount ≤ m.absentRun) && !m.starvedPosted then
    ({ m with starvedPosted := true }, [chanEvent v.n 0x0A04 .warn []])
  else (m, [])

/-- Correction at limit (Table 10.2). -/
def limitCorrection (v : LawEnv) (m : Melt) : Melt × List Event :=
  if decide (v.holdCount ≤ m.limitRun) && !m.limitPosted then
    ({ m with limitPosted := true }, [chanEvent v.n 0x0A01 .warn []])
  else (m, [])

/-- The photodiode part of R263 with its supervision (R265, R268). -/
def measurePd (v : LawEnv) (m : Melt) : Melt × Option Nat × List Event :=
  let k := nth m.hist 1
  let use := bit v.terms 2 && pdValid v k
  let t := pdTarget v k
  let c := if use then integrate v m.lim m.c (rndDiv (v.kPd * lawError t v.pd) 16384) else m.c
  let low := k.lit && k.law && decide (v.pd < v.pdMin)
  let good := k.lit && decide (v.pdMin ≤ v.pd)
  let sat := k.lit && v.pd == 0xFFFF
  let m1 := { m with
    c := c, target := if use then t else m.target
    pdUpdates := if use then inc32 m.pdUpdates else m.pdUpdates
    lowRun := if low then m.lowRun + 1 else if k.lit then 0 else m.lowRun
    lost := m.lost && !good
    saturated := if sat then inc32 m.saturated else m.saturated
    saturatedPosted := m.saturatedPosted || sat }
  let e1 := if sat && !m.saturatedPosted then [chanEvent v.n 0x0A03 .note []] else []
  let (m2, e2) := loseSignal v m1
  (m2, if use then some (rndDiv ((4096 * v.pd : Nat) : Int) t).toNat else none, e1 ++ e2)

/-- The camera part of R263 with its supervision (R266, R268): a set that arrives under a disabled law or with no exposure in progress is
neither used nor counted; a frame absent at its delivery point fails R266 as well. DEDUCED: assumption 48. -/
def measureCam (v : LawEnv) (m : Melt) : Measured :=
  match v.delivery with
  | none => { melt := m, events := [], pdRatio := none, frame := 0, camRatio := none, camFailed := false, camAbsent := false }
  | some p =>
    let k := nth m.hist p.latency
    let valid := match p.set with | some x => camValid v k x | none => false
    let takes := v.enable && v.exposing
    let use := bit v.terms 3 && valid && takes
    let t := camTarget v k
    let mv : Nat := match p.set with | some x => metricOf v x | none => 0
    let c := if use then integrate v m.lim m.c (rndDiv (v.kCam * lawError t mv) 16384) else m.c
    let failed := takes && k.lit && !valid
    let m1 := { m with
      c := c
      camUpdates := if use then inc32 m.camUpdates else m.camUpdates
      rejected := if failed then inc32 m.rejected else m.rejected
      absentRun := if valid then 0 else if bit v.terms 3 && k.lit then m.absentRun + 1 else m.absentRun
      delivery := none }
    let (m2, ev) := starveCamera v m1
    { melt := m2, events := ev, pdRatio := none, frame := p.frame
      camRatio := if use then some (rndDiv (4096 * (mv : Int)) t.toNat).toNat else none
      camFailed := failed && p.set.isSome, camAbsent := failed && p.set.isNone }

/-- The updates of C in P2 of tick m (R263). -/
def measureLaw (v : LawEnv) (m : Melt) : Measured :=
  let (m1, ratio, ev) := measurePd v m
  let r := measureCam v m1
  { r with events := ev ++ r.events, pdRatio := ratio }

/-- The first event with power of some events in path order, of which only the last at one offset stays (R154): wall time, offset, power. -/
def firstLit : List (Nat × Nat × Nat) → Option Nat
  | [] => none
  | (w, o, p) :: rest => if p ≠ 0 && rest.all (fun x => x.2.1 != o) then some w else firstLit rest

/-- The wall time at which the sample point of tick m + 1 is met: its boundary, or its first event where that is an on edge (R262). The
command is dark before its first on edge, and whether a power is 0 does not rest on g. -/
def sampleWall (e : ScanEnv) (c : Chan) : Nat :=
  let w0 := (e.now + 1) * oneP
  let e' := { e with gNext := 16384 }
  if e.gated || litPower e' c c.lit w0 ≠ 0 then w0
  else (firstLit ((dueEdges e c).map (fun x => (x.wall, offsetOf w0 x.wall, litPower e' c x.lit (Nat.max x.wall w0))))).getD w0

/-- Whether a segment's light leaves g fixed, and its tag. -/
def lightOwner (l : Light) : Bool × Nat :=
  match l with
  | .dark => (false, 0)
  | .power _ op tag => (op, tag)
  | .ramp _ _ _ _ op tag => (op, tag)
  | .cells op tag _ _ => (op, tag)

/-- The light of the record that owns a point of a segment: a run-in belongs to the segment after it, a run-out to the one
before (R262). -/
def ownerLight (before after : List Seg) (g : Seg) : Light :=
  if g.light != .dark then g.light
  else if g.vEnter = 0 && g.vLeave = 0 then .dark
  else if g.vEnter = 0 then (after.head?.map (fun h => h.light)).getD .dark
  else (before.getLast?.map (fun h => h.light)).getD .dark

/-- The segment that holds path time `t`, with the segments before and after it. -/
def pathAt (t : Nat) : List Seg → List Seg → Option (List Seg × Seg × List Seg)
  | _, [] => none
  | before, g :: rest =>
    match rest with
    | [] => some (before, g, [])
    | h :: _ => if t < h.t0 then some (before, g, rest) else pathAt t (before ++ [g]) rest

/-- What the law reads of the path at the sample point of tick m + 1 (R262): the point, the speed ratio r_v, and whether the
channel has a path at all. In a DWELL the laser meets the end of the path, which belongs to the DWELL: tag 0 (Table 10.3), speed 0. -/
def samplePoint (e : ScanEnv) (v : LawEnv) (c : Chan) (old : SamplePt) : SamplePt × Int × Bool :=
  let t := metAt e (sampleWall e c)
  match pathAt t [] (c.past ++ c.segs) with
  | none => ({ old with speed := 0, tag := 0, fen := false, mark := false, open_ := false }, 16384, false)
  | some (b, g, a) =>
    let s := segAt g (Nat.min (Nat.max t g.t0) (segStop g))
    let p := segPos g s.s
    let own := lightOwner (ownerLight b a g)
    let dwells := a.isEmpty && decide (segStop g ≤ t) && (match c.act with | .dwell _ => true | _ => false)
    let rv := if dwells then 0 else if g.vProg = 0 then 16384 else clampI 0 16384 (rndDiv (16384 * s.v) (g.vProg * 2 ^ 240))
    ({ x := satS 32 (rndP p.x 256), y := satS 32 (rndP p.y 256)
       speed := satU 16 (rndDiv (s.v * 100) (524288 * 2 ^ 240)).toNat
       tag := if dwells then 0 else own.2, open_ := (!dwells && (own.1 || g.kind == 3)) || !v.enable
       fen := if dwells then c.item.isSome else g.kind == 2, mark := !dwells && g.kind == 3 }, rv, true)

/-- The factor of tick m + 1 (R263, R169) after the updates of C. -/
def factorLaw (e : ScanEnv) (v : LawEnv) (c : Chan) (m : Melt) : Melt × List Event :=
  let (pt, rv, onPath) := samplePoint e v c m.point
  let fv := if bit v.terms 0 then 16384 - rndDiv (v.kv * (16384 - rv)) 16384 else 16384
  let fh := if bit v.terms 1 then 16384 - rndDiv (v.kh * v.delta pt.x pt.y) 16384 else 16384
  let law := onPath && !pt.open_ && v.enable
  let p1 := rndDiv (fv * fh) 16384
  let raw := rndDiv (p1 * (16384 + m.c)) 16384
  let g := clampI (16384 - v.lower) (16384 + v.upper) raw
  let lim : Int := if 16384 + v.upper < raw then 1 else if raw < 16384 - v.lower then -1 else 0
  let m1 :=
    if law then
      { m with p1 := p1, lim := lim, gNext := g.toNat, fv := fv, fh := fh, point := pt
               atLimit := if lim ≠ 0 then inc32 m.atLimit else m.atLimit
               limitRun := if lim ≠ 0 then m.limitRun + 1 else 0 }
    else { m with gNext := 16384, fv := fv, fh := fh, point := pt }
  if law then limitCorrection v m1 else (m1, [])

/-- Programmed powers over tick m + 1 by offset (R264): the power in force at its boundary, then at each event. -/
def progParts (e : ScanEnv) (c : Chan) : List (Nat × Nat × Lit) :=
  let e' := { e with gNext := 16384, pMax := 65535 }
  let w0 := (e.now + 1) * oneP
  let now := dueEdges e c
  (0, litPower e' c c.lit w0, c.lit) :: now.map (fun x => (offsetOf w0 x.wall, litPower e' c x.lit (Nat.max x.wall w0), x.lit))

/-- Σ value × length over parts of a tick of 1,024 offsets. -/
def weighted : List (Nat × Nat) → Nat
  | [] => 0
  | [(o, p)] => (1024 - o) * p
  | (o, p) :: (o', p') :: rest => (o' - o) * p + weighted ((o', p') :: rest)

/-- Whether a command lights the whole tick (R264). -/
def commandLit (k : LaserCommand) : Bool := k.start != 0 && k.events.all (fun x => x.power != 0)

/-- Whether a command carries power at any part of the tick. -/
def commandEmits (k : LaserCommand) : Bool := k.start != 0 || k.events.any (fun x => x.power != 0)

/-- Mean commanded power of a tick (Table 10.3 offset 22). -/
def meanPower (k : LaserCommand) : Nat :=
  (rndDiv ((weighted ((0, k.start) :: k.events.map (fun x => (x.offset, x.power))) : Nat) : Int) 1024).toNat

/-- What is kept of the command for tick m + 1 (R264): `parts` are its programmed powers. -/
def pushLit (m : Melt) (law : Bool) (parts : List (Nat × Nat × Lit)) (k : LaserCommand) : Melt :=
  let pol := weighted (parts.map (fun x => (x.1, (rndDiv ((x.2.1 : Int) * m.p1) 16384).toNat)))
  let lim := law && decide (m.lim ≠ 0)
  { m with hist := ({ lit := commandLit k, pol := satU 16 (rndDiv (pol : Int) 1024).toNat, law, lim } :: m.hist).take 9 }

/-- The command of the coming tick has become dark: that tick is not lit (R264). -/
def darkenNext (m : Melt) : Melt :=
  { m with hist := match m.hist with | k :: l => { k with lit := false } :: l | [] => [] }

/-- The exposure record of tick m (R270, Table 10.3): `m0` is power control before this P2, `k` the command of tick m. -/
def exposureRecord (v : LawEnv) (tick : Nat) (gated : Bool) (m0 : Melt) (r : Measured) (k : LaserCommand) : ExpRec :=
  let law := (nth m0.hist 0).law
  let emits := commandEmits k
  { channel := v.n, tick
    flags := b2n emits + 2 * b2n (commandLit k) + 4 * b2n gated + 8 * b2n (!law) + 16 * b2n r.pdRatio.isSome
      + 32 * b2n r.camRatio.isSome + 64 * b2n (nth m0.hist 0).lim + 128 * b2n (v.pd == 0xFFFF) + 256 * b2n m0.point.fen
      + 512 * b2n m0.point.mark
    x := m0.point.x, y := m0.point.y, startPower := k.start, meanPower := meanPower k, factor := m0.gNext, pd := v.pd
    tag := m0.point.tag, speed := m0.point.speed, pdRatio := r.pdRatio, frame := r.frame, camRatio := r.camRatio
    camFailed := r.camFailed, camAbsent := r.camAbsent, lost := r.melt.lost }

/-- The 32 bytes of an exposure record (Table 10.3). -/
def exposureBytes (r : ExpRec) : Bytes :=
  leBytes 1 2 ++ leBytes 1 r.channel ++ leBytes 2 r.flags ++ leBytes 8 (r.tick % 2 ^ 48) ++ leBytesI 4 r.x ++ leBytesI 4 r.y
    ++ leBytes 2 r.startPower ++ leBytes 2 r.meanPower ++ leBytes 2 r.factor ++ leBytes 2 r.pd ++ leBytes 2 r.tag
    ++ leBytes 2 r.speed

/-- The value at a key of a sorted association list; 0 where none stands. -/
def lookN (l : List (Nat × Nat)) (k : Nat) : Nat := ((l.find? (fun x => x.1 == k)).map (fun x => x.2)).getD 0

/-- A sorted association list with the value at a key changed. -/
def alterKey {α : Type} (k : Nat) (d : α) (f : α → α) : List (Nat × α) → List (Nat × α)
  | [] => [(k, f d)]
  | (a, x) :: rest =>
    if a = k then (a, f x) :: rest else if k < a then (k, f d) :: (a, x) :: rest else (a, x) :: alterKey k d f rest

/-- The cell of a point in a grid of `w` × `h` cells of `q` counts (R272, R274). -/
def cellOf (x0 y0 : Int) (q w h : Nat) (x y : Int) : Option Nat :=
  let i := fdiv (x - x0) q
  let j := fdiv (y - y0) q
  if 0 ≤ i && decide (i < w) && decide (0 ≤ j) && decide (j < h) then some (i.toNat + w * j.toNat) else none

/-- The deviation of a cell of the grid (R272): 0 before the first update of a job and outside the grid. -/
def heatDelta (g : HeatGrid) (x0 y0 : Int) (h : Nat) (x y : Int) : Int :=
  match g.ref, cellOf x0 y0 h 256 256 x y with
  | some h0, some k => satS 32 (rndDiv (16384 * ((lookN g.cells k : Int) - h0)) h0)
  | _, _ => 0

/-- The grid after layer L (R272): densities decay and E_L joins. -/
def heatUpdate (g : HeatGrid) (decay h0 : Nat) (layer : Nat) (energy : List (Nat × Nat)) : HeatGrid :=
  let aged := g.cells.map (fun c => (c.1, (rndDiv ((c.2 * decay : Nat) : Int) 65536).toNat))
  let sum := energy.foldl (fun l c => alterKey c.1 0 (fun x => satU 32 (x + c.2)) l) aged
  { cells := sum.filter (fun c => c.2 != 0), ref := some h0, layer := some layer }

/-- An empty cell of the quality map. -/
def mapCell0 : MapCell :=
  { exposures := 0, energy := 0, pdSum := 0, pdCount := 0, gSum := 0, gCount := 0, camSum := 0, camCount := 0
    elSum := 0, elCount := 0, spatter := 0, flags := 0, channels := 0, lastChannel := 0 }

/-- One cell of a map changed. -/
def updCell (m : MapAcc) (k : Nat) (f : MapCell → MapCell) : MapAcc := { m with cells := alterKey k mapCell0 f m.cells }

/-- The cell that the record of a tick and channel fell into. -/
def cellAt (m : MapAcc) (tick channel : Nat) : Option Nat :=
  (m.where_.find? (fun x => x.1 == tick && x.2.1 == channel)).map (fun x => x.2.2)

/-- Whether a map covers the record of a tick (R274). -/
def covers (m : MapAcc) (tick : Nat) : Bool :=
  decide (m.boundary ≤ tick) && (match m.until_ with | some u => decide (tick < u) | none => true)

/-- The exposure part of a record (R274, Table 10.4 planes 0, 1, 3, 7). -/
def mapExposure (m : MapAcc) (r : ExpRec) : MapAcc :=
  if covers m r.tick then
    match cellOf m.x m.y m.q m.w m.h r.x r.y with
    | none => if bit r.flags 0 then { m with outside := inc32 m.outside } else m
    | some k =>
      let m := { m with where_ := m.where_ ++ [(r.tick, r.channel, k)] }
      if bit r.flags 0 then
        updCell m k (fun c => { c with
          exposures := satU 16 (c.exposures + 1), energy := c.energy + r.meanPower
          gSum := if bit r.flags 3 then c.gSum else c.gSum + r.factor
          gCount := if bit r.flags 3 then c.gCount else c.gCount + 1
          channels := setBit c.channels r.channel true, lastChannel := r.channel
          flags := c.flags ||| (b2n (bit r.flags 6) + 8 * b2n r.lost + 16 * b2n (bit r.flags 3) + 32 * b2n (bit r.flags 8)) })
      else m
  else m

/-- The measurements a record reports, attributed to earlier records of its channel (R274). -/
def mapMeasured (m : MapAcc) (r : ExpRec) : MapAcc :=
  let m1 := match r.pdRatio, cellAt m (r.tick - 1) r.channel with
    | some x, some k => updCell m k (fun c => { c with pdSum := c.pdSum + x, pdCount := c.pdCount + 1 })
    | _, _ => m
  match cellAt m1 (4 * r.frame) r.channel with
  | some k =>
    let m2 := match r.camRatio with
      | some x => updCell m1 k (fun c => { c with camSum := c.camSum + x, camCount := c.camCount + 1 })
      | none => m1
    let m3 := if r.camAbsent then { m2 with absent := m2.absent ++ [(4 * r.frame, r.channel)] } else m2
    if r.camFailed then updCell m3 k (fun c => { c with flags := c.flags ||| 2 }) else m3
  | none => m1

/-- A feature record attributed to the record of tick 4f (R274, planes 5 and 6); in plane 7 a frame that failed R266 by its absence. -/
def mapFeature (m : MapAcc) (channel : Nat) (x : FeatureSet) : MapAcc :=
  match cellAt m (4 * x.frame) channel with
  | some k => updCell m k (fun c => { c with
      elSum := if bit x.flags 0 then c.elSum + x.elongation else c.elSum
      elCount := if bit x.flags 0 then c.elCount + 1 else c.elCount
      flags := c.flags ||| (2 * b2n (m.absent.contains (4 * x.frame, channel)))
      spatter := Nat.max c.spatter x.outside })
  | none => m

/-- A mean of R275. -/
def meanOf (sum count : Nat) : Nat := if count = 0 then 0 else satU 16 (rndDiv (sum : Int) count).toNat

/-- The value of a cell in a plane (Table 10.4). -/
def planeValue (p : Nat) (c : MapCell) : Nat :=
  match p with
  | 0 => c.exposures
  | 1 => satU 16 (rndDiv (c.energy : Int) 256).toNat
  | 2 => meanOf c.pdSum c.pdCount
  | 3 => meanOf c.gSum c.gCount
  | 4 => meanOf c.camSum c.camCount
  | 5 => meanOf c.elSum c.elCount
  | 6 => c.spatter
  | _ => c.flags + 4 * b2n (decide (2 ≤ popCount 32 c.channels)) + 64 * c.lastChannel

/-- The cells of block `b` of a plane, in order (R276). -/
def planeBlock (m : MapAcc) (p b : Nat) : List Nat :=
  let from_ := 32768 * b
  let n := Nat.min 32768 (m.w * m.h - from_)
  (List.range n).map (fun k => match m.cells.find? (fun c => c.1 == from_ + k) with | some c => planeValue p c.2 | none => 0)

/-- The header of a plane (Table 10.5). -/
def planeHeader (m : MapAcc) (p blocks : Nat) : Bytes :=
  leBytes 4 0x4D515947 ++ leBytes 2 1 ++ leBytes 1 p
    ++ leBytes 1 (b2n m.heatLag + 2 * b2n m.stopped + 4 * b2n (decide (m.outside ≠ 0)))
    ++ leBytes 4 m.layer ++ leBytes 4 m.job ++ leBytesI 4 m.x ++ leBytesI 4 m.y ++ leBytes 4 m.q ++ leBytes 2 m.w ++ leBytes 2 m.h
    ++ leBytes 8 (m.boundary % 2 ^ 48) ++ leBytes 8 (m.completion.getD 0 % 2 ^ 48) ++ leBytes 4 blocks ++ leBytes 4 m.outside
    ++ leBytes 8 0

/-- The blocks a map has to compress, planes in order, only those of the mask (R275, R276). -/
def mapBlocks (m : MapAcc) : List (Nat × Nat) :=
  ((List.range 8).filter (fun p => bit m.mask p)).flatMap (fun p =>
    (List.range ((m.w * m.h + 32767) / 32768)).map (fun b => (p, b)))

end Sys2Proof.Machine
end

