-- ==== Sys2Proof/Machine/Fens.lean ====
section
/-! DEFINITION. Observations, the solve and the grid correction of seam registration (11_seam_registration R282–R290). -/

namespace Sys2Proof.Machine

/-- Conditions of R284 on one side; the observing side has no centroid window. -/
def sideUsable (window : Option Int) (outLimit : Nat) (s : Side) : Bool :=
  match s with
  | .seen f =>
    bit f.flags 0 && !bit f.flags 7 && !bit f.flags 6 && decide (f.outside ≤ outLimit)
      && (match window with
        | some w => decide (f.cx.natAbs ≤ w.toNat) && decide (f.cy.natAbs ≤ w.toNat)
        | none => true)
  | _ => false

/-- The centroid of a side; 0 of an invalid side (R283). -/
def sideCentroid (s : Side) : Int × Int :=
  match s with
  | .seen f => if bit f.flags 0 then (f.cx, f.cy) else (0, 0)
  | _ => (0, 0)

/-- The observation of a mark tick whose sides are both known (Table 11.1). The windows and limits are the channels' own. -/
def observationOf (settle : Nat) (window : Int) (outExp outObs : Nat) (t : MarkTick) : Observation :=
  let e := sideCentroid t.expSide
  let o := sideCentroid t.obsSide
  { fen := t.fen, mark := t.mark, frame := t.frame, x := t.x, y := t.y, expX := e.1, expY := e.2, obsX := o.1, obsY := o.2
    flags := b2n t.exposerB + 2 * b2n (sideUsable (some window) outExp t.expSide) + 4 * b2n (sideUsable none outObs t.obsSide)
      + 8 * b2n (decide (t.ordinal < settle))
    exposer := t.exposer, observer := t.observer }

/-- The 32 bytes of an observation record (Table 11.1). -/
def observationBytes (o : Observation) : Bytes :=
  leBytes 1 3 ++ leBytes 1 o.fen ++ leBytes 2 o.mark ++ leBytes 8 (o.frame % 2 ^ 46) ++ leBytesI 4 o.x ++ leBytesI 4 o.y
    ++ leBytesI 2 o.expX ++ leBytesI 2 o.expY ++ leBytesI 2 o.obsX ++ leBytesI 2 o.obsY ++ leBytes 1 o.flags ++ leBytes 1 o.exposer
    ++ leBytes 1 o.observer ++ leBytes 1 0

/-- Whether an observation is used (R284). -/
def usedObservation (o : Observation) : Bool := bit o.flags 1 && bit o.flags 2 && !bit o.flags 3

/-- A camera matrix applied to a centroid, in 2^-16 count; exact. -/
def matApply (m : Int × Int × Int × Int) (x y : Int) : Int × Int := (m.1 * x + m.2.1 * y, m.2.2.1 * x + m.2.2.2 * y)

/-- Point and displacement of a used observation in µm (R284). -/
def displacement (mats : List (Int × Int × Int × Int)) (o : Observation) : (F64 × F64) × (F64 × F64) :=
  let co := matApply (mats.getD o.observer (0, 0, 0, 0)) o.obsX o.obsY
  let ce := matApply (mats.getD o.exposer (0, 0, 0, 0)) o.expX o.expY
  let sg : Int := if bit o.flags 0 then -1 else 1
  ((f64Of o.x 8, f64Of o.y 8), (f64Of (sg * (co.1 - ce.1)) (65536 * 8), f64Of (sg * (co.2 - ce.2)) (65536 * 8)))

/-- A binary64 sum in list order. -/
def f64Sum (l : List F64) : F64 := l.foldl f64Add (f64I 0)

/-- `x * y + z * w` in binary64. -/
def f64Dot (x y z w : F64) : F64 := f64Add (f64Mul x y) (f64Mul z w)

/-- One pass of `solve` (R286): status, t, s, θ, p̄ and the residuals of the observations in order. -/
structure SolvePass where
  status : Nat
  tx : F64
  ty : F64
  s : F64
  th : F64
  px : F64
  py : F64
  residuals : List (F64 × F64)

/-- `solve` of R286 over points and displacements in µm. -/
def solvePass (nMin spread : Nat) (obs : List ((F64 × F64) × (F64 × F64))) : SolvePass :=
  let z := f64I 0
  let n := obs.length
  if n < nMin || n = 0 then { status := 3, tx := z, ty := z, s := z, th := z, px := z, py := z, residuals := [] }
  else
    let nf := f64I n
    let px := f64Div (f64Sum (obs.map (fun o => o.1.1))) nf
    let py := f64Div (f64Sum (obs.map (fun o => o.1.2))) nf
    let tx := f64Div (f64Sum (obs.map (fun o => o.2.1))) nf
    let ty := f64Div (f64Sum (obs.map (fun o => o.2.2))) nf
    let qe := obs.map (fun o => ((f64Sub o.1.1 px, f64Sub o.1.2 py), (f64Sub o.2.1 tx, f64Sub o.2.2 ty)))
    let q := f64Sum (qe.map (fun x => f64Dot x.1.1 x.1.1 x.1.2 x.1.2))
    let sm := f64Of spread 8
    let full := f64Le (f64Mul nf (f64Mul sm sm)) q
    let s := if full then f64Div (f64Sum (qe.map (fun x => f64Dot x.1.1 x.2.1 x.1.2 x.2.2))) q else z
    let th := if full then
        f64Div (f64Sum (qe.map (fun x => f64Sub (f64Mul x.1.1 x.2.2) (f64Mul x.1.2 x.2.1)))) q else z
    let res := qe.map (fun x =>
      (f64Add (f64Sub x.2.1 (f64Mul s x.1.1)) (f64Mul th x.1.2), f64Sub (f64Sub x.2.2 (f64Mul s x.1.2)) (f64Mul th x.1.1)))
    { status := if full then 1 else 2, tx, ty, s, th, px, py, residuals := res }

/-- The length of a residual. -/
def resLen (r : F64 × F64) : F64 := f64Sqrt (f64Dot r.1 r.1 r.2 r.2)

/-- The solve of one fen (R286, Table 11.2): its observations in increasing frame index, then mark number. -/
def solveFen (cfg : FenCfg) (mats : List (Int × Int × Int × Int)) (obs : List Observation) : Solved :=
  let used := obs.filter usedObservation
  let pts := used.map (displacement mats)
  let first := solvePass cfg.nMin cfg.spread pts
  let kept := (pts.zip first.residuals).filter (fun x => f64Le (resLen x.2) (ofF32 cfg.outlier)) |>.map (fun x => x.1)
  let again := first.status ≠ 3 && decide (kept.length < pts.length)
  let p := if again then solvePass cfg.nMin cfg.spread kept else first
  let n := if again then kept.length else pts.length
  let lens := p.residuals.map resLen
  let sq := f64Sum (p.residuals.map (fun r => f64Dot r.1 r.1 r.2 r.2))
  let rms := if n = 0 then f64I 0 else f64Sqrt (f64Div sq (f64I n))
  let rmax := lens.foldl (fun a b => if f64Le b a then a else b) (f64I 0)
  let status := if p.status ≠ 3 && f64Lt (ofF32 cfg.residual) rms then 4 else p.status
  { fen := cfg.fen, status, used := n, rejected := obs.length - n, values := [p.tx, p.ty, p.s, p.th, p.px, p.py, rms, rmax] }

/-- Mode factor of Table 11.3 as a fraction of 2, for scanner a and for scanner b; none where the fen does not correct it. -/
def modeFactor (mode : Nat) (b : Bool) : Option Int :=
  match mode, b with
  | 2, true => some 2
  | 3, false => some (-2)
  | 4, false => some (-1)
  | 4, true => some 1
  | _, _ => none

/-- Distance of a coordinate outside an interval. -/
def beyond (lo hi x : Int) : Nat := if x < lo then (lo - x).toNat else if hi < x then (x - hi).toNat else 0

/-- The weight w(p) of R288 at a node point in counts. -/
def fenWeight (c : FenCfg) (x y : Int) : F64 :=
  let d := Nat.max (beyond c.xMin c.xMax x) (beyond c.yMin c.yMax y)
  if d = 0 then f64I 1
  else if c.taper ≤ d then f64I 0
  else f64Sub (f64I 1) (f64Div (f64I d) (f64I c.taper))

/-- The contribution of a fen at a node point (R288), in µm. -/
def contribution (c : FenCfg) (s : Solved) (m2 : Int) (x y : Int) : F64 × F64 :=
  let v := fun k => s.values.getD k (f64I 0)
  let qx := f64Sub (f64Of x 8) (v 4)
  let qy := f64Sub (f64Of y 8) (v 5)
  let dx := f64Sub (f64Add (v 0) (f64Mul (v 2) qx)) (f64Mul (v 3) qy)
  let dy := f64Add (f64Add (v 1) (f64Mul (v 2) qy)) (f64Mul (v 3) qx)
  let w := f64Mul (f64Mul (f64Of c.gain 16384) (f64Of m2 2)) (fenWeight c x y)
  (f64Mul w dx, f64Mul w dy)

/-- Whether a fen of this solve corrects a scanner, and with which factor (R288, Table 11.3). -/
def correctsScanner (c : FenCfg) (s : Solved) (k : Nat) : Option Int :=
  if s.status = 1 || s.status = 2 then
    if k = c.chanA then modeFactor c.mode false else if k = c.chanB then modeFactor c.mode true else none
  else none

/-- The largest contribution of a fen to a scanner at any node (R288). -/
def largestStep (c : FenCfg) (s : Solved) (m2 x0 y0 : Int) (d : Nat) : F64 :=
  (List.range 65).foldl (fun a (j : Nat) => (List.range 65).foldl (fun b (i : Nat) =>
    let r := resLen (contribution c s m2 (x0 + (i : Int) * d) (y0 + (j : Int) * d))
    if f64Le r b then b else r) a) (f64I 0)

/-- The shift Δ of a node from the contributing fens, in µm (R288). -/
def nodeShift (fens : List (FenCfg × Solved × Int)) (x y : Int) : F64 × F64 :=
  fens.foldl (fun a f =>
    let r := contribution f.1 f.2.1 f.2.2 x y
    (f64Add a.1 r.1, f64Add a.2 r.2)) (f64I 0, f64I 0)

/-- The new grid of a scanner (R289): every node at the old field transform of its shifted point; nodes without shift keep
their values. Answers the table and the largest shift in µm. -/
def newGrid (x0 y0 : Int) (d : Nat) (node : Nat → Nat → Nat → Int) (fens : List (FenCfg × Solved × Int)) : Bytes × F64 :=
  let rows := (List.range 65).map (fun (j : Nat) => (List.range 65).map (fun (i : Nat) =>
    let px := x0 + (i : Int) * d
    let py := y0 + (j : Int) * d
    let sh := nodeShift fens px py
    let v : List Int :=
      if sh.1.m = 0 && sh.2.m = 0 then [node i j 0, node i j 1, node i j 2]
      else
        let fx := px * 65536 + f64Round (f64Mul sh.1 (f64I 524288))
        let fy := py * 65536 + f64Round (f64Mul sh.2 (f64I 524288))
        [0, 1, 2].map (fun q => satS 32 (fieldAt x0 y0 d node fx fy q))
    ((v.map (leBytesI 4)).flatten, resLen sh)))
  let cells := rows.flatten
  ((cells.map (fun c => c.1)).flatten, cells.foldl (fun a c => if f64Le c.2 a then a else c.2) (f64I 0))

end Sys2Proof.Machine
end

