-- ==== Sys2Proof/Machine/Servo.lean ====
section
/-! DEFINITION. The control law of a servo axis and its checks (07_scanner_servo R194–R216), and the checks of a sensor word
(08_position_feedback R219–R229), on one axis and a reading of its environment. -/

namespace Sys2Proof.Machine

/-- A Q9.30 accumulator: saturation at its 40 bits (R198). -/
def acc40 (x : Int) : Int := satS 40 x

/-- A sum of products in a Q9.30 accumulator, saturating after each addition (R198). -/
def macSum (l : List Int) : Int := l.foldl (fun a x => acc40 (a + x)) 0

/-- Write-back of an accumulator to Q15 (R198). -/
def wrBack (x : Int) : Int := satS 16 (rndSar x 15)

/-- A Q15 operand entered into an accumulator (R198). -/
def q15In (x : Int) : Int := sal x 15

/-- `sat(rnd(x × 2^(15 − k), Q15), Q15)` (R199). -/
def toQ15 (x : Int) (k : Nat) : Int := satS 16 (if k ≤ 15 then sal x (15 - k) else rndSar x (k - 15))

/-- `sat(rnd(x × 2^(−k), Q15), Q15)` (R199). -/
def downQ15 (x : Int) (k : Nat) : Int := satS 16 (rndSar x k)

/-- Entry `i` of a table of Q15 entries (R201). -/
def q15At (t : Bytes) (i : Nat) : Int := fieldI t (2 * i) 2

/-- A friction or cogging table evaluated at position `y` (R201). -/
def tableAt (t : Bytes) (base : Int) (kt : Nat) (y : Int) : Int :=
  let o := y - base
  if o < 0 then q15At t 0
  else
    let i := (sar o kt).toNat
    if 1024 ≤ i then q15At t 1024
    else
      let w := toQ15 (o - sal i kt) kt
      wrBack (macSum [q15In (q15At t i), w * q15At t (i + 1), -(w * q15At t i)])

/-- The five stored coefficients of a notch: b0h, b1h, b2h, a1h, a2h (R202). -/
structure NotchCoef where
  b0 : Int
  b1 : Int
  b2 : Int
  a1 : Int
  a2 : Int
deriving DecidableEq, Repr, Inhabited

/-- Half a coefficient, rounded to Q15 (R202). -/
def halfQ15 (x : F64) : Int := satS 16 (f64Round (f64Mul x (f64I 16384)))

/-- The coefficients of an enabled notch from its frequency in Hz, quality in 1/256 and depth in Q15, computed in binary64
in the order written (R202). -/
def notchCoef (f0 q depth : Int) : Option NotchCoef :=
  if f0 = 0 then none
  else
    let one := f64I 1
    let two := f64I 2
    let k := f64Tan (f64Div (f64Mul f64Pi (f64I f0)) (f64I 100000))
    let qf := f64Of q 256
    let zp := f64Div one (f64Mul two qf)
    let zz := f64Mul zp (f64Of depth 32768)
    let k2 := f64Mul k k
    let zpk := f64Mul (f64Mul two zp) k
    let zzk := f64Mul (f64Mul two zz) k
    let d := f64Add (f64Add one zpk) k2
    let b0 := halfQ15 (f64Div (f64Add (f64Add one zzk) k2) d)
    let b2 := halfQ15 (f64Div (f64Add (f64Sub one zzk) k2) d)
    let a1 := halfQ15 (f64Div (f64Mul two (f64Sub k2 one)) d)
    let a2 := halfQ15 (f64Div (f64Add (f64Sub one zpk) k2) d)
    some { b0, b2, a1, a2, b1 := 16384 + a1 + a2 - b0 - b2 }

/-- One step of an enabled notch; `prime` sets its delay line to the input first (R202, R203). -/
def notchStep (c : NotchCoef) (st : NotchState) (prime : Bool) (x : Int) : Int × NotchState :=
  let s := if prime then { x1 := x, x2 := x, y1 := x, y2 := x : NotchState } else st
  let a := macSum [c.b0 * x, c.b1 * s.x1, c.b2 * s.x2, -(c.a1 * s.y1), -(c.a2 * s.y2)]
  let y := wrBack (acc40 (sal a 1))
  (y, { x1 := x, x2 := s.x1, y1 := y, y2 := s.y1 })

/-- A notch in the law: a disabled one passes its input. -/
def notchOr (c : Option NotchCoef) (st : NotchState) (prime : Bool) (x : Int) : Int × NotchState :=
  match c with
  | some k => notchStep k st prime x
  | none => (x, st)

/-- What the servo engine reads of an axis: objects in force (Tables 7.3, 7.4, 8.3), the set-point for tick m, and the tick
in ticks since start. `bank` is the active bank's number and its fifteen values in the order of Table 7.4. -/
structure ServoEnv where
  a : Nat
  now : Nat
  enable : Bool
  sp : Int
  vff : Int
  aff : Int
  spHold : Bool
  bank : List Int
  vLim : Int
  aLim : Int
  jLim : Int
  feLimit : Nat
  feCount : Nat
  iMax : Int
  rampLen : Nat
  trustCount : Nat
  capV : Nat
  capA : Nat
  capJ : Nat
  satTime : Nat
  ke : Nat
  kv : Nat
  ka : Nat
  fricOn : Bool
  cogOn : Bool
  base : Int
  kt : Nat
  band : Nat
  fric : Bytes
  cog : Bytes
  ampMin : Nat
  ampMax : Nat
  sinOff : Int
  cosOff : Int
  statusMask : Nat
deriving DecidableEq, Repr, Inhabited

/-- Value `k` of the active bank (Table 7.4): 0 the number, 1 Kp, 2 Ki, 3 Kd, 4 alpha, 5 Kvf, 6 Kaf, 7 sh, 8 Ilim, 9 to 11
notch 1, 12 to 14 notch 2. -/
def bankVal (e : ServoEnv) (k : Nat) : Int := e.bank.getD k 0

/-- The event an axis posts (Table 7.2). -/
def axisEvent (a code : Nat) (sev : Severity) (detail : Bytes) : Event :=
  { poster := .ve (a / 12), code, severity := sev, kind := .servoAxis, inst := a, detail, tick := 0 }

/-- The cleared state of the law (R204). -/
def lawZero : LawState :=
  { eqPrev := 0, df := 0, integ := 0, satDir := 0, notch1 := { x1 := 0, x2 := 0, y1 := 0, y2 := 0 },
    notch2 := { x1 := 0, x2 := 0, y1 := 0, y2 := 0 } }

/-- The result of one run of the law: its state, u2 before the limit, and the command. -/
structure LawOut where
  law : LawState
  u2 : Int
  u : Int
deriving DecidableEq, Repr, Inhabited

/-- The control law of R199 for position set-point `r`, feed-forwards and sensor position `y`. `prime` marks the first tick
of a capture (R204) and `shift` a bank transition (R203): both take eq as eq_prev, clear df and prime the notches. -/
def controlLaw (v : ServoEnv) (st : LawState) (prime : Bool) (r vff aff y : Int) : LawOut :=
  let eq := toQ15 (r - y) v.ke
  let eqPrev := if prime then eq else st.eqPrev
  let df0 := if prime then 0 else st.df
  let sh := (bankVal v 7).toNat
  let lim := q15In (bankVal v 8)
  let integ0 := if prime then clampI (-lim) lim st.integ else st.integ
  let dq := satS 16 (eq - eqPrev)
  let df := wrBack (macSum [q15In df0, bankVal v 4 * dq, -(bankVal v 4 * df0)])
  let vq := downQ15 vff v.kv
  let aq := downQ15 aff v.ka
  let a1 := acc40 (sal (macSum [bankVal v 1 * eq, bankVal v 3 * df, bankVal v 5 * vq, bankVal v 6 * aq]) sh)
  let inc := acc40 (sal (bankVal v 2 * eq) sh)
  let hold := (decide (0 < st.satDir) && decide (0 < inc)) || (decide (st.satDir < 0) && decide (inc < 0))
  let integ := clampI (-lim) lim (if hold then integ0 else acc40 (integ0 + inc))
  let fr := if v.fricOn then
      wrBack (tableAt v.fric v.base v.kt y * satS 16 (if v.band = 0 then 0 else rndDiv (sal vff 15) v.band)) else 0
  let cg := if v.cogOn then tableAt v.cog v.base v.kt y else 0
  let acc := acc40 (acc40 (acc40 (a1 + integ) + q15In fr) + q15In cg)
  let u0 := wrBack acc
  let n1 := notchOr (notchCoef (bankVal v 9) (bankVal v 10) (bankVal v 11)) st.notch1 prime u0
  let n2 := notchOr (notchCoef (bankVal v 12) (bankVal v 13) (bankVal v 14)) st.notch2 prime n1.1
  let u2 := n2.1
  { law := { eqPrev := eq, df := df, integ := integ,
             satDir := if v.iMax ≤ u2 then 1 else if u2 ≤ -v.iMax then -1 else 0,
             notch1 := n1.2, notch2 := n2.2 }
    u2 := u2
    u := clampI (-v.iMax) v.iMax u2 }

/-- An axis entering RAMP (R204, R213): every state of the law is cleared, the ramp runs from the command that applies. -/
def enterRamp (rampLen : Nat) (ax : Axis) : Axis :=
  { ax with loop := .ramp, law := lawZero, rampFrom := ax.uNow, rampStep := 0, rampLen := rampLen, capture := none,
            captured := false, followRun := 0, satRun := 0 }

/-- A fault that drives the loop open (Table 7.2): verdict FAULT, RAMP, the fault latched. In RAMP or OPEN a latched fault is
not replaced (R214). -/
def servoFault (rampLen code : Nat) (ax : Axis) : Axis :=
  match ax.loop with
  | .capture => { enterRamp rampLen ax with latched := if ax.latched = 0 then code else ax.latched, fault := true }
  | .closed => { enterRamp rampLen ax with latched := if ax.latched = 0 then code else ax.latched, fault := true }
  | .ramp => { ax with latched := if ax.latched = 0 then code else ax.latched }
  | .opened => ax

/-- The ramp command `k` ticks after the axis entered RAMP (R213). -/
def rampCommand (ax : Axis) (k : Nat) : Int :=
  if ax.rampLen ≤ k then 0
  else satS 16 (rndDiv (ax.rampFrom * ((ax.rampLen - k : Nat) : Int)) ax.rampLen)

/-- The set-point checks of R206 for a CLOSED axis: 0, or the number of the check that fails. -/
def setPointCheck (v : ServoEnv) (ax : Axis) : Nat :=
  if v.vLim + 256 < ((v.sp - ax.prevPos).natAbs : Int) * 256 then 1
  else if v.vLim < (v.vff.natAbs : Int) then 2
  else if v.spHold || ax.prevHold then 0
  else if v.aLim < (v.aff.natAbs : Int) then 3
  else if v.jLim < ((v.aff - ax.prevAcc).natAbs : Int) then 4
  else 0

/-- The capture profile from `y` to `q` (R210). -/
def planCapture (v : ServoEnv) (y q : Int) (origin : Nat) : Capture :=
  { move := axisMove y q (v.capV * 256) v.capA v.capJ, origin }

/-- Time of the tick boundary `now` in a capture. -/
def captureTime (now : Nat) (c : Capture) : Nat := (now - c.origin) * oneP

/-- Whether a capture profile is at rest at tick `now`. -/
def captureAtRest (now : Nat) (c : Capture) : Bool := decide (axisTime c.move ≤ captureTime now c)

/-- The end of a capture profile. -/
def captureEnd (c : Capture) : Int := if c.move.neg then c.move.origin - (c.move.dist : Int) else c.move.origin + (c.move.dist : Int)

/-- Position, velocity and acceleration of a capture profile at tick `now`, in the units of Table 6.1. -/
def captureSample (now : Nat) (c : Capture) : Int × Int × Int :=
  let s := axisAt c.move (captureTime now c)
  let sg : Int := if c.move.neg then -1 else 1
  if captureAtRest now c then (captureEnd c, 0, 0)
  else (c.move.origin + sg * rndP s.s 256, sg * rndDiv (snapP s.v * 256) oneP, sg * rndDiv (snapP s.a * 65536) oneP)

/-- The law run on an axis in CAPTURE or CLOSED, with its saturation count (R199, R203, R204; Table 7.2). DEDUCED: assumption 40. -/
def runLaw (v : ServoEnv) (ax : Axis) (r vff aff : Int) : Axis :=
  let o := controlLaw v ax.law (ax.fresh || ax.bank != v.bank) r vff aff ax.y
  let beyond := decide (v.iMax < (o.u2.natAbs : Int))
  { ax with law := o.law, u := o.u, r := r, e := r - ax.y, fresh := false, bank := v.bank,
            satRun := if beyond then ax.satRun + 1 else 0,
            satTicks := if beyond then inc32 ax.satTicks else ax.satTicks }

/-- FOLLOWING_ERROR (R207, Table 7.2 0x0702): at the following-error count in CAPTURE or CLOSED. -/
def followFault (v : ServoEnv) (ax : Axis) : Axis × List Event :=
  if (ax.loop == .capture || ax.loop == .closed) && decide (v.feCount ≤ ax.followRun) && decide (0 < v.feCount) then
    ({ servoFault v.rampLen 0x0702 ax with followFaults := inc32 ax.followFaults },
      [axisEvent v.a 0x0702 .stopJob []])
  else (ax, [])

/-- CURRENT_SATURATED (Table 7.2 0x0704): first per axis and layer. DEDUCED: assumption 40. -/
def saturated (v : ServoEnv) (ax : Axis) : Axis × List Event :=
  if decide (v.satTime ≤ ax.satRun) && !ax.satPosted && decide (0 < v.satTime) then
    ({ ax with satPosted := true }, [axisEvent v.a 0x0704 .warn []])
  else (ax, [])

/-- TRUST_RESTORED (R215): no fault latched and the last N_t words valid. -/
def restoreTrust (v : ServoEnv) (ax : Axis) : Axis × List Event :=
  if v.enable && !ax.trusted && decide (ax.latched = 0) && decide (v.trustCount ≤ ax.trustRun) then
    ({ ax with trusted := true, trustedOnce := true, sensorFaulted := false },
      if ax.sensorFaulted && ax.trustedOnce then [axisEvent v.a 0x0707 .note []] else [])
  else (ax, [])

/-- CAPTURE_COMPLETE (R210): the axis is CLOSED from the boundary after the profile came to rest at the set-point. -/
def completeCapture (ax : Axis) : Axis :=
  if ax.loop == .capture && ax.captured then
    { ax with loop := .closed, capture := none, captured := false, captures := inc32 ax.captures }
  else ax

/-- FAULT_RAMP_END (R208, R213): after the ramp's last command the axis is OPEN. -/
def endRamp (ax : Axis) : Axis :=
  if ax.loop == .ramp && decide (ax.rampLen ≤ ax.rampStep) then { ax with loop := .opened, u := 0, rampStep := 0 } else ax

/-- The following-error run after the error of this tick (R207). -/
def followStep (v : ServoEnv) (ax : Axis) : Axis :=
  { ax with followRun := if v.feLimit < ax.e.natAbs then ax.followRun + 1 else 0 }

/-- The ramp of an axis whose servo engine has missed the deadline of the tick before (R213). -/
def overrunRamp (v : ServoEnv) (ax : Axis) : Axis :=
  let x := { ax with overrun := false }
  if ax.overrun && (ax.loop == .capture || ax.loop == .closed) then enterRamp v.rampLen x else x

/-- P2 of tick m for one axis (R194, R196, R197, R199, R206, R207, R210, R213). -/
def servoAxis (v : ServoEnv) (ax : Axis) : Axis × List Event :=
  let ax := overrunRamp v { ax with uNow := ax.u }
  let upd := fun (x : Axis) => { x with prevPos := v.sp, prevAcc := v.aff, prevHold := v.spHold }
  match ax.loop with
  | .opened => (upd { ax with u := 0, r := v.sp, e := v.sp - ax.y, followRun := 0, satRun := 0 }, [])
  | .ramp => (upd (rampTick { ax with r := v.sp, e := v.sp - ax.y }), [])
  | .closed =>
    let k := setPointCheck v ax
    if k ≠ 0 then
      (upd (rampTick { servoFault v.rampLen 0x0703 { ax with r := v.sp, e := v.sp - ax.y } with
          limitFaults := inc32 ax.limitFaults }),
        [axisEvent v.a 0x0703 .stopJob (leBytes 1 k)])
    else
      let a1 := followStep v { ax with r := v.sp, e := v.sp - ax.y }
      let a1 := { a1 with peak := Nat.max a1.peak a1.e.natAbs }
      let (a2, ev) := followFault v a1
      if ev.isEmpty then
        let (a3, ev3) := saturated v (runLaw v a2 v.sp v.vff v.aff)
        (upd a3, ev3)
      else (upd (rampTick a2), ev)
  | .capture =>
    let c0 := match ax.capture with | some c => c | none => planCapture v ax.y v.sp v.now
    let rest := captureAtRest v.now c0
    let done := rest && decide (captureEnd c0 = v.sp)
    let c := if rest && !done then planCapture v (captureEnd c0) v.sp v.now else c0
    let (r, vff, aff) := captureSample v.now c
    let a1 := followStep v { ax with capture := some c, r := r, e := r - ax.y }
    let (a2, ev) := followFault v a1
    if ev.isEmpty then
      let (a3, ev3) := saturated v (runLaw v a2 r vff aff)
      ({ upd { a3 with captured := done } with prevHold := v.spHold || done },
        ev3 ++ (if done then [axisEvent v.a 0x0706 .note []] else []))
    else (upd (rampTick a2), ev)
where
  /-- One tick of the ramp of R213. -/
  rampTick (x : Axis) : Axis := { x with rampStep := x.rampStep + 1, u := rampCommand x (x.rampStep + 1) }

/-- CRC-8 with polynomial 0x2F, one bit fed from the top (R220). -/
def crc8Bit (c : Nat) (b : Bool) : Nat :=
  let t := (decide (128 ≤ c)) != b
  let s := (c * 2) % 256
  if t then s ^^^ 0x2F else s

/-- CRC-8 over `n` bits of `x` from the most significant (R220): preset 0xFF, result inverted. -/
def crc8 (n x : Nat) : Nat :=
  ((List.range n).foldl (fun c k => crc8Bit c (x.testBit (n - 1 - k))) 0xFF) ^^^ 0xFF

/-- Fields of a sensor word (Table 8.1). -/
def swPosition (w : SensorWord) : Nat := bitsOf w.toNat 63 40
/-- Raw sine of a word (Table 8.1). -/
def swSine (w : SensorWord) : Int := ofBits 12 (bitsOf w.toNat 39 28)
/-- Raw cosine of a word (Table 8.1). -/
def swCosine (w : SensorWord) : Int := ofBits 12 (bitsOf w.toNat 27 16)
/-- Rolling counter of a word (Table 8.1). -/
def swCounter (w : SensorWord) : Nat := bitsOf w.toNat 15 12
/-- Status bits of a word (Table 8.1). -/
def swStatus (w : SensorWord) : Nat := bitsOf w.toNat 11 8
/-- Whether the CRC-8 of a word agrees (R220). -/
def swCrcOk (w : SensorWord) : Bool := bitsOf w.toNat 7 0 == crc8 56 (w.toNat / 256)

/-- Corrected samples of a word (R225). -/
def corrected (v : ServoEnv) (w : SensorWord) : Int × Int := (swSine w - v.sinOff, swCosine w - v.cosOff)

/-- The repeat run and the counts after check 6 (R226): run, repeats, skips. -/
def repeatStep (fb : Feedback) (w : SensorWord) : Nat × Nat × Nat :=
  match fb.ref with
  | none => (0, fb.repeats, fb.skips)
  | some p =>
    if swCounter w = swCounter p then (fb.repeatRun + 1, inc32 fb.repeats, fb.skips)
    else if swCounter w = (swCounter p + 1) % 16 then (0, fb.repeats, fb.skips)
    else (0, fb.repeats, inc32 fb.skips)

/-- The quadrant check (R227): both signs differ from the reference's. -/
def quadrantFails (v : ServoEnv) (fb : Feedback) (w : SensorWord) : Bool :=
  match fb.ref with
  | none => false
  | some p =>
    let a := corrected v w
    let b := corrected v p
    (decide (a.1 < 0) != decide (b.1 < 0)) && (decide (a.2 < 0) != decide (b.2 < 0))

/-- The reason code of the first check that a received word fails, or 0 (Table 8.2). -/
def wordReason (v : ServoEnv) (fb : Feedback) (w : SensorWord) : Nat :=
  let sc := corrected v w
  let amp := (sc.1 ^ 2 + sc.2 ^ 2).toNat
  if !swCrcOk w then 2
  else if swStatus w &&& v.statusMask ≠ 0 then 3
  else if amp < v.ampMin ^ 2 then 4
  else if v.ampMax ^ 2 < amp then 5
  else if 2 ≤ (repeatStep fb w).1 then 6
  else if quadrantFails v fb w then 7
  else 0

/-- Whether a word reaches check 6 (R226). -/
def reachesSix (reason : Nat) : Bool := reason = 0 || decide (6 ≤ reason)

/-- SENSOR_FAULT (R214, R215, R228, R229): a word of the tick fails with a reason code. -/
def sensorFault (v : ServoEnv) (ax : Axis) (reason : Nat) : Axis × List Event :=
  let closedLoop := ax.loop == .capture || ax.loop == .closed
  let quiet := !closedLoop && decide (ax.fb.runReason = reason)
  let sev : Severity := if ax.loop == .opened then .warn else .stopJob
  let fb := { ax.fb with valid := false, received := true, lastReason := reason, ref := none, repeatRun := 0,
                         runReason := reason, fails := updI ax.fb.fails (reason - 1) inc32 }
  let a1 := { servoFault v.rampLen 0x0701 { ax with uNow := ax.u } with trusted := false, trustRun := 0, fb := fb }
  ({ a1 with uNow := ax.uNow, sensorFaulted := ax.sensorFaulted || !quiet },
    if quiet then [] else [axisEvent v.a 0x0701 sev (leBytes 1 reason)])

/-- A word received in P1 is checked (R224–R229). -/
def checkWord (v : ServoEnv) (ax : Axis) (w : SensorWord) : Axis × List Event :=
  let reason := wordReason v ax.fb w
  let (run, reps, skips) := repeatStep ax.fb w
  let six := reachesSix reason
  let fb := { ax.fb with word := w,
                         repeatRun := if six then run else ax.fb.repeatRun,
                         repeats := if six then reps else ax.fb.repeats,
                         skips := if six then skips else ax.fb.skips }
  if reason ≠ 0 then
    let (a1, ev) := sensorFault v { ax with fb := fb } reason
    ({ a1 with fb := { a1.fb with repeatRun := fb.repeatRun } }, ev)
  else
    let sc := corrected v w
    let amp := isqrt (sc.1 ^ 2 + sc.2 ^ 2).toNat
    ({ ax with
        y := ofBits 24 (swPosition w), trustRun := ax.trustRun + 1
        fb := { fb with valid := true, received := true, runReason := 0, position := swPosition w, sine := sc.1,
                        cosine := sc.2, counter := swCounter w, status := swStatus w,
                        validWords := (fb.validWords + 1) % 2 ^ 32, everValid := true, low := Nat.min fb.low amp,
                        high := Nat.max fb.high amp, ref := some w } }, [])

end Sys2Proof.Machine
end

