-- ==== Sys2Proof/Machine/ServoTick.lean ====
section
/-! DEFINITION. The servo axes of the device: their settings, words and commands (07_scanner_servo R194–R218,
08_position_feedback R221–R231). -/

namespace Sys2Proof.Machine

/-- What axis `a` reads: its objects in force, and the set-point of the tick (R194). -/
def servoEnv (s : Blocks) (a : Nat) : ServoEnv :=
  let o := fun sub => s.objI (0x3200 + a) sub
  let n := fun sub => s.objN (0x3200 + a) sub
  let f := fun sub => s.objI (0x3300 + a) sub
  let sp := (getI s.scan.chans (a / 3)).spNow
  let q := a % 3
  { a, now := s.now, enable := n 0x00 != 0
    sp := getI sp.pos q, vff := getI sp.vel q, aff := getI sp.acc q, spHold := getI sp.hold q
    bank := o 0x06 :: (List.range 14).map (fun k => o (0x20 + 0x10 * n 0x06 + k))
    vLim := o 0x08, aLim := o 0x09, jLim := o 0x0A, feLimit := n 0x0B, feCount := n 0x0C, iMax := o 0x0D
    rampLen := n 0x0E, trustCount := n 0x0F, capV := n 0x10, capA := n 0x11, capJ := n 0x12, satTime := n 0x13
    ke := n 0x14, kv := n 0x15, ka := n 0x16, fricOn := n 0x17 != 0, cogOn := n 0x18 != 0
    base := o 0x19, kt := n 0x1A, band := n 0x1B
    fric := s.objT (0x3200 + a) 0x1C, cog := s.objT (0x3200 + a) 0x1D
    ampMin := (f 0x00).toNat, ampMax := (f 0x01).toNat, sinOff := f 0x02, cosOff := f 0x03, statusMask := (f 0x04).toNat }

/-- Axis `a` changed by `f`. -/
def State.updAxis (s : State) (a : Nat) (f : Axis → Axis) : State := { s with axes := updI s.axes a f }

/-- Axis `a` changed by an operation that may post events. -/
def onAxis (s : State) (a : Nat) (f : ServoEnv → Axis → Axis × List Event) : State :=
  let r := f (servoEnv s.toBlocks a) (getI s.axes a)
  (s.updAxis a (fun _ => r.1)).postAll r.2

/-- Whether axis `a` is enabled (R208, R221). -/
def axisEnabled (s : Blocks) (a : Nat) : Bool := s.objB (0x3200 + a) 0x00

/-- Whether an axis has a running loop. -/
def axisActive (ax : Axis) : Bool := ax.loop == .capture || ax.loop == .closed

/-- The three axes of a scanner are CLOSED and trusted (R189, R216). -/
def scannerClosed (s : Blocks) (n : Nat) : Bool :=
  allI 3 (fun q => let ax := getI s.axes (3 * n + q); ax.loop == .closed && ax.trusted)

/-- The set-points of axis `a` put at its sensor position: its first valid word (R491). -/
def firstPosition (s : State) (a : Nat) : State :=
  let y := (getI s.axes a).y
  let put := fun (p : SetPoint) => { p with pos := updI p.pos (a % 3) (fun _ => y) }
  { s with scan := { s.scan with chans := updI s.scan.chans (a / 3) (fun c => { c with spNow := put c.spNow, spNext := put c.spNext }) } }

/-- A word of axis `a` as it arrives in P1 (R224): checked when the axis is enabled. -/
def wordArrives (s : State) (a : Nat) (w : SensorWord) : State :=
  if axisEnabled s.toBlocks a then
    let first := !(getI s.axes a).fb.everValid
    let s := onAxis s a (fun v ax => checkWord v ax w)
    if first && (getI s.axes a).fb.everValid then firstPosition s a else s
  else s

/-- Clock 3,000 of axis `a` (R46, R222, R223): a word that has not come is missing; a disabled axis is untrusted. DEDUCED: assumption 40. -/
def wordDeadline (s : State) (a : Nat) : State :=
  if axisEnabled s.toBlocks a then
    let s := if (getI s.axes a).fb.received then s else onAxis s a (fun v ax => sensorFault v ax 1)
    onAxis s a restoreTrust
  else s.updAxis a (fun ax => { ax with
    trusted := false, trustedOnce := false, trustRun := 0, sensorFaulted := false
    fb := { ax.fb with valid := false, ref := none, repeatRun := 0, runReason := 0 } })

/-- The value that a LYR object of axis `a` will have at the immediate boundary of a command committed now (R209): a pending value counts
when no job runs or starts, or when its boundary is the next one and a layer begins or the job ends there. `next` is what every object
holds once the values pending, and those of the group being checked, are in force. -/
def lyrAtBoundary (s : Blocks) (next : Nat → Nat → Val) (a sub : Nat) : Val :=
  if !s.jobRuns && !s.job.nextStart then next (0x3200 + a) sub
  else if s.job.nextLayer || (s.job.isLast && s.job.completeTick.isSome) then
    match (s.dict.pending.filter (fun w => w.index == 0x3200 + a && w.sub == sub && decide (w.due ≤ s.now + 1))).getLast? with
    | some w => w.val
    | none => objVal s.dict (0x3200 + a) sub
  else objVal s.dict (0x3200 + a) sub

/-- Kp of the bank that will be active at the immediate boundary (R209). -/
def kpAtBoundary (s : Blocks) (next : Nat → Nat → Val) (a : Nat) : Int :=
  let v := lyrAtBoundary s next a
  valI (v (0x20 + 0x10 * (valI (v 0x06)).toNat))

/-- The abort code of an axis command in the present state; 0 when it is accepted (R209). -/
def axisCommandCode (s : Blocks) (next : Nat → Nat → Val) (a v : Nat) : Nat :=
  let ax := getI s.axes a
  match v with
  | 1 =>
    if axisEnabled s a && ax.loop == .opened && ax.trusted && ax.latched == 0 then
      if kpAtBoundary s next a == 0 then 0x03010003 else 0
    else 0x04010001
  | 2 =>
    let c := getI s.scan.chans (a / 3)
    if axisActive ax && (c.state == .idle || c.state == .stopped) then 0 else 0x04010001
  | _ => if ax.loop == .opened then 0 else 0x04010001

/-- The axis on entry to CAPTURE (R204, R208). -/
def enterCapture (ax : Axis) : Axis :=
  { ax with loop := .capture, law := lawZero, fresh := true, capture := none, captured := false, followRun := 0, satRun := 0 }

/-- An axis command at its boundary (R208–R210). -/
def axisCommand (s : State) (a v : Nat) : State :=
  s.updAxis a (fun ax =>
    match v with
    | 1 => enterCapture ax
    | 2 => enterRamp (s.objN (0x3200 + a) 0x0E) { ax with uNow := ax.u }
    | _ => { ax with latched := 0 })

/-- The overrun of servo engine `j` in tick n (Table 2.4, Table 7.2): its ports repeat the commands of the tick before, all its axes latch
0x0705, trusted as they were, and those in CAPTURE or CLOSED have the verdict FAULT and enter RAMP in P2 of tick n + 1 (R195, R213). -/
def overrunAxes (s : State) (j : Nat) : State :=
  forI 12 s (fun s i => s.updAxis (12 * j + i) (fun ax =>
    { ax with u := ax.uNow, overrun := true, fault := ax.fault || axisActive ax
              latched := if ax.latched == 0 then 0x0705 else ax.latched }))

/-- P2 of every axis, in increasing axis number (R194). -/
def servoTick (s : State) : State := forI 96 s (fun s a => onAxis s a servoAxis)

/-- What happens to every axis at a tick boundary: a capture that came to rest closes the loop, a ramp that has ended opens it
(R208, R210, R213). -/
def axisBoundary (s : State) : State := forI 96 s (fun s a => s.updAxis a (fun ax => endRamp (completeCapture ax)))

/-- The notch coefficients in force (Table 7.4 offset 0x2E): the five of notch 1, then of notch 2. -/
def notchBytes (s : Blocks) (a b : Nat) : Bytes :=
  let v := fun k => s.objI (0x3200 + a) (0x20 + 0x10 * b + k)
  let enc := fun (c : Option NotchCoef) => match c with
    | some x => leBytesI 2 x.b0 ++ leBytesI 2 x.b1 ++ leBytesI 2 x.b2 ++ leBytesI 2 x.a1 ++ leBytesI 2 x.a2
    | none => List.replicate 10 0
  enc (notchCoef (v 8) (v 9) (v 10)) ++ enc (notchCoef (v 11) (v 12) (v 13))

/-- CAPTURE_COMPLETE (R210). -/
def execCaptureComplete (a : Fin 96) (s : State) : Host.Outcome State Fault Refusal := .next (s.updAxis a completeCapture)

/-- FAULT_RAMP_END (R208, R213). -/
def execFaultRampEnd (a : Fin 96) (s : State) : Host.Outcome State Fault Refusal := .next (s.updAxis a endRamp)

/-- FOLLOWING_ERROR (R207). -/
def execFollowingError (a : Fin 96) (s : State) : Host.Outcome State Fault Refusal := .next (onAxis s a followFault)

/-- CURRENT_SATURATED (Table 7.2). -/
def execCurrentSaturated (a : Fin 96) (s : State) : Host.Outcome State Fault Refusal := .next (onAxis s a saturated)

/-- TRUST_RESTORED (R215). -/
def execTrustRestored (a : Fin 96) (s : State) : Host.Outcome State Fault Refusal := .next (onAxis s a restoreTrust)

end Sys2Proof.Machine
end

