-- ==== Sys2Proof/Machine/ScanEngine.lean ====
section
/-! DEFINITION. The scan engines of the device: P2 of every channel, gates, claims and rendezvous
(06_scan_execution R151, R179–R192; 05_layer_stream R147, R148; 10_melt_pool_control R260–R270). -/

namespace Sys2Proof.Machine

/-- The package of the layer in progress: it stays in the store until the next layer boundary (R141). -/
def layerPackage (s : Blocks) : Option Package :=
  match s.job.layer with
  | none => none
  | some l => (s.job.store.find? (fun p => p.head.layer == l)).map (fun p => p.head)

/-- The fens of the layer in progress. -/
def layerFens (s : Blocks) : List FenSection := ((layerPackage s).map (fun p => p.fens)).getD []

/-- The other channel of a fen of the layer in progress (R131). -/
def fenPartner (s : Blocks) (n z : Nat) : Option Nat :=
  match (layerFens s).find? (fun f => f.fen == z) with
  | some f => if f.chanA == n then some f.chanB else if f.chanB == n then some f.chanA else none
  | none => none

/-- Gate sources of channel n (Table 6.7 sub 0x01): host, feedback, overrun, channel stop, node, LPERMIT_N, job. -/
def gateSources (s : Blocks) (n : Nat) : Nat :=
  let g := (getI s.scan.chans n).gates
  b2n (!s.objB (0x3000 + n) 0x00) + 2 * b2n g.feedback + 4 * b2n g.overrun + 8 * b2n g.stop + 16 * b2n g.node
    + 32 * b2n s.power.gate5 + 64 * b2n g.job

/-- Whether the grid of scanner n in force is all 0 (R292). -/
def gridBlank (s : Blocks) (n : Nat) : Bool := (s.objT (0x3800 + n) 0x03).all (fun b => b == 0)

/-- A node of the correction grid of scanner n (R292). -/
def gridNode (t : Bytes) (i j q : Nat) : Int := fieldI t (4 * (3 * (65 * j + i) + q)) 4

/-- The limits of an entry move of one axis (R531): the smaller of capture and axis limits. -/
def entryLimits (s : Blocks) (a : Nat) : Nat × Nat × Nat :=
  let o := fun sub => s.objN (0x3200 + a) sub
  (Nat.min (o 0x10) (o 0x08) * 256, Nat.min (o 0x11) (o 0x09), Nat.min (o 0x12) (o 0x0A))

/-- What channel n reads in P2; `err` gives the position errors of tick m − 1 (R160, R196). -/
def scanEnv (s : Blocks) (err : Nat → Int) (n : Nat) : ScanEnv :=
  let o := fun sub => s.objN (0x3100 + n) sub
  let grid := s.objT (0x3800 + n) 0x03
  { n, now := s.now, layer := s.job.layer.getD (2 ^ 32)
    jump := speedOf (o 0x00), a := accelOf (o 0x01), j := jerkOf (o 0x02), dv := speedOf (o 0x03), runIn := o 0x04 != 0
    lag := o 0x05, leadOn := s.objN (0x3000 + n) 0x03, leadOff := s.objN (0x3000 + n) 0x04
    settleCount := o 0x07, settleTimeout := o 0x08, throttleDwell := o 0x0A, focusGain := s.objI (0x3100 + n) 0x0B
    pMax := s.objN (0x3000 + n) 0x02
    entry := Vector.ofFn (fun q => entryLimits s (3 * n + q.val))
    gx := s.objI (0x3800 + n) 0x00, gy := s.objI (0x3800 + n) 0x01, gd := s.objN (0x3800 + n) 0x02, node := gridNode grid
    throttle := bit s.temp.channelThrottle n
    errOk := decide ((err (3 * n)).natAbs ≤ o 0x06) && decide ((err (3 * n + 1)).natAbs ≤ o 0x06)
    gNext := (getI s.melt.chans n).gNext
    gated := gateSources s n != 0
    partnerOf := fenPartner s n
    stoppedOf := fun k => (getI s.scan.chans k).state == .stopped
    limits := fun k => (accelOf (s.objN (0x3100 + k) 0x01), jerkOf (s.objN (0x3100 + k) 0x02), s.objN (0x3100 + k) 0x05) }

/-- What the power law of channel n reads in P2 (R260). -/
def lawEnv (s : Blocks) (n : Nat) : LawEnv :=
  let o := fun sub => s.objN (0x3600 + n) sub
  { n, enable := o 0x00 != 0, terms := o 0x01, lower := (o 0x02 : Int), upper := (o 0x03 : Int), kv := (o 0x04 : Int), kh := (o 0x05 : Int)
    gPd := o 0x06, kPd := (o 0x07 : Int), pdMin := o 0x08, lossCount := o 0x09, metric := o 0x0A, gCam := o 0x0B, kCam := (o 0x0C : Int)
    window := (o 0x0D : Int), outLimit := o 0x0E, absentCount := o 0x0F, holdCount := o 0x10
    pd := (getI s.analog.channels n).pd, delivery := (getI s.melt.chans n).delivery
    exposing := commandEmits (getI s.scan.chans n).cmdNow
    delta := heatDelta s.melt.heat (s.objI 0x3600 0x47) (s.objI 0x3600 0x48) (s.objN 0x3600 0x49) }

/-- Channel n changed by `f`. -/
def State.updChan (s : State) (n : Nat) (f : Chan → Chan) : State :=
  { s with scan := { s.scan with chans := updI s.scan.chans n f } }

/-- Power control of channel n changed by `f`. -/
def State.updMelt (s : State) (n : Nat) (f : Melt → Melt) : State :=
  { s with melt := { s.melt with chans := updI s.melt.chans n f } }

/-- No position error known: what an operation outside P2 reads. -/
def noErr : Nat → Int := fun _ => 0

/-- Channel n changed by an operation that may post events. -/
def onChan (s : State) (err : Nat → Int) (n : Nat) (f : ScanEnv → Chan → Chan × List Event) : State :=
  let r := f (scanEnv s.toBlocks err n) (getI s.scan.chans n)
  (s.updChan n (fun _ => r.1)).postAll r.2

/-- A stop of Table 6.5 on channel n, with the event of an abandoned item (R186, R188). -/
def stopChan (s : State) (n cause : Nat) (holdNow : Bool) : State :=
  onChan s noErr n (fun e c => stopChannel e c cause holdNow)

/-- Sets the gates of channel n. -/
def State.updGates (s : State) (n : Nat) (f : Gates → Gates) : State :=
  s.updChan n (fun c => { c with gates := f c.gates })

/-- The FAULT verdicts of tick m on the three axes of scanner n: feedback gate, hold and stop (R190, Table 6.6). DEDUCED: assumption 40. -/
def feedbackStop (s : State) (n : Nat) : State :=
  let bad := (List.range 3).filter (fun q => (getI s.axes (3 * n + q)).fault)
  if bad.isEmpty then s
  else
    let s := s.postAll (bad.map (fun q => chanEvent n 0x0603 .stopJob (leBytes 1 (3 * n + q))))
    let s := bad.foldl (fun s q => s.updAxis (3 * n + q) (fun ax => { ax with fault := false })) s
    stopChan (s.updGates n (fun g => { g with feedback := true })) n 4 true

/-- The path stop of a node gate set in this tick (R190, R328). -/
def nodeStop (s : State) (n : Nat) : State :=
  if (getI s.link.lasers n).stopDue then
    stopChan { s with link := { s.link with lasers := updI s.link.lasers n (fun x => { x with stopDue := false }) } } n 5 false
  else s

/-- Steps 1 to 3 of R151 for channel n: verdicts and stops, what ends in this tick, and the fetch. -/
def scanFirst (err : Nat → Int) (s : State) (n : Nat) : State :=
  let s := nodeStop (feedbackStop s n) n
  let s := onChan s err n finishAct
  let s := s.updChan n finishStop
  let had := (getI s.scan.chans n).queue.length
  let st := (getI s.scan.chans n).state
  let s := if st == .run || st == .waitEnd || st == .waitMark then onChan s err n (fun e c => fetchRecs e 2048 c) else s
  let s := if st == .run then onChan s err n closeRest else s
  if (getI s.scan.chans n).queue.length < had then { s with queues := updI s.queues n (fun q => { q with inUnderrun := false }) } else s

/-- The lowest fen of the layer in progress that names channel n and holds an item (R181). DEDUCED: assumption 28. -/
def claimFen (s : Blocks) (n : Nat) : Option Nat :=
  let l := (s.scan.bufs.filter (fun b =>
    some b.layer == s.job.layer && (b.chanA == n || b.chanB == n) && !b.items.isEmpty)).map (fun b => b.fen)
  l.foldl (fun m z => match m with | none => some z | some y => some (Nat.min y z)) none

/-- The request of channel n in this tick (R180, R181). -/
def claimRequest (s : Blocks) (n : Nat) : Option Nat :=
  let c := getI s.scan.chans n
  if claimPoint c && (decide (c.backlog < s.objN (0x3100 + n) 0x09) || c.atEnd) then claimFen s n else none

/-- The order of R182 between two requesters. -/
def claimBefore (s : Blocks) (a b : Nat) : Bool :=
  let key := fun (n : Nat) => [b2n (bit s.temp.channelThrottle n), (getI s.scan.chans n).backlog, n]
  lexLess (key a) (key b)
where
  /-- Lexicographic order of two lists of numbers. -/
  lexLess : List Nat → List Nat → Bool
    | x :: l, y :: m => decide (x < y) || (x == y && lexLess l m)
    | _, _ => false

/-- A requester entered in the order of R182. -/
def insertClaim (s : Blocks) (n : Nat) : List Nat → List Nat
  | [] => [n]
  | k :: l => if claimBefore s n k then n :: k :: l else k :: insertClaim s n l

/-- One grant: the item of fen z to channel n (R182, R183). -/
def grantItem (s : State) (z n : Nat) (it : FenItem) : State :=
  let s := { s with scan := { s.scan with
    grants := s.scan.grants ++ [(z, it.number, n)]
    bufs := s.scan.bufs.map (fun (b : FenBuf) => if b.fen == z && some b.layer == s.job.layer then { b with items := b.items.drop 1 } else b) } }
  onChan (s.updChan n (fun c => { c with
    item := some { fen := z, item := it.number, recs := it.recs, refused := [], home := c.cur }, state := .run, act := .ready
    counts := { c.counts with claimed := inc32 c.counts.claimed } })) noErr n fetchItem

/-- The claim token of fen z: its items in order to its requesters in order (R182). -/
def resolveClaims (s : State) (z : Nat) (requesters : List Nat) : State :=
  requesters.foldl (fun s n =>
    match (s.scan.bufs.find? (fun b => b.fen == z && some b.layer == s.job.layer)).map (fun b => b.items) with
    | some (it :: _) => grantItem s z n it
    | _ => s.updChan n (fun c => { c with counts := { c.counts with lost := inc32 c.counts.lost } })) s

/-- Step 4 of R151 for every channel: requests, and grants by fen in increasing number (R180–R182). DEDUCED: assumption 28. -/
def scanClaims (s : State) : State :=
  let req := (List.range 32).filterMap (fun n => (claimRequest s.toBlocks n).map (fun z => (z, n)))
  let s := { s with scan := { s.scan with grants := [] } }
  if req.isEmpty then s
  else forI 256 s (fun s z =>
    let l := (req.filter (fun r => r.1 == z)).map (fun r => r.2)
    if l.isEmpty then s else resolveClaims s z (l.foldl (fun acc n => insertClaim s.toBlocks n acc) []))

/-- The mark number that a channel waits with at a track start, and its fen. -/
def waitingMark (c : Chan) : Option (Nat × Nat × Nat) :=
  match c.act, c.active with
  | .markWait since, some r =>
    match r.body with
    | .mark _ z num _ _ _ _ _ _ _ => some (z, num, since)
    | _ => none
  | _, _ => none

/-- The rendezvous of one channel (R147): the partner waits with the same mark, or the channel goes to WAIT-MARK. DEDUCED: assumption 38. -/
def meetMark (s : State) (n : Nat) : State :=
  match waitingMark (getI s.scan.chans n) with
  | none => s
  | some (z, num, since) =>
    match fenPartner s.toBlocks n z with
    | none => s
    | some k =>
      match waitingMark (getI s.scan.chans k) with
      | some (z2, num2, since2) =>
        if z == z2 && num == num2 then
          let go := fun (t : Nat) (c : Chan) => { c with
            act := .markReady (s.now + 1), state := if c.state == .waitMark then .run else c.state
            counts := { c.counts with markWait := satU 32 (c.counts.markWait + (s.now - t)) } }
          (s.updChan n (go since)).updChan k (go since2)
        else s.updChan n (fun c => { c with state := if c.state == .run then .waitMark else c.state })
      | none => s.updChan n (fun c => { c with state := if c.state == .run then .waitMark else c.state })

/-- Every rendezvous of the tick. DEDUCED: assumption 38. -/
def scanMeet (s : State) : State := forI 32 s meetMark

/-- Segments without an owner noted as the channel's own, a claimed item's, or a MARK's. -/
def noteKind (c : Chan) : Chan :=
  let k := if c.act == .markTrack then 3 else if c.item.isSome then 2 else 1
  { c with segs := c.segs.map (fun g => if g.kind == 0 then { g with kind := k } else g) }

/-- Whether this P2 has decided the first motion of an exposure chain (R156, R267): the way to its start, or the chain itself where the
scanner stood there. -/
def chainBegins (before after : Chan) : Bool :=
  (after.placed && !before.placed) || (after.act == .chain && before.act != .chain && !before.placed)

/-- An underrun of channel n while a layer is in progress (R30, R165). -/
def noteUnderrun (s : State) (n : Nat) : State :=
  let c := getI s.scan.chans n
  let needs := match c.act with
    | .ready => c.raster.isNone
    | .chain => c.chainOpen
    | _ => false
  if s.job.layer.isSome && c.state == .run && c.item.isNone && c.ahead.isEmpty && c.queue.isEmpty && !c.atEnd && !c.blocked && needs then
    let q := getI s.queues n
    if q.inUnderrun then s
    else
      let s := { s with queues := updI s.queues n (fun q => { q with underruns := inc32 q.underruns, inUnderrun := true }) }
      if c.underrunPosted then s
      else (s.updChan n (fun c => { c with underrunPosted := true })).post (chanEvent n 0x0605 .warn [])
  else s

/-- Steps 5 to 7 of R151 for channel n: plan, sample, power law, laser command, exposure record. -/
def scanSecond (err : Nat → Int) (s : State) (n : Nat) : State :=
  let before := getI s.scan.chans n
  let s := onChan s err n skipMark
  let s := onChan s err n stopOutside
  let s := onChan s err n (fun e c => startNext e 64 c)
  let s := s.updChan n noteKind
  let e := scanEnv s.toBlocks err n
  let v := lawEnv s.toBlocks n
  let c := getI s.scan.chans n
  let m0 := getI s.melt.chans n
  let m1 := if s.objN (0x3600 + n) 0x11 == 1 && chainBegins before c then clearCorrection m0 else m0
  let r := measureLaw v m1
  let c := pathEdges e (samplePath e c)
  let sp := samplePoint e v c r.melt.point
  let fl := factorLaw e v c r.melt
  let e := { e with gNext := fl.1.gNext }
  let parts := progParts e c
  let c := laserCommand e (dropDone ((s.now + 1) * oneP) 2048 c)
  let m2 := pushLit { fl.1 with gNow := m0.gNext, fvNow := m0.fv, fhNow := m0.fh } (sp.2.2 && !sp.1.open_ && v.enable) parts c.cmdNext
  let s := ((s.updChan n (fun _ => c)).updMelt n (fun _ => m2)).postAll (r.events ++ fl.2)
  let s := noteUnderrun s n
  if c.state == .idle then s
  else
    let x := exposureRecord v s.tickCount e.gated m0 r c.cmdNow
    { s with melt := { s.melt with queues := updI s.melt.queues (n / 8) (fun l => l ++ [MeltRec.exposure x]) } }

/-- P2 of every scan engine (R151). -/
def scanTick (err : Nat → Int) (s : State) : State :=
  let s := forI 32 s (scanFirst err)
  let s := scanMeet (scanClaims s)
  forI 32 s (scanSecond err)

/-- The scan engines at a tick boundary: set-points and laser commands of the new tick (R152, R153). -/
def scanBoundary (s : State) : State :=
  { s with scan := { s.scan with chans := s.scan.chans.map (fun c => { c with spNow := c.spNext, cmdNow := c.cmdNext }) } }

/-- The overrun of scan engine `k` in tick n (Table 2.4): the commands of both channels dark, their set-points held, the overrun
gate set, and the channels stopped (Table 6.5). DEDUCED: assumption 78. -/
def overrunScan (s : State) (k : Nat) : State :=
  forI 2 s (fun s i =>
    let n := 2 * k + i
    let s := stopChan (s.updGates n (fun g => { g with overrun := true })) n 6 false
    (s.updChan n (fun c => { c with cmdNext := { start := 0, events := [] }, spNext := holdPoint c.spNow })).updMelt n darkenNext)

/-- The lasers of a servo engine's channels after its overrun (Table 2.4): dark in the command of tick n, the overrun gate set. -/
def overrunGates (s : State) (j : Nat) : State :=
  forI 4 s (fun s i => ((s.updGates (4 * j + i) (fun g => { g with overrun := true })).updChan (4 * j + i) (fun c =>
    { c with cmdNext := { start := 0, events := [] } })).updMelt (4 * j + i) darkenNext)

/-- A settle timeout of channel n (R160): the stop of Table 6.5 when the condition has not been met in time. -/
def settleOut (e : ScanEnv) (c : Chan) : Chan × List Event :=
  match c.act with
  | .settle since run =>
    if since + e.settleTimeout ≤ e.now && decide (run < e.settleCount) then
      let r := stopChannel e c 3 false
      (r.1, chanEvent e.n 0x0602 .stopChannel [] :: r.2)
    else (c, [])
  | _ => (c, [])

/-- The end of a DWELL of channel n (R161). -/
def endDwell (e : ScanEnv) (c : Chan) : Chan × List Event :=
  match c.act with
  | .dwell _ => finishAct e c
  | _ => (c, [])

/-- The end of a throttle dwell of channel n (R185). -/
def endThrottle (e : ScanEnv) (c : Chan) : Chan × List Event :=
  match c.act with
  | .throttle _ => finishAct e c
  | _ => (c, [])

/-- Release of the feedback gates at a tick boundary (R216). -/
def releaseFeedback (s : State) : State :=
  forI 32 s (fun s n => if scannerClosed s.toBlocks n then s.updGates n (fun g => { g with feedback := false }) else s)

/-- SETTLE_TIMEOUT (R160). -/
def execSettleTimeout (n : Fin 32) (s : State) : Host.Outcome State Fault Refusal := .next (onChan s noErr n settleOut)

/-- DWELL_END (R161). -/
def execDwellEnd (n : Fin 32) (s : State) : Host.Outcome State Fault Refusal := .next (onChan s noErr n endDwell)

/-- THROTTLE_DWELL_END (R185). -/
def execThrottleDwellEnd (n : Fin 32) (s : State) : Host.Outcome State Fault Refusal := .next (onChan s noErr n endThrottle)

/-- SIGNAL_LOSS (R268). -/
def execSignalLoss (n : Fin 32) (s : State) : Host.Outcome State Fault Refusal :=
  let r := loseSignal (lawEnv s.toBlocks n) (getI s.melt.chans n)
  .next ((s.updMelt n (fun _ => r.1)).postAll r.2)

/-- CAMERA_TERM_STARVED (R268). -/
def execCameraTermStarved (n : Fin 32) (s : State) : Host.Outcome State Fault Refusal :=
  let r := starveCamera (lawEnv s.toBlocks n) (getI s.melt.chans n)
  .next ((s.updMelt n (fun _ => r.1)).postAll r.2)

/-- CORRECTION_AT_LIMIT (Table 10.2). -/
def execCorrectionAtLimit (n : Fin 32) (s : State) : Host.Outcome State Fault Refusal :=
  let r := limitCorrection (lawEnv s.toBlocks n) (getI s.melt.chans n)
  .next ((s.updMelt n (fun _ => r.1)).postAll r.2)

end Sys2Proof.Machine
end

