-- ==== Sys2Proof/Machine/MeltTick.lean ====
section
/-! DEFINITION. What CC3 makes of the exposure records: heat grids and quality maps, and what a job start, a layer boundary and
a layer completion do to melt-pool control (10_melt_pool_control R267, R271–R277). -/

namespace Sys2Proof.Machine

/-- Melt-pool control of the device changed by `f`. -/
def State.updMeltState (s : State) (f : MeltState → MeltState) : State := { s with melt := f s.melt }

/-- An event of CC3 that names a layer (Table 10.2). -/
def layerEvent (code : Nat) (sev : Severity) (layer : Nat) (more : Bytes) : Event :=
  mkEvent (.core 3) code sev .layerPackage 0 (leBytes 4 layer ++ more)

/-- The heat cell of a bed point under the geometry in force (R272). -/
def heatCell (s : Blocks) (x y : Int) : Option Nat :=
  cellOf (s.objI 0x3600 0x47) (s.objI 0x3600 0x48) (s.objN 0x3600 0x49) 256 256 x y

/-- Whether an emitting record falls outside a map that covers it (R274). -/
def outsideMap (m : MapAcc) (r : ExpRec) : Bool :=
  covers m r.tick && bit r.flags 0 && (cellOf m.x m.y m.q m.w m.h r.x r.y).isNone

/-- The energy of an emitting record in cell `k` (R272): it belongs to the layer in progress up to the next boundary, after its completion
too. -/
def addEnergy (s : Blocks) (x : MeltState) (k p : Nat) : MeltState :=
  if s.job.completeTick.isSome then
    { x with heatDue := x.heatDue.mapIdx (fun i d =>
      if i + 1 = x.heatDue.length && d.grid.isNone then { d with energy := alterKey k 0 (· + p) d.energy } else d) }
  else { x with energy := alterKey k 0 (· + p) x.energy }

/-- One exposure record read (R272, R274). DEDUCED: assumption 48. -/
def readExposure (s : Blocks) (x : MeltState) (r : ExpRec) : MeltState :=
  let x := if bit r.flags 0 then
      match heatCell s r.x r.y with
      | some k => addEnergy s x k r.meanPower
      | none => x
    else x
  { x with
    held := if x.maps.any (fun m => outsideMap m r) then { x.held with outside := inc32 x.held.outside } else x.held
    maps := x.maps.map (fun m => mapMeasured (mapExposure m r) r) }

/-- One entry of Q40–Q43 read by CC3. -/
def readMeltRec (s : Blocks) (x : MeltState) (e : MeltRec) : MeltState :=
  match e with
  | .exposure r => readExposure s x r
  | .feature _ ch set => { x with maps := x.maps.map (fun m => mapFeature m ch set) }

/-- P4: CC3 reads Q40 to Q43 whole (R271). -/
def readMelt (s : State) : State :=
  let b := s.toBlocks
  let x := forI 4 s.melt (fun x q => (getI x.queues q).foldl (readMeltRec b) x)
  s.updMeltState (fun _ => { x with queues := Vector.replicate 4 [] })

/-- The grid on which the next grid builds: the newest computed one, or the one in force. -/
def lastGrid (x : MeltState) : HeatGrid :=
  ((x.heatDue.filterMap (fun d => d.grid)).getLast?).getD x.heat

/-- The heat grid of the oldest completed layer without one computed (R272). -/
def computeHeat (x : MeltState) : MeltState :=
  let base := lastGrid x
  let k := x.heatDue.findIdx (fun d => d.grid.isNone)
  { x with heatDue := x.heatDue.mapIdx (fun i d =>
    if i = k then { d with grid := some (heatUpdate base d.decay d.ref d.layer d.energy) } else d) }

/-- Every heat grid computed whose 2,000 ticks are over, or of all completed layers (R272). DESIGN CHOICE: assumption 45. -/
def forceHeat (now : Nat) (all : Bool) (x : MeltState) : MeltState :=
  forI x.heatDue.length x (fun x i =>
    match x.heatDue[i]? with
    | some d => if d.grid.isNone && (all || decide (d.c + 2000 ≤ now)) then computeHeat x else x
    | none => x)

/-- C and lim of every channel cleared (R267). -/
def clearCorrections (x : MeltState) : MeltState := { x with chans := x.chans.map clearCorrection }

/-- The first post of each event per layer allowed again (Table 10.2). -/
def clearMeltPosts (x : MeltState) : MeltState :=
  { x with chans := x.chans.map (fun m =>
    { m with limitPosted := false, lostPosted := false, saturatedPosted := false, starvedPosted := false }) }

/-- Melt-pool control at a job start (R267, R272). -/
def meltJobStart (s : State) : State :=
  s.updMeltState (fun x => { clearCorrections x with
    heat := { cells := [], ref := none, layer := none }, heatDue := [], energy := [] })

/-- Heat at the boundary of a layer that follows a completed one (R272): what takes effect, and whether the last grid lags. -/
def heatBoundary (now : Nat) (x : MeltState) : MeltState × Bool :=
  let x := forceHeat now true x
  match x.heatDue.getLast? with
  | none => (x, false)
  | some d =>
    let lag := decide (now < d.c + 2001)
    let due := if lag then x.heatDue.dropLast else x.heatDue
    let grid := ((due.getLast?).bind (fun h => h.grid)).getD x.heat
    ({ x with heat := grid, heatDue := if lag then [d] else [], heatLags := if lag then inc32 x.heatLags else x.heatLags }, lag)

/-- The quality map that a layer opens (R274, R277). -/
def openMap (s : Blocks) (layer : Nat) (lag : Bool) : MapAcc :=
  { layer, job := s.job.job, boundary := s.tickCount, until_ := none, completion := none, closeAt := none
    x := s.objI 0x3600 0x41, y := s.objI 0x3600 0x42, q := s.objN 0x3600 0x43, w := s.objN 0x3600 0x44, h := s.objN 0x3600 0x45
    mask := s.objN 0x3600 0x46, heatLag := lag, stopped := false, outside := 0, cells := [], where_ := [], absent := [] }

/-- Melt-pool control at the boundary of layer `layer`, its values in force (R267, R272, R274). -/
def meltLayerBoundary (s : State) (layer : Nat) : State :=
  let r := heatBoundary s.now (clearMeltPosts (clearCorrections s.melt))
  let s := s.updMeltState (fun _ => { r.1 with
    energy := []
    maps := (r.1.maps.map (fun (m : MapAcc) => if m.until_.isNone then { m with until_ := some s.tickCount } else m)) ++
      (if s.objB 0x3600 0x40 then [openMap s.toBlocks layer r.2] else []) })
  if r.2 then s.post (layerEvent 0x0A05 .note layer []) else s

/-- The heat grid after a change of its geometry or reference in force (R273). DEDUCED: assumption 46. -/
def resetHeat (s : State) : State :=
  s.updMeltState (fun x => { x with heat := { cells := [], ref := none, layer := none }, heatDue := [], energy := [] })

/-- The open map of the layer in progress given its completion (R277); `stopped` for a stopped job. -/
def completeMap (s : State) (stopped : Bool) : State :=
  s.updMeltState (fun x => { x with maps := x.maps.map (fun (m : MapAcc) =>
    if m.until_.isNone && m.completion.isNone then
      { m with completion := some s.tickCount, closeAt := some (s.now + 9), stopped := stopped }
    else m) })

/-- Completion of layer `layer` in the present tick (R272, R277). DEDUCED: assumption 46. -/
def meltLayerComplete (s : State) (layer : Nat) : State :=
  (completeMap s false).updMeltState (fun x => { x with heatDue := x.heatDue ++
    [{ c := s.now, layer, decay := s.objN 0x3600 0x4A, ref := s.objN 0x3600 0x4B, energy := x.energy, grid := none }] })

/-- Whether CC3 has read the records of tick `t`: P4 of that tick is over. -/
def recordsRead (s : Blocks) (t : Nat) : Bool := decide (t < s.now) || (t == s.now && s.time.cutoff)

/-- Whether a map may be closed: the records up to tick c + 9 are read (R277). -/
def mapReady (s : Blocks) (m : MapAcc) : Bool :=
  match m.closeAt with
  | some t => recordsRead s t
  | none => false

/-- A map on its way to the run-length engine. -/
def startClosing (serial now : Nat) (m : MapAcc) : MapClosing :=
  { serial, since := now, map := m, todo := mapBlocks m, left := (mapBlocks m).length, planes := List.replicate 8 ([], 0) }

/-- The entries of a map that fit into `free` bytes of Q46, and the blocks that wait (R29, R413). -/
def feedTodo (serial : Nat) (m : MapAcc) : Nat → List (Nat × Nat) → List MapCells × List (Nat × Nat)
  | _, [] => ([], [])
  | free, (p, b) :: rest =>
    let cells := planeBlock m p b
    if 2 * cells.length ≤ free then
      let x := feedTodo serial m (free - 2 * cells.length) rest
      ({ serial, plane := p, cells } :: x.1, x.2)
    else ([], (p, b) :: rest)

/-- Bytes of some entries of Q46. -/
def cellBytes (l : List MapCells) : Nat := sumN (l.map (fun e => 2 * e.cells.length))

/-- The entries of closed maps, oldest first, that fit into `free` bytes of Q46. -/
def feedAll : Nat → List MapClosing → List MapCells × List MapClosing
  | _, [] => ([], [])
  | free, c :: l =>
    let x := feedTodo c.serial c.map free c.todo
    let c' := { c with todo := x.2 }
    if x.2.isEmpty then
      let y := feedAll (free - cellBytes x.1) l
      (x.1 ++ y.1, c' :: y.2)
    else (x.1, c' :: l)

/-- CC3 passes the cells of closed maps to Q46 as far as they fit (R277, R413); an entry that waits counts one stall (R29). -/
def feedMaps (s : State) : State :=
  let x := feedAll (524288 - cellBytes s.melt.q46) s.melt.closing
  noteStall (s.updMeltState (fun m => { m with q46 := m.q46 ++ x.1, closing := x.2 })) 46 (x.2.any (fun c => !c.todo.isEmpty)) (!x.1.isEmpty)

/-- A block that has come back put behind its plane (R276). -/
def placeBlock (l : List MapClosing) (e : MapBlock) : List MapClosing :=
  l.map (fun c =>
    if c.serial = e.serial then
      { c with left := c.left - 1, planes := c.planes.mapIdx (fun k x => if k = e.plane then (x.1 ++ e.data, x.2 + 1) else x) }
    else c)

/-- CC3 takes the blocks from Q47 (R277). -/
def takeBlocks (s : State) : State :=
  s.updMeltState (fun m => { m with closing := m.q47.foldl placeBlock m.closing, q47 := [] })

/-- Every map whose records are read closed (R277), with event 0x0A06 where records fell outside (R274). DESIGN CHOICE: assumption 45. -/
def closeMaps (s : State) : State :=
  let b := s.toBlocks
  let ready := s.melt.maps.filter (mapReady b)
  let s := s.updMeltState (fun x => { x with
    maps := x.maps.filter (fun m => !mapReady b m)
    closing := x.closing ++ ready.mapIdx (fun k m => startClosing (x.held.closed + k) b.now m)
    held := { x.held with closed := (x.held.closed + ready.length) % 2 ^ 32 } })
  feedMaps (s.postAll ((ready.filter (fun m => decide (m.outside ≠ 0))).map (fun m => layerEvent 0x0A06 .note m.layer (leBytes 4 m.outside))))

/-- The plane objects of a map whose blocks are all compressed (R275, R276). -/
def planeObjects (c : MapClosing) : List Bytes :=
  (List.range 8).map (fun p =>
    let x := nth c.planes p
    planeHeader c.map p (if bit c.map.mask p then x.2 else 0) ++ x.1)

/-- All eight plane objects replaced by those of the oldest closed map, once compressed (R277, R280). -/
def replacePlanes (s : State) : State :=
  match s.melt.closing with
  | c :: rest =>
    if c.left = 0 then
      s.updMeltState (fun x => { x with
        closing := rest
        held := { x.held with
          layer := c.map.layer, job := c.map.job, completion := c.map.completion.getD 0, planes := planeObjects c } })
    else s
  | [] => s

/-- The next heat grid computed, once every record of its layer is read: up to tick c + 9, as for its map (R272, R277). -/
def updateHeat (s : State) : State :=
  match s.melt.heatDue.find? (fun d => d.grid.isNone) with
  | some d => if recordsRead s.toBlocks (d.c + 9) then s.updMeltState computeHeat else s
  | none => s

/-- HEAT_GRID_UPDATE (R272). DESIGN CHOICE: assumption 45. -/
def execHeatGridUpdate (s : State) : Host.Outcome State Fault Refusal := .next (updateHeat s)

/-- QUALITY_MAP_CLOSE (R277). DESIGN CHOICE: assumption 45. -/
def execQualityMapClose (s : State) : Host.Outcome State Fault Refusal := .next (closeMaps s)

/-- MAP_PLANES_REPLACED (R277, R280). DESIGN CHOICE: assumption 45. -/
def execMapPlanesReplaced (s : State) : Host.Outcome State Fault Refusal := .next (replacePlanes (takeBlocks s))

end Sys2Proof.Machine
end

