-- ==== Sys2Proof/Machine/FensTick.lean ====
section
/-! DEFINITION. Mark ticks, observations, the solve of a layer and its update decision, and grid generations
(11_seam_registration R281–R293). -/

namespace Sys2Proof.Machine

/-- Registration changed by `f`. -/
def State.updReg (s : State) (f : FenState → FenState) : State := { s with reg := f s.reg }

/-- Status of fen z changed by `f`. -/
def State.updFen (s : State) (z : Nat) (f : FenStatus → FenStatus) : State :=
  s.updReg (fun x => { x with status := updI x.status z f })

/-- Correction state of scanner k changed by `f`. -/
def State.updGrid (s : State) (k : Nat) (f : GridStatus → GridStatus) : State :=
  s.updReg (fun x => { x with scanners := updI x.scanners k f })

/-- An event of CC3 about a fen and a layer (R293). -/
def fenEvent (code : Nat) (sev : Severity) (z layer : Nat) (more : Bytes) : Event :=
  mkEvent (.core 3) code sev .fen z (leBytes 4 layer ++ more)

/-- Settings of fen z as the solve of a layer uses them (Table 11.5), with the pair of the layer's ZONE. -/
def fenCfg (s : Blocks) (f : FenSection) : FenCfg :=
  let o := fun sub => s.objN (0x3700 + f.fen) sub
  let i := fun sub => s.objI (0x3700 + f.fen) sub
  { fen := f.fen, chanA := f.chanA, chanB := f.chanB, mode := o 0x00, xMin := i 0x01, xMax := i 0x02, yMin := i 0x03, yMax := i 0x04
    taper := o 0x05, nMin := o 0x07, spread := o 0x08, residual := o 0x09, outlier := o 0x0A, maxStep := o 0x0B, gain := o 0x0C }

/-- The MARK track that channel n begins in this P2 (R282). -/
def trackOf (s : Blocks) (n : Nat) : Option Track :=
  match (getI s.scan.chans n).active with
  | some r =>
    match r.body with
    | .mark false z num _ _ _ _ _ _ _ =>
      (fenPartner s n z).map (fun k => { fen := z, mark := num, observer := k, exposerB := decide (k < n), ordinal := 0 })
    | _ => none
  | none => none

/-- The mark tick of channel n when the coming tick is one (R282). -/
def markTick (before : Blocks) (s : State) (n : Nat) : State :=
  let begins := (getI s.scan.chans n).act == .markTrack && (getI before.scan.chans n).act != .markTrack
  let s := if begins then s.updReg (fun x => { x with tracks := updI x.tracks n (fun _ => trackOf s.toBlocks n) }) else s
  let m := getI s.melt.chans n
  let coming := (s.tickCount + 1) % 2 ^ 48
  if m.point.mark && (nth m.hist 0).lit && coming % 4 == 0 then
    match getI s.reg.tracks n with
    | none => s
    | some t =>
      s.updReg (fun x => { x with
        tracks := updI x.tracks n (fun _ => some { t with ordinal := t.ordinal + 1 })
        waiting := x.waiting ++ [{ fen := t.fen, mark := t.mark, frame := coming / 4, x := m.point.x, y := m.point.y
                                   ordinal := t.ordinal, exposerB := t.exposerB, exposer := n, observer := t.observer
                                   expSide := .waiting, obsSide := .waiting }] })
  else s

/-- P2: the mark ticks of every channel; `before` is the device before the scan engines ran. -/
def markTicks (before : Blocks) (s : State) : State := forI 32 s (markTick before)

/-- Mark ticks of the present tick whose fen has registration mode 0 in force are no observations (R282). -/
def dropUnregistered (s : State) : State :=
  s.updReg (fun x => { x with waiting := x.waiting.filter (fun t =>
    !(t.frame * 4 == s.tickCount && s.objN (0x3700 + t.fen) 0x00 == 0)) })

/-- What a side becomes when frame `f` has closed, or has been missed, on the context of channel n. -/
def fillSide (side : Side) (got : Side) : Side :=
  match side with
  | .waiting => got
  | x => x

/-- Frame `f` closed with features on a context whose channel is n (R282): `got` its feature set. -/
def fillMarks (s : State) (n f : Nat) (got : Side) : State :=
  s.updReg (fun x => { x with waiting := x.waiting.map (fun t =>
    if t.frame == f then
      { t with expSide := if t.exposer == n then fillSide t.expSide got else t.expSide
               obsSide := if t.observer == n then fillSide t.obsSide got else t.obsSide }
    else t) })

/-- An FRM object of context i with the value that its next Frame Start gives it (R74, R242). -/
def frmSoon (s : Blocks) (i sub : Nat) : Nat :=
  let due := s.dict.pending.filter (fun w => w.index == 0x3400 + i && w.sub == sub && w.apply == .frm && decide (w.due ≤ s.now))
  ((due.getLast?).map (fun w => (valI w.val).toNat)).getD (s.objN (0x3400 + i) sub)

/-- Whether frame `f` may still close with features on context i for channel n: it is in progress there, or it has not begun and is
neither missed nor past (R243, R244, R282). -/
def mayClose (s : Blocks) (i n f : Nat) : Bool :=
  let x := getI s.cams.ctxs i
  let st := getI (getI s.cams.ports (s.objN (0x3400 + i) 0x01)).streams (s.objN (0x3400 + i) 0x02)
  let open_ := x.frames.any (fun r => r.index == f && r.cfg.channel == n && bit r.cfg.stats 2)
  let ahead := x.expected.contains f || (decide (s.frameIndex ≤ f) && st.lastIndex != some f)
  s.objB (0x3400 + i) 0x00 && (open_ || (ahead && frmSoon s i 0x0A == n && bit (frmSoon s i 0x11) 2))

/-- Whether a side of the mark tick of frame `f` on channel n is known: filled, or invalid because no context can give it (R282). -/
def sideKnown (s : Blocks) (n f : Nat) (x : Side) : Bool :=
  x != .waiting || !(List.range 128).any (fun i => mayClose s i n f)

/-- Whether both sides of a mark tick are known. -/
def markKnown (s : Blocks) (t : MarkTick) : Bool := sideKnown s t.exposer t.frame t.expSide && sideKnown s t.observer t.frame t.obsSide

/-- The observation records of some mark ticks (Table 11.1). -/
def observe (s : Blocks) (t : MarkTick) : Observation :=
  observationOf (s.objN (0x3700 + t.fen) 0x06) (s.objI (0x3600 + t.exposer) 0x0D) (s.objN (0x3600 + t.exposer) 0x0E)
    (s.objN (0x3600 + t.observer) 0x0E) t

/-- The observations posted to Q45 for the mark ticks that satisfy `f` and have both sides (R282). -/
def postObservations (s : State) (f : MarkTick → Bool) : State :=
  let b := s.toBlocks
  let out := (s.reg.waiting.filter (fun t => f t && markKnown b t)).map (observe b)
  s.updReg (fun x => { x with waiting := x.waiting.filter (fun t => !(f t && markKnown b t)), q45 := x.q45 ++ out })

/-- P4: CC3 reads Q45 (R285). -/
def readObservations (s : State) : State :=
  let s := postObservations s (fun _ => true)
  s.updReg (fun x => { x with read := x.read ++ x.q45, q45 := [] })

/-- The registration of layer `layer`, complete in the present tick (R286); `boundary` is its boundary by tick count.
DEDUCED: assumption 46. -/
def fenLayerComplete (s : State) (layer boundary : Nat) : State :=
  let b := s.toBlocks
  s.updReg (fun x => { x with layers := x.layers ++ [{
    c := s.now, count := s.tickCount, boundary, layer, fens := (layerFens b).map (fenCfg b)
    mats := (List.range 32).map (fun k =>
      (b.objI (0x3800 + k) 0x04, b.objI (0x3800 + k) 0x05, b.objI (0x3800 + k) 0x06, b.objI (0x3800 + k) 0x07))
    gens := x.scanners.toList.map (fun g => g.generation), solved := [], decided := false, refused := [] }] })

/-- Whether frame `f` belongs to a completed layer (R286). -/
def frameIn (l : LayerSolve) (f : Nat) : Bool := decide (l.boundary ≤ 4 * f) && decide (4 * f ≤ l.count)

/-- A fen of a stopped layer: no solve and no update follow (R290). -/
def fenJobStopped (s : State) : State :=
  let s := (layerFens s.toBlocks).foldl (fun s f => s.updFen f.fen (fun x => { x with update := 7 })) s
  s.updReg (fun x =>
    let layers := x.layers.filter (fun l => some l.layer != s.job.layer)
    { x with layers, waiting := x.waiting.filter (fun t => layers.any (fun l => frameIn l t.frame)), tracks := Vector.replicate 32 none })

/-- Registration at a job start: the first post of event 0x0B02 is allowed again (Table 11.4). -/
def fenJobStart (s : State) : State :=
  s.updReg (fun x => { x with status := x.status.map (fun f => { f with fewPosted := false }) })

/-- The order of the solve: increasing frame index, then increasing mark number (R286). -/
def obsBefore (a b : Observation) : Bool := decide (a.frame < b.frame) || (a.frame == b.frame && decide (a.mark ≤ b.mark))

/-- An observation inserted in that order. -/
def insertObs (o : Observation) : List Observation → List Observation
  | [] => [o]
  | x :: l => if obsBefore x o then x :: insertObs o l else o :: x :: l

/-- The observations of fen z in a completed layer, in order, those that still stand in Q45 among them. -/
def layerObs (x : FenState) (l : LayerSolve) (z : Nat) : List Observation :=
  ((x.read ++ x.q45).filter (fun o => o.fen == z && frameIn l o.frame)).foldl (fun acc o => insertObs o acc) []

/-- Fen z of the oldest layer not yet decided solved, if it holds an observation and is not solved (R286). -/
def solveOne (x : FenState) (z : Nat) : FenState :=
  let k := x.layers.findIdx (fun l => !l.decided)
  { x with layers := x.layers.mapIdx (fun i l =>
    if i = k && !l.solved.any (fun r => r.fen == z) then
      match l.fens.find? (fun c => c.fen == z), layerObs x l z with
      | some c, o :: os => { l with solved := l.solved ++ [solveFen c l.mats (o :: os)] }
      | _, _ => l
    else l) }

/-- Whether a mark tick of fen z still waits for a side. -/
def fenWaits (x : FenState) (z : Nat) : Bool := x.waiting.any (fun t => t.fen == z)

/-- The results of one solve written to the status objects (R287, Table 11.5). -/
def writeSolved (l : LayerSolve) (c : FenCfg) (r : Solved) (f : FenStatus) : FenStatus :=
  let v := fun k => r.values.getD k (f64I 0)
  let ppm := fun k => toF32 (f64Mul (v k) (f64I 1000000))
  let counts := fun k => satS 32 (f64Round (f64Mul (v k) (f64I 8)))
  let f := { f with layer := l.layer, chanA := c.chanA, chanB := c.chanB, used := r.used, rejected := r.rejected, status := r.status
                    solves := inc32 f.solves }
  if r.status = 3 then f
  else { f with tx := toF32 (v 0), ty := toF32 (v 1), rotation := ppm 3, scale := ppm 2, cx := counts 4, cy := counts 5
                rms := toF32 (v 6), rmax := toF32 (v 7) }

/-- Grid origin and spacing of scanner k in force. -/
def gridFrame (s : Blocks) (k : Nat) : Int × Int × Nat := (s.objI (0x3800 + k) 0, s.objI (0x3800 + k) 1, s.objN (0x3800 + k) 2)

/-- Whether the largest contribution of a fen at any node of its scanners exceeds the maximum step (R288). -/
def stepOver (s : Blocks) (c : FenCfg) (r : Solved) : Bool :=
  [c.chanA, c.chanB].any (fun k =>
    match correctsScanner c r k with
    | some m2 => let g := gridFrame s k; f64Lt (ofF32 c.maxStep) (largestStep c r m2 g.1 g.2.1 g.2.2)
    | none => false)

/-- The fens of a solve that correct scanner k, with their mode factors (R288, Table 11.3). -/
def correctors (s : Blocks) (l : LayerSolve) (k : Nat) : List (FenCfg × Solved × Int) :=
  l.solved.filterMap (fun r =>
    match l.fens.find? (fun c => c.fen == r.fen) with
    | some c => if stepOver s c r then none else (correctsScanner c r k).map (fun m2 => (c, r, m2))
    | none => none)

/-- The results and events of one solved fen (R287, R293). DEDUCED: assumption 47. -/
def decideFen (l : LayerSolve) (s : State) (c : FenCfg) : State :=
  match l.solved.find? (fun r => r.fen == c.fen) with
  | none => if 2 ≤ c.mode then s.updFen c.fen (fun f => { f with update := 6 }) else s
  | some r =>
    let few := r.status == 3 && !(getI s.reg.status c.fen).fewPosted
    let beyond := 2 ≤ c.mode && stepOver s.toBlocks c r
    let upd := if c.mode ≤ 1 then 0 else if r.status == 3 || r.status == 4 then 6 else if beyond then 4 else 1
    let s := s.updFen c.fen (fun f => { writeSolved l c r f with update := upd, fewPosted := f.fewPosted || few })
    let s := s.post (fenEvent 0x0B01 .note c.fen l.layer (leBytes 1 r.status))
    let s := if few then s.post (fenEvent 0x0B02 .warn c.fen l.layer []) else s
    let s := if r.status == 4 then s.post (fenEvent 0x0B03 .warn c.fen l.layer []) else s
    if beyond then s.post (fenEvent 0x0B04 .warn c.fen l.layer []) else s

/-- Why the grid of scanner k is not staged for a layer, as an update status (R290). DEDUCED: assumption 47. -/
def refusal (s : Blocks) (l : LayerSolve) (k : Nat) : Option Nat :=
  if (getI s.reg.scanners k).generation != l.gens.getD k 0 then some 2
  else if s.dict.pending.any (fun w => !w.staged && w.index == 0x3800 + k && decide (w.sub ≤ 3)) then some 3
  else if !s.objB (0x3800 + k) 0x08 then some 5
  else none

/-- A scanner found not to be updated: its count, the fens' update status and event 0x0B05 (R290, R293). -/
def refuseGrid (l : LayerSolve) (s : State) (k status : Nat) : State :=
  let fens := (correctors s.toBlocks l k).map (fun c => c.1.fen)
  let s := s.updGrid k (fun g => { g with unstaged := inc32 g.unstaged })
  let s := fens.foldl (fun s z => s.updFen z (fun f => { f with update := status })) s
  s.postAll (fens.map (fun z => fenEvent 0x0B05 .note z l.layer (leBytes 1 k ++ leBytes 1 status)))

/-- The conditions of R290 looked at for every scanner that a layer's solves correct and that is not yet refused. DEDUCED: assumption 47. -/
def refuseGrids (s : State) (l : LayerSolve) : State × LayerSolve :=
  forI 32 (s, l) (fun (x : State × LayerSolve) k =>
    if (correctors x.1.toBlocks l k).isEmpty || x.2.refused.any (fun r => r.1 == k) then x
    else
      match refusal x.1.toBlocks l k with
      | some st => (refuseGrid l x.1 k st, { x.2 with refused := x.2.refused ++ [(k, st)] })
      | none => x)

/-- The oldest completed layer changed. -/
def State.updFirstLayer (s : State) (f : LayerSolve → LayerSolve) : State :=
  s.updReg (fun x => { x with layers := match x.layers with | l :: r => f l :: r | [] => [] })

/-- P3 of tick c + 1,000 (R287, R293): every fen with an observation is solved, the results are written, the events posted.
DESIGN CHOICE: assumption 45. -/
def decideLayer (s : State) : State :=
  match s.reg.layers with
  | [] => s
  | l :: _ =>
    if l.c + 1000 ≤ s.now && !l.decided then
      let s := s.updReg (fun x => l.fens.foldl (fun x c => solveOne x c.fen) x)
      match s.reg.layers with
      | [] => s
      | l :: _ =>
        let s := l.fens.foldl (decideFen l) s
        let r := refuseGrids s l
        (r.1.updFirstLayer (fun _ => { r.2 with decided := true })).updReg (fun x => { x with
          read := x.read.filter (fun o => !frameIn l o.frame), q45 := x.q45.filter (fun o => !frameIn l o.frame), waiting := x.waiting.filter (fun t => !frameIn l t.frame) })
    else s

/-- The new grid of scanner k staged (R289, R290). DEDUCED: assumption 47. -/
def stageGrid (l : LayerSolve) (s : State) (k : Nat) : State :=
  let g := gridFrame s.toBlocks k
  let r := newGrid g.1 g.2.1 g.2.2 (gridNode (s.objT (0x3800 + k) 3)) (correctors s.toBlocks l k)
  let w := { newPending s.toBlocks (0x3800 + k) 3 (.oct r.1) true with due := s.now + 1 }
  (s.updDict (fun d => { d with pending := putPending s.now d.pending w })).updGrid k (fun x => { x with staged := some (l.layer, toF32 r.2) })

/-- The commit at clock 8,800 of tick c + 1,000 (R290). DESIGN CHOICE: assumption 45. -/
def commitGrids (s : State) : State :=
  match s.reg.layers with
  | [] => s
  | l :: _ =>
    if l.decided then
      let r := refuseGrids s l
      let s := forI 32 r.1 (fun s k =>
        if (correctors s.toBlocks l k).isEmpty || r.2.refused.any (fun x => x.1 == k) then s else stageGrid l s k)
      s.updReg (fun x => { x with layers := x.layers.drop 1 })
    else s

/-- Grid generations at a boundary, given the dictionary before it (R292), and what a device grid in force reports (Table 11.6);
`device` says whether the grid of scanner k that came into force is the device's own. -/
def gridsInForce (before : DictState) (device : Nat → Bool) (s : State) : State :=
  forI 32 s (fun s k =>
    let changed := [0, 1, 2, 3].any (fun sub => objVal before (0x3800 + k) sub != objVal s.dict (0x3800 + k) sub)
    let s := if changed then s.updGrid k (fun g => { g with generation := (g.generation + 1) % 2 ^ 32 }) else s
    if device k then
      s.updGrid k (fun g => match g.staged with
        | some (layer, shift) => { g with applied := inc32 g.applied, layer, shift, staged := none }
        | none => g)
    else s)

/-- OBSERVATION_RECORD (R282): the records of channel n as exposer whose sides are known. -/
def execObservationRecord (n : Fin 32) (s : State) : Host.Outcome State Fault Refusal :=
  .next (postObservations s (fun t => t.exposer == n.val))

/-- FEN_SOLVE (R286). DESIGN CHOICE: assumption 45. -/
def execFenSolve (z : Fin 256) (s : State) : Host.Outcome State Fault Refusal :=
  .next (if fenWaits s.reg z then s else s.updReg (fun x => solveOne x z))

/-- GRID_UPDATE_COMMIT (R290): clock 8,800. -/
def execGridUpdateCommit (s : State) : Host.Outcome State Fault Refusal := .next (match s.reg.layers with
    | l :: _ => if l.decided then commitGrids (s.atClock 8800) else s
    | [] => s)

end Sys2Proof.Machine
end

