-- ==== Sys2Proof/Machine/Image.lean ====
section
/-! DEFINITION. The image pipeline on one frame: unpacking, pixel corrections, statistics, features and the feature record
(09_camera_pipeline R234, R250–R254, R256). -/

namespace Sys2Proof.Machine

/-- Raw codes of a RAW8, RAW10 or RAW12 payload (data types 0x2A, 0x2B, 0x2C; packing of CSI-2, PRESUMED, assumption 20). -/
def unpackRaw8 (b : Bytes) : List Nat := b.map (fun x => x.toNat)

/-- Groups of 5 bytes: four high parts, then the low bits of the four. PRESUMED: assumption 20. -/
def unpackRaw10 : Bytes → List Nat
  | a :: b :: c :: d :: l :: rest =>
    let low := fun k => (l.toNat / 4 ^ k) % 4
    (4 * a.toNat + low 0) :: (4 * b.toNat + low 1) :: (4 * c.toNat + low 2) :: (4 * d.toNat + low 3) :: unpackRaw10 rest
  | _ => []

/-- Groups of 3 bytes: two high parts, then the low nibbles. PRESUMED: assumption 20. -/
def unpackRaw12 : Bytes → List Nat
  | a :: b :: l :: rest => (16 * a.toNat + l.toNat % 16) :: (16 * b.toNat + l.toNat / 16) :: unpackRaw12 rest
  | _ => []

/-- Bits per pixel of a data type (Table 9.2); 0 for the others. -/
def dataTypeBits (t : Nat) : Nat := if t = 0x2A then 8 else if t = 0x2B then 10 else if t = 0x2C then 12 else 0

/-- The raw codes of a payload by bits per pixel. -/
def unpackRaw (depth : Nat) (b : Bytes) : List Nat :=
  if depth = 8 then unpackRaw8 b else if depth = 10 then unpackRaw10 b else unpackRaw12 b

/-- A line of exactly `n` codes: truncated, or filled with 0 (R245). -/
def fitLine (n : Nat) (l : List Nat) : List Nat := (l ++ List.replicate (n - l.length) 0).take n

/-- Black level: the first two steps of R250. -/
def blackLevel (c : FrameCfg) (v : Nat) : Nat := v * 2 ^ (12 - c.depth) - c.black

/-- Whether the pixel is on the defect list (R251). -/
def listedAux (x y : Nat) : Nat → Bytes → Bool
  | 0, _ => false
  | k + 1, b => (fieldU b 0 2 == x && fieldU b 2 2 == y) || listedAux x y k (b.drop 4)

/-- Whether column `x` of line `y` is listed. -/
def listed (c : FrameCfg) (x y : Nat) : Bool := listedAux x y (c.defects.length / 4) c.defects

/-- The nearest neighbour to the left, at most four steps of `d` away (R251). -/
def leftOf (c : FrameCfg) (line : List Nat) (d y : Nat) : Nat → Nat → Option Nat
  | 0, _ => none
  | k + 1, x => if x < d then none else if listed c (x - d) y then leftOf c line d y k (x - d) else some (nth line (x - d))

/-- The nearest neighbour to the right. -/
def rightOf (c : FrameCfg) (line : List Nat) (d y : Nat) : Nat → Nat → Option Nat
  | 0, _ => none
  | k + 1, x =>
    if c.width ≤ x + d then none else if listed c (x + d) y then rightOf c line d y k (x + d) else some (nth line (x + d))

/-- The replacement of a listed pixel (R251), of a line after black level. -/
def replacement (c : FrameCfg) (line : List Nat) (x y : Nat) : Nat :=
  match leftOf c line c.defect y 4 x, rightOf c line c.defect y 4 x with
  | some l, some r => (l + r + 1) / 2
  | some l, none => l
  | none, some r => r
  | none, none => 0

/-- The shading gain at a window pixel, from the four nodes around it (R250). `gx` and `gy` are rounded to 2^-16 (R11). -/
def shadeGain (c : FrameCfg) (xw yw : Nat) : Nat :=
  let gx := (rndDiv ((xw * 16 * 65536 : Nat) : Int) c.w).toNat
  let gy := (rndDiv ((yw * 16 * 65536 : Nat) : Int) c.h).toNat
  let i := Nat.min (gx / 65536) 15
  let j := Nat.min (gy / 65536) 15
  let u := gx - 65536 * i
  let w := gy - 65536 * j
  let s := fun (j i : Nat) => fieldU c.grid (2 * (17 * j + i)) 2
  (rndDiv (((65536 - u) * (65536 - w) * s j i + u * (65536 - w) * s j (i + 1)
    + (65536 - u) * w * s (j + 1) i + u * w * s (j + 1) (i + 1) : Nat) : Int) (2 ^ 32)).toNat

/-- A corrected pixel at frame column `x`, line `y`, of a line after black level (R250). -/
def correctPixel (c : FrameCfg) (line : List Nat) (x y : Nat) : Nat :=
  let p := if c.defect ≠ 0 && listed c x y then replacement c line x y else nth line x
  if c.shading then Nat.min 4095 (rndDiv ((p * shadeGain c (x - c.x0) (y - c.y0) : Nat) : Int) 4096).toNat else p

/-- The corrected window part of line `y` (R241, R250); none when the line lies outside the window. -/
def correctLine (c : FrameCfg) (y : Nat) (codes : List Nat) : List Nat :=
  let line := codes.map (blackLevel c)
  (List.range c.w).map (fun k => correctPixel c line (c.x0 + k) y)

/-- Whether frame line `y` lies in the window. -/
def inWindow (c : FrameCfg) (y : Nat) : Bool := decide (c.y0 ≤ y) && decide (y < c.y0 + c.h)

/-- Whether a window pixel lies in the gate. -/
def inGate (c : FrameCfg) (x y : Nat) : Bool :=
  decide (c.gx ≤ x) && decide (x < c.gx + c.gw) && decide (c.gy ≤ y) && decide (y < c.gy + c.gh)

/-- Whether a gate pixel of frame line `y` carries the largest raw code (Table 9.5 bit 6). -/
def gateSaturated (c : FrameCfg) (y : Nat) (codes : List Nat) : Bool :=
  decide (c.gy ≤ y - c.y0) && decide (y - c.y0 < c.gy + c.gh)
    && ((codes.drop (c.x0 + c.gx)).take c.gw).any (fun v => v == 2 ^ c.depth - 1)

/-- One line of a frame processed: it is corrected and kept when it lies in the window. -/
def addLine (f : FrameAcc) (y : Nat) (codes : List Nat) : FrameAcc :=
  if inWindow f.cfg y && decide (y < f.cfg.height) then
    { f with
        lines := f.lines ++ [correctLine f.cfg y codes]
        saturated := f.saturated || (bit f.cfg.stats 2 && gateSaturated f.cfg y codes) }
  else f

/-- Corrected window pixels with their window coordinates, line by line. -/
def pixelsOf (f : FrameAcc) : List (Nat × Nat × Nat) :=
  (f.lines.mapIdx (fun y l => l.mapIdx (fun x p => (x, y, p)))).flatten

/-- The histogram of R252. -/
def histogramOf (f : FrameAcc) : List Nat :=
  let ps := f.lines.flatten
  (List.range 256).map (fun b => (ps.filter (fun p => p / 16 == b)).length)

/-- The zone averages of R252. -/
def zonesOf (f : FrameAcc) : List Nat :=
  let c := f.cfg
  (List.range 64).map (fun z =>
    let zx := z % 8
    let zy := z / 8
    let rows := (f.lines.drop (zy * c.h / 8)).take (c.h / 8)
    let total := sumN (rows.map (fun r => sumN ((r.drop (zx * c.w / 8)).take (c.w / 8))))
    satU 16 (rndDiv ((16 * total : Nat) : Int) (c.w * c.h / 64)).toNat)

/-- `n / d` of two exact integers of which `n` is 65,536 times a square root of `r`: rounded to nearest, ties away from zero
(R253, R11). -/
def rootRatio (r d : Nat) : Nat :=
  let q := isqrt (2 ^ 34 * r / (d * d))
  (q + 1) / 2

/-- The features of a frame over its gate (R253, Table 9.7). `ux` and `uy` stand for the centroid that R253 does not state:
pixels reach the threshold and none exceeds it, so that S0 is 0 (DESIGN CHOICE, assumption 2). -/
def featuresOf (ux uy : Int) (f : FrameAcc) : FeatureSet :=
  let c := f.cfg
  let ps := pixelsOf f
  let gate := ps.filter (fun x => inGate c x.1 x.2.1)
  let hot := (gate.filter (fun x => decide (c.threshold ≤ x.2.2))).map (fun x => (x.1, x.2.1, x.2.2 - c.threshold))
  let sum := fun (g : Nat × Nat × Nat → Nat) => sumN (hot.map g)
  let s0 := sum (fun x => x.2.2)
  let sx := sum (fun x => x.2.2 * x.1)
  let sy := sum (fun x => x.2.2 * x.2.1)
  let sxx := sum (fun x => x.2.2 * x.1 * x.1)
  let syy := sum (fun x => x.2.2 * x.2.1 * x.2.1)
  let sxy := sum (fun x => x.2.2 * x.1 * x.2.1)
  let mxx : Int := (s0 * sxx : Nat) - (sx * sx : Nat)
  let myy : Int := (s0 * syy : Nat) - (sy * sy : Nat)
  let mxy : Int := (s0 * sxy : Nat) - (sx * sy : Nat)
  let cen := fun (s : Nat) (o u : Int) => if s0 = 0 then satS 16 u else satS 16 (rndDiv (64 * s + 32 * s0 - o * s0) s0)
  let best := gate.foldl (fun (b : Nat × Nat × Nat × Bool) x => if b.2.2.2 && decide (x.2.2 ≤ b.2.2.1) then b else (x.1, x.2.1, x.2.2, true))
    (0, 0, 0, false)
  let e := if mxx + myy = 0 then 0 else satU 16 (rootRatio ((mxx - myy) * (mxx - myy) + 4 * mxy * mxy).toNat (mxx + myy).natAbs)
  { frame := f.index
    flags := 0
    area := satU 16 hot.length
    peak := best.2.2.1
    intensity := satU 32 s0
    cx := if hot.isEmpty then 0 else cen sx c.ox ux
    cy := if hot.isEmpty then 0 else cen sy c.oy uy
    elongation := if hot.isEmpty then 0 else e
    outside := satU 16 ((ps.filter (fun x => !inGate c x.1 x.2.1 && decide (c.threshold ≤ x.2.2))).length)
    peakX := best.1
    peakY := best.2.1 }

/-- Frame flags of Table 9.5. -/
def flagTRUNCATED : Nat := 1
def flagOVERFLOW : Nat := 2
def flagLONG : Nat := 3
def flagBAD : Nat := 4
def flagLATE : Nat := 5

/-- Whether statistics and features of a frame with these flags are valid (R246). -/
def frameValid (flags : Nat) : Bool := !bit flags 1 && !bit flags 2 && !bit flags 4

/-- The feature record (Table 9.7). -/
def featureRecord (i : Nat) (x : FeatureSet) : Bytes :=
  leBytes 1 1 ++ leBytes 1 i ++ leBytes 2 x.flags ++ leBytes 2 x.area ++ leBytes 2 (x.peak % 4096) ++ leBytes 8 (x.frame % 2 ^ 46)
    ++ leBytes 4 x.intensity ++ leBytesI 2 x.cx ++ leBytesI 2 x.cy ++ leBytes 2 x.elongation ++ leBytes 2 x.outside
    ++ leBytes 1 x.peakX ++ leBytes 1 x.peakY ++ leBytes 2 0

/-- One output line of a decimated image: `d` window lines reduced to `W / d` pixels (R256). -/
def imageLine (d : Nat) (rows : List (List Nat)) : List Nat :=
  match rows with
  | [] => []
  | r :: _ => (List.range (r.length / d)).map (fun k =>
      (rndDiv ((sumN (rows.map (fun l => sumN ((l.drop (d * k)).take d))) : Nat) : Int) (d * d)).toNat)

/-- The image of a frame (R256, Table 9.10 subs 0x3F and 0x41). -/
def layerImage (f : FrameAcc) : LayerImage :=
  let d := f.cfg.decimation
  let lines := (List.range (f.cfg.h / d)).map (fun k => imageLine d ((f.lines.drop (d * k)).take d))
  let enc := fun (p : Nat) => if f.cfg.outDepth = 8 then leBytes 1 (p / 16) else leBytes 2 p
  { index := f.index
    geometry := f.cfg.w / d + 65536 * (f.cfg.h / d) + (if f.cfg.outDepth = 8 then 0 else 2 ^ 30)
    data := (lines.flatten.map enc).flatten }

end Sys2Proof.Machine
end

