-- ==== Sys2Proof/Machine/Cameras.lean ====
section
/-! DEFINITION. Camera ports, frames, the image pipeline and delivery points (09_camera_pipeline R232–R257). -/

namespace Sys2Proof.Machine

/-- Camera port c changed by `f`. -/
def State.updPortC (s : State) (c : Nat) (f : CamPort → CamPort) : State :=
  { s with cams := { s.cams with ports := updI s.cams.ports c f } }

/-- Image context i changed by `f`. -/
def State.updCtx (s : State) (i : Nat) (f : ImageCtx → ImageCtx) : State :=
  { s with cams := { s.cams with ctxs := updI s.cams.ctxs i f } }

/-- Stream of port c on virtual channel v changed by `f`. -/
def State.updStream (s : State) (c v : Nat) (f : CamStream → CamStream) : State :=
  s.updPortC c (fun p => { p with streams := updI p.streams v f })

/-- An object of image context i. -/
def ctxN (s : Blocks) (i sub : Nat) : Nat := s.objN (0x3400 + i) sub

/-- The contexts bound to a stream (R240). -/
def boundCtxs (s : Blocks) (c v : Nat) : List Nat :=
  (List.range 128).filter (fun i => ctxN s i 0x01 == c && ctxN s i 0x02 == v)

/-- The enabled contexts of a stream. -/
def streamCtxs (s : Blocks) (c v : Nat) : List Nat := (boundCtxs s c v).filter (fun i => s.objB (0x3400 + i) 0x00)

/-- Whether an event of the pipeline may be posted again (R257). -/
def camDue (s : Blocks) (key : Nat) : Bool :=
  match lookKey key s.cams.posted with
  | none => true
  | some t => if s.jobRuns then decide (t < s.job.boundaryTick) else decide (t + 100000 ≤ s.now)

/-- An event of the pipeline with the limit of R257. DEDUCED: assumption 83. -/
def camPost (s : State) (code : Nat) (sev : Severity) (kind : SourceKind) (inst frame : Nat) : State :=
  let key := code * 256 + inst
  if camDue s.toBlocks key then
    { s with cams := { s.cams with posted := putKey key s.now s.cams.posted } }.post
      (mkEvent (.block 0) code sev kind inst (leBytes 8 frame))
  else s

/-- The settings with which a frame of context i runs (R242). -/
def frameCfg (s : Blocks) (i : Nat) : FrameCfg :=
  let o := ctxN s i
  { depth := dataTypeBits (o 0x03), width := o 0x04, height := o 0x05, x0 := o 0x06, y0 := o 0x07, w := o 0x08, h := o 0x09
    channel := o 0x0A, black := o 0x0C, defect := o 0x0D, defects := s.objT (0x3400 + i) 0x0E, shading := o 0x0F != 0
    grid := s.objT (0x3400 + i) 0x10, stats := o 0x11, threshold := o 0x12, gx := o 0x13, gy := o 0x14, gw := o 0x15, gh := o 0x16
    ox := (o 0x17 : Int), oy := (o 0x18 : Int), outMode := o 0x1A, decimation := o 0x1B, outDepth := o 0x1C }

/-- The shadowed values of context i whose moment has come, in force at its Frame Start (R74, R242). -/
def frameValues (s : State) (i : Nat) : State :=
  let due := s.dict.pending.filter (fun w => w.index == 0x3400 + i && w.apply == .frm && decide (w.due ≤ s.now))
  s.updDict (fun d => due.foldl (fun d w => setVal d w.index w.sub w.val)
    { d with pending := d.pending.filter (fun w => !(w.index == 0x3400 + i && w.apply == .frm && decide (w.due ≤ s.now))) })

/-- Whether the moment `rise`, in 1/1024 tick since start, lies before the present clock. -/
def hasRisen (s : Blocks) (rise : Nat) : Bool := decide (rise * 10000 < (s.now * 10000 + s.time.clock) * 1024)

/-- The frame index that a Frame Start takes, whether it is untriggered, and the tick from which its timeout runs (R243, R245). -/
def frameIndexOf (s : Blocks) (c : Nat) : Nat × Bool × Nat :=
  let p := getI s.cams.ports c
  let risen := fun (x : Option (Nat × Nat × Nat)) =>
    match x with
    | some (_, rise, _) => hasRisen s rise
    | none => false
  let of := fun (x : Option (Nat × Nat × Nat)) =>
    match x with
    | some (f, _, _) => (f, false, s.now - (2 ^ 48 + s.tickCount - 4 * f) % 2 ^ 48)
    | none => (s.frameIndex, true, s.now)
  if risen p.pulse then of p.pulse else if risen p.earlier then of p.earlier else (s.frameIndex, true, s.now)

/-- The feature set of a closed frame with its flags (R246, R253). -/
def closedSet (s : State) (f : FrameAcc) (flags : Nat) : FeatureSet :=
  { featuresOf (Config.freeInt s.freeCtr) (Config.freeInt (s.freeCtr + 1)) f with flags := flags }

/-- Flags of a frame at its close (Table 9.5). -/
def closedFlags (f : FrameAcc) (late : Bool) : Nat :=
  let feat := bit f.cfg.stats 2
  let empty := feat && (featuresOf 0 0 f).area == 0
  f.flags + b2n (frameValid f.flags) + 32 * b2n (feat && late) + 64 * b2n (feat && f.saturated) + 128 * b2n empty

/-- The counts of a closed frame (Table 9.10 subs 0x30–0x3A). DEDUCED: assumption 42. -/
def countFrameClosed (x : ImageCtx) (f : FrameAcc) (flags : Nat) : ImageCtx :=
  let add := fun (b : Bool) (n : Nat) => if b then inc32 n else n
  { x with
    received := inc32 x.received, valid := add (bit flags 0) x.valid, truncated := add (bit flags flagTRUNCATED) x.truncated
    overflowed := add (bit flags flagOVERFLOW) x.overflowed, long := add (bit flags flagLONG) x.long
    bad := add (bit flags flagBAD) x.bad, lastIndex := f.index, lastFlags := flags }

/-- The statistics of a valid frame (R252). -/
def takeStats (x : ImageCtx) (f : FrameAcc) : ImageCtx :=
  { x with
    histogram := if bit f.cfg.stats 0 then histogramOf f else x.histogram
    zones := if bit f.cfg.stats 1 then zonesOf f else x.zones
    statsIndex := if bit f.cfg.stats 0 || bit f.cfg.stats 1 then f.index else x.statsIndex }

/-- The image output of a valid frame (R256). -/
def takeImage (x : ImageCtx) (f : FrameAcc) : ImageCtx :=
  if f.cfg.outMode = 1 || (f.cfg.outMode = 2 && x.armed) then
    { x with images := x.images ++ [layerImage f], armed := if f.cfg.outMode = 2 then false else x.armed }
  else x

/-- The feature set of a closed frame: its record, and the set ready for its delivery point unless that has passed (R254, R255). -/
def takeFeatures (s : State) (i : Nat) (f : FrameAcc) (flags : Nat) : State :=
  if !bit f.cfg.stats 2 then s
  else
    let set := closedSet s f flags
    let s := { s with freeCtr := s.freeCtr + 2 }
    let s := s.updCtx i (fun x => { x with
      lastRecord := featureRecord i set
      ready := if bit flags flagLATE || decide (32 ≤ f.cfg.channel) then x.ready else x.ready ++ [(f.cfg.channel, set)] })
    let n := f.cfg.channel
    let s := if n < 32 then
        s.updMeltState (fun x => { x with queues := updI x.queues (n / 8) (fun l => l ++ [MeltRec.feature i n set]) })
      else s
    fillMarks s n f.index (.seen set)

/-- A frame of context i closed (R245, R246). DEDUCED: assumption 42. -/
def closeFrame (s : State) (i : Nat) (f : FrameAcc) : State :=
  let x := getI s.cams.ctxs i
  let flags := closedFlags f (x.late.contains f.index)
  let s := s.updCtx i (fun x =>
    let x := countFrameClosed { x with frames := x.frames.filter (fun g => g.serial != f.serial)
                                       late := x.late.filter (fun k => k != f.index) } f flags
    if bit flags 0 then takeImage (takeStats x f) f else x)
  let s := if bit flags flagTRUNCATED then camPost s 0x0902 .warn .imageContext i f.index else s
  let s := if bit flags flagLONG then camPost s 0x0903 .note .imageContext i f.index else s
  let s := if bit flags flagBAD then camPost s 0x0904 .warn .imageContext i f.index else s
  takeFeatures s i f flags

/-- Frames of context i that have met their closing condition and have no line left in the buffer, closed (R247). -/
def closeEnded (s : State) (c v i : Nat) : State :=
  let lines := (getI s.cams.ports c).lines
  let l := (getI s.cams.ctxs i).frames.filter (fun f => f.ended && !lines.any (fun x => x.vc == v && x.serial == f.serial))
  l.foldl (fun s f => closeFrame s i f) s

/-- Every ended frame of a stream closed where its lines are processed. -/
def closeStream (s : State) (c v : Nat) : State := (boundCtxs s.toBlocks c v).foldl (fun s i => closeEnded s c v i) s

/-- Flag `k` set in the frame in progress of each context of a stream. -/
def flagFrames (s : State) (c v k : Nat) : State :=
  let serial := (getI (getI s.cams.ports c).streams v).serial
  (boundCtxs s.toBlocks c v).foldl (fun s i => s.updCtx i (fun x => { x with
    frames := x.frames.map (fun (f : FrameAcc) =>
      if f.serial == serial && !f.ended then { f with flags := setBit f.flags k true } else f) })) s

/-- The frame in progress of each context of a stream ended. -/
def endFrames (s : State) (c v : Nat) : State :=
  let serial := (getI (getI s.cams.ports c).streams v).serial
  (boundCtxs s.toBlocks c v).foldl (fun s i => s.updCtx i (fun x => { x with
    frames := x.frames.map (fun (f : FrameAcc) => if f.serial == serial then { f with ended := true } else f) })) s

/-- The open frame of a stream closed as truncated by the next Frame Start (R245). -/
def truncateOpen (s : State) (c v : Nat) : State :=
  let st := getI (getI s.cams.ports c).streams v
  if st.isOpen && !st.duplicate then
    closeStream (endFrames (flagFrames s c v flagTRUNCATED) c v) c v
  else s

/-- Whether a port takes packets (R237). -/
def portAccepts (s : Blocks) (c : Nat) : Bool :=
  let p := getI s.cams.ports c
  p.link == 2 || p.link == 3

/-- Whether a virtual channel is accepted on a port (Table 9.1). -/
def vcAccepted (c v : Nat) : Bool := decide (16 ≤ c) || decide (v < 2)

/-- The rest of the frame in progress dropped, with a flag (R245, R248). -/
def dropRest (s : State) (c v k : Nat) : State :=
  (flagFrames s c v k).updStream c v (fun x => { x with dropping := true })

/-- A packet header looked at (Table 9.2): answers the state and whether the packet goes on. DEDUCED: assumption 42. -/
def checkHeader (s : State) (c v : Nat) (h : CsiHeader) : State × Bool :=
  let s := s.updPortC c (fun p => { p with link := 3, ecc := if h.corrected then inc32 p.ecc else p.ecc })
  if h.bad then
    let s := s.updPortC c (fun p => { p with headers := inc32 p.headers })
    (if (getI (getI s.cams.ports c).streams v).isOpen then dropRest s c v flagBAD else s, false)
  else if h.vcx || !vcAccepted c v then (s.updPortC c (fun p => { p with ignored := inc32 p.ignored }), false)
  else (s, true)

/-- A frame begun on context i (R240, R242). -/
def beginFrame (s : State) (i serial index start : Nat) (untriggered : Bool) : State :=
  let cfg := frameCfg s.toBlocks i
  s.updCtx i (fun x => { x with
    expected := x.expected.filter (fun f => f != index)
    frames := x.frames ++ [{ serial, index, flags := 256 * b2n untriggered, start, cfg, lines := [], saturated := false, ended := false }] })

/-- A Frame Start on a stream, a duplicate one too: shadowed values come into force, then a frame begins (R242, R243, R245). -/
def frameStarts (s : State) (c v : Nat) : State :=
  let s := (boundCtxs s.toBlocks c v).foldl frameValues (truncateOpen s c v)
  let st := getI (getI s.cams.ports c).streams v
  let (index, un, start) := frameIndexOf s.toBlocks c
  let dup := st.lastIndex == some index
  let serial := st.serial + 1
  let s := s.updStream c v (fun x => { x with
    isOpen := true, serial, index, duplicate := dup, lines := 0, dropping := false, lastIndex := some index })
  if dup then
    (streamCtxs s.toBlocks c v).foldl (fun s i =>
      camPost (s.updCtx i (fun x => { x with duplicates := inc32 x.duplicates })) 0x0909 .note .imageContext i index) s
  else (streamCtxs s.toBlocks c v).foldl (fun s i => beginFrame s i serial index start un) s

/-- A Frame End on a stream (R245). -/
def frameEnds (s : State) (c v : Nat) : State :=
  let st := getI (getI s.cams.ports c).streams v
  if !st.isOpen then s
  else
    let height := match boundCtxs s.toBlocks c v with | i :: _ => ctxN s.toBlocks i 0x05 | [] => 0
    let s := if !st.duplicate && decide (st.lines < height) then flagFrames s c v flagTRUNCATED else s
    let s := if st.duplicate then s else closeStream (endFrames s c v) c v
    s.updStream c v (fun x => { x with isOpen := false })

/-- A packet counted as ignored (R232, R233, R245). -/
def ignorePacket (s : State) (c : Nat) : State := s.updPortC c (fun p => { p with ignored := inc32 p.ignored })

/-- A line stored in the buffer of its port (R245, R247). -/
def storeLine (s : State) (c v i : Nat) (payload : Bytes) (crcOk : Bool) : State :=
  let depth := dataTypeBits (ctxN s.toBlocks i 0x03)
  let width := ctxN s.toBlocks i 0x04
  let s := if !crcOk || payload.length * 8 != width * depth then flagFrames s c v flagBAD else s
  let st := getI (getI s.cams.ports c).streams v
  s.updPortC c (fun p =>
    { p with lines := p.lines ++ [{ vc := v, serial := st.serial, number := st.lines, codes := fitLine width (unpackRaw depth payload), done := 0 }]
             high := Nat.max p.high (p.lines.length + 1) })

/-- A line lost because the buffer is full (R248). -/
def overflowLine (s : State) (c v : Nat) : State :=
  let st := getI (getI s.cams.ports c).streams v
  let s := (dropRest s c v flagOVERFLOW).updPortC c (fun p => { p with overflows := inc32 p.overflows })
  (streamCtxs s.toBlocks c v).foldl (fun s i => camPost s 0x0901 .warn .imageContext i st.index) s

/-- A long packet on a stream (R233, R245, R248): a payload CRC error counts on every line of an open frame, and lines beyond the frame
height make it LONG whether or not its rest is dropped. DEDUCED: assumption 42. -/
def linePacket (s : State) (c v dataType : Nat) (payload : Bytes) (crcOk : Bool) : State :=
  let st := getI (getI s.cams.ports c).streams v
  match boundCtxs s.toBlocks c v with
  | [] => ignorePacket s c
  | i :: _ =>
    if dataType != ctxN s.toBlocks i 0x03 || !st.isOpen then ignorePacket s c
    else
      let s := if crcOk then s else s.updPortC c (fun p => { p with crc := inc32 p.crc })
      let next := fun (s : State) => s.updStream c v (fun x => { x with lines := x.lines + 1 })
      if st.duplicate then s
      else if ctxN s.toBlocks i 0x05 ≤ st.lines then next (flagFrames s c v flagLONG)
      else if st.dropping then next s
      else if 8 ≤ (getI s.cams.ports c).lines.length then next (overflowLine s c v)
      else if (streamCtxs s.toBlocks c v).isEmpty then next s
      else next (storeLine s c v i payload crcOk)

/-- The port whose turn it is: the next from `turn` on that holds a unit (R247). -/
def turnPort (s : Blocks) : Option Nat :=
  ((List.range 20).map (fun k => (s.cams.turn + k) % 20)).find? (fun c => !(getI s.cams.ports c).lines.isEmpty)

/-- A line processed for every context of its stream (R247). -/
def processLine (s : State) (c : Nat) (l : CamLine) : State :=
  let s := (boundCtxs s.toBlocks c l.vc).foldl (fun s i => s.updCtx i (fun x => { x with
    frames := x.frames.map (fun f => if f.serial == l.serial then addLine f l.number l.codes else f) })) s
  closeStream (s.updPortC c (fun p => { p with lines := p.lines.drop 1 })) c l.vc

/-- One unit of port c processed, when it is that port's turn (R247). -/
def pipelineUnit (s : State) (c : Nat) : State :=
  if turnPort s.toBlocks == some c then
    let s := { s with cams := { s.cams with turn := (c + 1) % 20 } }
    match (getI s.cams.ports c).lines with
    | [] => s
    | l :: rest =>
      if c < 16 || l.codes.length ≤ l.done + 256 then processLine s c l
      else s.updPortC c (fun p => { p with lines := { l with done := l.done + 256 } :: rest })
  else s

/-- Whether no context of a stream has a frame open: later long packets of the stream are ignored (R245). -/
def noneOpen (s : Blocks) (c v : Nat) : Bool :=
  let st := getI (getI s.cams.ports c).streams v
  (boundCtxs s c v).all (fun i => (getI s.cams.ctxs i).frames.all (fun f => f.ended || f.serial != st.serial))

/-- Frames of context i without a Frame End within its timeout, closed truncated; with the last one of its stream no frame is open there
(R245). DEDUCED: assumption 42. -/
def frameTimeout (s : State) (i : Nat) : State :=
  let t := ctxN s.toBlocks i 0x0B
  let c := ctxN s.toBlocks i 0x01
  let v := ctxN s.toBlocks i 0x02
  let l := (getI s.cams.ctxs i).frames.filter (fun f => !f.ended && decide (f.start + t ≤ s.now))
  let s := l.foldl (fun s f => closeFrame s i { f with flags := setBit f.flags flagTRUNCATED true }) s
  if !l.isEmpty && noneOpen s.toBlocks c v then s.updStream c v (fun x => { x with isOpen := x.isOpen && x.duplicate }) else s

/-- Pulses of context i whose frame has not begun within its timeout (R244). -/
def missingFrames (s : State) (i : Nat) : State :=
  let t := ctxN s.toBlocks i 0x0B
  let gone := fun (f : Nat) => decide (t ≤ (2 ^ 48 + s.tickCount - 4 * f) % 2 ^ 48)
  let l := (getI s.cams.ctxs i).expected.filter gone
  l.foldl (fun s f =>
    let s := s.updCtx i (fun x => { x with
      expected := x.expected.filter (fun g => g != f), missing := inc32 x.missing
      late := if x.late.contains f then x.late.filter (fun g => g != f)
              else if bit (ctxN s.toBlocks i 0x11) 2 && decide (ctxN s.toBlocks i 0x0A < 32) then x.late ++ [f] else x.late })
    camPost s 0x0905 .warn .imageContext i f) s

/-- Whether port c has a reason to fire at the frame boundary of the present tick (R238). DESIGN CHOICE: assumption 43. -/
def firesNow (s : Blocks) (c : Nat) : Bool :=
  let p := getI s.cams.ports c
  let o := fun sub => s.objN (0x3500 + c) sub
  let due := fun (x : Option Nat) => match x with | some t => decide (t ≤ s.now) | none => false
  s.tickCount % 4 == 0 && p.link != 0 && (match p.pulse with | some (f, _, _) => f != s.frameIndex | none => true)
    && ((o 0x05 == 1 && s.frameIndex % o 0x06 == o 0x07) || (o 0x05 == 2 && due p.layerDue) || due p.manual)

/-- The pulse of port c rises in the present tick: its width is the one in force (R238). -/
def risePulse (s : State) (c : Nat) : State :=
  match (getI s.cams.ports c).pulse with
  | some (f, rise, 0) =>
    if rise / 1024 = s.now then
      let width := s.objN (0x3500 + c) 0x0A
      (s.updPortC c (fun p => { p with pulse := some (f, rise, rise + width) })).send (.trigger c (rise % 1024) width)
    else s
  | _ => s

/-- The reasons of port c for this frame boundary are over: their first frame boundary has been, whether or not streaming is enabled
(R238). -/
def spendReasons (s : State) (c : Nat) : State :=
  let left := fun (x : Option Nat) => x.filter (fun t => decide (s.now < t))
  if s.tickCount % 4 = 0 then s.updPortC c (fun p => { p with manual := left p.manual, layerDue := left p.layerDue }) else s

/-- A pulse of port c (R238, R244). DEDUCED: assumption 42. DESIGN CHOICE: assumption 43. -/
def firePulse (s : State) (c : Nat) : State :=
  if firesNow s.toBlocks c then
    let f := s.frameIndex
    let rise := s.now * 1024 + s.objN (0x3500 + c) 0x09
    let s := (spendReasons s c).updPortC c (fun p => { p with
      pulse := some (f, rise, 0), earlier := p.pulse
      rises := rise :: p.rises.filter (fun r => decide (rise < r + 135168)) })
    let l := (List.range 128).filter (fun i => ctxN s.toBlocks i 0x01 == c && s.objB (0x3400 + i) 0x00)
    risePulse (l.foldl (fun s i => s.updCtx i (fun x => { x with expected := x.expected ++ [f] })) s) c
  else spendReasons s c

/-- The frame whose delivery point of context i falls in the tick with count `t`, and its channel (R255): the one its frame started
with, or for a frame that has not begun the one in force. -/
def deliveryFrame (s : Blocks) (i t : Nat) : Option (Nat × Nat) :=
  let k := (2 ^ 48 + t - ctxN s i 0x19) % 2 ^ 48
  let x := getI s.cams.ctxs i
  let f := k / 4
  let begun := (x.frames.find? (fun r => r.index == f)).map (fun r => (bit r.cfg.stats 2, r.cfg.channel))
  let closed := (x.ready.find? (fun r => r.2.frame == f)).map (fun r => (true, r.1))
  let peer := match s.work.measure with | some m => s.pair.st == .standby && m.features.any (fun g => g.1.val == i && g.2.frame == f) | none => false
  let due := if x.expected.contains f || x.late.contains f || peer then some (bit (ctxN s i 0x11) 2, ctxN s i 0x0A) else none
  match begun.or (closed.or due) with
  | some (feat, n) => if k % 4 == 0 && s.objB (0x3400 + i) 0x00 && feat && decide (n < 32) then some (f, n) else none
  | none => none

/-- The feature set that context i delivers for frame f: its own, or at a standby the one in the MEASURE of the tick (R342, R344). -/
def deliveredSet (s : Blocks) (i f : Nat) : Option FeatureSet :=
  let own := ((getI s.cams.ctxs i).ready.find? (fun r => r.2.frame == f)).map (fun r => r.2)
  match s.work.measure with
  | some m =>
    if s.pair.st == .standby && m.tick == s.tickCount then
      (m.features.find? (fun x => x.1.val == i && x.2.frame == f)).map (fun x => x.2)
    else own
  | none => own

/-- The delivery of frame f from context i to channel n (R255): a set that is not there is late. DEDUCED: assumption 42. -/
def deliverFrame (s : State) (i f n : Nat) : State :=
  let set := deliveredSet s.toBlocks i f
  let s := s.updMelt n (fun m => { m with delivery := some { ctx := i, frame := f, latency := ctxN s.toBlocks i 0x19, set } })
  if set.isSome then s.updCtx i (fun x => { x with ready := x.ready.filter (fun r => decide (f < r.2.frame)) })
  else
    let s := s.updCtx i (fun x => { x with
      lateSets := inc32 x.lateSets
      late := if x.frames.any (fun r => r.index == f) || x.expected.contains f then x.late ++ [f]
              else x.late.filter (fun g => g != f) })
    camPost s 0x0906 .warn .imageContext i f

/-- The delivery point of context i in the tick (R255): clock 3,000, or 1,000 at the active unit of a pair (R344). -/
def deliver (s : State) (i : Nat) : State :=
  match deliveryFrame s.toBlocks i s.tickCount with
  | none => s
  | some (f, n) => if (getI s.melt.chans n).delivery.isSome then s else deliverFrame s i f n

/-- The delivery points of the tick that have not been reached. -/
def deliverAll (s : State) : State := forI 128 s deliver

/-- Context i disabled (R240). DEDUCED: assumption 42. -/
def ctxDisabled (s : State) (i : Nat) : State :=
  s.updCtx i (fun x => { x with frames := [], expected := [], ready := [], late := [] })

/-- The init script of port c: number of entries. -/
def scriptLength (s : Blocks) (c : Nat) : Nat := (s.objT (0x3500 + c) 0x13).length / 8

/-- A transaction put on the bus of port c at its speed and with its clock-stretch timeout (R235). -/
def busTransaction (s : State) (c : Nat) (steps : List I2cStep) : State :=
  s.send (.i2c c (s.objN (0x3500 + c) 0x0E) (s.objN (0x3500 + c) 0x0F) (I2cStep.free :: steps))

/-- Microseconds since start. -/
def microTime (s : Blocks) : Nat := s.now * 10 + s.time.clock / 1000

/-- Entry `k` of the init script of port c, 8 bytes (Table 9.4). -/
def scriptBytes (s : Blocks) (c k : Nat) : Bytes := slice (s.objT (0x3500 + c) 0x13) (8 * k) 8

/-- Whether entry `k` of the init script of port c is a delay (Table 9.4). -/
def isDelay (s : Blocks) (c k : Nat) : Bool := bit (fieldU (scriptBytes s c k) 0 1) 7

/-- Entry `k` of the init script of port c begun: a delay runs, or one write with its STOP goes to the bus (R237, Table 9.4). -/
def runEntry (s : State) (c k : Nat) : State :=
  let e := scriptBytes s.toBlocks c k
  if isDelay s.toBlocks c k then s.updPortC c (fun p => { p with use := .script k (microTime s.toBlocks + fieldU e 4 4) })
  else busTransaction (s.updPortC c (fun p => { p with use := .script k 0 })) c
    [.start (fieldU e 0 1) false, .write (slice e 2 (fieldU e 1 1)), .stop]

/-- The init script of port c begun, or over at once when empty (R237); it waits for a request of the host that has the bus. -/
def startScript (s : State) (c : Nat) : State :=
  if scriptLength s.toBlocks c = 0 then s.updPortC c (fun p => { p with link := 2 })
  else
    let s := s.updPortC c (fun p => { p with link := 1 })
    if (getI s.cams.ports c).use == .none then runEntry s c 0 else s

/-- Streaming of port c enabled or disabled (R237; Table 9.9 sub 0x00). -/
def setStreaming (s : State) (c : Nat) (on : Bool) : State :=
  if on then startScript s c
  else
    let l := (List.range 128).filter (fun i => ctxN s.toBlocks i 0x01 == c)
    let s := l.foldl (fun s i => s.updCtx i (fun x => { x with frames := [], expected := [] })) s
    s.updPortC c (fun p => { p with
      link := 0, lines := [], streams := Vector.replicate 4 default, pulse := none, earlier := none
      use := match p.use with | .script _ _ => .none | u => u })

/-- The init script of port c stopped by a failed entry (R237). -/
def scriptFailed (s : State) (c : Nat) : State :=
  (s.updPortC c (fun p => { p with link := 4, use := .none })).post (mkEvent (.block 0) 0x0908 .warn .cameraPort c (leBytes 8 s.frameIndex))

/-- A transaction of the host ended with a status (R236): the response holds the bytes it was to read. -/
def endRequest (s : State) (c status count : Nat) (data : Bytes) : State :=
  let s := s.updPortC c (fun p =>
    { p with status, use := .none, response := if status = 2 then padTo 32 (data.take count) else p.response })
  if (getI s.cams.ports c).link == 1 then startScript s c else s

/-- An entry of the init script done (R237). DEDUCED: assumption 42. -/
def scriptEntry (s : State) (c k status : Nat) : State :=
  if status != 2 then scriptFailed s c
  else if scriptLength s.toBlocks c ≤ k + 1 then s.updPortC c (fun p => { p with link := 2, use := .none })
  else runEntry s c (k + 1)

/-- Delay entries of the init scripts that are over at the boundary (Table 9.4). -/
def endDelays (s : State) : State :=
  forI 20 s (fun s c =>
    match (getI s.cams.ports c).use with
    | .script k u => if isDelay s.toBlocks c k && decide (u ≤ microTime s.toBlocks) then scriptEntry s c k 2 else s
    | _ => s)

/-- The bus operations of an I²C request (R236, Table 9.3). -/
def requestSteps (b : Bytes) : List I2cStep :=
  let address := fieldU b 0 1
  let w := fieldU b 1 1
  let r := fieldU b 2 1
  let out := if w = 0 then [] else [I2cStep.start address false, .write (slice b 4 w)]
  let back := if r = 0 then [] else [I2cStep.start address true, .read r]
  let between := if w = 0 || r = 0 || bit (fieldU b 3 1) 0 then [] else [I2cStep.stop]
  out ++ between ++ back ++ [.stop]

/-- Whether an I²C request is accepted in the present state (R236). -/
def i2cCode (s : Blocks) (c : Nat) : Nat :=
  let p := getI s.cams.ports c
  if p.use != .none || p.link == 1 then 0x04010001 else 0

/-- The effect of an I²C request at its boundary (R236). -/
def i2cStart (s : State) (c : Nat) (data : Bytes) : State :=
  busTransaction (s.updPortC c (fun p => { p with status := 1, use := .request data })) c (requestSteps data)

/-- A layer event for the ports in trigger mode 2 whose layer events hold bit `k` (R238). DEDUCED: assumption 42. -/
def layerTrigger (s : State) (k due : Nat) : State :=
  forI 20 s (fun s c =>
    if s.objN (0x3500 + c) 0x05 == 2 && bit (s.objN (0x3500 + c) 0x08) k then
      s.updPortC c (fun p => { p with layerDue := some (p.layerDue.getD due) })
    else s)

/-- A link error on port c with streaming enabled (Table 9.8): frames in progress closed truncated, with the lines that the buffer holds. -/
def linkError (s : State) (c : Nat) : State :=
  if (getI s.cams.ports c).link == 0 then s
  else
    let s := s.updPortC c (fun p => { p with linkErrors := inc32 p.linkErrors })
    let s := forI 4 s (fun s v =>
      let s := truncateOpen s c v
      s.updStream c v (fun x => { x with isOpen := false }))
    camPost s 0x0907 .warn .cameraPort c s.frameIndex

/-- FRAME_START at the clock of its header (R243, R245). -/
def execFrameStart (c : Fin 20) (vc : Fin 4) (h : CsiHeader) (s : State) : Host.Outcome State Fault Refusal :=
  .next (if portAccepts s.toBlocks c then
    let r := checkHeader (s.atClock h.clk) c vc h
    if r.2 then frameStarts r.1 c vc else r.1
  else s)

/-- LONG_PACKET (R233, R245, R248). -/
def execLongPacket (c : Fin 20) (vc : Fin 4) (h : CsiHeader) (dataType : Nat) (payload : Bytes) (crcOk : Bool) (s : State) :
    Host.Outcome State Fault Refusal :=
  .next (if portAccepts s.toBlocks c then
    let r := checkHeader s c vc h
    if r.2 then linePacket r.1 c vc dataType payload crcOk else r.1
  else s)

/-- PIPELINE_UNIT (R247). -/
def execPipelineUnit (c : Fin 20) (s : State) : Host.Outcome State Fault Refusal := .next (pipelineUnit s c)

/-- FRAME_END (R245). -/
def execFrameEnd (c : Fin 20) (vc : Fin 4) (h : CsiHeader) (s : State) : Host.Outcome State Fault Refusal :=
  .next (if portAccepts s.toBlocks c then
    let r := checkHeader s c vc h
    if r.2 then frameEnds r.1 c vc else r.1
  else s)

/-- FRAME_TIMEOUT (R245). -/
def execFrameTimeout (i : Fin 128) (s : State) : Host.Outcome State Fault Refusal := .next (frameTimeout s i)

/-- MISSING_FRAME (R244). -/
def execMissingFrame (i : Fin 128) (s : State) : Host.Outcome State Fault Refusal := .next (missingFrames s i)

/-- TRIGGER_PULSE (R238). DESIGN CHOICE: assumption 43. -/
def execTriggerPulse (c : Fin 20) (s : State) : Host.Outcome State Fault Refusal := .next (firePulse s c)

/-- DELIVERY_POINT (R255). -/
def execDeliveryPoint (i : Fin 128) (s : State) : Host.Outcome State Fault Refusal := .next (deliver s i)

/-- LINK_ERROR (Table 9.8). -/
def execLinkError (c : Fin 20) (s : State) : Host.Outcome State Fault Refusal := .next (linkError s c)

/-- I2C_TRANSACTION_COMPLETE (R236). DESIGN CHOICE: assumption 9. -/
def execI2cTransactionComplete (c : Fin 20) (status : Nat) (readBytes : Bytes) (s : State) : Host.Outcome State Fault Refusal :=
  .next (match (getI s.cams.ports c).use with
    | .request b => if 2 ≤ status && status ≤ 6 then endRequest s c status (fieldU b 2 1) readBytes else s
    | _ => s)

/-- CLOCK_STRETCH_TIMEOUT (R235, Table 9.9 sub 0x11). -/
def execClockStretchTimeout (c : Fin 20) (s : State) : Host.Outcome State Fault Refusal :=
  .next (match (getI s.cams.ports c).use with
    | .request _ => endRequest s c 5 0 []
    | .script k _ => if isDelay s.toBlocks c k then s else scriptFailed s c
    | .none => s)

/-- INIT_SCRIPT_ENTRY_DONE (R237): a delay entry is done in the tick in which its time is over, not before. DEDUCED: assumption 42. -/
def execInitScriptEntryDone (c : Fin 20) (status : Nat) (s : State) : Host.Outcome State Fault Refusal :=
  .next (match (getI s.cams.ports c).use with
    | .script k u =>
      if isDelay s.toBlocks c k then (if u < microTime s.toBlocks + 10 then scriptEntry s c k 2 else s) else scriptEntry s c k status
    | _ => s)

/-- LAYER_IMAGE_STORED (R256). -/
def execLayerImageStored (i : Fin 128) (s : State) : Host.Outcome State Fault Refusal :=
  .next (s.updCtx i (fun x =>
    match x.images with
    | [] => x
    | m :: rest => { x with images := rest, image := m.data, imageIndex := m.index, geometry := m.geometry }))

end Sys2Proof.Machine
end

