-- ==== Sys2Proof/Machine/Led.lean ====
section
/-! DEFINITION. Chamber illumination: frame patterns, temperature compensation and lamp diagnosis
(15_chamber_illumination R390–R407). -/

namespace Sys2Proof.Machine

/-- String l changed by `f`. -/
def State.updLed (s : State) (l : Nat) (f : LedString → LedString) : State :=
  { s with light := { s.light with strings := updI s.light.strings l f } }

/-- The value that an object has from the next tick boundary on (R73, R394). -/
def soonVal (s : Blocks) (index sub : Nat) : Val :=
  match (s.dict.pending.filter (fun w => w.index == index && w.sub == sub && decide (w.due ≤ s.now + 1))).getLast? with
  | some w => w.val
  | none => objVal s.dict index sub

/-- The number that an object has from the next tick boundary on. -/
def soonN (s : Blocks) (index sub : Nat) : Nat := (valI (soonVal s index sub)).toNat

/-- Whether this unit drives the outputs that have one wire per machine (R347, R404). DEDUCED: assumption 73. -/
def drivesOutputs (s : Blocks) : Bool := s.pair.st == .single || s.pair.st == .active || s.pair.st == .alone

/-- The greatest number of `k` more bits above `a` that still satisfies a property that holds below some point. -/
def greatest (p : Nat → Bool) : Nat → Nat → Nat
  | 0, a => a
  | k + 1, a => greatest p k (if p (a + 2 ^ k) then a + 2 ^ k else a)

/-- Curve 1 (R395): 65,535 × (L / 65,535)^2.2 rounded; its fifth power decides. -/
def gammaLevel (l : Nat) : Nat :=
  greatest (fun y => decide ((2 * y - 1) ^ 5 * 65535 ^ 6 ≤ 32 * l ^ 11)) 16 0

/-- Curve 2 (R395): 65,535 × 2^(10 × (L - 65,535) / 65,535) rounded; its 13,107th power decides. -/
def logLevel (l : Nat) : Nat :=
  if l = 0 then 0
  else greatest (fun y => decide ((2 * y - 1) ^ 13107 * 2 ^ (2 * (65535 - l)) ≤ 131070 ^ 13107)) 16 0

/-- E of a level and a curve (R395). -/
def effective (level curve : Nat) : Nat :=
  if curve = 1 then gammaLevel level else if curve = 2 then logLevel level else level

/-- Reading and validity of temperature input `k` (R398). -/
def compensationReading (s : Blocks) (k : Nat) : Option Int :=
  let x := getI s.temp.inputs k
  if x.validity = 0 then some x.reading else none

/-- The factor F of colour group `g`; none when its input is invalid (R398). -/
def groupFactor (s : Blocks) (g : Nat) : Option Nat :=
  let t := soonN s 0x4100 (0x40 + 3 * g)
  if t = 0xFF then some 65536
  else
    (compensationReading s t).map (fun r =>
      let k := valI (soonVal s 0x4100 (0x42 + 3 * g))
      let t0 := valI (soonVal s 0x4100 (0x41 + 3 * g))
      (clampI 32768 131072 (65536 + rndDiv (k * (r - t0)) 64)).toNat)

/-- E' of string l (R395). -/
def compensated (e f : Nat) : Nat := Nat.min 65535 (rndDiv ((e * f : Nat) : Int) 65536).toNat

/-- Healthy lamps below the lamp count, in lamp order (R396). -/
def healthyLamps (n failed : Nat) : List Nat := (List.range n).filter (fun k => !bit failed k)

/-- U, n, r and the deficit of R396. -/
def lampTime (e n healthy : Nat) : Nat × Nat × Nat × Bool :=
  let u := (rndDiv ((e * n * 4096 : Nat) : Int) 65536).toNat
  let beyond := decide (healthy * 4096 < u)
  let u := if beyond then healthy * 4096 else u
  let r := u % 4096
  let r := if r < 21 then 0 else if r < 41 then 41 else if 4075 < r then 4096 else if 4055 < r then 4055 else r
  (u, u / 4096, r, beyond)

/-- The pattern with the shunts of some lamps open: bit 1 closes a shunt (R391). -/
def patternOf (openLamps : List Nat) : Nat := maskOf 16 (fun k => !openLamps.contains k)

/-- Every shunt closed. -/
def allClosed : Nat := 0xFFFF

/-- The centre of the fractional lamp's span (R397). -/
def spanCentre (s : Blocks) (l : Nat) : Nat :=
  let port := soonN s (0x4100 + l) 0x06
  if port = 0xFF then soonN s (0x4100 + l) 0x07
  else
    let o := fun sub => soonN s (0x3500 + port) sub
    (o 0x09 + o 0x0C + o 0x0D / 2) % 4096

/-- The pattern changes of a frame without a probe (R396, R397): offset and pattern, the first at offset 0. -/
def frameChanges (s : Blocks) (l n r : Nat) (lamps : List Nat) : List (Nat × Nat) :=
  let n := if r = 4096 then n + 1 else n
  let base := patternOf (lamps.take n)
  match lamps[n]? with
  | none => [(0, base)]
  | some x =>
    if r = 0 || r = 4096 then [(0, base)]
    else
      let lit := patternOf (x :: lamps.take n)
      let b := (spanCentre s l + 4096 - r / 2) % 4096
      if b = 0 then [(0, lit), (r, base)]
      else if b + r < 4096 then [(0, base), (b, lit), (b + r, base)]
      else if b + r = 4096 then [(0, base), (b, lit)]
      else [(0, lit), (b + r - 4096, base), (b, lit)]

/-- The pattern in force at an offset. -/
def patternAt (changes : List (Nat × Nat)) (at_ : Nat) : Nat :=
  ((changes.filter (fun c => decide (c.1 ≤ at_))).getLast?.map (fun c => c.2)).getD allClosed

/-- Whether port c fires a pulse at the coming frame boundary (R238, R394). -/
def willFire (s : Blocks) (c : Nat) : Bool :=
  let p := getI s.cams.ports c
  let o := fun sub => soonN s (0x3500 + c) sub
  let f := (s.frameIndex + 1) % 2 ^ 46
  let manual := p.manual.isSome || s.dict.pending.any (fun w =>
    w.index == 0x3500 + c && w.sub == 0x0B && decide (w.due ≤ s.now + 1))
  let layer := p.layerDue.isSome || (s.job.nextLayer && bit (o 0x08) 1)
  o 0x00 == 1 && p.link != 0 && ((o 0x05 == 1 && f % o 0x06 == o 0x07) || (o 0x05 == 2 && layer) || manual)

/-- The exposure windows of port c that reach into the coming frame, as offsets from its boundary (R239, R402). DEDUCED: assumption 49. -/
def windowsOf (s : Blocks) (c : Nat) : List (Int × Int) :=
  let base : Int := (((s.now + 1) * 1024 : Nat) : Int)
  let o := fun sub => soonN s (0x3500 + c) sub
  let risen := (getI s.cams.ports c).rises.map (fun r => ((r : Nat) : Int) - base)
  let rises : List Int := (if willFire s c then [((o 0x09 : Nat) : Int)] else []) ++ risen
  (rises.map (fun (r : Int) => (r + (o 0x0C : Nat), r + (o 0x0C : Nat) + (o 0x0D : Nat)))).filter (fun w => decide (0 < w.2) && decide (w.1 < 4096))

/-- The exposure windows of the ports in a blank mask. -/
def blankWindows (s : Blocks) (mask : Nat) : List (Int × Int) :=
  ((List.range 20).filter (fun c => bit mask c)).flatMap (windowsOf s)

/-- The start of a probe or test span (R402): offsets of the frame's other changes, blanked windows, probe offset. -/
def placeSpan (changes : List Nat) (windows : List (Int × Int)) (offset : Nat) : Option Nat :=
  ((List.range 94).map (fun i => offset + 41 * i)).find? (fun p =>
    decide (p + 246 ≤ 4096) && changes.all (fun c => decide (c + 41 < p) || decide (p + 245 < c)) &&
      windows.all (fun w => decide (w.2 ≤ (p : Int)) || decide ((p : Int) + 204 < w.1)))

/-- The changes of a frame with a span of 205 units at `p` in which lamp `k` alone is unshunted (R400, R401). -/
def withSpan (changes : List (Nat × Nat)) (p k : Nat) : List (Nat × Nat) :=
  changes.filter (fun c => decide (c.1 < p)) ++ [(p, patternOf [k]), (p + 205, patternAt changes p)] ++
    changes.filter (fun c => decide (p < c.1))

/-- Offsets at which a frame changes the pattern, the frame boundary only when it does (R402). -/
def changeOffsets (before : List (Nat × Nat)) (changes : List (Nat × Nat)) : List Nat :=
  (changes.filter (fun c => c.1 != 0 || patternAt before 4096 != c.2)).map (fun c => c.1)

/-- An illumination event (Table 15.3). -/
def ledEvent (l code : Nat) (sev : Severity) (detail : Bytes) : Event := mkEvent (.block 3) code sev .ledString l detail

/-- Whether an event of R405 with a limit of one per 100,000 ticks may be posted. -/
def ledDue (now : Nat) (last : Option Nat) : Bool :=
  match last with
  | none => true
  | some t => decide (t + 100000 ≤ now)

/-- The lamp that is due for its probe: the lowest healthy one (R401). DEDUCED: assumption 49. -/
def probeDue (now : Nat) (x : LedString) (lamps : List Nat) : Option Nat :=
  lamps.find? (fun k => decide (nth x.probed k ≤ now))

/-- The deficit event of a string (R396, R405). DEDUCED: assumption 49. -/
def postDeficit (s : State) (l : Nat) (was beyond : Bool) : State :=
  if beyond && !was && ledDue s.now (getI s.light.strings l).deficitPosted then
    (s.updLed l (fun x => { x with deficitPosted := some s.now })).post (ledEvent l 0x0F04 .note [])
  else s

/-- The next frame of a string that is ON (R394–R397, R401). -/
def fixOn (s : State) (l : Nat) : State :=
  let x := getI s.light.strings l
  let i := 0x4100 + l
  let n := soonN s.toBlocks i 0x01
  let f := (groupFactor s.toBlocks (soonN s.toBlocks i 0x02)).getD 65536
  let e := compensated (effective (soonN s.toBlocks i 0x04) (soonN s.toBlocks i 0x05)) f
  let lamps := healthyLamps n x.failed
  let (u, k, r, beyond) := lampTime e n lamps.length
  let changes := frameChanges s.toBlocks l k r lamps
  let test := (probeDue s.now x lamps).bind (fun lamp =>
    (placeSpan (changeOffsets x.changes changes) (blankWindows s.toBlocks (soonN s.toBlocks i 0x08)) (soonN s.toBlocks i 0x09)).map
      (fun p => (lamp, p)))
  let all := match test with
    | some (lamp, p) => withSpan changes p lamp
    | none => changes
  let s := s.updLed l (fun x => { x with level := e, lampTime := u, deficit := beyond, changes := all, test, candidates := [] })
  postDeficit s l x.deficit beyond

/-- The next frame of a string in LOCATING with a candidate to test (R400, R402). -/
def fixLocating (s : State) (l lamp : Nat) : State :=
  let x := getI s.light.strings l
  let i := 0x4100 + l
  let changes := [(0, allClosed)]
  let p := placeSpan (changeOffsets x.changes changes) (blankWindows s.toBlocks (soonN s.toBlocks i 0x08)) (soonN s.toBlocks i 0x09)
  match p with
  | none => s.updLed l (fun x => { x with changes, test := none })
  | some p => s.updLed l (fun x => { x with changes := withSpan changes p lamp, test := some (lamp, p) })

/-- String l at clock 9,500 of the last tick of a frame (R393, R394, R400). DEDUCED: assumption 49. -/
def fixString (s : State) (l : Nat) : State :=
  let x := getI s.light.strings l
  match x.st with
  | .off =>
    if s.objB (0x4100 + l) 0x00 then
      fixOn (s.updLed l (fun x => { x with st := .on, changes := [], probed := List.replicate 16 s.now })) l
    else s
  | .on => fixOn s l
  | .locating =>
    match x.candidates with
    | [] => fixOn (s.updLed l (fun x => { x with st := .on })) l
    | lamp :: _ => fixLocating s l lamp
  | .fault => s

/-- Event 0x0F05 of the colour groups whose input has become invalid (R398); it names the lowest string of the group.
DEDUCED: assumption 49. -/
def postGroups (s : State) : State :=
  let bad : Vector Bool 4 := Vector.ofFn (fun g => (groupFactor s.toBlocks g).isNone)
  let s1 := forI 4 s (fun x g =>
    if getI bad g && !getI s.light.badGroups g then
      let l := ((List.range 16).find? (fun l => s.objN (0x4100 + l) 0x02 == g)).getD 0
      x.post (ledEvent l 0x0F05 .warn [])
    else x)
  { s1 with light := { s1.light with badGroups := bad } }

/-- The patterns of the coming frame fixed for every string, once in the last tick of a frame (R394). DEDUCED: assumption 49. -/
def fixPatterns (s : State) : State :=
  if s.tickCount % 4 == 3 && s.time.running && drivesOutputs s.toBlocks && s.light.fixed != s.now + 1 then
    forI 16 (postGroups { s with light := { s.light with fixed := s.now + 1 } }) fixString
  else s

/-- Strings whose enable is FALSE leave for OFF at the boundary (Table 15.2). DEDUCED: assumption 49. -/
def lightBoundary (s : State) : State :=
  forI 16 s (fun s l =>
    if s.objB (0x4100 + l) 0x00 then s
    else if (getI s.light.strings l).st == .off then s
    else s.updLed l (fun x => { x with st := .off, changes := [], candidates := [], test := none }))

/-- The code at LIREF[l] (R393). -/
def liref (s : Blocks) (l : Nat) : Nat :=
  match (getI s.light.strings l).st with
  | .on => s.objN (0x4100 + l) 0x03
  | .locating => s.objN (0x4100 + l) 0x03
  | _ => 0

/-- A lamp found open (R400, R401): failed, shunted, event 0x0F01. -/
def lampOpen (s : State) (l k : Nat) : State :=
  (s.updLed l (fun x => { x with failed := setBit x.failed k true, opens := inc32 x.opens })).post
    (ledEvent l 0x0F01 .warn (leBytes 1 k))

/-- Whether window `w` of the frame ends in the tick and its pattern is constant with a lamp unshunted (R399). -/
def windowCounts (s : Blocks) (x : LedString) (n w : Nat) : Bool :=
  let a := 205 * w
  decide (w < 19) && 205 * (w + 1) / 1024 == s.tickCount % 4 &&
    x.changes.all (fun c => decide (c.1 ≤ a) || decide (a + 205 ≤ c.1)) &&
    anyI n (fun k => !bit (patternAt x.changes a) k)

/-- Whether a window overlaps the frame's probe span (R403). -/
def inSpan (x : LedString) (w : Nat) : Bool :=
  match x.test with
  | none => false
  | some (_, p) => decide (205 * w < p + 205) && decide (p < 205 * (w + 1))

/-- The current of one window of string l (R399): a counting window below the open threshold takes the string to LOCATING. -/
def windowCurrent (s : State) (l w current : Nat) : State :=
  let x := getI s.light.strings l
  let n := s.objN (0x4100 + l) 0x01
  if x.st != .on || !drivesOutputs s.toBlocks || !windowCounts s.toBlocks x n w || inSpan x w then s
  else if s.objN (0x4100 + l) 0x0A ≤ current then s.updLed l (fun x => { x with current })
  else
    let lit := (List.range n).filter (fun k => !bit (patternAt x.changes (205 * w)) k)
    s.updLed l (fun x => { x with current, st := .locating, candidates := lit, changes := [(0, allClosed)], test := none })

/-- The result of a candidate's test span (R400). -/
def locateResult (s : State) (l current : Nat) : State :=
  let x := getI s.light.strings l
  match x.st, x.test with
  | .locating, some (k, _) =>
    if current < s.objN (0x4100 + l) 0x0A then lampOpen (s.updLed l (fun x => { x with candidates := [], test := none })) l k
    else
      let rest := x.candidates.filter (fun c => c != k)
      if rest.isEmpty then
        (s.updLed l (fun x => { x with st := .fault, candidates := [], test := none, changes := [] })).post (ledEvent l 0x0F03 .warn [])
      else s.updLed l (fun x => { x with candidates := rest, test := none })
  | _, _ => s

/-- The result of a probe span (R401). -/
def probeResult (s : State) (l current voltage : Nat) : State :=
  let x := getI s.light.strings l
  match x.st, x.test with
  | .on, some (k, _) =>
    let s := s.updLed l (fun x => { x with
      test := none, voltages := x.voltages.set k voltage, probed := x.probed.set k (nth x.probed k + 100000) })
    if current < s.objN (0x4100 + l) 0x0A then lampOpen s l k
    else if voltage < s.objN (0x4100 + l) 0x0B then
      (s.updLed l (fun x => { x with failed := setBit x.failed k true, shorted := setBit x.shorted k true })).post
        (ledEvent l 0x0F02 .warn (leBytes 1 k))
    else s
  | _, _ => s

/-- The healthy lamps of a string that is ON whose probe was not placed within its 100,000 ticks (R402). -/
def missedProbes (s : Blocks) (l : Nat) : List Nat :=
  let x := getI s.light.strings l
  if x.st == .on then (healthyLamps (s.objN (0x4100 + l) 0x01) x.failed).filter (fun k => decide (nth x.probed k + 100000 ≤ s.now))
  else []

/-- Probes not placed: counted, event 0x0F06, the next 100,000 ticks begun (R402, R405). -/
def probesMissed (s : State) (l : Nat) : State :=
  let missed := missedProbes s.toBlocks l
  let rounds := fun (x : LedString) k => (s.now - nth x.probed k) / 100000
  if missed.isEmpty then s
  else
    let due := ledDue s.now (getI s.light.strings l).notPlacedPosted
    let s1 := s.updLed l (fun x => { x with
      notPlaced := satU 32 (x.notPlaced + sumN (missed.map (rounds x)))
      probed := x.probed.mapIdx (fun k t => if missed.contains k then t + 100000 * rounds x k else t)
      notPlacedPosted := if due then some s.now else x.notPlacedPosted })
    if due then s1.post (ledEvent l 0x0F06 .note []) else s1

/-- The failed-lamp records of a string cleared (R403). -/
def clearFailed (s : State) (l : Nat) : State := s.updLed l (fun x => { x with failed := 0, shorted := 0 })

/-- What the active unit reports of a string, adopted by the standby (R344, R404). -/
def adoptString (s : State) (r : LedReport) : State :=
  s.updLed r.l (fun x => { x with
    st := if r.state = 1 then .on else if r.state = 2 then .locating else if r.state = 3 then .fault else .off
    failed := r.failed, shorted := r.shorted, level := r.level, lampTime := r.lampTime, deficit := r.deficit
    current := r.current, changes := r.changes })

/-- PATTERN_FIX (R394). -/
def execPatternFix (s : State) : Host.Outcome State Fault Refusal := .next (fixPatterns (s.atClock 9500))

/-- OPEN_DETECTED (R399). -/
def execOpenDetected (l : Fin 16) (window current : Nat) (s : State) : Host.Outcome State Fault Refusal :=
  .next (windowCurrent s l window current)

/-- LOCATE_TEST (R400). -/
def execLocateTest (l : Fin 16) (current : Nat) (s : State) : Host.Outcome State Fault Refusal := .next (locateResult s l current)

/-- PROBE (R401). -/
def execProbe (l : Fin 16) (current voltage : Nat) (s : State) : Host.Outcome State Fault Refusal :=
  .next (probeResult s l current voltage)

/-- PROBE_NOT_PLACED (R402). -/
def execProbeNotPlaced (l : Fin 16) (s : State) : Host.Outcome State Fault Refusal := .next (probesMissed s l)

end Sys2Proof.Machine
end

