-- ==== Sys2Proof/Machine/StepperMath.lean ====
section
/-! DEFINITION. Stepper profiles, homing curves, commutation and the load angle (14_recoater_axes R364, R370, R371, R374, R375,
R381–R383). Units are those of `StepPhase` and `StepProfile`. -/

namespace Sys2Proof.Machine

/-- Speeds and rates of a profile in the order of `StepAxis.cfg`: Vs, A1, V1, A2, Vmax, D2, D1, Vstop. -/
def cfgN (cfg : List Nat) (k : Nat) : Nat := cfg.getD k 0

/-- A speed in microsteps/s as 2^-256 microstep/s. -/
def stepSpeed (v : Nat) : Nat := v * oneP

/-- A position or speed with 16 fraction bits in 2^-256. -/
def fineStep (p : Int) : Int := p * (2 ^ 240 : Nat)

/-- A phase from speed `v0` to `v1` at the rate `a`. -/
def speedPhase (v0 v1 a : Nat) : StepPhase :=
  let hi := Nat.max v0 v1
  let lo := Nat.min v0 v1
  let aa := Nat.max a 1
  { v0, a := if v0 ≤ v1 then (aa : Int) else -(aa : Int), dur := (hi - lo) * 100000 / aa
    dist := (hi * hi - lo * lo) / (2 * oneP * aa) }

/-- The phases of a rise from `a` to `b`: A1 below the corner speed, A2 from it upward (R370). -/
def risePhases (cfg : List Nat) (a b : Nat) : List StepPhase :=
  let c := stepSpeed (cfgN cfg 2)
  if b ≤ a then []
  else (if a < c then [speedPhase a (Nat.min b c) (cfgN cfg 1)] else []) ++
    (if c < b then [speedPhase (Nat.max a c) b (cfgN cfg 3)] else [])

/-- The phases of a fall from `b` to `a`: D2 above the corner speed, D1 from it downward (R370). -/
def fallPhases (cfg : List Nat) (b a : Nat) : List StepPhase :=
  let c := stepSpeed (cfgN cfg 2)
  if b ≤ a then []
  else (if c < b then [speedPhase b (Nat.max a c) (cfgN cfg 5)] else []) ++
    (if a < c then [speedPhase (Nat.min b c) a (cfgN cfg 6)] else [])

/-- The distance of a list of phases. -/
def phasesDist (l : List StepPhase) : Nat := sumN (l.map (fun p => p.dist))

/-- acc(a → b) of R370. -/
def accDist (cfg : List Nat) (a b : Nat) : Nat := phasesDist (risePhases cfg a b)

/-- dec(b → a) of R370. -/
def decDist (cfg : List Nat) (b a : Nat) : Nat := phasesDist (fallPhases cfg b a)

/-- A cruise at speed `v` over a distance. -/
def cruisePhase (v dist : Nat) : StepPhase :=
  { v0 := v, a := 0, dur := if v = 0 then 0 else dist * 100000 * oneP / v, dist }

/-- The phases of a move of length `len` from speed `v0` to end speed `ve` under the move's speed `vp` (R370): a fall to `vp` and on to `ve`
where it fits the length, and `v0` throughout where no peak speed exists. DEDUCED: assumption 55. -/
def movePhases (cfg : List Nat) (v0 ve vp len : Nat) : List StepPhase :=
  let fits := fun v => decide (accDist cfg v0 v + decDist cfg v ve ≤ len)
  let down := fallPhases cfg v0 vp
  let last := fallPhases cfg vp ve
  if vp < v0 && decide (phasesDist down + phasesDist last ≤ len) then
    down ++ [cruisePhase vp (len - (phasesDist down + phasesDist last))] ++ last
  else if vp < Nat.max v0 ve || !fits (Nat.max v0 ve) then [cruisePhase v0 len]
  else
    let vpk := largestIn (Nat.max v0 ve) vp fits
    let up := risePhases cfg v0 vpk
    let last := fallPhases cfg vpk ve
    up ++ [cruisePhase vpk (len - (phasesDist up + phasesDist last))] ++ last

/-- The join speed of R371 for a move of length `l1` from `v0` and a next move of length `l2`; none when no speed meets the
bounds. -/
def joinSpeed (cfg : List Nat) (v0 vp1 vp2 l1 l2 : Nat) : Option Nat :=
  let vstop := stepSpeed (cfgN cfg 7)
  let u := largestIn 0 (Nat.min vp1 vp2) (fun v => decide (decDist cfg v vstop ≤ l2))
  if v0 ≤ u then some (largestIn v0 u (fun v => decide (accDist cfg v0 v ≤ l1)))
  else if decDist cfg v0 u ≤ l1 then some u else none

/-- Distance and speed at the time `t` of a list of phases. -/
def phasesAt : List StepPhase → Nat → Nat → Nat × Nat
  | [], _, d => (d, 0)
  | p :: l, t, d =>
    if t < p.dur then
      let v := ((p.v0 : Int) + Int.fdiv (p.a * (t : Int)) 100000).toNat
      (d + (p.v0 + v) * t / (200000 * oneP), v)
    else phasesAt l (t - p.dur) (d + p.dist)

/-- The duration of a list of phases. -/
def phasesDur (l : List StepPhase) : Nat := sumN (l.map (fun p => p.dur))

/-- The end of a profile in time. -/
def profileStop (p : StepProfile) : Nat := p.t0 + phasesDur p.phases

/-- The sample of a profile at a time: position and signed speed, 16 fraction bits (R364). -/
def profileSample (p : StepProfile) (t : Nat) : Int × Int :=
  if profileStop p ≤ t then (rndP p.p1 240, 0)
  else
    let (d, v) := phasesAt p.phases (t - p.t0) 0
    let sg : Int := if p.p0 ≤ p.p1 then 1 else -1
    (rndP (p.p0 + sg * (d : Int)) 240, sg * rndP (v : Int) 240)

/-- Cosine and sine in 2^-256 of an angle in 2^-256 rad between 0 and half a turn. -/
def cosSin (x : Int) : Int × Int :=
  let x2 := mulP x x
  (trigSeries oneP 44 1 x2 (oneP : Nat), trigSeries oneP 44 2 x2 x)

/-- T of the back-off in ticks (Table 14.3): ceil(π B / (2 Vb)) with Vb in microsteps per tick. -/
def backOffTicks (b vb : Nat) : Nat := ceilDiv (piFx * b * 100000) (2 * Nat.max vb 1 * 2 ^ 200)

/-- The back-off at `t` of its `T` ticks: distance from its start and speed, 16 fraction bits (Table 14.3). -/
def backOffAt (b T t : Nat) : Nat × Nat :=
  if T ≤ t then (b * 2 ^ 16, 0)
  else
    let (c, s) := cosSin ((2 * quarterTurnP * t / T : Nat) : Int)
    ((rndP ((b : Int) * ((oneP : Int) - c)) 241).toNat,
      (rndP (Int.fdiv ((b : Int) * s * (100000 * quarterTurnP : Nat)) (T * oneP : Nat)) 240).toNat)

/-- The re-approach at `t` ticks with creep speed `vc` (microsteps/s) and ramp `tr` (ticks): distance and speed, 16 fraction
bits (Table 14.3). -/
def reApproachAt (vc tr t : Nat) : Nat × Nat :=
  if t ≤ tr then
    ((rndDiv ((vc * (2 * tr * t ^ 3 - t ^ 4) * 2 ^ 16 : Nat) : Int) (2 * tr ^ 3 * 100000)).toNat,
      (rndDiv ((vc * (3 * tr * t ^ 2 - 2 * t ^ 3) * 2 ^ 16 : Nat) : Int) (tr ^ 3)).toNat)
  else ((rndDiv ((vc * (2 * t - tr) * 2 ^ 16 : Nat) : Int) 200000).toNat, vc * 2 ^ 16)

/-- The electrical index of a sample (R374). -/
def elecIndex (p : Int) : Nat := ((Int.fdiv p (2 ^ 16 : Nat)) % 1024).toNat

/-- Entry `k` of a microstep table, 4,095 beyond it (R374). -/
def stepTable (t : Bytes) (k : Nat) : Int := if k = 256 then 4095 else ((fieldU t (2 * k) 2 : Nat) : Int)

/-- sinv(e) of R374. -/
def sinv (t : Bytes) (e : Nat) : Int :=
  let k := e % 256
  match e / 256 with
  | 0 => stepTable t k
  | 1 => stepTable t (256 - k)
  | 2 => -stepTable t k
  | _ => -stepTable t (256 - k)

/-- cosv(e) of R374. -/
def cosv (t : Bytes) (e : Nat) : Int := sinv t ((e + 256) % 1024)

/-- The unit of `demands`: what stands for one mV. -/
def demandUnit : Nat := 4095 * 1024 * 1000000 * 2 ^ 216

/-- Voltage demands uA and uB (R375), exact but for the digits of π: amplitude `i` in mA, sample speed `v` (16 fraction bits), resistance,
inductance and induced-voltage constant. -/
def demands (t : Bytes) (i rw lw ke : Nat) (e : Nat) (v : Int) : Int × Int :=
  let vr : Int := ((i * rw * 1024000 * 2 ^ 216 : Nat) : Int)
  let vq : Int := v * ((ke * 1024000 * 2 ^ 200 + 2 * piFx * lw * i : Nat) : Int)
  (vr * cosv t e - vq * sinv t e, vr * sinv t e + vq * cosv t e)

/-- The duty for a demand (R375). -/
def dutyOf (dmax vbus : Nat) (u : Int) : Nat :=
  Nat.min dmax (rndDiv ((u.natAbs * 10000 : Nat) : Int) (Nat.max vbus 1 * demandUnit)).toNat

/-- Whether index `e` lies within `h` of index `z`, around the electrical period. -/
def nearIndex (h z e : Nat) : Bool := decide ((e + 1024 - z) % 1024 ≤ h) || decide ((z + 1024 - e) % 1024 ≤ h)

/-- Whether a motion between two samples moves the commanded index across `z` (R381). -/
def crossesIndex (z : Nat) (p q : Int) : Bool :=
  let a := Int.fdiv (Int.fdiv (min p q) (2 ^ 16 : Nat) - (z : Int)) 1024
  let b := Int.fdiv (Int.fdiv (max p q) (2 ^ 16 : Nat) - (z : Int)) 1024
  a != b

/-- Whether a winding with zero crossings at `z1` and `z2` coasts in the coming tick (R381). -/
def coasts (h z1 z2 : Nat) (p q : Int) : Bool :=
  crossesIndex z1 p q || crossesIndex z2 p q || nearIndex h z1 (elecIndex q) || nearIndex h z2 (elecIndex q)

/-- The cosine of `k` - 1/2 degrees in 2^-256. -/
def cosHalfDegree (k : Nat) : Int := (cosSin ((quarterTurnP * (2 * k - 1) / 180 : Nat) : Int)).1

/-- The load angle in degrees (R382) of an induced voltage in mV at a speed (16 fraction bits) and constant Ke: the rounded
arc cosine, found by comparing the ratio with the cosine of each half degree. -/
def loadAngle (ke : Nat) (v e : Int) : Nat :=
  let den := v.natAbs * ke
  ((List.range 90).filter (fun k =>
    decide (((e.natAbs * 1000 * 2 ^ 16 * oneP : Nat) : Int) ≤ cosHalfDegree (k + 1) * (den : Int)))).length

end Sys2Proof.Machine
end

