-- ==== Sys2Proof/Machine/Stepper.lean ====
section
/-! DEFINITION. The stepper motion block: moves, retargeting, stops, homing and the work of a tick (14_recoater_axes R365–R389). -/

namespace Sys2Proof.Machine

/-- What the block reads of axis m besides its state: the tick, whether a job runs, and the objects of Table 14.6. -/
structure StepEnv where
  m : Nat
  now : Nat
  job : Bool
  enable : Bool
  cfg : List Nat
  softMin : Int
  softMax : Int
  throttleDwell : Nat
  table : Bytes
  iRun : Nat
  iHold : Nat
  delay : Nat
  rw : Nat
  lw : Nat
  ke : Nat
  vbus : Nat
  dmax : Nat
  stallOn : Bool
  stallMin : Nat
  half : Nat
  stallLimit : Nat
  stallCount : Nat
  source : Nat
  sign : Int
  search : Nat
  searchDist : Nat
  back : Nat
  backSpeed : Nat
  creep : Nat
  creepRamp : Nat
  home : Int
  debounce : Nat
  settle : Nat
  polarity : Nat
  throttle : Bool

/-- The reading of axis m. -/
def stepEnv (s : Blocks) (m : Nat) : StepEnv :=
  let i := 0x4000 + m
  { m, now := s.now, job := s.jobRuns, enable := s.objB i 0x00
    cfg := [1, 2, 3, 4, 5, 6, 7, 8].map (fun k => s.objN i k)
    softMin := s.objI i 0x09, softMax := s.objI i 0x0A, throttleDwell := s.objN i 0x0B, table := s.objT i 0x10
    iRun := s.objN i 0x11, iHold := s.objN i 0x12, delay := s.objN i 0x13, rw := s.objN i 0x14, lw := s.objN i 0x15
    ke := s.objN i 0x16, vbus := s.objN i 0x17, dmax := s.objN i 0x18, stallOn := s.objB i 0x20, stallMin := s.objN i 0x21
    half := s.objN i 0x22, stallLimit := s.objN i 0x23, stallCount := s.objN i 0x24, source := s.objN i 0x30
    sign := if s.objN i 0x31 = 0 then -1 else 1, search := s.objN i 0x32, searchDist := s.objN i 0x33, back := s.objN i 0x34
    backSpeed := s.objN i 0x35, creep := s.objN i 0x36, creepRamp := s.objN i 0x37, home := s.objI i 0x38
    debounce := s.objN i 0x39, settle := s.objN i 0x3A, polarity := s.objN i 0x3B, throttle := bit s.temp.axisThrottle m }

/-- An event of the stepper block (Table 14.5). -/
def stepEvent (m code : Nat) (sev : Severity) (detail : Bytes) : Event := mkEvent (.block 2) code sev .stepperAxis m detail

/-- Severity STOP-JOB while a job runs, and another otherwise (Table 14.5). -/
def jobSeverity (job : Bool) (other : Severity) : Severity := if job then .stopJob else other

/-- The fields of a move (Table 14.2). -/
def StepMove.isAbsolute (v : StepMove) : Bool := fieldU v.raw 0 1 == 1

/-- NOBLEND of a move. -/
def StepMove.noBlend (v : StepMove) : Bool := bit (fieldU v.raw 1 1) 0

/-- Speed of a move under the axis's maximum, in 2^-256 microstep/s. -/
def StepMove.speed (v : StepMove) (cfg : List Nat) : Nat :=
  let x := fieldU v.raw 8 4
  stepSpeed (if x = 0 then cfgN cfg 4 else x)

/-- Dwell of a move in ticks. -/
def StepMove.dwell (v : StepMove) : Nat := fieldU v.raw 12 4

/-- The target of a move that starts at a point, in 2^-256 microstep. -/
def StepMove.target (v : StepMove) (p0 : Int) : Int :=
  let x := fieldI v.raw 4 4 * (oneP : Nat)
  if v.isAbsolute then x else p0 + x

/-- Whether 16 bytes keep the ranges of Table 14.2 (R367, R368). -/
def moveWellFormed (b : Bytes) : Bool :=
  let kind := fieldU b 0 1
  b.length == 16 && (kind == 1 || kind == 2) && decide (fieldU b 1 1 ≤ 1) && fieldU b 2 2 == 0
    && decide (fieldU b 8 4 ≤ 1024000) && decide (fieldU b 12 4 ≤ 6000000) && !(kind == 2 && fieldU b 4 4 == 0)

/-- Switch `k` of an axis: 0 home, 1 negative limit, 2 positive limit. -/
def switchOn (ax : StepAxis) (k : Nat) : Bool := (getI ax.switches k).state

/-- The first condition of R369 that a move from `p0` to `p1` fails; 0 when it fails none. -/
def moveRefusal (e : StepEnv) (ax : StepAxis) (v : StepMove) (p0 p1 : Int) : Nat :=
  if v.isAbsolute && !ax.trusted then 1
  else if p1 < e.softMin * (oneP : Nat) || e.softMax * (oneP : Nat) < p1 then 2
  else if (p0 < p1 && switchOn ax 2) || (p1 < p0 && switchOn ax 1) then 3
  else 0

/-- Whether two motions run in the same direction. -/
def sameWay (p0 p1 p2 : Int) : Bool := (p0 < p1 && p1 < p2) || (p1 < p0 && p2 < p1)

/-- The join speed of a move from `p0` to `p1` with the move behind it, if the two blend (R371). -/
def blendSpeed (e : StepEnv) (ax : StepAxis) (cfg : List Nat) (v : StepMove) (p0 p1 : Int) (v0 : Nat) (q : List StepMove) :
    Option Nat :=
  match q with
  | [] => none
  | w :: _ =>
    let p2 := w.target p1
    if v.noBlend || v.dwell != 0 || e.throttle || !sameWay p0 p1 p2 || moveRefusal e ax w p1 p2 != 0 then none
    else joinSpeed cfg v0 (v.speed cfg) (w.speed cfg) (p1 - p0).natAbs (p2 - p1).natAbs

/-- A move begun from `p0` at speed `v0` and time `t0` with the objects `cfg`; `q` is the queue behind it (R370, R371). -/
def beginMove (e : StepEnv) (ax : StepAxis) (cfg : List Nat) (v : StepMove) (q : List StepMove) (p0 : Int) (v0 t0 : Nat) :
    StepAxis :=
  let p1 := v.target p0
  let vj := blendSpeed e ax cfg v p0 p1 v0 q
  let phases := movePhases cfg v0 (vj.getD (stepSpeed (cfgN cfg 7))) (v.speed cfg) (p1 - p0).natAbs
  { ax with
    st := .moving, queue := q, move := some v, joined := vj, cfg, released := false, holding := false
    motion := .profiles [{ p0, p1, t0, phases }] }

/-- MOVE_START (R369): the move at the head of the queue is checked, then begun from rest or refused. -/
def stepMoveStart (e : StepEnv) (ax : StepAxis) : StepAxis × List Event :=
  match ax.queue with
  | [] => ({ ax with st := .idle, motion := .rest, move := none }, [])
  | v :: q =>
    let p0 := fineStep ax.pos
    let c := moveRefusal e ax v p0 (v.target p0)
    if c = 0 then (beginMove e ax e.cfg v q p0 (stepSpeed (cfgN e.cfg 0)) (e.now * oneP), [])
    else ({ ax with st := .idle, queue := [], motion := .rest, move := none, cut := true },
      [stepEvent e.m 0x0E07 (jobSeverity e.job .warn) (leBytes 1 c)])

/-- Whether the move in progress has reached its target at the sample of the tick (R370). -/
def moveArrived (ax : StepAxis) : Bool :=
  match ax.motion with
  | .profiles [p] => ax.joined.isNone && fineStep ax.pos == p.p1
  | .rest => true
  | _ => false

/-- Whether a halt has come to rest at the sample of the tick (R378). -/
def haltOver (e : StepEnv) (ax : StepAxis) : Bool :=
  match ax.motion with
  | .profiles [p] => decide (profileStop p ≤ e.now * oneP)
  | .rest => true
  | _ => false

/-- MOVE_END (R370, R372, R385): the move has ended; its dwell and the throttle dwell begin, or the next move, or IDLE. -/
def stepMoveEnd (e : StepEnv) (ax : StepAxis) : StepAxis × List Event :=
  let d := ((ax.move.map (fun v => v.dwell)).getD 0) + (if e.throttle then e.throttleDwell else 0)
  let ax := { ax with moves := inc32 ax.moves, motion := .rest, move := none, restSince := e.now }
  if d = 0 then stepMoveStart e ax else ({ ax with st := .dwell, dwellEnd := e.now + d }, [])

/-- The sample of a motion for the time of tick `k` (R364, R383). -/
def motionSample (e : StepEnv) (ax : StepAxis) (k : Nat) : Int × Int :=
  match ax.motion with
  | .rest => (ax.pos, 0)
  | .profiles [] => (ax.pos, 0)
  | .profiles (p :: _) => profileSample p (k * oneP)
  | .backOff p0 start b t =>
    let (d, v) := backOffAt b t (k - start)
    (p0 - e.sign * (d : Int), -(e.sign * (v : Int)))
  | .reApproach p0 start vc tr =>
    let (d, v) := reApproachAt vc tr (k - start)
    (p0 + e.sign * (d : Int), e.sign * (v : Int))

/-- Profiles that are over at tick `k` give way to the next one, or to the move they join (R371). -/
def nextProfile (e : StepEnv) (k : Nat) : Nat → StepAxis → StepAxis
  | 0, ax => ax
  | n + 1, ax =>
    match ax.motion with
    | .profiles (p :: q :: l) =>
      if profileStop p ≤ k * oneP then nextProfile e k n { ax with motion := .profiles (q :: l) } else ax
    | .profiles [p] =>
      match ax.joined, ax.queue with
      | some vj, v :: q =>
        if profileStop p ≤ k * oneP then
          nextProfile e k n (beginMove e { ax with moves := inc32 ax.moves } e.cfg v q p.p1 vj (profileStop p))
        else ax
      | _, _ => ax
    | _ => ax

/-- A stop of R379: the position holds, the queue empties, trust is lost, and `code` is latched when it is a fault. -/
def stopAxis (e : StepEnv) (ax : StepAxis) (code : Nat) : StepAxis :=
  if ax.st == .stopped then ax
  else
    { ax with
      st := .stopped, phase := 0, motion := .rest, joined := none, move := none, queue := [], trusted := false
      latched := if code = 0 then ax.latched else code, restSince := if ax.vel = 0 then ax.restSince else e.now + 1
      posNext := ax.pos, velNext := 0, rawSeen := none, cut := true }

/-- A fall to rest from the sample of the tick at D2 and D1, without the step at Vstop (R373, R378). -/
def fallProfile (cfg : List Nat) (now : Nat) (pos vel : Int) : StepProfile :=
  let ph := fallPhases cfg (fineStep vel).natAbs 0
  let d : Int := phasesDist ph
  { p0 := fineStep pos, p1 := if 0 ≤ vel then fineStep pos + d else fineStep pos - d, t0 := now * oneP, phases := ph }

/-- HALT (R378): the axis falls to rest and its queue empties. DEDUCED: assumption 55. -/
def haltAxis (e : StepEnv) (ax : StepAxis) : StepAxis :=
  let cut := ax.cut || ax.move.isSome || !ax.queue.isEmpty
  match ax.st with
  | .idle => { ax with queue := [], cut }
  | .stopped => { ax with queue := [], cut }
  | .dwell => { ax with st := .halting, queue := [], motion := .rest, cut }
  | .halting => { ax with queue := [] }
  | _ =>
    let cfg := if ax.st == .moving then ax.cfg else e.cfg
    { ax with
      st := .halting, phase := 0, queue := [], move := none, joined := none, cut
      motion := if ax.vel = 0 then .rest else .profiles [fallProfile cfg e.now ax.pos ax.vel] }

/-- RETARGET (R373): the motion from the sample of the tick to an absolute target. -/
def retargetAxis (e : StepEnv) (ax : StepAxis) (target : Int) : StepAxis :=
  let p0 := fineStep ax.pos
  let p1 := target * (oneP : Nat)
  let v0 := (fineStep ax.vel).natAbs
  let vs := stepSpeed (cfgN e.cfg 0)
  let vstop := stepSpeed (cfgN e.cfg 7)
  let vmax := stepSpeed (cfgN e.cfg 4)
  let ahead := if 0 ≤ ax.vel then p1 - p0 else p0 - p1
  let fresh := fun (p0 : Int) (t0 : Nat) =>
    ({ p0, p1, t0, phases := movePhases e.cfg vs vstop vmax (p1 - p0).natAbs } : StepProfile)
  let motion :=
    if ax.vel = 0 then [fresh p0 (e.now * oneP)]
    else if 0 ≤ ahead && decide (decDist e.cfg v0 vstop ≤ ahead.natAbs) then
      [{ p0, p1, t0 := e.now * oneP, phases := movePhases e.cfg v0 vstop vmax ahead.natAbs }]
    else
      let f := fallProfile e.cfg e.now ax.pos ax.vel
      [f, fresh f.p1 (profileStop f)]
  { ax with
    st := .moving, queue := [], move := none, joined := none, cfg := e.cfg, holding := false
    motion := .profiles motion }

/-- HOME (R383): phase 1, or phase 2 when the source is active already. -/
def homeAxis (e : StepEnv) (ax : StepAxis) : StepAxis :=
  let ax := { ax with st := .homing, queue := [], move := none, joined := none, rawSeen := none, released := false, holding := false }
  if switchOn ax e.source then
    { ax with phase := 2, motion := .backOff ax.pos e.now e.back (backOffTicks e.back e.backSpeed) }
  else
    { ax with
      phase := 1
      motion := .profiles [{ p0 := fineStep ax.pos, p1 := fineStep ax.pos + e.sign * ((e.searchDist * oneP : Nat) : Int), t0 := e.now * oneP
                             phases := [cruisePhase (stepSpeed e.search) (e.searchDist * oneP)] }] }

/-- The set-position write (R386). -/
def setAxisPosition (ax : StepAxis) (value : Int) : StepAxis :=
  { ax with pos := value * 65536, posNext := value * 65536, trusted := true, released := false }

/-- A homing fault (R384): a stop with its event. -/
def homingFault (e : StepEnv) (ax : StepAxis) (code : Nat) (sev : Severity) (detail : Bytes) : StepAxis × List Event :=
  (stopAxis e ax code, [stepEvent e.m code sev detail])

/-- The reason for which homing fails at the sample of the tick (R384): event code and reason; none while it goes on. -/
def homingFailure (e : StepEnv) (ax : StepAxis) : Option (Nat × Nat) :=
  let sourceEdge := ax.decision.edges.contains (e.source, true)
  if ax.decision.edges.any (fun x => x.2 && x.1 != 0 && x.1 != e.source) then some (0x0E02, 0)
  else if sourceEdge then none
  else if (match ax.rawSeen with | some t => decide (t + e.settle ≤ e.now) | none => false) then some (0x0E04, 0)
  else match ax.motion with
    | .profiles (p :: _) => if fineStep ax.pos == p.p1 then some (0x0E03, 1) else none
    | .backOff _ start _ t => if start + t ≤ e.now && switchOn ax e.source then some (0x0E03, 2) else none
    | .reApproach p0 _ _ _ => if 2 * (e.back * 65536) ≤ (ax.pos - p0).natAbs then some (0x0E03, 1) else none
    | _ => none

/-- HOMING_FAILED (R384). -/
def stepHomingFailed (e : StepEnv) (ax : StepAxis) : StepAxis × List Event :=
  match homingFailure e ax with
  | none => (ax, [])
  | some (code, reason) =>
    let ax := if code = 0x0E02 then { ax with limitStops := inc32 ax.limitStops } else ax
    homingFault e ax code (if code = 0x0E02 then .stopJob else .warn) (if code = 0x0E03 then leBytes 1 reason else [])

/-- Whether a homing phase ends at the sample of the tick (Table 14.3). -/
def homingPhaseOver (e : StepEnv) (ax : StepAxis) : Bool :=
  (homingFailure e ax).isNone &&
    match ax.motion with
    | .backOff _ start _ t => decide (start + t ≤ e.now)
    | .profiles _ => ax.decision.edges.contains (e.source, true)
    | .reApproach _ _ _ _ => ax.decision.edges.contains (e.source, true)
    | .rest => false

/-- HOMING_PHASE_END (R383): the next phase, or the position set from the edge tick's sample. -/
def stepHomingPhase (e : StepEnv) (ax : StepAxis) : StepAxis × List Event :=
  if ax.phase = 1 then
    ({ ax with phase := 2, rawSeen := none
               motion := .backOff ax.pos (e.now + 1) e.back (backOffTicks e.back e.backSpeed) }, [])
  else if ax.phase = 2 then
    ({ ax with phase := 3, rawSeen := none, motion := .reApproach ax.pos e.now e.creep e.creepRamp }, [])
  else
    let edge := (getI ax.switches e.source).edgePos
    let p := ax.pos + (e.home * 65536 - edge)
    ({ ax with
       st := .idle, phase := 0, motion := .rest, pos := p, posNext := p, homeEdge := rndSar edge 16, trusted := true
       restSince := e.now + 1, rawSeen := none }, [stepEvent e.m 0x0E05 .note []])

/-- STALL (R382): the axis stops. -/
def stepStall (e : StepEnv) (ax : StepAxis) : StepAxis × List Event :=
  (stopAxis e { ax with stalls := inc32 ax.stalls } 0x0E01, [stepEvent e.m 0x0E01 .stopJob []])

/-- Whether the decisions of the tick before make both limits active (R377). -/
def bothLimits (ax : StepAxis) : Bool :=
  switchOn ax 1 && switchOn ax 2 && ax.decision.edges.any (fun x => x.2 && x.1 != 0)

/-- Whether a limit has become active in the direction of motion (R377). -/
def limitMet (ax : StepAxis) : Bool :=
  (ax.st == .moving || ax.st == .halting) &&
    ((decide (0 < ax.vel) && ax.decision.edges.contains (2, true)) || (decide (ax.vel < 0) && ax.decision.edges.contains (1, true)))

/-- What a stable edge of the limits does outside homing (R377). -/
def stepLimits (e : StepEnv) (ax : StepAxis) : StepAxis × List Event :=
  if bothLimits ax then
    (stopAxis e { ax with limitStops := inc32 ax.limitStops } 0x0E08, [stepEvent e.m 0x0E08 .stopJob []])
  else if limitMet ax then
    (stopAxis e { ax with limitStops := inc32 ax.limitStops } 0x0E02, [stepEvent e.m 0x0E02 .stopJob []])
  else (ax, [])

/-- STANDSTILL_DELAY (R375): the winding current falls to the hold current. -/
def stepStandstill (e : StepEnv) (ax : StepAxis) : StepAxis :=
  if ax.motion == .rest && decide (ax.restSince + e.delay ≤ e.now) then { ax with holding := true } else ax

/-- One sample of a switch (R376): the switch, its edge, and whether a run without a change has ended. -/
def sampleSwitch (count : Nat) (pos : Int) (w : Switch) (raw : Bool) : Switch × Bool × Bool :=
  if raw == w.state then ({ w with raw, run := 0 }, false, decide (0 < w.run))
  else
    let w := if w.run = 0 then { w with edgePos := pos } else w
    if count ≤ w.run + 1 then ({ w with raw, state := raw, run := 0 }, true, false)
    else ({ w with raw, run := w.run + 1 }, false, false)

/-- Clock 0 of a tick: every switch of an axis sampled (R365, R376); the edges form the decision of the tick. -/
def sampleSwitches (e : StepEnv) (ax : StepAxis) (pins : Nat) : StepAxis × List (Nat × Bool) :=
  forI 3 (ax, []) (fun (ax, es) k =>
    let raw := bit pins k != bit e.polarity k
    let (w, edge, chatter) := sampleSwitch e.debounce ax.pos (getI ax.switches k) raw
    let seen := if k = e.source && ax.st == .homing then
        if edge then none else if raw != w.state && ax.rawSeen.isNone then some e.now else ax.rawSeen
      else ax.rawSeen
    ({ ax with switches := updI ax.switches k (fun _ => w), chatter := if chatter then inc32 ax.chatter else ax.chatter, rawSeen := seen },
      if edge then es ++ [(k, w.state)] else es))

/-- One measurement of induced voltage (R382). -/
def measureEmf (e : StepEnv) (ax : StepAxis) (v : Int) : StepAxis :=
  let lam := loadAngle e.ke ax.vel v
  let run := if e.stallLimit ≤ lam then ax.stallRun + 1 else 0
  { ax with angle := lam, peak := Nat.max ax.peak lam, stallRun := run, stallSeen := ax.stallSeen || decide (e.stallCount ≤ run) }

/-- Whether the EMF windows of an axis are in use at a speed (R381). -/
def emfActive (e : StepEnv) (ax : StepAxis) (v : Int) : Bool :=
  e.stallOn && e.enable && !ax.released && decide (e.stallMin * 65536 ≤ v.natAbs)

/-- The boundary of a tick: the measurements of the tick before (R381, R382), then sample and duties of the new tick (R365). -/
def stepBoundary (e : StepEnv) (ax : StepAxis) (emf : Int × Int) : StepAxis :=
  let ax := { ax with stallSeen := false }
  let ax := if emfActive e ax ax.vel && (getI ax.windings 0).coast then measureEmf e ax emf.1 else ax
  let ax := if emfActive e ax ax.vel && (getI ax.windings 1).coast then measureEmf e ax emf.2 else ax
  { ax with pos := ax.posNext, vel := ax.velNext, windings := ax.windingsNext }

/-- The winding duties for the coming tick (R366, R375, R381). -/
def stepWindings (e : StepEnv) (ax : StepAxis) : StepAxis :=
  if !e.enable || ax.released then
    { ax with windingsNext := Vector.replicate 2 { duty := 0, reverse := false, coast := true } }
  else
    let (ua, ub) := demands e.table (if ax.holding then e.iHold else e.iRun) e.rw e.lw e.ke (elecIndex ax.posNext) ax.velNext
    let onNow := emfActive e ax ax.velNext
    let w := fun (u : Int) (z1 z2 : Nat) =>
      if onNow && coasts e.half z1 z2 ax.pos ax.posNext then ({ duty := 0, reverse := false, coast := true } : Winding)
      else { duty := dutyOf e.dmax e.vbus u, reverse := decide (u < 0), coast := false }
    { ax with windingsNext := #v[w ua 256 768, w ub 0 512] }

/-- What ends or begins at the sample of the tick outside homing (R369, R370, R385). -/
def stepProgress (e : StepEnv) (ax : StepAxis) : StepAxis × List Event :=
  match ax.st with
  | .moving => if moveArrived ax then stepMoveEnd e ax else (ax, [])
  | .dwell => if ax.dwellEnd ≤ e.now then stepMoveStart e ax else (ax, [])
  | .idle => if ax.queue.isEmpty || !e.enable then (ax, []) else stepMoveStart e ax
  | .halting => if haltOver e ax then ({ ax with st := .idle, motion := .rest, restSince := e.now }, []) else (ax, [])
  | _ => (ax, [])

/-- What the decisions of the tick before and the sample of the tick do (R377, R382–R384). -/
def stepReact (e : StepEnv) (ax : StepAxis) : StepAxis × List Event :=
  let (ax, e1) := if ax.decision.stall then stepStall e ax else (ax, [])
  let (ax, e2) := stepLimits e ax
  if ax.st == .homing then
    let (ax, e3) := stepHomingFailed e ax
    if ax.st == .homing && homingPhaseOver e ax then
      let (ax, e4) := stepHomingPhase e ax
      (ax, e1 ++ e2 ++ e3 ++ e4)
    else (ax, e1 ++ e2 ++ e3)
  else
    let (ax, e3) := stepProgress e ax
    (ax, e1 ++ e2 ++ e3)

/-- P2 to P4 of a tick of one axis: react, sample the coming tick, form duties and the decision of the tick (R365). -/
def stepWork (e : StepEnv) (ax : StepAxis) (pins : Nat) : StepAxis × List Event :=
  let (ax, edges) := sampleSwitches e ax pins
  let (ax, es) := stepReact e ax
  let ax := nextProfile e (e.now + 1) 20 ax
  let (p, v) := motionSample e ax (e.now + 1)
  let ax := { ax with posNext := p, velNext := v }
  let ax := stepStandstill e ax
  let ax := stepWindings e ax
  ({ ax with decision := { edges, stall := ax.stallSeen } }, es)

/-- Axis m changed by `f`. -/
def State.updStep (s : State) (m : Nat) (f : StepAxis → StepAxis) : State := { s with steps := updI s.steps m f }

/-- Axis m changed by an operation that may post events. -/
def onStep (s : State) (m : Nat) (f : StepEnv → StepAxis → StepAxis × List Event) : State :=
  let r := f (stepEnv s.toBlocks m) (getI s.steps m)
  (s.updStep m (fun _ => r.1)).postAll r.2

/-- Every stepper axis stopped under R379 (R434, R436, R498). DEDUCED: assumption 59. -/
def stopAllSteppers (s : State) : State :=
  forI 8 s (fun s m => s.updStep m (fun ax => stopAxis (stepEnv s.toBlocks m) ax 0))

/-- Every stepper axis halted (R378, R498). -/
def haltAllSteppers (s : State) : State :=
  forI 8 s (fun s m => s.updStep m (fun ax => haltAxis (stepEnv s.toBlocks m) ax))

/-- Whether an axis is at rest: IDLE or STOPPED (R496). -/
def stepAtRest (ax : StepAxis) : Bool := ax.st == .idle || ax.st == .stopped

/-- Whether a move request is accepted (R368). -/
def moveAccepted (s : Blocks) (m : Nat) : Bool :=
  let ax := getI s.steps m
  !s.jobRuns && (ax.st == .idle || ax.st == .moving || ax.st == .dwell) && decide (ax.queue.length < 16) && s.objB (0x4000 + m) 0x00

/-- Whether a retarget is accepted (R373). -/
def retargetAccepted (s : Blocks) (m : Nat) : Bool :=
  let ax := getI s.steps m
  !s.jobRuns && (ax.st == .moving || ax.st == .dwell) && ax.trusted

/-- Whether a retarget stays within the soft limits (R373). -/
def retargetInside (s : Blocks) (m : Nat) (target : Int) : Bool :=
  decide (s.objI (0x4000 + m) 0x09 ≤ target) && decide (target ≤ s.objI (0x4000 + m) 0x0A)

/-- Whether a set-position write is accepted (R386). -/
def setPositionAccepted (s : Blocks) (m : Nat) : Bool :=
  let ax := getI s.steps m
  (ax.st == .idle || ax.st == .stopped) && ax.latched == 0

/-- Whether an axis command is accepted (R380, R383, R385). DEDUCED: assumption 55. -/
def stepCommandAccepted (s : Blocks) (m v : Nat) : Bool :=
  let ax := getI s.steps m
  match v with
  | 3 => !s.jobRuns && (ax.st == .idle || ax.st == .stopped) && ax.latched == 0 && s.objB (0x4000 + m) 0x00
  | 4 => ax.st == .stopped && !(switchOn ax 1 && switchOn ax 2)
  | _ => true

/-- The effect of an axis command at its boundary (R378–R385). -/
def stepCommand (s : State) (m v : Nat) : State :=
  onStep s m (fun e ax =>
    let told := [stepEvent m 0x0E06 (jobSeverity e.job .note) []]
    match v with
    | 1 => (haltAxis e ax, told)
    | 2 => (stopAxis e ax 0, told)
    | 3 => (homeAxis e ax, [])
    | _ => ({ ax with st := .idle, latched := 0 }, []))

/-- The effect of a move request at its boundary (R368). -/
def stepEnqueue (s : State) (m : Nat) (raw : Bytes) : State :=
  s.updStep m (fun ax => { ax with queue := ax.queue ++ [{ raw }] })

/-- MOVE_START (R369): the axis is IDLE with a move in its queue, or its dwell is over. -/
def execMoveStart (m : Fin 8) (s : State) : Host.Outcome State Fault Refusal :=
  .next (onStep s m (fun e ax =>
    if ((ax.st == .idle && e.enable) || (ax.st == .dwell && decide (ax.dwellEnd ≤ e.now))) && !ax.queue.isEmpty then stepMoveStart e ax
    else (ax, [])))

/-- MOVE_END (R370). -/
def execMoveEnd (m : Fin 8) (s : State) : Host.Outcome State Fault Refusal :=
  .next (onStep s m (fun e ax => if ax.st == .moving && moveArrived ax then stepMoveEnd e ax else (ax, [])))

/-- MOVE_DWELL_END (R385). -/
def execMoveDwellEnd (m : Fin 8) (s : State) : Host.Outcome State Fault Refusal :=
  .next (onStep s m (fun e ax => if ax.st == .dwell && decide (ax.dwellEnd ≤ e.now) then stepMoveStart e ax else (ax, [])))

/-- STABLE_EDGE (R376): what a stable edge of a switch among the decisions of the tick before does (R377, R383). -/
def execStableEdge (m : Fin 8) (sw : Fin 3) (s : State) : Host.Outcome State Fault Refusal :=
  .next (onStep s m (fun e ax =>
    if ax.decision.edges.any (fun x => x.1 == sw.val) then
      let r := if ax.st == .homing then
          if homingPhaseOver e ax then stepHomingPhase e ax else stepHomingFailed e ax
        else stepLimits e ax
      ({ r.1 with decision := { r.1.decision with edges := r.1.decision.edges.filter (fun x => x.1 != sw.val) } }, r.2)
    else (ax, [])))

/-- STALL (R382). -/
def execStall (m : Fin 8) (s : State) : Host.Outcome State Fault Refusal :=
  .next (onStep s m (fun e ax => if ax.decision.stall then stepStall e { ax with decision := { ax.decision with stall := false } }
    else (ax, [])))

/-- HOMING_PHASE_END (R383). -/
def execHomingPhaseEnd (m : Fin 8) (s : State) : Host.Outcome State Fault Refusal :=
  .next (onStep s m (fun e ax => if ax.st == .homing && homingPhaseOver e ax then stepHomingPhase e ax else (ax, [])))

/-- HOMING_FAILED (R384). -/
def execHomingFailed (m : Fin 8) (s : State) : Host.Outcome State Fault Refusal :=
  .next (onStep s m (fun e ax => if ax.st == .homing then stepHomingFailed e ax else (ax, [])))

/-- STANDSTILL_DELAY (R375). -/
def execStandstillDelay (m : Fin 8) (s : State) : Host.Outcome State Fault Refusal :=
  .next (onStep s m (fun e ax => (stepStandstill e ax, [])))

end Sys2Proof.Machine
end

