-- ==== Sys2Proof/Machine/Power.lean ====
section
/-! DEFINITION. Power management: reset, the power sequence, PF_N, LPERMIT_N and the load switches
(17_thermal_and_power R430–R445; 20_startup_and_faults R489). -/

namespace Sys2Proof.Machine

/-- An event of the power manager. -/
def powerEvent (code : Nat) (sev : Severity) (kind : SourceKind) (inst : Nat) (detail : Bytes) : Event :=
  mkEvent (.block 6) code sev kind inst detail

/-- The power manager changed by `f`. -/
def State.updPower (s : State) (f : PowerState → PowerState) : State := { s with power := f s.power }

/-- A slot whose programming did not end: its content is lost, and its status is free among those of a slot that is not valid
(DESIGN CHOICE, assumption 2). DESIGN CHOICE: assumption 19. -/
def spoilSlot (s : State) (slot : Nat) : State :=
  let r := s.free
  { r.2 with flash := { r.2.flash with
    slots := updI r.2.flash.slots slot (fun _ => { bytes := [], status := [0, 2, 3, 4, 5].getD (r.1 % 5) 0, version := 0 }) } }

/-- The flash operation in progress ended with a status of Table 19.10, an upload's slot spoilt (R483). DESIGN CHOICE: assumption 19. -/
def endFlashOp (s : State) (status : Nat) : State :=
  match s.flash.op with
  | .none => s
  | .upload slot _ =>
    let s := spoilSlot s slot
    { s with flash := { s.flash with op := .none, status := status } }
  | _ => { s with flash := { s.flash with op := .none, status := status } }

/-- The device enters reset with a cause (R489): every block at its reset value, every pin in its reset state, the power-down
running; the flash, the nodes, the sequence record, the straps and the levels of PF_N, LPERMIT_N and PEER_AUTH_N stay. A pulse of RESET_N
lets the power sequence have three attempts again (R433; DESIGN CHOICE: assumption 76). DESIGN CHOICE: assumption 19. -/
def enterReset (s : State) (cause : Nat) : State :=
  let s := endFlashOp s 0
  let t := State.restart cause s.pair.unitId s.power.record { s.flash with status := 0 } s.link.nodes s.freeCtr s.pending
  { t with
    start := { t.start with inReset := true, strap := s.start.strap, testMode := s.start.testMode }
    power := { t.power with st := .down, pfLow := s.power.pfLow, permitLow := s.power.permitLow, attempts := if cause = 1 then 0 else s.power.attempts }
    temp := { t.temp with peakKept := s.temp.peak }
    pair := { t.pair with lineLow := s.pair.lineLow && !s.pair.drives } }

/-- The device starts again from start-up phase 1 (R489). -/
def leaveReset (s : State) : State :=
  { s with start := { s.start with inReset := false, phase := 1 }, power := { s.power with st := .step 1 } }

/-- Load switch k changed by `f`. -/
def State.updSwitch (s : State) (k : Nat) (f : LoadSwitch → LoadSwitch) : State :=
  s.updPower (fun p => { p with switches := updI p.switches k f })

/-- Load switch k in a new state. -/
def switchTo (s : State) (k : Nat) (st : SwitchState) : State := s.updSwitch k (fun x => { x with st, since := s.now })

/-- Whether a switch command is accepted (R439, R441). DEDUCED: assumption 56. -/
def switchAccepted (s : Blocks) (k v : Nat) : Bool :=
  let x := getI s.power.switches k
  match v with
  | 0 => true
  | 1 => x.st == .off && !(s.objB (0x2110 + k) 0x0A && safeOpen s.faults)
  | _ => x.st == .tripped

/-- The effect of a switch command at its boundary (R439, R440). DEDUCED: assumption 56. -/
def switchCommand (s : State) (k v : Nat) : State :=
  match v with
  | 1 => s.updSwitch k (fun x => { x with st := .softStart, since := s.now, retries := s.objN (0x2110 + k) 0x07 })
  | _ => switchTo s k .off

/-- The severity that an object's number names (Table 17.10 sub 0x09). -/
def sevOfNum (v : Nat) : Severity := if v = 2 then .warn else if v = 4 then .stopJob else .safe

/-- Whether a switch belongs to the start-up group in progress (R442). -/
def inGroup (s : Blocks) (k : Nat) : Bool := s.power.group != 0 && s.objN (0x2110 + k) 0x0B == s.power.group

/-- An entry to TRIPPED (R439, R440, R442): the event, and RETRY while retries are left. -/
def tripSwitch (s : State) (k reason : Nat) : State :=
  let x := getI s.power.switches k
  let s := s.updSwitch k (fun x => { x with
    st := if x.retries = 0 then .tripped else .retry, since := s.now, reason, trips := inc32 x.trips, retries := x.retries - 1 })
  let s := s.post (powerEvent 0x1106 (sevOfNum (s.objN (0x2110 + k) 0x09)) .loadSwitch k [])
  if x.retries = 0 && inGroup s.toBlocks k && !s.power.groupHalted then
    (s.updPower (fun p => { p with groupHalted := true, groupDue := none })).post (powerEvent 0x110C .warn .loadSwitch k [])
  else s

/-- Every switch whose safe-off flag is TRUE turned off: SAFE in force (R441, R498). DEDUCED: assumption 59. -/
def safeOffSwitches (s : State) : State :=
  forI 16 s (fun s k => if s.objB (0x2110 + k) 0x0A then switchTo s k .off else s)

/-- Whether every switch of the group in progress is ON (R442). -/
def groupOn (s : Blocks) : Bool :=
  allI 16 (fun k => s.objN (0x2110 + k) 0x0B != s.power.group || (getI s.power.switches k).st == .on)

/-- The next group is due once every switch of the group in progress is ON (R442). -/
def noteGroup (s : State) : State :=
  if s.power.group != 0 && s.power.group < 4 && !s.power.groupHalted && s.power.groupDue.isNone && groupOn s.toBlocks then
    s.updPower (fun p => { p with groupDue := some (s.now + s.objN 0x2100 0x10) })
  else s

/-- The switches of group g receive command 1 together (R442). DEDUCED: assumption 56. -/
def startGroup (s : State) (g : Nat) : State :=
  let s := s.updPower (fun p => { p with group := g, groupDue := none })
  let s := forI 16 s (fun s k =>
    if s.objN (0x2110 + k) 0x0B = g && switchAccepted s.toBlocks k 1 then switchCommand s k 1 else s)
  noteGroup s

/-- POWER_GOOD (R439). -/
def execPowerGood (k : Fin 16) (s : State) : Host.Outcome State Fault Refusal :=
  .next (if (getI s.power.switches k).st == .softStart then noteGroup (switchTo s k .on) else s)

/-- SOFT_START_TIMEOUT (R439). -/
def execSoftStartTimeout (k : Fin 16) (s : State) : Host.Outcome State Fault Refusal :=
  let x := getI s.power.switches k
  .next (if x.st == .softStart && decide (x.since + s.objN (0x2110 + k.val) 0x05 ≤ s.now) then tripSwitch s k 3 else s)

/-- LOAD_SWITCH_TRIP (R440): reason 2 above twice the trip current, 1 otherwise. -/
def execLoadSwitchTrip (k : Fin 16) (twice : Bool) (s : State) : Host.Outcome State Fault Refusal :=
  let x := getI s.power.switches k
  .next (if x.st == .softStart || x.st == .on then tripSwitch s k (if twice then 2 else 1) else s)

/-- RETRY_DELAY_EXPIRY (R440). -/
def execRetryDelayExpiry (k : Fin 16) (s : State) : Host.Outcome State Fault Refusal :=
  let x := getI s.power.switches k
  .next (if x.st == .retry && decide (x.since + s.objN (0x2110 + k.val) 0x08 ≤ s.now) then switchTo s k .softStart else s)

/-- START_UP_GROUP (R442). -/
def execStartUpGroup (s : State) : Host.Outcome State Fault Refusal :=
  .next (match s.power.groupDue with
    | some t => if t ≤ s.now && !s.power.groupHalted then startGroup s (s.power.group + 1) else s
    | none => s)

/-- POWER_SEQUENCE_STEP_TIMEOUT (R433). -/
def execPowerSequenceStepTimeout (rail : Fin 6) (s : State) : Host.Outcome State Fault Refusal :=
  match s.power.st with
  | .step k =>
    let n := s.power.attempts + 1
    .next (s.updPower (fun p => { p with
      st := if 3 ≤ n then .off else .retryWait, attempts := n, retried := true, record := k + 256 * rail.val + 65536 * n }))
  | _ => .next s

/-- POWER_SEQUENCE_RETRY (R433). -/
def execPowerSequenceRetry (s : State) : Host.Outcome State Fault Refusal :=
  .next (if s.power.st == .retryWait then s.updPower (fun p => { p with st := .step 1 }) else s)

/-- The open records whose present state the ring does not hold, queued for it (R436, R507). -/
def queueOpenRecords (s : State) : State :=
  ((openRecords s.faults).filter (fun r =>
    !s.flash.ring.any (fun x => x.record == r) && !s.faults.ringPending.contains r)).foldl queueRing s

/-- What an assertion of PF_N, or a VIN below 10.0 V, calls for (R434, R436, R510). DEDUCED: assumption 79. -/
def beginHoldUp (s : State) : State :=
  if s.power.pfDetected.isSome || !s.time.running then s
  else
    let s := s.updPower (fun p => { p with pfDetected := some s.now })
    let s := { s with start := { s.start with phaseOver := s.start.phaseOver || s.start.phase != 0 } }
    let s := endFlashOp (abortAllCalibrations (stopAllSteppers (setJobGates s true))) 5
    queueOpenRecords (s.post (powerEvent 0x1102 .safe .device 0 []))

/-- PF_N low (R436): the pin's level, and what its assertion calls for. -/
def assertPf (s : State) : State := beginHoldUp (s.updPower (fun p => { p with pfLow := true }))

/-- HOLD_UP_EXPIRY (R436): the power-down runs. -/
def execHoldUpExpiry (s : State) : Host.Outcome State Fault Refusal :=
  .next (match s.power.pfDetected with
    | some t => if t + s.objN 0x2100 0x0A ≤ s.now then enterReset s 2 else s
    | none => s)

/-- PF_N_RELEASE (R436): PF_N has been high for 10,000 ticks. -/
def execPfNRelease (s : State) : Host.Outcome State Fault Refusal :=
  .next (if s.start.inReset && s.start.cause == 2 then leaveReset (s.updPower (fun p => { p with pfLow := false })) else s)

/-- POWER_DOWN_END (R489): the device starts again, after a watchdog reset with 0x1406 (R490); after PF_N or a die shutdown it stays in
reset until its release condition holds. DESIGN CHOICE: assumption 76. -/
def execPowerDownEnd (s : State) : Host.Outcome State Fault Refusal :=
  .next (if s.power.st == .down && s.start.inReset then
    if s.start.cause == 5 then (leaveReset s).post (mkEvent (.core 0) 0x1406 .warn .device 0 [])
    else if s.start.cause == 0 || s.start.cause == 1 || s.start.cause == 3 then leaveReset s
    else s.updPower (fun p => { p with st := .reset })
  else s)

/-- DIE_SHUTDOWN (R430): the comparator gates the lasers, releases PEER_AUTH_N and runs the power-down. -/
def execDieShutdown (s : State) : Host.Outcome State Fault Refusal := .next (enterReset s 4)

/-- DIE_SHUTDOWN_RELEASE (R430): below 115 °C for 100,000 ticks; the restart posts 0x1107 with the peak die temperature. -/
def execDieShutdownRelease (s : State) : Host.Outcome State Fault Refusal :=
  .next (if s.start.inReset && s.start.cause == 4 then
    (leaveReset s).post (mkEvent (.block 4) 0x1107 .warn .device 0 (leBytesI 2 s.temp.peakKept)) else s)

/-- RAIL_FAULT_PERSISTS (R434): a rail is still outside its window 100 ticks later. -/
def execRailFaultPersists (s : State) : Host.Outcome State Fault Refusal :=
  .next (if anyI 6 (fun k => getI s.power.outside k && (match getI s.power.faultTick k with
      | some t => decide (t + 100 ≤ s.now)
      | none => false)) then enterReset s 0 else s)

/-- VIN_WARNING (R434): 0x110A at most once per 100,000 ticks. -/
def execVinWarning (s : State) : Host.Outcome State Fault Refusal :=
  let due := match s.power.vinPosted with
    | none => true
    | some t => decide (t + 100000 ≤ s.now)
  .next (if due then
    (s.updPower (fun p => { p with vinPosted := some s.now })).post (powerEvent 0x110A .warn .rail 0 []) else s)

/-- VAUX33 lost: an immediate hardware reset with cause 0 and every pin unpowered (R434, R489). -/
def loseVaux (s : State) : State :=
  let t := enterReset s 0
  { t with
    power := { t.power with st := .reset, record := 0, attempts := 0 }
    pins := { t.pins with outputs := .unpowered, triggers := .unpowered, zlTx := .unpowered, peerTx := .unpowered, ethTx := .unpowered } }

/-- VAUX33_LOSS (R434). -/
def execVaux33Loss (s : State) : Host.Outcome State Fault Refusal := .next (loseVaux s)

/-- A negation of LPERMIT_N (R437, R438): gate source [5], the hard-wired paths, GATE on the laser ports, calibrations and event.
DESIGN CHOICE: assumption 87. -/
def negatePermit (s : State) : State :=
  let s := s.updPower (fun p => { p with permitLow := false, permitSince := none, gate5 := true, negations := inc32 p.negations })
  let s := forI 32 (analogOff s) (fun s n => s.send (.gate n))
  let s := abortLaoCalibrations s
  s.post (powerEvent 0x1103 (if s.jobRuns then .stopJob else .warn) .device 0 [])

/-- LPERMIT_N as a tick boundary finds it (R438): a high level that has not gated the lasers yet does so (R510), and a level that is low
again begins the settle time. DEDUCED: assumption 63. -/
def samplePermit (s : State) (high : Bool) : State :=
  if high then (if s.power.permitLow || !s.power.gate5 then negatePermit s else s)
  else if s.power.permitLow then s
  else s.updPower (fun p => { p with permitLow := true, permitSince := some s.now })

/-- Gate source [5] released (R438): LPERMIT_N has been low without break for the permit settle time. DEDUCED: assumption 63. -/
def restorePermit (s : State) : State :=
  let settled := match s.power.permitSince with
    | some t => decide (t + s.objN 0x2100 0x0D ≤ s.now)
    | none => true
  if s.power.gate5 && s.power.permitLow && settled then
    (s.updPower (fun p => { p with permitSince := none, gate5 := false })).post (powerEvent 0x1104 .note .device 0 [])
  else s

/-- LPERMIT_N_NEGATED (R437). -/
def execLpermitNNegated (s : State) : Host.Outcome State Fault Refusal := .next (negatePermit s)

/-- PERMIT_RESTORED (R438). -/
def execPermitRestored (s : State) : Host.Outcome State Fault Refusal := .next (restorePermit s)

/-- Whether a rail's voltage lies in its window (Table 17.2), in mV; rails in the order of Table 17.9. DEDUCED: assumption 58. -/
def railInWindow (k mv : Nat) : Bool :=
  let w := [(10000, 13200), (3135, 3465), (1746, 1854), (776, 824), (1164, 1236), (2375, 2750)].getD k (0, 0)
  decide (w.1 ≤ mv) && decide (mv ≤ w.2)

/-- The converter readings of a tick: rails, phases, load-switch currents and outputs; a rail back in its window is outside no
more (R431, R445). DEDUCED: assumption 58. -/
def readPower (s : State) (inp : TickInputs) : State :=
  s.updPower (fun p => { p with
    rails := inp.rails, phases := inp.phases
    outside := mapI p.outside (fun k o => o && !railInWindow k (getI inp.rails k))
    faultTick := mapI p.faultTick (fun k t => if railInWindow k (getI inp.rails k) then none else t)
    switches := mapI p.switches (fun k x => { x with current := getI inp.lswCurrent k, voltage := getI inp.lswVoltage k }) })

end Sys2Proof.Machine
end

