-- ==== Sys2Proof/Machine/Rle.lean ====
section
/-! DEFINITION. The run-length engine: code words, blocks, the quality-map path and host jobs (16_rle_engine R408–R420). -/

namespace Sys2Proof.Machine

/-- A code word (R130, R408): a repeat of one value, or literal cells. -/
inductive CodeWord
  | rep (count value : Nat)
  | lit (cells : List Nat)
deriving DecidableEq, Repr

/-- The cells of a code word. -/
def wordCells (w : CodeWord) : List Nat :=
  match w with
  | .rep k v => List.replicate k v
  | .lit l => l

/-- The bytes of a code word (R408). -/
def wordBytes (w : CodeWord) : Bytes :=
  match w with
  | .rep k v => leBytes 1 (127 + k) ++ leBytes 2 v
  | .lit l => leBytes 1 (l.length - 1) ++ (l.map (leBytes 2)).flatten

/-- Length of the run of `v` at the front, at most `k`. -/
def runOf (v : Nat) : Nat → List Nat → Nat
  | 0, _ => 0
  | _, [] => 0
  | k + 1, x :: l => if x = v then 1 + runOf v k l else 0

/-- Length of the literal that begins with one cell already taken, at most `k` more (R411). -/
def litOf : Nat → List Nat → Nat
  | k + 1, x :: y :: l => if x = y then 0 else 1 + litOf k (y :: l)
  | _ + 1, [_] => 1
  | _, _ => 0

/-- The code words of a block's cells (R411); the fuel is the number of cells. -/
def compressCells : Nat → List Nat → List CodeWord
  | 0, _ => []
  | _, [] => []
  | f + 1, x :: l =>
    let r := 1 + runOf x 127 l
    if 2 ≤ r then .rep r x :: compressCells f (l.drop (r - 1))
    else
      let k := litOf 127 l
      .lit (x :: l.take k) :: compressCells f (l.drop k)

/-- The cells of a byte string (R408). -/
def cellsOf : Bytes → List Nat
  | a :: b :: l => (a.toNat + 256 * b.toNat) :: cellsOf l
  | _ => []

/-- The block of some code words: header, words, padding (R409, Table 16.1). -/
def blockOf (ws : List CodeWord) : Bytes :=
  let coded := (ws.map wordBytes).flatten
  let cells := ((ws.map wordCells).flatten.map (leBytes 2)).flatten
  leBytes 2 0x4C52 ++ leBytes 1 1 ++ leBytes 1 0 ++ leBytes 4 cells.length ++ leBytes 4 coded.length ++ leBytes 4 (crc32c cells)
    ++ coded ++ List.replicate ((4 - coded.length % 4) % 4) 0

/-- The longest run of whole leading words whose block fits in `free` bytes (R416). -/
def trimWords (free : Nat) : Nat → List CodeWord → List CodeWord
  | 0, _ => []
  | f + 1, ws => if (blockOf ws).length ≤ free then ws else trimWords free f ws.dropLast

/-- Decoding of coded data into `n` cells from byte `pos` on (R418 checks 6 to 8): the cells, or error code and place.
DEDUCED: assumption 50. -/
def decodeWords (n coded : Nat) : Nat → Nat → Nat → Bytes → List Nat → Except (Nat × Nat) (List Nat)
  | 0, pos, _, _, _ => .error (8, pos)
  | f + 1, pos, done, b, acc =>
    if coded ≤ pos then (if done = n then .ok acc else .error (8, pos))
    else
      match b with
      | [] => .error (7, pos)
      | h :: rest =>
        let k := h.toNat % 128 + 1
        let isRep := decide (128 ≤ h.toNat)
        let size := if isRep then 3 else 1 + 2 * k
        if n < done + k then .error (6, pos)
        else if coded < pos + size then .error (7, pos)
        else
          let cells := if isRep then List.replicate k (leNat (rest.take 2)) else cellsOf (rest.take (2 * k))
          decodeWords n coded f (pos + size) (done + k) (rest.drop (size - 1)) (acc ++ cells)

/-- The first block of an input (R418): its length and cells, or error code and byte offset within it. DEDUCED: assumption 50. -/
def decodeBlock (b : Bytes) : Except (Nat × Nat) (Nat × List Nat) :=
  let d := fieldU b 4 4
  let c := fieldU b 8 4
  let total := 16 + 4 * ((c + 3) / 4)
  if b.length < 16 then .error (1, 0)
  else if fieldU b 0 2 ≠ 0x4C52 then .error (2, 0)
  else if fieldU b 2 1 ≠ 1 then .error (2, 2)
  else if fieldU b 3 1 ≠ 0 then .error (3, 3)
  else if d % 2 ≠ 0 || d < 2 || 65536 < d then .error (4, 4)
  else if c < 3 || 65792 < c || b.length < total then .error (5, 8)
  else
    match decodeWords (d / 2) c (c + 1) 0 0 (slice b 16 c) [] with
    | .error e => .error (e.1, 16 + e.2)
    | .ok cells =>
      if (slice b (16 + c) (total - 16 - c)).any (fun x => x != 0) then .error (9, 16 + c)
      else if crc32c (cells.map (leBytes 2)).flatten ≠ fieldU b 12 4 then .error (10, 0)
      else .ok (total, cells)

/-- The run-length engine changed by `f`. -/
def State.updRle (s : State) (f : RleEngine → RleEngine) : State := { s with light := { s.light with rle := f s.light.rle } }

/-- An event of the run-length engine (Table 16.4). -/
def rleEvent (code : Nat) (sev : Severity) (detail : Bytes) : Event := mkEvent (.block 1) code sev .device 0 detail

/-- The failed comparisons of one block counted, with event 0x1001 for the first (R412). -/
def noteMismatch (s : State) (mismatches : Nat) : State :=
  if mismatches = 0 then s
  else (s.updRle (fun r => { r with mismatches := satU 32 (r.mismatches + Nat.min mismatches 2) })).post (rleEvent 0x1001 .note [])

/-- Whether Q46 holds an entry, which goes before host work (R414). -/
def mapWork (s : Blocks) : Bool := !s.melt.q46.isEmpty

/-- Bytes of some entries of Q47. -/
def blockBytes (l : List MapBlock) : Nat := sumN (l.map (fun e => e.data.length))

/-- The entry at the front of Q46 turned into one block of Q47 (R412, R413): where it does not fit the engine waits (R29); after a second
failure the rest of its map is discarded. -/
def compressMap (s : State) (mismatches : Nat) : State :=
  match s.melt.q46 with
  | [] => s
  | e :: rest =>
    let block := blockOf (compressCells e.cells.length e.cells)
    if 524288 < blockBytes s.melt.q47 + block.length then noteStall s 47 true false
    else
      let s := noteMismatch (noteStall s 47 false false) mismatches
      if 2 ≤ mismatches then
        let lost := s.melt.closing.filter (fun c => c.serial == e.serial)
        (s.updMeltState (fun x => { x with
          closing := x.closing.filter (fun c => c.serial != e.serial), q46 := rest.filter (fun d => d.serial != e.serial) })).postAll
          (lost.map (fun c => mkEvent (.block 1) 0x1002 .warn .layerPackage 0 (leBytes 4 c.map.layer)))
      else
        (s.updMeltState (fun x => { x with q46 := rest, q47 := x.q47 ++ [{ serial := e.serial, plane := e.plane, data := block }] })).updRle
          (fun r => { r with mapBlocks := inc32 r.mapBlocks })

/-- `k` entries of the map path run through the engine and taken back. -/
def drainMap : Nat → State → State
  | 0, s => s
  | k + 1, s => drainMap k (feedMaps (takeBlocks (compressMap s 0)))

/-- The oldest closed map finished where its 100,000 ticks are over (R277, R414). DESIGN CHOICE: assumption 45. -/
def forceMaps (s : State) : State :=
  match s.melt.closing with
  | c :: _ =>
    if c.since + 100000 ≤ s.now then replacePlanes (drainMap (s.melt.q46.length + c.todo.length) (feedMaps (takeBlocks s))) else s
  | [] => s

/-- A host job ended in error (R418): code, input offset, event 0x1003. DEDUCED: assumption 50. -/
def jobError (s : State) (code offset : Nat) : State :=
  (s.updRle (fun r => { r with st := .error, errorCode := code, errorOffset := offset })).post (rleEvent 0x1003 .note [])

/-- A block of a host job written to the output (R416, R417): DONE once the input is used up. -/
def rleWrite (r : RleEngine) (out : Bytes) (used total : Nat) : RleEngine :=
  { r with output := r.output ++ out, consumed := r.consumed + used, blocksRun := inc32 r.blocksRun
           hostBlocks := inc32 r.hostBlocks, st := if total ≤ r.consumed + used then .done else r.st }

/-- One block of a compression job (R412, R416). DEDUCED: assumption 50. -/
def compressHost (s : State) (mismatches : Nat) : State :=
  let r := s.light.rle
  let input := s.objT 0x4200 0x02
  let cells := (cellsOf (input.drop r.consumed)).take (s.objN 0x4200 0x04)
  let s := noteMismatch s mismatches
  if 2 ≤ mismatches then jobError (s.post (rleEvent 0x1002 .warn [])) 12 r.consumed
  else
    let ws := compressCells cells.length cells
    let free := s.objN 0x4200 0x03 - r.output.length
    let fit := trimWords free ws.length ws
    let used := 2 * ((fit.map wordCells).flatten).length
    if fit.isEmpty then s.updRle (fun r => { r with st := .full })
    else if fit.length < ws.length then s.updRle (fun r => { rleWrite r (blockOf fit) used input.length with st := .full })
    else s.updRle (fun r => rleWrite r (blockOf fit) used input.length)

/-- One block of a decompression job (R417, R418). DEDUCED: assumption 50. -/
def decompressHost (s : State) : State :=
  let r := s.light.rle
  let input := s.objT 0x4200 0x02
  match decodeBlock (input.drop r.consumed) with
  | .error e => (jobError s e.1 (r.consumed + e.2)).updRle (fun r => { r with rejected := inc32 r.rejected })
  | .ok (n, cells) =>
    if s.objN 0x4200 0x03 < r.output.length + 2 * cells.length then s.updRle (fun r => { r with st := .full })
    else s.updRle (fun r => rleWrite r (cells.map (leBytes 2)).flatten n input.length)

/-- One block of the host job (R414, R416–R418): only while it runs and the map path has none. -/
def rleStep (s : State) (mismatches : Nat) (uncorrectable : Bool) : State :=
  let r := s.light.rle
  if r.st != .running || mapWork s.toBlocks then s
  else if uncorrectable then jobError s 11 r.consumed
  else if s.objN 0x4200 0x01 == 0 then compressHost s mismatches
  else decompressHost s

/-- Whether a host job is loaded: the engine counts as running (R414, Table 3.5). -/
def rleLoaded (s : Blocks) : Bool := s.light.rle.st != .empty

/-- Result code of a job command in the present state (Table 16.2); 0 where it is accepted. -/
def rleCode (s : Blocks) (v : Nat) : Nat :=
  let n := (s.objT 0x4200 0x02).length
  match v, s.light.rle.st with
  | 1, .empty => if n = 0 || (s.objN 0x4200 0x01 == 0 && n % 2 == 1) then 0x03010003 else 0
  | 2, .full => 0
  | 3, .empty => 0x04010001
  | 3, _ => 0
  | _, _ => 0x04010001

/-- The effect of an accepted job command at its boundary (R415, R416). -/
def rleCommand (s : State) (v : Nat) : State :=
  s.updRle (fun r =>
    if v = 1 then { r with st := .running, consumed := 0, output := [], errorCode := 0, errorOffset := 0, blocksRun := 0 }
    else if v = 2 then { r with st := .running, output := [], blocksRun := 0 }
    else { r with st := .empty })

/-- MAP_BLOCK_COMPRESS (R413). -/
def execMapBlockCompress (mismatches : Nat) (s : State) : Host.Outcome State Fault Refusal := .next (compressMap s mismatches)

/-- RLE_BLOCK (R416, R417). -/
def execRleBlock (mismatches : Nat) (uncorrectable : Bool) (s : State) : Host.Outcome State Fault Refusal :=
  .next (rleStep s mismatches uncorrectable)

end Sys2Proof.Machine
end

