-- ==== Sys2Proof/Machine/Timebase.lean ====
section
/-! DEFINITION. The timebase: 802.1AS messages, states of Table 2.3, steps of local time, and overrun counting
(02_tick_and_timebase R49–R62). -/

namespace Sys2Proof.Machine

/-- The code of an event that its chapter leaves without one (DESIGN CHOICE, assumption 4). -/
def openCode (k : Nat) : Nat := Config.openCode k % 2 ^ 16

/-- Whether the device runs a time-aware end station on port `p` (R50, Table 2.5). -/
def gptpOn (s : Blocks) (p : Nat) : Bool := s.objN 0x2000 0x00 == 1 && bit (s.objN 0x2000 0x06) p

/-- The timebase changed by `f`. -/
def State.updTime (s : State) (f : TimeState → TimeState) : State := { s with time := f s.time }

/-- A NOTE or WARN event of the timebase, run on CC1. -/
def timeEvent (k : Nat) (sev : Severity) (detail : Bytes) : Event := mkEvent (.core 1) (openCode k) sev .device 0 detail

/-- The fields of an Announce in the order in which best master selection compares them (IEEE 802.1AS; PRESUMED, assumption 5). -/
def announceRank (a : Announce) : List Nat :=
  [a.priority1, a.clockClass, a.accuracy, a.variance, a.priority2, a.identity, a.stepsRemoved, a.port.val]

/-- Whether one list of numbers comes before another at the first place where they differ. -/
def lexLess : List Nat → List Nat → Bool
  | x :: l, y :: m => decide (x < y) || (x == y && lexLess l m)
  | _, _ => false

/-- The better of two Announces. PRESUMED: assumption 5. -/
def betterAnnounce (a b : Option Announce) : Option Announce :=
  match a, b with
  | some x, some y => if lexLess (announceRank y) (announceRank x) then some y else some x
  | some x, none => some x
  | none, y => y

/-- Best master selection over the Announces held (R50): slave port and grandmaster. -/
def selectMaster (t : TimeState) : TimeState :=
  match betterAnnounce (getI t.announces 0) (getI t.announces 1) with
  | none => { t with slave := none, gm := 0 }
  | some a => { t with slave := some a.port, gm := a.identity, syncTick := if t.slave == some a.port then t.syncTick else t.ticks }

/-- The timebase left without Syncs or without a slave port (Table 2.3). -/
def loseSync (s : State) : State :=
  match s.time.tb with
  | .acquire => s.updTime (fun t => { t with tb := .free })
  | .locked => (s.updTime (fun t => { t with tb := .holdover, holdoverStart := t.ticks })).post (timeEvent 2 .warn [])
  | _ => s

/-- The Announce of port `p` replaced, the slave port chosen again, and the consequence when none is left (R52). -/
def setAnnounce (s : State) (p : Nat) (a : Option Announce) : State :=
  let s := s.updTime (fun t => selectMaster { t with announces := updI t.announces p (fun _ => a) })
  if s.time.slave.isNone then loseSync s else s

/-- One state step of Table 2.3 for a Sync with an offset, inside and far outside the lock window. -/
def syncState (s : State) (inside far : Bool) : State :=
  match s.time.tb with
  | .free => s.updTime (fun t => { t with tb := .acquire, inWindow := 0 })
  | .acquire =>
    let k := if inside then s.time.inWindow + 1 else 0
    if 16 ≤ k then (s.updTime (fun t => { t with tb := .locked, inWindow := 0, outWindow := 0 })).post (timeEvent 0 .note [])
    else s.updTime (fun t => { t with inWindow := k })
  | .locked =>
    let k := if far then s.time.outWindow + 1 else 0
    if 4 ≤ k then (s.updTime (fun t => { t with tb := .acquire, inWindow := 0, outWindow := 0 })).post (timeEvent 1 .warn [])
    else s.updTime (fun t => { t with outWindow := k })
  | .holdover => (s.updTime (fun t => { t with tb := .acquire, inWindow := 0 })).post (timeEvent 3 .note [])

/-- PLL steering (R53): the tuning that the device chooses is free within the limits it keeps, of which the rate binds first where both
cannot hold; the tuning that matches the grandmaster's frequency is free (PRESUMED, assumption 5). DESIGN CHOICE: assumption 2.
DEDUCED: assumption 62. -/
def steer (s : State) : State :=
  let wish := Config.freeInt s.freeCtr
  let s := { s with freeCtr := s.freeCtr + 1 }
  let span : Int := (((s.now - s.time.tuned) / 100 : Nat) : Int)
  let match_ := Config.gmTuning s.freeCtr
  let t := if s.jobRuns then clampI (s.time.tuning - span) (s.time.tuning + span) (clampI (match_ - 100000) (match_ + 100000) wish) else wish
  s.updTime (fun x => { x with tuning := clampI (-200000) 200000 t, tuned := x.ticks })

/-- The local time of the next tick boundary without a step (R42): the next multiple of 10,000, which is 0 once local time wraps (R41). -/
def nextBoundary (t : TimeState) : Nat :=
  let x := (t.boundary / 10000 + 1) * 10000
  if x < 2 ^ 64 then x else 0

/-- A Sync on the slave port: its offset, the state of Table 2.3, then a step of an idle device or steering (R51–R53). -/
def syncOffset (s : State) (port rxLocal gmTime : Nat) : State :=
  let off : Int := (rxLocal : Int) - ((gmTime + getI s.time.linkDelay port : Nat) : Int)
  let mag := off.natAbs
  let w := s.objN 0x2000 0x05
  let s := s.updTime (fun t => { t with offset := off, syncTick := t.ticks })
  let s := syncState s (decide (mag ≤ w)) (decide (4 * w < mag))
  if !s.jobRuns && decide (s.objN 0x2000 0x04 < mag) then
    s.updTime (fun t => { t with step := some (((nextBoundary t : Int) - off) % (2 ^ 64 : Nat)).toNat })
  else steer s

/-- The tick boundary itself: local time, ticks since start, and a step that is due (R41, R42, R54). The count of steps wraps.
DESIGN CHOICE: assumption 88. -/
def advanceTime (s : State) : State :=
  let old := nextBoundary s.time
  let now := s.time.ticks + 1
  match s.time.step with
  | none => s.updTime (fun t => { t with boundary := old, clock := 0, ticks := now })
  | some x =>
    (s.updTime (fun t => { t with
      boundary := x % 2 ^ 64, clock := 0, ticks := now, step := none, stepCount := (t.stepCount + 1) % 2 ^ 32 })).post
      (timeEvent 5 .note (leBytes 8 old ++ leBytes 8 x))

/-- Whether the event of an overrun source may be posted (R59). DEDUCED: assumption 83. -/
def overrunDue (s : Blocks) (src : Nat) : Bool :=
  match getI s.time.overrunPosted src with
  | none => true
  | some t => decide (t + 1000 ≤ s.now)

/-- An overrun counted, and its event posted or kept back (R59): `src` numbers the source, `cnt` its count in 0x2002.
DEDUCED: assumption 22. -/
def noteOverrun (s : State) (src cnt : Nat) (e : Nat → Event) : State :=
  let s := s.updTime (fun t => { t with overruns := updI t.overruns cnt inc32 })
  if overrunDue s.toBlocks src then
    let kept := getI s.time.overrunUnposted src
    (s.updTime (fun t => { t with
      overrunPosted := updI t.overrunPosted src (fun _ => some t.ticks)
      overrunUnposted := updI t.overrunUnposted src (fun _ => 0) })).post (e kept)
  else s.updTime (fun t => { t with overrunUnposted := updI t.overrunUnposted src (· + 1) })

/-- Whether an Announce may be held on port p: the port is enabled and the Announce is of the domain in force (R50).
DESIGN CHOICE: assumption 88. -/
def announceStands (s : Blocks) (p : Nat) (a : Announce) : Bool := gptpOn s p && a.domain == s.objN 0x2000 0x02

/-- The state after the values of a boundary are in force: with the crystal selected the state is FREE (R52), and a port that is
not enabled, or whose Announce is of another domain, has no Announce (R50). DESIGN CHOICE: assumption 88. -/
def settleSource (s : State) : State :=
  if s.objN 0x2000 0x00 == 0 then
    s.updTime (fun t => { t with tb := .free, slave := none, gm := 0, announces := Vector.replicate 2 none, offset := 0 })
  else forI 2 s (fun s p =>
    match getI s.time.announces p with
    | some a => if announceStands s.toBlocks p a then s else setAnnounce s p none
    | none => s)

/-- Pdelay_Req on each enabled port at the standard's interval of 1 s (R50; PRESUMED, assumption 5). -/
def sendPdelay (s : State) : State :=
  if s.now % 100000 != 0 then s
  else forI 2 s (fun s p =>
    if gptpOn s.toBlocks p && (getI s.host.ports p).linkUp then
      (countSent (s.send (.pdelayRequest (Fin.ofNat 2 p) (getI s.time.pdelayOut p))) p).updTime
        (fun t => { t with pdelayOut := updI t.pdelayOut p (fun x => (x + 1) % 2 ^ 16) })
    else s)

/-- A gPTP frame received on port p (R50, Table 4.9 sub 0x14). -/
def gptpFrame (s : State) (p : Nat) (run : State → State) : State :=
  let s := countReceived s p
  if gptpOn s.toBlocks p then run s else s

/-- SYNC_RECEIVED (R52). -/
def execSyncReceived (port : Fin 2) (rxLocal gmTime : Nat) (s : State) : Host.Outcome State Fault Refusal :=
  .next (gptpFrame s port (fun s => if s.time.slave == some port then syncOffset s port rxLocal gmTime else s))

/-- ANNOUNCE_RECEIVED (R50). -/
def execAnnounceReceived (a : Announce) (s : State) : Host.Outcome State Fault Refusal :=
  .next (gptpFrame s a.port (fun s =>
    if announceStands s.toBlocks a.port a && (getI s.host.ports a.port).linkUp && decide (a.stepsRemoved < 255) then
      setAnnounce s a.port (some a) else s))

/-- PDELAY_REQ_RECEIVED (R50): Pdelay_Resp, then Pdelay_Resp_Follow_Up (Table 2.2). -/
def execPdelayReqReceived (port : Fin 2) (sequence : Nat) (s : State) : Host.Outcome State Fault Refusal :=
  .next (gptpFrame s port (fun s =>
    countSent ((countSent (s.send (.pdelayResponse port sequence)) port).send (.pdelayFollowUp port sequence)) port))

/-- PDELAY_RESP_RECEIVED (R50): the mean link delay from the four timestamps (IEEE 802.1AS; PRESUMED, assumption 5). -/
def execPdelayRespReceived (port : Fin 2) (t1 t2 t3 t4 : Nat) (s : State) : Host.Outcome State Fault Refusal :=
  .next (gptpFrame s port (fun s =>
    s.updTime (fun t => { t with linkDelay := updI t.linkDelay port (fun _ => ((t4 - t1) - (t3 - t2)) / 2) })))

/-- Three Sync intervals of 125 ms without a Sync, since the last one or since the slave port was selected (R52); the Announce of the slave
port ages with them (PRESUMED, assumption 5). -/
def syncTimeout (s : State) : State :=
  match s.time.slave with
  | none => s
  | some p => if s.time.syncTick + 37500 ≤ s.now then loseSync (setAnnounce s p none) else s

/-- The holdover limit is over (R52). -/
def holdoverExpire (s : State) : State :=
  let limit := s.objN 0x2000 0x03
  if s.time.tb == .holdover && limit != 0 && decide (s.time.holdoverStart + limit ≤ s.now) then
    (s.updTime (fun t => { t with tb := .free })).post (timeEvent 4 .warn [])
  else s

/-- SYNC_RECEIPT_TIMEOUT (R52). PRESUMED: assumption 5. -/
def execSyncReceiptTimeout (s : State) : Host.Outcome State Fault Refusal := .next (syncTimeout s)

/-- HOLDOVER_LIMIT_EXPIRY (R52). -/
def execHoldoverLimitExpiry (s : State) : Host.Outcome State Fault Refusal := .next (holdoverExpire s)

end Sys2Proof.Machine
end

