-- ==== Sys2Proof/Machine/Zl.lean ====
section
/-! DEFINITION. The Zhomon Link ports of the device (12_zhomon_link R296–R333). -/

namespace Sys2Proof.Machine

/-- Port p changed by `f`. -/
def State.updPort (s : State) (p : Nat) (f : ZlPort → ZlPort) : State := { s with link := { s.link with ports := updI s.link.ports p f } }

/-- What the device holds of the nodes of channel n, changed by `f`. -/
def State.updLaser (s : State) (n : Nat) (f : LaserNode → LaserNode) : State :=
  { s with link := { s.link with lasers := updI s.link.lasers n f } }

/-- The claim of this unit (Table 13.2). -/
def claimOf (s : Blocks) : Nat :=
  let u := s.pair.unitId
  match s.pair.st with
  | .single => 0xC0 + u
  | .active => 0x60 + u
  | .standby => 0x20 + u
  | .alone =>
    if s.objN 0x2400 0x01 == 0 then 0x60 + u
    else if s.objN 0x2400 0x02 == u then 0xC0 + u else 0x80 + u
  | _ => u

/-- Whether the unit sends slot 1 frames (R336, R354). -/
def slot1Allowed (s : Blocks) : Bool :=
  (s.pair.st == .single || s.pair.st == .active || s.pair.st == .standby || s.pair.st == .alone) && !s.work.localFault

/-- The sequence of a frame of slot `k` in the tick (R304). -/
def zlSequence (count k : Nat) : Nat := (4 * count + k) % 2 ^ 32

/-- A device frame (Table 12.2); SOF is held as 0xFB, the byte of K27.7 (DESIGN CHOICE, assumption 21). -/
def zlFrame (s : Blocks) (address type sequence : Nat) (payload : Bytes) : Bytes :=
  let body := leBytes 1 address ++ leBytes 1 type ++ leBytes 1 s.pair.unitId ++ leBytes 4 sequence ++ leBytes 1 (claimOf s) ++ leBytes 3 0
    ++ padTo 48 payload
  0xFB :: body ++ leBytes 4 (crc32c body)

/-- An event of a port (Table 12.14) under the rate of R331. DEDUCED: assumption 83. -/
def portPost (s : State) (p code : Nat) (sev : Severity) : State :=
  let x := getI s.link.ports p
  let due := match x.posted.find? (fun e => e.1 == code) with
    | some e => decide (e.2 + 1000 ≤ s.now)
    | none => true
  if due then
    (s.updPort p (fun x => { x with posted := (code, s.now) :: x.posted.filter (fun e => e.1 != code) })).post
      (mkEvent (.zl p) code sev .zlPort p [])
  else s

/-- Whether a port holds credit for a frame (R307). -/
def hasCredit (x : ZlPort) : Bool := decide ((x.sentMod + 256 - x.freedMod) % 256 < 16)

/-- One frame sent on a port (R307). -/
def sendZl (s : State) (p : Nat) (frame : Bytes) : State :=
  (s.updPort p (fun x => { x with
    sentMod := (x.sentMod + 1) % 256, counts := { x.counts with sent := (x.counts.sent + 1) % 2 ^ 32 } })).send (.zlFrame p frame)

/-- A unit-local fault while in lockstep (R354): LOCAL_FAULT from P3 of this tick. -/
def localFault (s : State) : State :=
  if s.pair.st == .active || s.pair.st == .standby then { s with work := { s.work with localFault := true } } else s

/-- The P3 overrun of port p (Table 2.4, R59). -/
def overrunPort (s : State) (p : Nat) : State :=
  let s := s.updPort p (fun x => { x with late := true })
  localFault (noteOverrun s (24 + p) 24 (fun k => mkEvent (.zl p) (openCode 8) .stopJob .zlPort p (leBytes 4 k)))

/-- A tick frame without credit at the close of its window (R308). -/
def creditStall (s : State) (p slot : Nat) : State :=
  let s := s.updPort p (fun x => { x with
    stalled := setBit x.stalled slot true, counts := { x.counts with stalls := inc32 x.counts.stalls } })
  let s := portPost s p 0x0C06 .warn
  if slot == 1 then overrunPort s p else s

/-- A port in a new state; what belongs to an earlier training is dropped (R307, R318). -/
def toPort (s : State) (p : Nat) (st : PortState) : State :=
  s.updPort p (fun x => { x with
    st, since := s.now, step := .none, svc := none, slot0 := none, answered := false, missRun := 0, stalled := 0
    sentMod := 0, freedMod := 0, freed := 0, reqStatus := if x.reqStatus == 1 then 3 else x.reqStatus })

/-- A port that goes DOWN from UP (Table 12.12, event 0x0C01). DEDUCED: assumption 53. -/
def linkDown (s : State) (p : Nat) : State :=
  let s := s.updPort p (fun x => { x with counts := { x.counts with downs := inc32 x.counts.downs } })
  portPost (toPort s p .down) p 0x0C01 .warn

/-- Bring-up failed (Table 12.12, event 0x0C04). -/
def bringUpFailed (s : State) (p : Nat) : State := portPost (toPort s p .down) p 0x0C04 .warn

/-- A check of R320 failed (event 0x0C03). -/
def nodeMismatch (s : State) (p : Nat) : State := portPost (toPort s p .mismatch) p 0x0C03 .warn

/-- The payload of the slot 0 request (Table 12.5). DEDUCED: assumption 53. -/
def requestPayload (s : Blocks) (p : Nat) : Bytes :=
  leBytes 2 (s.tickCount % 65536) ++ leBytes 1 (if p < 32 then 0 else maskOf 3 (fun q => axisEnabled s (3 * (p - 32) + q)))

/-- The ordered sets of port p at a tick boundary (R299, R307, R437, Tables 12.1 and 12.12): TS1 in TRAIN; in ENUM and UP TICK, GATE right
after it while gate source [5] is set, and CREDIT. DESIGN CHOICE: assumption 87. -/
def orderedSets (s : State) (p : Nat) : State :=
  let x := getI s.link.ports p
  if x.st == .enum || x.st == .up then
    let s := s.send (.zlTick p (s.tickCount % 65536))
    let s := if decide (p < 32) && s.power.gate5 then s.send (.gate p) else s
    s.send (.zlCredit p x.freed)
  else if x.st == .train then s.send (.zlTraining p s.pair.unitId)
  else s

/-- P0: the slot 0 request of port p, and its response awaited (R221, R302, R304, R305, R308, R311). -/
def slot0Frame (s : State) (p : Nat) : State :=
  let x := getI s.link.ports p
  let q := zlSequence s.tickCount 0
  if x.st != .up then s.updPort p (fun x => { x with slot0 := none, answered := false })
  else
    let f := zlFrame s.toBlocks p (if p < 32 then 0x11 else 0x01) q (requestPayload s.toBlocks p)
    let s := s.updPort p (fun x => { x with frame0 := f, stalled := 0, slot0 := if hasCredit x then some q else none, answered := false })
    if hasCredit x then sendZl s p f else creditStall s p 0

/-- The axes of scanner n that carry current (Table 12.7 offset 20). -/
def driveMask (s : Blocks) (n : Nat) : Nat := maskOf 3 (fun q => (getI s.axes (3 * n + q)).loop != .opened)

/-- The command payload of slot 1 (Tables 12.7, 12.9). -/
def commandPayload (s : Blocks) (p : Nat) : Bytes :=
  let target := leBytes 2 ((s.tickCount + 1) % 65536)
  if p < 32 then
    let k := (getI s.scan.chans p).cmdNext
    target ++ leBytes 2 k.start ++ leBytes 1 k.events.length ++ leBytes 1 0
      ++ k.events.flatMap (fun e => leBytes 2 e.offset ++ leBytes 2 e.power)
  else
    let n := p - 32
    target ++ (List.range 3).flatMap (fun q =>
      let ax := getI s.axes (3 * n + q)
      leBytesI 2 (if ax.loop == .opened then 0 else ax.u)) ++ leBytes 1 (driveMask s n)

/-- P3: the slot 1 command of port p (R308, R313, R315), sent unless R336 or R354 suppresses it. -/
def slot1Frame (s : State) (p : Nat) : State :=
  let x := getI s.link.ports p
  if x.st != .up then s
  else
    let f := zlFrame s.toBlocks p (if p < 32 then 0x12 else 0x02) (zlSequence s.tickCount 1) (commandPayload s.toBlocks p)
    let s := s.updPort p (fun x => { x with frame1 := f })
    if !slot1Allowed s.toBlocks then s
    else if hasCredit x then sendZl s p f
    else creditStall s p 1

/-- The service frame that a step of the bring-up or a request needs: type and payload (Table 12.10, R320, R332). -/
def servicePayload (s : Blocks) (p : Nat) : Option (Nat × Bytes) :=
  let x := getI s.link.ports p
  match x.step with
  | .none => none
  | .enumerate => some (0x21, leBytes 1 p ++ leBytes 1 1)
  | .echo _ _ => some (0x25, [])
  | .config item =>
    let w := fun (len v : Nat) => some (0x22, leBytes 2 item ++ leBytes 1 len ++ leBytes 1 0 ++ leBytes len v)
    if item == 0x0002 then w 4 x.info.delay
    else if item == 0x0003 then w 2 (s.objN (0x5000 + p) 0x02)
    else if item == 0x0004 then w 1 (maskOf 3 (fun q => axisEnabled s (3 * (p - 32) + q)))
    else w 1 1
  | .acknowledged => none
  | .request =>
    let t := fieldU x.reqData 0 1
    some (t, if t == 0x22 then slice x.reqData 2 2 ++ slice x.reqData 1 1 ++ leBytes 1 0 ++ slice x.reqData 8 32 else slice x.reqData 2 2)

/-- A service frame sent in slot 2 of the tick, `sends` times by now, after those with the sequences `sent` (R316). -/
def sendService (s : State) (p sends : Nat) (sent : List Nat) : State :=
  match servicePayload s.toBlocks p with
  | none => s
  | some (t, b) =>
    let q := zlSequence s.tickCount 2
    (sendZl s p (zlFrame s.toBlocks (if t == 0x21 then 0xFF else p) t q b)).updPort p (fun x => { x with svc := some { sequences := q :: sent, sentTick := s.now, sends, due := false } })

/-- P4: the service frame of port p, one per tick (R316, R320), the first time or again; none where the port has overrun its P3
(Table 2.4) or holds no credit (R307). -/
def slot2Frame (s : State) (p : Nat) : State :=
  let x := getI s.link.ports p
  if !x.late && (x.st == .enum || x.st == .up) && x.step != .none && hasCredit x then
    match x.svc with
    | none => sendService s p 1 []
    | some r => if r.due then sendService s p (r.sends + 1) r.sequences else s
  else s

/-- Why a node frame that answers a request, sent with one of the sequences `want` and not yet answered, is not valid (R302): 0 valid,
1 code error, 2 CRC, 3 other. -/
def frameFault (p : Nat) (want : List Nat) (h : NodeHead) : Nat :=
  if h.codeError then 1
  else if !h.crcOk then 2
  else if want.contains h.sequence && h.address == p && h.reservedZero then 0
  else 3

/-- A frame freed from the port's buffer, its CREDIT sent in the next gap (R307), and counted by its verdict; a valid one leaves its echo (Table 12.15).
DESIGN CHOICE: assumption 87. -/
def countFrame (s : State) (p fault : Nat) (h : NodeHead) : State :=
  (s.send (.zlCredit p (((getI s.link.ports p).freed + 1) % 256))).updPort p (fun x =>
    let x := { x with freed := (x.freed + 1) % 256 }
    let c := x.counts
    if fault == 0 then { x with echoUnit := h.unit, echoClaim := h.claim, counts := { c with valid := (c.valid + 1) % 2 ^ 32 } }
    else if fault == 1 then { x with counts := { c with code := inc32 c.code } }
    else if fault == 2 then { x with counts := { c with crc := inc32 c.crc } }
    else { x with counts := { c with other := inc32 c.other } })

/-- Node temperature and missed-command count of a valid response; event 0x0C07 when the count rose (Table 12.14). -/
def noteNode (s : State) (p : Nat) (temperature : Int) (missed : Nat) : State :=
  let x := getI s.link.ports p
  let rose := x.missedKnown && decide (0 < (missed + 65536 - x.missedCount) % 65536) && decide ((missed + 65536 - x.missedCount) % 65536 < 32768)
  let s := s.updPort p (fun x => { x with
    temperature, missedCount := missed, missedKnown := true, missedPosted := x.missedPosted || rose, slot0 := none, answered := true })
  if rose && !x.missedPosted then portPost s p 0x0C07 .note else s

/-- The condition of R327 on channel n: reason 1 to 5, or 0; only a disabled port has no condition. -/
def nodeReason (s : Blocks) (n : Nat) : Nat :=
  if (getI s.link.ports n).st == .disabled then 0
  else match (getI s.link.lasers n).status with
    | none => 5
    | some b => if bit b 1 then 1 else if bit b 2 then 2 else if bit b 3 then 3 else if bit b 0 then 0 else 4

/-- The condition of R328 on channel n: amplifier status nonzero while an axis of the scanner has a running loop. -/
def ampFault (s : Blocks) (n : Nat) : Bool :=
  (match (getI s.link.lasers n).amp with
    | some a => a % 16 != 0
    | none => false) && anyI 3 (fun q => axisActive (getI s.axes (3 * n + q)))

/-- Whether tick m is clean for channel n (R329). -/
def cleanTick (s : Blocks) (n : Nat) : Bool :=
  nodeReason s n == 0 && ((getI s.link.ports n).st == .disabled || (getI s.link.lasers n).status.isSome)
    && (match (getI s.link.lasers n).amp with
    | some a => a % 16 == 0
    | none => false)

/-- Clock 3,000: what the reports of the nodes of channel n call for (R327–R329, R190). -/
def nodeReports (s : State) (n : Nat) : State :=
  let reason := nodeReason s.toBlocks n
  let amp := ampFault s.toBlocks n
  let set := (getI s.scan.chans n).gates.node
  let clean := cleanTick s.toBlocks n
  let s := s.updLaser n (fun x => { x with
    reason := if reason != 0 then reason else if amp then 6 else x.reason
    clean := if clean then x.clean + 1 else 0
    stopDue := amp || (reason != 0 && !set), status := none, amp := none })
  let s := if reason != 0 || amp then s.updGates n (fun g => { g with node := true }) else s
  let s := if reason != 0 && !set then s.post (chanEvent n 0x0604 .stopChannel (leBytes 1 reason)) else s
  if amp then portPost s (32 + n) 0x0C05 .stopJob else s

/-- Clock 3,000: the response of port p, if none is at hand, is missing (R46, R318). -/
def missDeadline (s : State) (p : Nat) : State :=
  let x := getI s.link.ports p
  if x.st != .up then s
  else if x.answered then s.updPort p (fun x => { x with missRun := 0, slot0 := none })
  else
    let s := s.updPort p (fun x => { x with
      missRun := x.missRun + 1, slot0 := none, counts := { x.counts with missing := inc32 x.counts.missing } })
    if 100 ≤ x.missRun + 1 then linkDown s p else s

/-- A node gate released (R329). -/
def releaseNode (s : State) (n : Nat) : State :=
  if (getI s.scan.chans n).gates.node && decide (s.objN (0x3000 + n) 0x06 ≤ (getI s.link.lasers n).clean) then
    s.updGates n (fun g => { g with node := false })
  else s

/-- The port enable in force: TRUE starts training, FALSE disables (R318). -/
def setPortEnable (s : State) (p : Nat) (on : Bool) : State :=
  if on then (if (getI s.link.ports p).st == .disabled then toPort s p .train else s) else toPort s p .disabled

/-- Port command 1 (R318). -/
def retrainPort (s : State) (p : Nat) : State := if (getI s.link.ports p).st == .disabled then s else toPort s p .train

/-- Start-up phase 4: every enabled port enters TRAIN (Table 20.2). -/
def startPorts (s : State) : State := forI 64 s (fun s p => setPortEnable s p (s.objB (0x5000 + p) 0x00))

/-- Whether a port command is accepted (Table 12.15 sub 0x03). -/
def portCommandAccepted (s : Blocks) (p : Nat) : Bool := !(s.jobRuns && !chanResting s (p % 32))
where
  /-- A channel that is IDLE or STOPPED. -/
  chanResting (s : Blocks) (n : Nat) : Bool :=
    (getI s.scan.chans n).state == .idle || (getI s.scan.chans n).state == .stopped

/-- Whether the octets of a node request are well formed (R332). -/
def nodeRequestValid (b : Bytes) : Bool :=
  (fieldU b 0 1 == 0x22 || fieldU b 0 1 == 0x23) && decide (0x8000 ≤ fieldU b 2 2) && fieldU b 4 4 == 0

/-- Whether a node request is accepted in the present state (R332). DEDUCED: assumption 53. -/
def nodeRequestAccepted (s : Blocks) (p : Nat) : Bool :=
  (getI s.link.ports p).st == .up && (getI s.link.ports p).reqStatus != 1

/-- The effect of a node request at its boundary (R332). -/
def nodeRequestEffect (s : State) (p : Nat) (b : Bytes) : State :=
  s.updPort p (fun x => { x with reqStatus := 1, reqData := b, step := .request, svc := none })

/-- The answer to a host request (Table 12.15 sub 0x06). DEDUCED: assumption 53. -/
def requestAnswered (s : State) (p item status : Nat) (data : Bytes) : State :=
  s.updPort p (fun x => { x with
    reqStatus := 2, step := .none, svc := none
    response := leBytes 2 item ++ leBytes 1 status ++ leBytes 1 data.length ++ padTo 32 data })

/-- The next step of the bring-up after an acknowledged item (R320). DEDUCED: assumption 53. -/
def nextConfig (s : State) (p item : Nat) : State :=
  let go := fun (k : Nat) => s.updPort p (fun x => { x with step := .config k, svc := none })
  if item == 0x0002 then go (if p < 32 then 0x0001 else 0x0003)
  else if item == 0x0003 then go 0x0004
  else if item == 0x0004 then go 0x0001
  else s.updPort p (fun x => { x with step := .acknowledged, svc := none })

/-- A port whose bring-up is acknowledged goes UP at the tick boundary (R320, Table 12.12). -/
def raisePort (s : State) (p : Nat) : State :=
  let x := getI s.link.ports p
  if x.st == .enum && x.step == .acknowledged then
    portPost (s.updPort p (fun x => { x with st := .up, since := s.now, step := .none })) p 0x0C02 .note
  else s

/-- The sequences of the service frame without an answer. -/
def serviceSequences (s : Blocks) (p : Nat) : List Nat := (((getI s.link.ports p).svc).map (fun r => r.sequences)).getD []

/-- The sequence of the slot 0 request without an answer; from clock 3,000 on it is missing. DEDUCED: assumption 53. -/
def requestSequences (s : Blocks) (p : Nat) : List Nat := ((getI s.link.ports p).slot0).toList

/-- A response in the step of the bring-up or request that it answers, when R302 holds; otherwise it is counted only.
DEDUCED: assumption 53. -/
def onService (s : State) (p : Nat) (h : NodeHead) (f : State → State) : State :=
  let k := frameFault p (serviceSequences s.toBlocks p) h
  let s := countFrame s p k h
  if k == 0 then f s else s

/-- The checks of the answer to ENUMERATE (R320 step 1). -/
def enumOk (s : Blocks) (p : Nat) (e : EnumPayload) : Bool :=
  let want := leNat (s.objT (0x5000 + p) 0x01)
  e.kind == (if p < 32 then 1 else 2) && e.version == 1 && e.status == 0 && decide (4 ≤ e.events) && (want == 0 || want == e.serial)

/-- The octets of a mirror entry (R343), the sensor words in the byte order of R219. -/
def mirrorBytes (e : MirrorEntry) : Bytes :=
  match e with
  | .scanner n mask amp x y f =>
    leBytes 1 (32 + n.val) ++ leBytes 1 mask ++ leBytes 1 amp ++ leBytes 1 0 ++ beBytes 8 x.toNat ++ beBytes 8 y.toNat ++ beBytes 8 f.toNat
  | .laser n status => leBytes 1 n.val ++ leBytes 1 status ++ leBytes 2 0

/-- The MIRROR message of a valid slot 0 response (R343). DESIGN CHOICE: assumption 69. -/
def mirrorOut (s : State) (e : MirrorEntry) : State :=
  if s.pair.st == .active || s.pair.st == .standby then sendPeer s 1 (mirrorBytes e) else s

/-- SENSOR_RESPONSE (R224, R302, R312, R343). -/
def execSensorResponse (n : Fin 32) (h : NodeHead) (p : SensorPayload) (s : State) : Host.Outcome State Fault Refusal :=
  let port := 32 + n.val
  let k := frameFault port (requestSequences s.toBlocks port) h
  let s := countFrame s port k h
  .next (if k != 0 then s
    else
      let s := mirrorOut (noteNode s port p.temperature p.missed) (.scanner n p.wordMask p.ampStatus p.wordX p.wordY p.wordF)
      let s := s.updLaser n (fun x => { x with amp := some p.ampStatus })
      forI 3 s (fun s q =>
        if bit p.wordMask q then wordArrives s (3 * n.val + q) (if q == 0 then p.wordX else if q == 1 then p.wordY else p.wordF) else s))

/-- LASER_STATUS (R302, R314, R333, R343). -/
def execLaserStatus (n : Fin 32) (h : NodeHead) (p : LaserPayload) (s : State) : Host.Outcome State Fault Refusal :=
  let k := frameFault n (requestSequences s.toBlocks n) h
  let s := countFrame s n k h
  .next (if k != 0 then s
    else (mirrorOut (noteNode s n p.temperature p.missed) (.laser n p.status)).updLaser n (fun x => { x with
      power := p.power, backReflection := p.backReflection, last := p.status, status := some p.status
      alarms := if bit p.status 1 then inc32 x.alarms else x.alarms }))

/-- ENUMERATE_RESPONSE (R320). -/
def execEnumerateResponse (p : Fin 64) (h : NodeHead) (e : EnumPayload) (s : State) : Host.Outcome State Fault Refusal :=
  .next (if (getI s.link.ports p).st != .enum || (getI s.link.ports p).step != .enumerate then countFrame s p (frameFault p [] h) h
    else onService s p h (fun s =>
      let s := s.updPort p (fun x => { x with info := { x.info with
        kind := e.kind, vendor := e.vendor, model := e.model, firmware := e.firmware, serial := e.serial, rating := e.rating
        links := e.links } })
      if enumOk s.toBlocks p e then s.updPort p (fun x => { x with step := .echo 0 0, svc := none }) else nodeMismatch s p))

/-- ECHO_RESPONSE (R320 step 2): times in 1/16 ns. -/
def execEchoResponse (p : Fin 64) (h : NodeHead) (roundTrip turnaround : Nat) (s : State) : Host.Outcome State Fault Refusal :=
  .next (match (getI s.link.ports p).step with
    | .echo k sum => onService s p h (fun s =>
        let sum := sum + ((roundTrip : Int) - turnaround)
        if k + 1 < 16 then s.updPort p (fun x => { x with step := .echo (k + 1) sum, svc := none })
        else
          let d := rndDiv sum 32
          if d < 0 || 1920 < d then nodeMismatch s p
          else s.updPort p (fun x => { x with info := { x.info with delay := d.toNat }, step := .config 0x0002, svc := none }))
    | _ => countFrame s p (frameFault p [] h) h)

/-- CONFIG_WRITE_RESPONSE (R316, R320, R332). -/
def execConfigWriteResponse (p : Fin 64) (h : NodeHead) (item status : Nat) (s : State) : Host.Outcome State Fault Refusal :=
  let x := getI s.link.ports p
  .next (match x.step with
    | .config k =>
      if item == k then onService s p h (fun s => if status == 0 then nextConfig s p k else nodeMismatch s p)
      else countFrame s p (frameFault p [] h) h
    | .request =>
      if fieldU x.reqData 0 1 == 0x22 then onService s p h (fun s => requestAnswered s p item status [])
      else countFrame s p (frameFault p [] h) h
    | _ => countFrame s p (frameFault p [] h) h)

/-- CONFIG_READ_RESPONSE (R316, R332). -/
def execConfigReadResponse (p : Fin 64) (h : NodeHead) (item status : Nat) (data : Bytes) (s : State) : Host.Outcome State Fault Refusal :=
  let x := getI s.link.ports p
  .next (if x.step == .request && fieldU x.reqData 0 1 == 0x23 then onService s p h (fun s => requestAnswered s p item status data)
    else countFrame s p (frameFault p [] h) h)

/-- SERVICE_FRAME_TIMEOUT (R316): to be sent again in the next slot 2, or given up after three sends. -/
def execServiceFrameTimeout (p : Fin 64) (s : State) : Host.Outcome State Fault Refusal :=
  .next (match (getI s.link.ports p).svc with
    | none => s
    | some r =>
      if s.now < r.sentTick + 10 then s
      else if r.sends < 3 then s.updPort p (fun x => { x with svc := some { r with due := true } })
      else if (getI s.link.ports p).st == .enum then bringUpFailed s p
      else s.updPort p (fun x => { x with reqStatus := 3, step := .none, svc := none }))

/-- ZL_CREDIT (R307). -/
def execZlCredit (p : Fin 64) (count : Nat) (s : State) : Host.Outcome State Fault Refusal :=
  .next (s.updPort p (fun x => if x.st == .enum || x.st == .up then { x with freedMod := count % 256 } else x))

/-- CREDIT_STALL (R308): a tick frame of this tick that still holds no credit. -/
def execCreditStall (p : Fin 64) (slot : Fin 2) (s : State) : Host.Outcome State Fault Refusal :=
  let x := getI s.link.ports p
  .next (if x.st == .up && !hasCredit x && !bit x.stalled slot then creditStall s p slot else s)

/-- TS2_RECEIVED (R318): 32 consecutive TS2 that echo p, without a code error. -/
def execTs2Received (p : Fin 64) (echoed kind : Nat) (codeError : Bool) (s : State) : Host.Outcome State Fault Refusal :=
  .next (if (getI s.link.ports p).st == .train && echoed == p.val && !codeError && (kind == 1 || kind == 2) then
    (toPort s p .enum).updPort p (fun x => { x with step := .enumerate }) else s)

/-- A port that has been in TRAIN for 1,500 ticks (Table 12.12). -/
def trainExpire (s : State) (p : Nat) : State :=
  let x := getI s.link.ports p
  if x.st == .train && decide (x.since + 1500 ≤ s.now) then bringUpFailed s p else s

/-- A port that has been in DOWN for 1,000 ticks (Table 12.12). -/
def downExpire (s : State) (p : Nat) : State :=
  let x := getI s.link.ports p
  if x.st == .down && decide (x.since + 1000 ≤ s.now) then toPort s p .train else s

/-- TRAIN_TIMEOUT (R318). -/
def execTrainTimeout (p : Fin 64) (s : State) : Host.Outcome State Fault Refusal := .next (trainExpire s p)

/-- ZL_LINK_DOWN (R318). -/
def execZlLinkDown (p : Fin 64) (cause : LinkCause) (s : State) : Host.Outcome State Fault Refusal :=
  let x := getI s.link.ports p
  .next (if x.st == .up && (cause != .noResponse || decide (100 ≤ x.missRun)) then linkDown s p else s)

/-- DOWN_TIMEOUT (R318). -/
def execDownTimeout (p : Fin 64) (s : State) : Host.Outcome State Fault Refusal := .next (downExpire s p)

/-- NODE_GATE_RELEASE (R329). -/
def execNodeGateRelease (n : Fin 32) (s : State) : Host.Outcome State Fault Refusal := .next (releaseNode s n)

end Sys2Proof.Machine
end

