-- ==== Sys2Proof/Machine/DictCheck.lean ====
section
/-! DEFINITION. The checks of a write that depend on its value, on other objects and on its owning block: steps 5, 6 and 7 of R69 and
the conditions under which commands are accepted (03_object_dictionary R67–R71, R78, R529, with the rules of each chapter). -/

namespace Sys2Proof.Machine

/-- What every object holds, or will hold, as a check sees it (R70, R71). -/
abbrev View := Nat → Nat → Val

/-- The values in force. -/
def viewNow (s : Blocks) : View := fun i k => objVal s.dict i k

/-- The values in force and pending (R70). -/
def viewNext (s : Blocks) : View := fun i k => pendingVal s.dict i k

/-- A view with the values that a write group writes (R70). DEDUCED: assumption 41. -/
def viewWith (w : View) (l : List (Nat × Nat × Val)) : View := fun i k =>
  match (l.filter (fun x => x.1 == i && x.2.1 == k)).getLast? with
  | some x => x.2.2
  | none => w i k

/-- The number that a view holds for an object. -/
def viewN (w : View) (i k : Nat) : Nat := (valI (w i k)).toNat

/-- The signed number that a view holds for an object. -/
def viewI (w : View) (i k : Nat) : Int := valI (w i k)

/-- Whether an octet string is all zero. -/
def allZero (b : Bytes) : Bool := b.all (fun x => x == 0)

/-- The entries of a table: `n` bytes each. -/
def entriesOf : Nat → Nat → Bytes → List Bytes
  | 0, _, _ => []
  | k + 1, n, b => if b.isEmpty then [] else b.take n :: entriesOf k n (b.drop n)

/-- Objects whose range is a cross-check: R406 for the LED strings and R279 for the heat reference. -/
def rangeLater (index sub : Nat) : Bool :=
  (decide (0x4100 ≤ index) && decide (index < 0x4110) && [0x06, 0x07, 0x08, 0x09].contains sub) || (index == 0x3600 && sub == 0x4B)

/-- An entry of an init script (Table 9.4). -/
def scriptEntryOk (e : Bytes) : Bool :=
  if bit (fieldU e 0 1) 7 then
    fieldU e 0 1 == 0x80 && fieldU e 1 3 == 0 && decide (1 ≤ fieldU e 4 4) && decide (fieldU e 4 4 ≤ 1000000)
  else
    let n := fieldU e 1 1
    decide (1 ≤ n) && decide (n ≤ 6) && allZero (e.drop (2 + n))

/-- An I²C request (R236, Table 9.3). -/
def i2cRequestOk (b : Bytes) : Bool :=
  let w := fieldU b 1 1
  let r := fieldU b 2 1
  !bit (fieldU b 0 1) 7 && decide (w ≤ 32) && decide (r ≤ 32) && !(w == 0 && r == 0) && decide (fieldU b 3 1 < 2) &&
    allZero (slice b (4 + w) (32 - w)) && fieldU b 36 4 == 0

/-- The reserved bytes of a thermistor table are 0 (R8, R424). -/
def thermistorReserved (b : Bytes) : Bool := (List.range 33).all (fun i => fieldU b (8 * i + 6) 2 == 0)

/-- A thermistor table (R424): resistances fall, temperatures rise, reserved bytes 0. DEDUCED: assumption 52. -/
def thermistorOk (b : Bytes) : Bool :=
  thermistorReserved b &&
    (List.range 32).all (fun i =>
      decide ((ntcEntry b (i + 1)).1 < (ntcEntry b i).1) && decide ((ntcEntry b i).2 < (ntcEntry b (i + 1)).2))

/-- An F32 between 0.1 and 1,000 (Table 11.5). DEDUCED: assumption 52. -/
def fenLimitOk (x : Nat) : Bool := decide (0x3DCCCCCD ≤ x) && decide (x ≤ 0x447A0000)

/-- Content rules of single objects beyond type and range (R69 step 6). -/
def contentOk (w : View) (index sub : Nat) (v : Val) : Bool :=
  let b := valB v
  let n := (valI v).toNat
  if 0x2210 ≤ index && index < 0x2240 then
    match sub with
    | 0x00 => decide (n ≤ 3)
    | 0x06 => thermistorReserved b && (viewN w index 0x00 != 3 || thermistorOk b)
    | _ => true
  else if 0x3200 ≤ index && index < 0x3260 then
    sub != 0x1C || (entriesOf 1025 2 b).all (fun e => decide (leNat e ≤ 0x7FFF))
  else if 0x3400 ≤ index && index < 0x3480 then
    sub != 0x0E || (entriesOf 256 4 b).all (fun e =>
      decide (fieldU e 0 2 < viewN w index 0x04) && decide (fieldU e 2 2 < viewN w index 0x05))
  else if 0x3500 ≤ index && index < 0x3514 then
    match sub with
    | 0x03 => decide (0x3510 ≤ index) || n / 256 == 0
    | 0x10 => i2cRequestOk b
    | 0x13 => (entriesOf 512 8 b).all scriptEntryOk
    | _ => true
  else if 0x3700 ≤ index && index < 0x3800 then
    match sub with
    | 0x00 => decide (n ≤ 4)
    | 0x09 => fenLimitOk n
    | 0x0A => fenLimitOk n
    | 0x0B => fenLimitOk n
    | _ => true
  else if 0x4000 ≤ index && index < 0x4008 then
    match sub with
    | 0x10 => fieldU b 0 2 == 0 && (entriesOf 256 2 b).all (fun e => decide (leNat e ≤ 4095))
    | 0x41 => moveWellFormed b
    | _ => true
  else if 0x5000 ≤ index && index < 0x5040 then
    match sub with
    | 0x02 => decide (0x5020 ≤ index)
    | 0x04 => nodeRequestValid b
    | _ => true
  else true

/-- A cross-check: the subindices that it names, and whether it holds (R69 step 7). -/
abbrev CrossCheck := List Nat × Bool

/-- The cross-checks of host port p (R116). -/
def hostPortChecks (w : View) (p : Nat) : List CrossCheck :=
  let o := fun k => viewN w (0x1100 + p) k
  [([0x00], viewN w 0x1100 0x00 != 0 || viewN w 0x1101 0x00 != 0),
   ([0x06, 0x0A], o 0x06 != 0 || o 0x0A != 0),
   ([0x06, 0x07], o 0x06 != 1 || o 0x07 != 0)]

/-- Whether the host filter has an entry (R116). -/
def hostFilterOk (w : View) : Bool :=
  viewN w 0x1110 0x03 == 0 || anyI 4 (fun k => viewN w 0x1111 k != 0) || anyI 4 (fun k => !allZero (valB (w 0x1111 (4 + k))))

/-- Whether destination `d` has an address of its family (R116). DEDUCED: assumption 85. -/
def destinationOk (w : View) (d : Nat) : Bool :=
  let i := 0x1118 + d
  viewN w i 0x00 == 0 || (if viewN w i 0x01 == 6 then !allZero (valB (w i 0x03)) else viewN w i 0x02 != 0)

/-- Whether the leads of channel n are at most its tracking lag (R192). -/
def leadsOk (w : View) (n : Nat) : Bool :=
  decide (viewN w (0x3000 + n) 0x03 ≤ viewN w (0x3100 + n) 0x05) && decide (viewN w (0x3000 + n) 0x04 ≤ viewN w (0x3100 + n) 0x05)

/-- Whether the frame size of context i lies in Table 9.1 for its port, and suits its data type (R234, R240). -/
def frameSizeOk (w : View) (i : Nat) : Bool :=
  let o := fun k => viewN w (0x3400 + i) k
  let fw := o 0x04
  let fh := o 0x05
  let size := if o 0x01 < 16 then decide (8 ≤ fw) && decide (fw ≤ 256) && decide (8 ≤ fh) && decide (fh ≤ 256)
    else decide (64 ≤ fw) && decide (fw ≤ 8192) && decide (64 ≤ fh) && decide (fh ≤ 8192) && decide (fw * fh ≤ 16777216)
  size && (if o 0x03 == 0x2B then fw % 4 == 0 else if o 0x03 == 0x2C then fw % 2 == 0 else true)

/-- The contexts bound to the stream of context i, itself included. -/
def streamOf (w : View) (i : Nat) : List Nat :=
  let o := fun j k => viewN w (0x3400 + j) k
  (List.range 128).filter (fun j => o j 0x01 == o i 0x01 && o j 0x02 == o i 0x02)

/-- The cross-checks of the binding of context i (R240). -/
def bindingChecks (w : View) (i : Nat) : List CrossCheck :=
  let o := fun j k => viewN w (0x3400 + j) k
  let l := streamOf w i
  let free := o i 0x01 == 0xFF
  [([0x01, 0x02], free || (decide (o i 0x02 < if o i 0x01 < 16 then 2 else 4) && decide (l.length ≤ 4))),
   ([0x01, 0x03, 0x04, 0x05], free || frameSizeOk w i),
   ([0x01, 0x02, 0x03, 0x04, 0x05],
     free || l.all (fun j => o j 0x03 == o i 0x03 && o j 0x04 == o i 0x04 && o j 0x05 == o i 0x05))]

/-- The cross-checks of the window, gate, channel and output of context i (R241, R256). -/
def windowChecks (w : View) (i : Nat) : List CrossCheck :=
  let o := fun j k => viewN w (0x3400 + j) k
  let ww := o i 0x08
  let wh := o i 0x09
  let multiple := fun d => ww % d == 0 && wh % d == 0
  let feat := fun j => bit (o j 0x11) 2
  let d := o i 0x1B
  [([0x04, 0x06, 0x08], decide (o i 0x06 + ww ≤ o i 0x04)),
   ([0x05, 0x07, 0x09], decide (o i 0x07 + wh ≤ o i 0x05)),
   ([0x08, 0x09, 0x11], !bit (o i 0x11) 1 || multiple 8),
   ([0x08, 0x09, 0x0F], o i 0x0F == 0 || multiple 16),
   ([0x08, 0x13, 0x15], decide (o i 0x13 + o i 0x15 ≤ ww)),
   ([0x09, 0x14, 0x16], decide (o i 0x14 + o i 0x16 ≤ wh)),
   ([0x08, 0x09, 0x11], !feat i || (decide (ww ≤ 256) && decide (wh ≤ 256))),
   ([0x0A, 0x11], !feat i || o i 0x0A == 0xFF || !anyI 128 (fun j => j != i && feat j && o j 0x0A == o i 0x0A)),
   ([0x08, 0x09, 0x1B, 0x1C], multiple d && decide ((ww / d) * (wh / d) * (if o i 0x1C == 16 then 2 else 1) ≤ 16777216)),
   ([0x01, 0x1A], o i 0x1A != 1 || (decide (16 ≤ o i 0x01) && decide (o i 0x01 < 20)))]

/-- Whether the lane map of port c names each lane once (Table 9.9). DEDUCED: assumption 52. -/
def laneMapOk (w : View) (c : Nat) : Bool :=
  let m := viewN w (0x3500 + c) 0x03
  let lanes := if c < 16 then 2 else 4
  let l := (List.range lanes).map (fun k => m / 16 ^ k % 16)
  l.all (fun x => decide (x < lanes)) && (List.range lanes).all (fun k => l.contains k)

/-- The cross-checks of camera port c (Table 9.9). -/
def cameraChecks (w : View) (c : Nat) : List CrossCheck :=
  let o := fun k => viewN w (0x3500 + c) k
  [([0x03], laneMapOk w c), ([0x06, 0x07], decide (o 0x07 < o 0x06)), ([0x09, 0x0A], decide (o 0x09 + o 0x0A ≤ 4096))]

/-- The cross-checks of melt-pool control of channel n (R278). DEDUCED: assumption 52. -/
def meltChecks (w : View) (n : Nat) : List CrossCheck :=
  let o := fun k => viewN w (0x3600 + n) k
  [([0x01, 0x06], !bit (o 0x01) 2 || o 0x06 != 0), ([0x01, 0x0B], !bit (o 0x01) 3 || o 0x0B != 0)]

/-- The cross-checks of the quality map and the heat grid (R279). -/
def mapChecks (w : View) : List CrossCheck :=
  let q : Int := viewN w 0x3600 0x43
  let wd := viewN w 0x3600 0x44
  let ht := viewN w 0x3600 0x45
  let x := viewI w 0x3600 0x41
  let y := viewI w 0x3600 0x42
  [([0x41, 0x43, 0x44], decide (-4000000 ≤ x) && decide (x + q * wd ≤ 4000000)),
   ([0x42, 0x43, 0x45], decide (-4000000 ≤ y) && decide (y + q * ht ≤ 4000000)),
   ([0x44, 0x45], decide (wd * ht ≤ 4194304)), ([0x4B], viewN w 0x3600 0x4B != 0)]

/-- Whether the rectangle of fen z is not empty while its mode is 2 to 4 (R294). -/
def fenOk (w : View) (z : Nat) : Bool :=
  let i := 0x3700 + z
  viewN w i 0x00 < 2 || (decide (viewI w i 0x01 < viewI w i 0x02) && decide (viewI w i 0x03 < viewI w i 0x04))

/-- The cross-checks of the correction grid of scanner k (R295). -/
def gridChecks (w : View) (k : Nat) : List CrossCheck :=
  let i := 0x3800 + k
  let d : Int := viewN w i 0x02
  let side := fun (x : Int) => decide (-4000000 ≤ x) && decide (x + 64 * d ≤ 4000000)
  [([0x00, 0x02], side (viewI w i 0x00)), ([0x01, 0x02], side (viewI w i 0x01))]

/-- The cross-checks of the profile of stepper axis m (R383, R389). -/
def stepperChecks (w : View) (m : Nat) : List CrossCheck :=
  let o := fun k => viewN w (0x4000 + m) k
  [([0x01, 0x03], decide (o 0x01 ≤ o 0x03)), ([0x03, 0x05], decide (o 0x03 ≤ o 0x05)), ([0x03, 0x08], decide (o 0x08 ≤ o 0x03)),
   ([0x09, 0x0A], decide (viewI w (0x4000 + m) 0x09 < viewI w (0x4000 + m) 0x0A)), ([0x01, 0x32], decide (o 0x32 ≤ o 0x01)),
   ([0x05, 0x35], decide (o 0x35 ≤ o 0x05)), ([0x01, 0x36], decide (o 0x36 ≤ o 0x01))]

/-- The cross-checks of the block that owns an index (R69 step 7). DEDUCED: assumption 41. -/
def crossChecks (w : View) (index : Nat) : List CrossCheck :=
  if index < 0x1100 then []
  else if index < 0x1110 then hostPortChecks w (index - 0x1100)
  else if index < 0x1111 then [([0x03], hostFilterOk w)]
  else if index < 0x1112 then [(List.range 8, hostFilterOk w)]
  else if index < 0x1200 then [([0x00, 0x01, 0x02, 0x03], destinationOk w (index - 0x1118))]
  else if index < 0x2110 then []
  else if index < 0x2120 then [([0x04, 0x05], decide (viewN w index 0x04 < viewN w index 0x05))]
  else if index < 0x2210 then []
  else if index < 0x2240 then [([0x00], viewN w index 0x00 != 3 || thermistorOk (valB (w index 0x06)))]
  else if index < 0x3000 then []
  else if index < 0x3020 then [([0x03, 0x04], leadsOk w (index - 0x3000))]
  else if index < 0x3120 then [([0x05], leadsOk w (index - 0x3100))]
  else if index < 0x3300 then []
  else if index < 0x3360 then [([0x00, 0x01], decide (viewN w index 0x00 < viewN w index 0x01))]
  else if index < 0x3480 then bindingChecks w (index - 0x3400) ++ windowChecks w (index - 0x3400)
  else if index < 0x3514 then cameraChecks w (index - 0x3500)
  else if index < 0x3620 then meltChecks w (index - 0x3600) ++ (if index = 0x3600 then mapChecks w else [])
  else if index < 0x3800 then [([0x00, 0x01, 0x02, 0x03, 0x04], fenOk w (index - 0x3700))]
  else if index < 0x3820 then gridChecks w (index - 0x3800)
  else if index < 0x4008 then stepperChecks w (index - 0x4000)
  else []

/-- The cross-checks that name an object hold (R69 step 7, R71). DEDUCED: assumption 41. -/
def crossOk (w : View) (index sub : Nat) : Bool :=
  !(rangeLater index sub && !inRanges (((rowFor index sub).map (fun r => r.ranges)).getD []) (viewI w index sub)) &&
    (crossChecks w index).all (fun c => !c.1.contains sub || c.2)

/-- Step 6 of R69: the abort code, or 0. -/
def checkContent (w : View) (r : ObjRow) (index sub : Nat) (v : Val) : Nat :=
  let r := if rangeLater index sub then { r with ranges := [] } else r
  if typeValid r v && contentOk w index sub v then 0 else 0x03010002

/-- Whether a pending write of a value stands for an object (R78). -/
def pendingIs (s : Blocks) (index sub : Nat) (v : Int) : Bool :=
  s.dict.pending.any (fun w => w.index == index && w.sub == sub && w.val == .int v)

/-- Whether no job runs and none has been granted a start (Table 3.5, R78). -/
def deviceStopped (s : Blocks) : Bool := !s.jobRuns && !s.job.granted

/-- Whether channel n counts as stopped (Table 3.5): a rejoin committed or pending counts as a start (R78). -/
def chanStopped (s : Blocks) (n : Nat) : Bool :=
  deviceStopped s || ((getI s.scan.chans n).state == .stopped && !(getI s.scan.chans n).rejoin && !pendingIs s (0x3100 + n) 0x0C 2)

/-- Whether the block that owns an object is stopped (R68, R78, Table 3.5). -/
def ownerStopped (s : Blocks) (index : Nat) : Bool :=
  if index < 0x3000 then deviceStopped s
  else if index < 0x3020 then chanStopped s (index - 0x3000)
  else if index < 0x3120 then chanStopped s (index - 0x3100)
  else if index < 0x3300 then (getI s.axes (index - 0x3200)).loop == .opened && !pendingIs s index 0x02 1
  else if index < 0x3400 then
    (getI s.axes (index - 0x3300)).loop == .opened && !pendingIs s (index - 0x3300 + 0x3200) 0x02 1
  else if index < 0x3480 then
    (!s.objB index 0x00 && !pendingIs s index 0x00 1) || s.objN index 0x01 == 0xFF
  else if index < 0x3514 then !s.objB index 0x00 && !pendingIs s index 0x00 1
  else if index < 0x3620 then chanStopped s (index - 0x3600)
  else if index < 0x3800 then deviceStopped s
  else if index < 0x3820 then chanStopped s (index - 0x3800)
  else if index < 0x4008 then
    let ax := getI s.steps (index - 0x4000)
    stepAtRest ax && ax.queue.isEmpty && !pendingIs s index 0x40 3 && !s.dict.pending.any (fun w => w.index == index && w.sub == 0x41)
  else if index < 0x4110 then
    let x := getI s.light.strings (index - 0x4100)
    (x.st == .off || x.st == .fault) && !(s.objB index 0x00 && x.st == .off) && !pendingIs s index 0x00 1
  else if index < 0x4300 then !rleLoaded s && !pendingIs s index 0x00 1
  else if index < 0x4351 then trimIdle s (index - 0x4300)
  else if index < 0x5000 then deviceStopped s
  else if index < 0x5040 then
    let p := getI s.link.ports (index - 0x5000)
    p.st == .disabled || p.st == .down || p.st == .train
  else true

/-- The persistence operation counts as running while it saves or clears (R485); an upload runs beside it (R478). -/
def flashBusy (s : Blocks) : Bool :=
  match s.flash.op with
  | .none => false
  | _ => true

/-- Whether a save or clear runs, so that a BOOT write is rejected (R483). -/
def persistenceBusy (s : Blocks) : Bool := s.flash.status == 1 || s.flash.status == 2

/-- The condition of acceptance of a command, or of a value that has one: the abort code, or 0 (R529). `w` is what every object holds
once pending values and the group are in force. -/
def acceptCode (s : Blocks) (w : View) (index sub : Nat) (v : Val) : Nat :=
  let n := (valI v).toNat
  let when := fun (ok : Bool) => if ok then 0 else 0x04010001
  if index == 0x1002 then when (!s.jobRuns)
  else if index == 0x1080 && sub == 0x06 then when (ackAccepted s n)
  else if index == 0x1080 && sub == 0x0C then when (!s.jobRuns)
  else if index == 0x1200 && sub == 0x00 then
    if !s.flash.present then 0x06010003 else when (!flashBusy s)
  else if index == 0x1202 && sub == 0x06 then
    if !s.flash.present then 0x06010003 else when (!flashBusy s)
  else if index == 0x1202 && sub == 0x08 then when ((getI s.flash.slots n).status == 1)
  else if index == 0x2000 && sub == 0x07 then when (s.objN 0x2000 0x00 == 0)
  else if 0x2110 ≤ index && index < 0x2120 && sub == 0x00 then when (switchAccepted s (index - 0x2110) n)
  else if index == 0x2400 && sub == 0x09 then when (s.pair.st == .active)
  else if 0x3100 ≤ index && index < 0x3120 && sub == 0x0C then
    let c := getI s.scan.chans (index - 0x3100)
    if n = 1 then when (c.state == .run || c.state == .waitEnd || c.state == .waitMark)
    else when (c.state == .stopped && s.jobRuns)
  else if 0x3200 ≤ index && index < 0x3260 && sub == 0x02 then axisCommandCode s w (index - 0x3200) n
  else if 0x3400 ≤ index && index < 0x3480 && sub == 0x1D then when (s.objN index 0x1A != 0)
  else if 0x3500 ≤ index && index < 0x3514 && sub == 0x10 then i2cCode s (index - 0x3500)
  else if 0x4000 ≤ index && index < 0x4008 then
    match sub with
    | 0x40 => when (stepCommandAccepted s (index - 0x4000) n)
    | 0x41 => when (moveAccepted s (index - 0x4000))
    | 0x42 =>
      if !retargetAccepted s (index - 0x4000) then 0x04010001
      else if retargetInside s (index - 0x4000) (valI v) then 0 else 0x03010003
    | 0x43 => when (setPositionAccepted s (index - 0x4000))
    | _ => 0
  else if 0x4100 ≤ index && index < 0x4110 && sub == 0x0C then when ((getI s.light.strings (index - 0x4100)).st == .off)
  else if index == 0x4200 && sub == 0x00 then rleCode s n
  else if 0x4300 ≤ index && index < 0x4351 then
    when (if sub == 0x02 then calibrationAccepted s (index - 0x4300) else !calibrating s (index - 0x4300))
  else if 0x5000 ≤ index && index < 0x5040 && sub == 0x03 then when (portCommandAccepted s (index - 0x5000))
  else if 0x5000 ≤ index && index < 0x5040 && sub == 0x04 then when (nodeRequestAccepted s (index - 0x5000))
  else 0

end Sys2Proof.Machine
end

