-- ==== Sys2Proof/Machine/Ecdsa.lean ====
section
/-! DEFINITION. SHA-256 and ECDSA P-256 verification, for the signature of an image (19_memory_and_settings R476, R477; the
algorithms and constants are those of FIPS 180-4 and FIPS 186-4, PRESUMED, assumption 14). -/

namespace Sys2Proof.Machine

/-- The first 64 primes, of which FIPS 180-4 makes its constants. -/
def shaPrimes : List Nat := (List.range 312).filter (fun n => decide (2 ≤ n) && (List.range n).all (fun d => decide (d < 2) || n % d != 0))

/-- The largest number of `k` bits, above `acc`, whose power `e` is at most `x`. -/
def rootFloor (e x : Nat) : Nat → Nat → Nat
  | 0, acc => acc
  | k + 1, acc => rootFloor e x k (if (acc + 2 ^ k) ^ e ≤ x then acc + 2 ^ k else acc)

/-- The first 32 bits of the fraction of the root of degree `e` of `p`. -/
def rootBits (e p : Nat) : Nat := rootFloor e (p * 2 ^ (32 * e)) 37 0 % 2 ^ 32

/-- The constant of each of the 64 rounds: from the cube root of a prime. PRESUMED: assumption 14. -/
def shaRoundWords : List Nat := shaPrimes.map (rootBits 3)

/-- The hash value before the first block: from the square roots of eight primes. PRESUMED: assumption 14. -/
def shaStart : List Nat := (shaPrimes.take 8).map (rootBits 2)

/-- A 32-bit word rotated right. -/
def rotr (x k : Nat) : Nat := (x >>> k) ||| ((x <<< (32 - k)) % 2 ^ 32)

/-- The exclusive or of a word's rotations by `a`, `b` and `c`. -/
def rotXor (x a b c : Nat) : Nat := rotr x a ^^^ rotr x b ^^^ rotr x c

/-- The exclusive or of two rotations and one shift of a word. -/
def rotShift (x a b k : Nat) : Nat := rotr x a ^^^ rotr x b ^^^ (x >>> k)

/-- The word of the message schedule that follows the words `w`, newest first. -/
def shaNext (w : List Nat) : Nat := (rotShift (nth w 1) 17 19 10 + nth w 6 + rotShift (nth w 14) 7 18 3 + nth w 15) % 2 ^ 32

/-- The words of the message schedule, newest first: `n` more after those given. -/
def shaSchedule : Nat → List Nat → List Nat
  | 0, w => w
  | n + 1, w => shaSchedule n (shaNext w :: w)

/-- One round on the working variables, of which the fourth and the eighth gain and the others move up one place: the sum `k` of the
round's constant and its word. -/
def shaRound (v : List Nat) (k : Nat) : List Nat :=
  let x := fun i => nth v i
  let choice := (x 4 &&& x 5) ^^^ (x 6 - (x 4 &&& x 6))
  let most := (x 0 &&& (x 1 ^^^ x 2)) ^^^ (x 1 &&& x 2)
  let gain := x 7 + rotXor (x 4) 6 11 25 + choice + k
  ((gain + rotXor (x 0) 2 13 22 + most) % 2 ^ 32 :: v.take 3) ++ ((x 3 + gain) % 2 ^ 32 :: (v.drop 4).take 3)

/-- Big-endian words of a block. -/
def shaWords : Bytes → List Nat
  | a :: b :: c :: d :: r => beNat [a, b, c, d] :: shaWords r
  | _ => []

/-- The hash value after one block of 64 bytes. -/
def shaBlock (h : List Nat) (block : Bytes) : List Nat :=
  let words := (shaSchedule 48 (shaWords block).reverse).reverse
  let out := (List.zipWith (fun k w => k + w) shaRoundWords words).foldl shaRound h
  List.zipWith (fun a b => (a + b) % 2 ^ 32) h out

/-- The hash value after `n` blocks of a padded message. -/
def shaBlocks : Nat → List Nat → Bytes → List Nat
  | 0, h, _ => h
  | n + 1, h, b => shaBlocks n (shaBlock h (b.take 64)) (b.drop 64)

/-- SHA-256 of a byte string, as a number of 256 bits. PRESUMED: assumption 14. -/
def sha256 (b : Bytes) : Nat :=
  let zeros := (119 - b.length % 64) % 64
  let padded := b ++ [0x80] ++ List.replicate zeros 0 ++ (leBytes 8 (8 * b.length)).reverse
  (shaBlocks (padded.length / 64) shaStart padded).foldl (fun a x => a * 2 ^ 32 + x) 0

/-- The prime of P-256. PRESUMED: assumption 14. -/
def p256P : Nat := 2 ^ 256 - 2 ^ 224 + 2 ^ 192 + 2 ^ 96 - 1

/-- The order of the base point. PRESUMED: assumption 14. -/
def p256N : Nat := 0xffffffff00000000ffffffffffffffffbce6faada7179e84f3b9cac2fc632551

/-- The coefficient b of the curve. -/
def p256B : Nat := 0x5ac635d8aa3a93e7b3ebbd55769886bc651d06b0cc53b0f63bce3c3e27d2604b

/-- The base point. PRESUMED: assumption 14. -/
def p256G : Nat × Nat :=
  (0x6b17d1f2e12c4247f8bce6e563a440f277037d812deb33a0f4a13945d898c296,
   0x4fe342e2fe1a7f9b8ee7eb4a7c0f9e162bce33576b315ececbb6406837bf51f5)

/-- `x ^ e` modulo `m` over the low `k` bits of `e`. -/
def powMod (m x e : Nat) : Nat → Nat → Nat
  | 0, acc => acc
  | k + 1, acc => powMod m x e k (if e.testBit k then acc * acc % m * x % m else acc * acc % m)

/-- The inverse modulo a prime. -/
def invMod (m x : Nat) : Nat := powMod m (x % m) (m - 2) 256 1

/-- `x - y` modulo `m`. -/
def subMod (m x y : Nat) : Nat := (x + (m - y % m)) % m

/-- The sum of two points; none is the point at infinity. -/
def pointAdd (p q : Option (Nat × Nat)) : Option (Nat × Nat) :=
  match p, q with
  | none, _ => q
  | _, none => p
  | some (x1, y1), some (x2, y2) =>
    let m := p256P
    if x1 = x2 && (y1 + y2) % m = 0 then none
    else
      let l := if x1 = x2 then subMod m (3 * x1 * x1 % m) 3 * invMod m (2 * y1) % m
        else subMod m y2 y1 * invMod m (subMod m x2 x1) % m
      let x := subMod m (subMod m (l * l % m) x1) x2
      some (x, subMod m (l * subMod m x1 x % m) y1)

/-- A multiple of a point, over the low `k` bits of the factor. -/
def pointMul (n : Nat) (p : Option (Nat × Nat)) : Nat → Option (Nat × Nat) → Option (Nat × Nat)
  | 0, acc => acc
  | k + 1, acc =>
    let d := pointAdd acc acc
    pointMul n p k (if n.testBit k then pointAdd d p else d)

/-- Whether a point lies on the curve. -/
def onCurve (q : Nat × Nat) : Bool :=
  let m := p256P
  decide (q.1 < m) && decide (q.2 < m) && q.2 * q.2 % m == (q.1 ^ 3 + (m - 3) * q.1 + p256B) % m

/-- Whether (r, s) is the signature of the hash `h` under the public key `q`. PRESUMED: assumption 14. -/
def ecdsaVerify (q : Nat × Nat) (h r s : Nat) : Bool :=
  if r = 0 || p256N ≤ r || s = 0 || p256N ≤ s || !onCurve q then false
  else
    let w := invMod p256N s
    let u1 := h * w % p256N
    let u2 := r * w % p256N
    match pointAdd (pointMul u1 (some p256G) 256 none) (pointMul u2 (some q) 256 none) with
    | none => false
    | some (x, _) => x % p256N == r

end Sys2Proof.Machine
end

