-- ==== Sys2Proof/Machine/Flash.lean ====
section
/-! DEFINITION. The serial flash: board header, images, saved sections and persistence operations
(19_memory_and_settings R472–R485; 03_object_dictionary R71, R72). -/

namespace Sys2Proof.Machine

/-- The flash changed by `f`. -/
def State.updFlash (s : State) (f : FlashState → FlashState) : State := { s with flash := f s.flash }

/-- An event that names a flash slot or section (R484). -/
def flashEvent (code : Nat) (sev : Severity) (inst : Nat) (detail : Bytes) : Event := mkEvent (.core 0) code sev .flash inst detail

/-- The slot size S in bytes for a capacity in KiB (R474). -/
def slotSize (kib : Nat) : Nat := Nat.min 16777216 ((kib * 1024 - 16777216) / 2 / 65536 * 65536)

/-- Whether a board header is valid (R475, Table 19.5). -/
def headerOk (h : Bytes) : Bool :=
  fieldU h 0 4 == 0x48465947 && fieldU h 4 2 == 1 && fieldU h 60 4 == crc32c (h.take 60)

/-- The population of DDR channel `c` by the board header; 0 when the header is invalid (R462, R475). -/
def population (h : Bytes) (c : Nat) : Nat := if headerOk h then fieldU h (8 + 2 * c) 2 else 0

/-- The data capacity of a population in GB (R462): ranks × (128 / width) × density / 8. -/
def capacityGB (p : Nat) : Nat :=
  (if bit p 5 then 2 else 1) * (if bit p 1 then 8 else 16) * [4, 8, 16].getD (bitsOf p 4 2) 0 / 8

/-- Whether a population makes its channel present (R462). DEDUCED: assumption 75. -/
def populationOk (p : Nat) : Bool :=
  bit p 0 && decide (bitsOf p 4 2 < 3) && bitsOf p 15 6 == 0 && decide (capacityGB p ≤ 16)

/-- An entry of an image or section (Table 19.7). -/
structure FlashEntry where
  index : Nat
  sub : Nat
  data : Bytes
deriving DecidableEq, Repr, Inhabited

/-- The entries that fill a byte string (R476); none when they do not. -/
def parseEntries : Nat → Bytes → Option (List FlashEntry)
  | 0, b => if b.isEmpty then some [] else none
  | k + 1, b =>
    if b.isEmpty then some []
    else
      let n := fieldU b 4 4
      let m := (n + 3) / 4 * 4
      if b.length < 8 + m || fieldU b 3 1 != 0 || !allZero (slice b (8 + n) (m - n)) then none
      else (parseEntries k (b.drop (8 + m))).map (fun l => { index := fieldU b 0 2, sub := fieldU b 2 1, data := slice b 8 n } :: l)

/-- The bytes of an image before its trailer that hold entries (Table 19.6). -/
def imageBody (b : Bytes) : Bytes := slice b 64 (b.length - 132)

/-- The entries of an image. -/
def imageEntries (b : Bytes) : Option (List FlashEntry) := parseEntries (b.length / 8) (imageBody b)

/-- Whether magic, format version and length of an image pass for a slot size (R477). -/
def imageFormat (size : Nat) (b : Bytes) : Bool :=
  decide (132 ≤ b.length) && fieldU b 0 4 == 0x47495947 && fieldU b 4 2 == 1 && fieldU b 12 4 == b.length &&
    b.length % 4 == 0 && decide (b.length ≤ size)

/-- Whether the signature of an image verifies against a key (R476, R477). -/
def signatureOk (key : Nat × Nat) (b : Bytes) : Bool :=
  let n := b.length
  bit (fieldU b 6 2) 0 && ecdsaVerify key (sha256 (b.take (n - 64))) (beNat (slice b (n - 64) 32)) (beNat (slice b (n - 32) 32))

/-- The status of a slot that holds an image (R477, Table 19.10). -/
def slotStatus (size : Nat) (b : Bytes) : Nat :=
  if b.isEmpty then 0
  else if !imageFormat size b then 2
  else if fieldU b (b.length - 68) 4 != crc32c (b.take (b.length - 68)) then 3
  else if fieldU b 20 2 / 256 != Config.dictVersion % 2 ^ 16 / 256 then 5
  else match Config.signingKey with
    | none => 1
    | some key => if signatureOk key b then 1 else 4

/-- Whether an object is flagged P. -/
def isPersisted (index sub : Nat) : Bool := ((rowFor index sub).map (fun r => r.persisted)).getD false

/-- Entries in strictly increasing order of index, then subindex (R476). -/
def entriesRise : List FlashEntry → Bool
  | a :: b :: l => decide (objKey a.index a.sub < objKey b.index b.sub) && entriesRise (b :: l)
  | _ => true

/-- Whether the structure of an image passes R476, apart from its entries' values. DEDUCED: assumption 51. -/
def imageStructure (b : Bytes) : Bool :=
  decide (fieldU b 6 2 < 2) && allZero (slice b 22 42) && (bit (fieldU b 6 2) 0 || allZero (b.drop (b.length - 64))) &&
    match imageEntries b with
    | none => false
    | some l => l.length == fieldU b 16 4 && entriesRise l && l.all (fun e => isPersisted e.index e.sub || (rowFor e.index e.sub).isNone)

/-- The typed value of an entry. -/
def entryVal (e : FlashEntry) : Val :=
  match rowFor e.index e.sub with
  | some r => decodeVal r.type e.data
  | none => .oct e.data

/-- The check of R69 that an entry fails, as an abort code, or 0 (R478); others hold what the image gives them or their Default. -/
def entryCode (w : View) (e : FlashEntry) : Nat :=
  match rowFor e.index e.sub with
  | none => if indexExists e.index then 0x01010002 else 0x01010001
  | some r =>
    if !lengthOk r.type e.data.length then 0x03010001
    else
      let v := decodeVal r.type e.data
      let c := checkContent w r e.index e.sub v
      if c != 0 then c else if crossOk w e.index e.sub then 0 else 0x03010003

/-- The check of an image at the commit of its upload (R478): the abort code, or 0. DEDUCED: assumption 51. -/
def imageCode (size : Nat) (b : Bytes) : Nat :=
  if !imageFormat size b || !imageStructure b then 0x06010004
  else if slotStatus size b != 1 then 0x06010004
  else
    let l := (imageEntries b).getD []
    let w := viewWith defaultVal (l.map (fun e => (e.index, e.sub, entryVal e)))
    (((l.map (entryCode w)).find? (fun c => c != 0))).getD 0

/-- The section that keeps an object (R479): 0 object, 1 calibration, 2 table. -/
def sectionOf (index sub : Nat) : Nat :=
  if (decide (0x3300 ≤ index) && decide (index < 0x3360) && decide (sub < 5)) || (decide (0x3800 ≤ index) && decide (index < 0x3820))
      || (decide (0x4300 ≤ index) && decide (index < 0x4352)) then 1
  else if isTableObj index sub then 2
  else 0

/-- The active image, if there is one. -/
def activeImage (f : FlashState) : Bytes := if f.active < 2 then (getI f.slots f.active).bytes else []

/-- The base entry of an object in the current copy of its section (R479). -/
def baseEntry (f : FlashState) (index sub : Nat) : Option Val :=
  let x := getI f.sections (sectionOf index sub)
  if x.saved then some ((lookKey (objKey index sub) x.entries).getD (defaultVal index sub)) else none

/-- The persisted value of an object with its origin (R479, R528): 0 append area, 1 base entry, 2 active image. -/
def persistedVal (f : FlashState) (img : List FlashEntry) (index sub : Nat) : Option (Val × Nat) :=
  match (f.append.filterMap (fun e => e.filter (fun x => x.1 == objKey index sub))).getLast? with
  | some e => some (e.2, 0)
  | none =>
    match baseEntry f index sub with
    | some v => some (v, 1)
    | none => (img.find? (fun e => e.index == index && e.sub == sub)).map (fun e => (entryVal e, 2))

/-- The subindices of an index that are flagged P, in increasing order. -/
def persistedSubs (index : Nat) : List Nat :=
  (List.range 256).filter (fun k => (objectsOf index).any (fun r => rowHas r index k && r.persisted))

/-- The objects that have a persisted value, in increasing order (R71, R479). -/
def persistedKeys (f : FlashState) (img : List FlashEntry) : List (Nat × Nat) :=
  if f.append.isEmpty && img.isEmpty && allI 3 (fun k => !(getI f.sections k).saved) then []
  else ((List.range 0x6040).filter indexExists).flatMap (fun i =>
    ((persistedSubs i).filter (fun k => (persistedVal f img i k).isSome)).map (fun k => (i, k)))

/-- Event 0x0301 for a discarded value (R528). -/
def discardEvent (index sub origin code : Nat) : Event :=
  mkEvent (.core 0) 0x0301 .warn .device 0 (leBytes 2 index ++ leBytes 1 sub ++ leBytes 1 origin ++ leBytes 4 code)

/-- Step 1 of R71: the persisted values that pass step 6 of R69, with the events of those that do not. -/
def keepValid (w : View) : List (Nat × Nat × Val × Nat) → List (Nat × Nat × Val × Nat) × List Event
  | [] => ([], [])
  | (i, k, v, o) :: l =>
    let r := keepValid w l
    let c := match rowFor i k with
      | some row => checkContent w row i k v
      | none => 0x03010002
    if c = 0 then ((i, k, v, o) :: r.1, r.2) else (r.1, discardEvent i k o c :: r.2)

/-- One pass of step 2 of R71: values that fail a cross-check give way to the Default. DEDUCED: assumption 51. -/
def crossPass : List (Nat × Nat × Val × Nat) → DictState → DictState × List (Nat × Nat × Val × Nat) × List Event
  | [], d => (d, [], [])
  | (i, k, v, o) :: l, d =>
    if crossOk (fun i k => objVal d i k) i k then
      let r := crossPass l d
      (r.1, (i, k, v, o) :: r.2.1, r.2.2)
    else
      let r := crossPass l (setVal d i k (defaultVal i k))
      (r.1, r.2.1, discardEvent i k o 0x03010003 :: r.2.2)

/-- Step 3 of R71: passes until one discards nothing. -/
def crossPasses : Nat → List (Nat × Nat × Val × Nat) → DictState → DictState × List Event
  | 0, _, d => (d, [])
  | n + 1, l, d =>
    let r := crossPass l d
    if r.2.2.isEmpty then (r.1, [])
    else
      let q := crossPasses n r.2.1 r.1
      (q.1, r.2.2 ++ q.2)

/-- The dictionary with every persisted value in force at the end of start-up phase 3, and the events of the values discarded
(R71). -/
def loadPersisted (f : FlashState) (d : DictState) : DictState × List Event :=
  if !f.present then (d, [])
  else
    let img := (imageEntries (activeImage f)).getD []
    let img := if (activeImage f).isEmpty then [] else img
    let all := (persistedKeys f img).filterMap (fun x => (persistedVal f img x.1 x.2).map (fun v => (x.1, x.2, v.1, v.2)))
    let set := fun (d : DictState) (l : List (Nat × Nat × Val × Nat)) => l.foldl (fun d x => setVal d x.1 x.2.1 x.2.2.1) d
    let r := keepValid (fun i k => objVal (set d all) i k) all
    let q := crossPasses (r.1.length + 1) r.1 (set d r.1)
    (q.1, r.2 ++ q.2)

/-- The BOOT objects (R68, R74): index and subindex. -/
def bootKeys : List (Nat × Nat) :=
  [(0x2100, 0x10)] ++ (List.range 16).map (fun k => (0x2110 + k, 0x0B)) ++ [(0x2400, 0x00), (0x2400, 0x01), (0x2400, 0x02)]
    ++ (List.range 96).map (fun a => (0x3200 + a, 0x01))

/-- The dictionary at the end of the power sequence (R74): BOOT values stored in a flash that is known are in force, where they pass step 6
of R69; the end of start-up phase 3 looks them up again with all others (R71). DEDUCED: assumption 51. -/
def bootInForce (f : FlashState) (d : DictState) : DictState :=
  if !f.present then d
  else
    let img := if (activeImage f).isEmpty then [] else (imageEntries (activeImage f)).getD []
    bootKeys.foldl (fun d x =>
      match persistedVal f img x.1 x.2, rowFor x.1 x.2 with
      | some v, some r => if checkContent (fun i k => objVal d i k) r x.1 x.2 v.1 = 0 then setVal d x.1 x.2 v.1 else d
      | _, _ => d) d

/-- Octets programmed into the flash at an address. -/
def flashWrite (s : State) (address : Nat) (b : Bytes) : State := s.send (.flashWrite address b)

/-- A range of the flash erased. -/
def flashErase (s : State) (address length : Nat) : State := s.send (.flashErase address length)

/-- The size of a copy of section k (R474). -/
def copySize (k : Nat) : Nat := if k = 0 then 0x80000 else 0x200000

/-- The flash address of a copy of section k (R474). -/
def copyAddress (k place : Nat) : Nat := [0x110000, 0x210000, 0x610000].getD k 0 + place * copySize k

/-- The flash address of an image slot (R474). -/
def slotAddress (f : FlashState) (slot : Nat) : Nat := 0x1000000 + slot * slotSize f.capacity

/-- The octets of an entry (Table 19.7). -/
def entryBytes (index sub : Nat) (v : Val) : Bytes :=
  let b := match rowFor index sub with
    | some r => encodeVal r.type v
    | none => []
  leBytes 2 index ++ leBytes 1 sub ++ leBytes 1 0 ++ leBytes 4 b.length ++ padTo ((b.length + 3) / 4 * 4) b

/-- The octets of an append slot (R480). -/
def appendSlotBytes (index sub : Nat) (v : Val) : Bytes :=
  let e := entryBytes index sub v
  padTo 252 e ++ leBytes 4 (crc32c e)

/-- The octets of a selector record (R475). -/
def selectorBytes (generation slot : Nat) : Bytes :=
  let b := leBytes 4 0x53535947 ++ leBytes 4 generation ++ leBytes 1 slot ++ leBytes 3 0
  b.take 12 ++ leBytes 4 (crc32c (b.take 12))

/-- The P objects of section k, in increasing order (R479). -/
def sectionKeys (k : Nat) : List (Nat × Nat) :=
  ((List.range 0x6040).filter indexExists).flatMap (fun i =>
    ((persistedSubs i).filter (fun j => sectionOf i j == k)).map (fun j => (i, j)))

/-- The base entries of a section copy (R479, R481). -/
def baseEntries (k : Nat) (x : Section) : List Bytes :=
  if x.saved then (sectionKeys k).map (fun o => entryBytes o.1 o.2 ((lookKey (objKey o.1 o.2) x.entries).getD (defaultVal o.1 o.2))) else []

/-- The header of a section copy (Table 19.8). -/
def sectionHeader (k tick : Nat) (x : Section) : Bytes :=
  let l := baseEntries k x
  let base := l.flatMap id
  let h := leBytes 4 0x53505947 ++ leBytes 1 (k + 1) ++ leBytes 3 0 ++ leBytes 4 x.generation ++ leBytes 4 base.length
    ++ leBytes 4 l.length ++ leBytes 4 0 ++ leBytes 4 tick
  h ++ leBytes 4 (crc32c (h ++ base))

/-- A section copy put into the flash: its base entries, then the header that makes it current (R481). -/
def writeSection (s : State) (k tick : Nat) : State :=
  let x := getI s.flash.sections k
  let a := copyAddress k x.place
  flashWrite (flashWrite s (a + 32) ((baseEntries k x).flatMap id)) a (sectionHeader k tick x)

/-- The copy of section k that is not current erased, before a save or clear writes there (R481). -/
def eraseOlder (s : State) (k : Nat) : State :=
  flashErase (s.updFlash (fun f => { f with
      older := updI f.older k (fun _ => none), olderAppend := if k = 0 then [] else f.olderAppend }))
    (copyAddress k (1 - (getI s.flash.sections k).place)) (copySize k)

/-- The sections that a clear renews (R482). -/
def clearedSections (all : Bool) : List Nat := if all then [0, 1, 2] else [0, 2]

/-- The slot that an upload writes: the one that is not active (R478). DEDUCED: assumption 51. -/
def uploadSlot (f : FlashState) : Nat := if f.active = 0 then 1 else 0

/-- The effect of an accepted upload at its boundary (R478). -/
def startUpload (s : State) (image : Bytes) : State :=
  let slot := uploadSlot s.flash
  let s := flashErase s (slotAddress s.flash slot) (slotSize s.flash.capacity)
  s.updFlash (fun f => { f with
    op := .upload slot image, progress := 0
    slots := updI f.slots slot (fun _ => { bytes := [], status := 6, version := 0 }) })

/-- The effect of an activate command (R478): a new selector record in the place of the one that does not govern (R475). -/
def activateSlot (s : State) (slot : Nat) : State :=
  let f := s.flash
  let g := (f.selectorGeneration + 1) % 2 ^ 32
  let place := 1 - f.selectorPlace
  let a := 0x1000 + 0x1000 * place
  let s := flashWrite (flashErase s a 0x1000) a (selectorBytes g slot)
  s.updFlash (fun f => { f with
    selected := slot, selectorGeneration := g, selectorPlace := place
    selectorOlder := if f.selectorGeneration = 0 then none else some (f.selected, f.selectorGeneration) })

/-- Whether an object has apply class BOOT. -/
def isBoot (index sub : Nat) : Bool := applyOf index sub == .boot

/-- The snapshot of every P object (R481): values that differ from the Default. -/
def snapshot (d : DictState) : List (Nat × Val) :=
  let plain := d.vals.filter (fun e => isPersisted (e.1 / 256) (e.1 % 256) && (lookKey e.1 d.boot).isNone)
  d.boot.foldl (fun l e => if e.2 == defaultVal (e.1 / 256) (e.1 % 256) then l else putKey e.1 e.2 l) plain

/-- The effect of an accepted persistence command at its boundary (R481, R482). -/
def startPersistence (s : State) (v : Nat) : State :=
  let s := (if v = 1 then [0, 1, 2] else clearedSections (v == 3)).foldl eraseOlder s
  s.updFlash (fun f =>
    if v = 1 then { f with op := .save (snapshot s.dict) s.tickCount, status := 1 } else { f with op := .clear (v == 3), status := 2 })

/-- A section made current anew (R481, R482). DEDUCED: assumption 51. -/
def renewSection (f : FlashState) (k : Nat) (saved : Bool) (l : List (Nat × Val)) : FlashState :=
  let x := getI f.sections k
  { f with
    older := updI f.older k (fun _ => if x.generation = 0 then none else some x)
    sections := updI f.sections k (fun x =>
      { place := 1 - x.place, generation := (x.generation + 1) % 2 ^ 32, saved
        entries := l.filter (fun e => sectionOf (e.1 / 256) (e.1 % 256) == k) }) }

/-- The end of a save or clear (R481, R482): new current copies, event 0x1307. -/
def finishPersistence (s : State) : State :=
  let done := fun (s : State) => (s.updFlash (fun f => { f with op := .none, status := 3 })).post (flashEvent 0x1307 .note 0 [])
  match s.flash.op with
  | .save l t =>
    let s := s.updFlash (fun f => { renewSection (renewSection (renewSection f 0 true l) 1 true l) 2 true l with
      append := [], olderAppend := f.append, lastSave := t })
    done ([0, 1, 2].foldl (fun s k => writeSection s k t) s)
  | .clear all =>
    let f := { renewSection (renewSection s.flash 0 false []) 2 false [] with append := [], olderAppend := s.flash.append }
    done ((clearedSections all).foldl (fun s k => writeSection s k s.tickCount)
      (s.updFlash (fun _ => if all then renewSection f 1 false [] else f)))
  | _ => s

/-- The append of a BOOT value (R480, R483): the abort code, or 0; a flash that has failed in the tick fails the append. -/
def appendCode (s : Blocks) : Nat :=
  if !s.flash.present then 0x06010003
  else if persistenceBusy s then 0x04010001
  else if 256 ≤ s.flash.append.length || s.flash.failTick == some s.now then 0x06010003
  else 0

/-- A BOOT value appended to the object section and held for the next reset (R72, R480). DEDUCED: assumption 51. -/
def appendBoot (s : State) (index sub : Nat) (v : Val) : State :=
  let k := objKey index sub
  let a := copyAddress 0 (getI s.flash.sections 0).place + 0x70000 + 256 * s.flash.append.length
  ((flashWrite s a (appendSlotBytes index sub v)).updFlash (fun f => { f with append := f.append ++ [some (k, v)] })).updDict (fun d => { d with boot := putKey k v d.boot })

/-- The fault ring emptied by the clear-ring command (R512). DEDUCED: assumption 51. -/
def clearRing (s : State) : State := (flashErase s 0x10000 0x100000).updFlash (fun f => { f with ring := [], ringNext := 0 })

/-- The octets of a ring slot (R508). -/
def ringSlotBytes (unitId : Nat) (r : Record) (sequence : Nat) : Bytes :=
  let b := recordBytes unitId r ++ leBytes 4 sequence
  b ++ leBytes 4 (crc32c b) ++ List.replicate 184 0xFF

/-- One ring entry written (R507, R508): at the first slot of a sector the sector after it is erased. -/
def ringWrite (s : State) : State :=
  match s.faults.ringPending with
  | [] => s
  | r :: _ =>
    if !s.flash.present || !s.faults.ringKnown then s
    else
      let p := s.flash.ringNext
      let kept := if p % 16 = 0 then s.flash.ring.filter (fun x => x.position / 16 != (p / 16 + 1) % 256) else s.flash.ring
      let seq := (s.flash.ringSequence + 1) % 2 ^ 32
      let s := if p % 16 = 0 then flashErase s (0x10000 + 0x1000 * ((p / 16 + 1) % 256)) 0x1000 else s
      let s := flashWrite s (0x10000 + 256 * p) (ringSlotBytes s.pair.unitId r seq)
      takeRing (s.updFlash (fun f => { f with
        ring := kept ++ [{ record := r, sequence := seq, position := p }], ringSequence := seq, ringNext := (p + 1) % 4096 }))

/-- The entries of a ring that no later entry of the same record replaces (R507). -/
def ringLatest (l : List RingSlot) : List Record :=
  (l.filter (fun x => !l.any (fun y => y.record.boot == x.record.boot && y.record.number == x.record.number &&
    decide (x.sequence < y.sequence)))).map (fun x => x.record)

/-- The ring located at the end of start-up phase 3 (R508): boot number, ring sequence, and the records that the reset closed,
CLOSED_BY_RESET in the ring alone (R506). DEDUCED: assumption 51. -/
def locateRing (s : State) : State :=
  if !s.flash.present then { s with faults := { s.faults with boot := 0, ringPending := [] } }
  else
    let boot := match s.flash.ring.getLast? with
      | some x => (x.record.boot + 1) % 2 ^ 32
      | none => 1
    let s := if s.flash.ring.isEmpty then s.updFlash (fun f => { f with ringSequence := 0, ringNext := 0 }) else s
    let closed := ((ringLatest s.flash.ring).filter (fun r => !r.closed)).map (fun r => { r with closed := true, closedByReset := true })
    { s with faults := { s.faults with
      boot, ringKnown := true
      log := s.faults.log.map (fun r => { r with boot }), unstored := s.faults.unstored.map (fun r => { r with boot })
      ringPending := closed ++ s.faults.ringPending.map (fun r => { r with boot }) } }

/-- A section copy whose CRC fails (R479, R484): it is ignored, and event 0x1306 names its section; the copy before it is then current.
DEDUCED: assumption 51. -/
def loseCopy (s : State) (k : Fin 3) (place : Nat) : State :=
  let x := getI s.flash.sections k
  let bad := fun (s : State) => s.post (flashEvent 0x1306 .warn (k.val + 1) [])
  match getI s.flash.older k with
  | some o =>
    if o.place == place then
      bad (s.updFlash (fun f => { f with
        older := updI f.older k (fun _ => none), olderAppend := if k.val = 0 then [] else f.olderAppend }))
    else
      bad (s.updFlash (fun f => { f with
        sections := updI f.sections k (fun _ => o), older := updI f.older k (fun _ => none)
        append := if k.val = 0 then f.olderAppend else f.append, olderAppend := if k.val = 0 then [] else f.olderAppend }))
  | none =>
    if x.generation = 0 || x.place != place then s
    else
      bad (s.updFlash (fun f => { f with
        sections := updI f.sections k (fun x => { x with generation := 0, saved := false, entries := [] })
        append := if k.val = 0 then [] else f.append }))

/-- A selector record whose CRC fails: the other one governs, and without one slot A is selected (R475). -/
def loseSelector (f : FlashState) (place : Nat) : FlashState :=
  if place != f.selectorPlace then { f with selectorOlder := none }
  else
    match f.selectorOlder with
    | some o => { f with selected := o.1, selectorGeneration := o.2, selectorPlace := 1 - place, selectorOlder := none }
    | none => { f with selected := 0, selectorGeneration := 0 }

/-- A part of the flash whose CRC fails at discovery (R475, R479, R508). -/
def losePart (s : State) (p : FlashPart) : State :=
  match p with
  | .ring slot => s.updFlash (fun f => { f with ring := f.ring.filter (fun x => x.position != slot.val) })
  | .append slot => s.updFlash (fun f => { f with append := f.append.mapIdx (fun i e => if i = slot.val then none else e) })
  | .sectionCopy k place => loseCopy s k place
  | .selector place => s.updFlash (fun f => loseSelector f place)

/-- Whether the flash meets what R472 asks. -/
def flashOk (r : FlashReport) : Bool :=
  r.answers && r.bfpt.revisionB && decide (32768 ≤ r.capacityKiB) && (r.bfpt.fast144 || r.bfpt.fast114)
    && r.bfpt.erase4K && r.bfpt.erase64K && r.bfpt.suspends && decide (r.bfpt.programUs ≤ 1500)

/-- How a flash is set up (R473): the first way into 4-byte addressing that it supports, its method for the Quad Enable bit, and its read
mode. DEDUCED: assumption 51. -/
def flashSetup (b : FlashParameters) : FlashSetup :=
  { enter := if b.addressing.val = 2 then none
      else if b.enterB7 then some [0xB7] else if b.enter06B7 then some [0x06, 0xB7]
      else if b.enterTable then some [] else none
    quadEnable := b.quadEnable, readMode := if b.fast144 then 2 else 1 }

/-- Discovery at the start of phase 3 (R472–R475): the instructions sent, what the flash answers, and the populations by its board header.
DEDUCED: assumption 51. DEDUCED: assumption 75. -/
def discoverFlash (s : State) (r : FlashReport) : State :=
  let ok := flashOk r
  let s := s.send (.flashDiscovery [0x66, 0x99, 0x9F, 0x5A])
  let s := if ok then s.send (.flashSetup (flashSetup r.bfpt)) else s
  let s := s.updFlash (fun f => { f with
    present := ok, capacity := if ok then r.capacityKiB else 0, jedec := if ok then r.jedec else 0
    readMode := if ok then (flashSetup r.bfpt).readMode else 0
    header := if ok then padTo 64 r.header else List.replicate 64 0 })
  let pop := fun c => population s.flash.header c
  let s := { s with mem := { s.mem with population := Vector.ofFn (fun c => pop c) } }
  if ok then r.invalid.foldl losePart s else s.post (flashEvent 0x1309 .warn 0 [])

/-- The active image chosen at the end of phase 3 (R477). -/
def chooseImage (s : State) : State :=
  if !s.flash.present then s.updFlash (fun f => { f with active := 0xFF })
  else
    let size := slotSize s.flash.capacity
    let s := s.updFlash (fun f => { f with slots := f.slots.map (fun x =>
      let st := if x.bytes.isEmpty then x.status else slotStatus size x.bytes
      { x with status := st, version := if st = 1 then fieldU x.bytes 8 4 else 0 }) })
    let st := fun k => (getI s.flash.slots k).status
    let a := s.flash.selected % 2
    let bad := fun (s : State) k => s.post (flashEvent 0x1304 .warn k (leBytes 1 (st k)))
    if st a = 1 then s.updFlash (fun f => { f with active := a })
    else if st (1 - a) = 1 then bad (s.updFlash (fun f => { f with active := 1 - a })) a
    else (bad (bad (s.updFlash (fun f => { f with active := 0xFF })) a) (1 - a)).post (flashEvent 0x1305 .warn 0 [])

/-- IMAGE_PROGRAM_COMPLETE (R478). DESIGN CHOICE: assumption 9. -/
def execImageProgramComplete (verified : Bool) (s : State) : Host.Outcome State Fault Refusal :=
  match s.flash.op with
  | .upload slot image =>
    let s := flashWrite s (slotAddress s.flash slot) image
    if verified then
      .next (s.updFlash (fun f => { f with
        op := .none, progress := image.length
        slots := updI f.slots slot (fun _ => { bytes := image, status := 1, version := fieldU image 8 4 }) }))
    else
      let t := spoilSlot s slot
      .next (t.updFlash (fun f => { f with op := .none }))
  | _ => .next s

/-- SAVE_COMPLETE (R481, R482). DESIGN CHOICE: assumption 9. -/
def execSaveComplete (s : State) : Host.Outcome State Fault Refusal := .next (finishPersistence s)

/-- FLASH_OPERATION_FAILED (R483): status 4 and event 0x1308; the current copies stay. With no operation in progress it is the append of a
BOOT value in the present tick that fails. DEDUCED: assumption 51. -/
def execFlashOperationFailed (s : State) : Host.Outcome State Fault Refusal :=
  let t := if s.flash.op == .none then s.updFlash (fun f => { f with failTick := some s.now }) else endFlashOp s 4
  .next ((t.updFlash (fun f => { f with failures := inc32 f.failures })).post (flashEvent 0x1308 .warn 0 []))

/-- RING_WRITE (R507, R508). -/
def execRingWrite (s : State) : Host.Outcome State Fault Refusal := .next (ringWrite s)

end Sys2Proof.Machine
end

