-- ==== Sys2Proof/Machine/Memory.lean ====
section
/-! DEFINITION. The memories: the Reed-Solomon code, scrubbing, uncorrectable words, DDR training
(19_memory_and_settings R461–R471). -/

namespace Sys2Proof.Machine

/-- A product in GF(2^8) with the polynomial 0x11D (R465), over `k` bits of the second factor. -/
def gfMulAux : Nat → Nat → Nat → Nat
  | 0, _, _ => 0
  | k + 1, a, b =>
    let twice := if 128 ≤ a then ((2 * a) ^^^ 0x11D) % 256 else 2 * a
    (if b % 2 == 1 then a else 0) ^^^ gfMulAux k twice (b / 2)

/-- A product in GF(2^8). -/
def gfMul (a b : Nat) : Nat := gfMulAux 8 a b

/-- A power of α = 0x02. -/
def gfPow : Nat → Nat
  | 0 => 1
  | k + 1 => gfMul 2 (gfPow k)

/-- Syndrome `j` of a code word d0 to d31, c0 to c3 (R465): its value at α^j. -/
def syndrome (word : List Nat) (j : Nat) : Nat := word.foldl (fun a x => gfMul a (gfPow j) ^^^ x) 0

/-- Whether every syndrome is that of one bad byte at position `i`. -/
def singleAt (s : List Nat) (i : Nat) : Bool :=
  (List.range 4).all (fun j => nth s j == gfMul (nth s 0) (gfPow (j * (35 - i))))

/-- What the decoder makes of a code word (R467): good, one bad byte corrected at a position, or uncorrectable. -/
inductive Decoded
  | good
  | corrected (position : Nat)
  | bad
deriving DecidableEq, Repr, Inhabited

/-- The decoder (R467). -/
def decodeWord (word : List Nat) : Decoded :=
  let s := (List.range 4).map (syndrome word)
  if s.all (fun x => x == 0) then .good
  else if nth s 0 == 0 then .bad
  else match (List.range 36).find? (singleAt s) with
    | some i => .corrected i
    | none => .bad

/-- The check bytes of 32 data bytes (R465): the remainder of the message polynomial. -/
def checkBytes (data : List Nat) : List Nat :=
  (data ++ [0, 0, 0, 0]).foldl (fun r x =>
    let q := nth r 0
    [nth r 1 ^^^ gfMul q 0x0F, nth r 2 ^^^ gfMul q 0x36, nth r 3 ^^^ gfMul q 0x78, x ^^^ gfMul q 0x40]) [0, 0, 0, 0]

/-- The 36 bytes d0 to d31, c0 to c3 of a code word as a little-endian number. -/
def wordNat (word : List Nat) : Nat := word.foldr (fun x a => x % 256 + 256 * a) 0

/-- `k` bytes of a number, least significant first. -/
def bytesFrom : Nat → Nat → List Nat
  | 0, _ => []
  | k + 1, x => x % 256 :: bytesFrom k (x / 256)

/-- The SRAM row of a code word (R466): byte i of the data in bits [8i + 7:8i], the check bytes in bits [287:256], c0 lowest. -/
def rowOf (word : List Nat) : BitVec 288 := BitVec.ofNat 288 (wordNat word)

/-- One beat of a DDR burst from 16 data bytes and two check bytes (R466): byte i on DQ[8i + 7:8i], the check bytes on CB[7:0] and CB[15:8]. -/
def beatOf (data check : List Nat) : Beat := { dq := BitVec.ofNat 128 (wordNat data), cb := BitVec.ofNat 16 (wordNat check) }

/-- A code word as a memory holds it (R466): in DDR (targets 0 and 1) two beats, the first with d0 to d15, c0 and c1; in SRAM one row. -/
def storeWord (target : Nat) (word : List Nat) : StoredWord :=
  if target = 2 then .row (rowOf word)
  else .beats (beatOf (word.take 16) ((word.drop 32).take 2)) (beatOf ((word.drop 16).take 16) (word.drop 34))

/-- The code word that a memory holds, d0 to d31 and c0 to c3 (R466). -/
def loadWord (x : StoredWord) : List Nat :=
  match x with
  | .row r => bytesFrom 36 r.toNat
  | .beats b0 b1 => bytesFrom 16 b0.dq.toNat ++ bytesFrom 16 b1.dq.toNat ++ bytesFrom 2 b0.cb.toNat ++ bytesFrom 2 b1.cb.toNat

/-- The eight beats of a burst: four code words, two beats each (R466). -/
def burstOf (words : Vector (List Nat) 4) : List Beat :=
  words.toList.flatMap (fun w => match storeWord 0 w with | .beats b0 b1 => [b0, b1] | .row _ => [])

/-- A write of fewer than 32 bytes at offset `off` of a code word (R468): read, corrected, merged and coded anew; none where the word is
uncorrectable, and the write is then not performed. -/
def mergeWrite (word : List Nat) (off : Nat) (data : List Nat) : Option (List Nat) :=
  let merge := fun (w : List Nat) =>
    let d := (List.range 32).map (fun i => if off ≤ i && i < off + data.length then nth data (i - off) else nth w i)
    d ++ checkBytes d
  match decodeWord word with
  | .good => some (merge word)
  | .corrected p => some (merge (word.mapIdx (fun i x => if i = p then x ^^^ syndrome word 0 else x)))
  | .bad => none

/-- The memories changed by `f`. -/
def State.updMem (s : State) (f : MemState → MemState) : State := { s with mem := f s.mem }

/-- An event that names a memory region (R484). -/
def memEvent (code : Nat) (sev : Severity) (inst : Nat) (detail : Bytes) : Event := mkEvent (.block 10) code sev .memory inst detail

/-- The last error record (Table 19.3). -/
def errorRecord (s : Blocks) (address location result position foundBy region : Nat) : Bytes :=
  leBytes 8 s.tickCount ++ leBytes 8 address ++ leBytes 1 location ++ leBytes 1 result ++ leBytes 1 position
    ++ leBytes 1 foundBy ++ leBytes 1 region ++ List.replicate 11 0

/-- A corrected word (R471): count, record, and event 0x1302 above 1,000 in 100,000 ticks. -/
def noteCorrected (s : State) (location address position foundBy : Nat) : State :=
  let recent := (s.now :: s.mem.recentCorrected.filter (fun t => decide (s.now < t + 100000))).take 1001
  let many := decide (1000 < recent.length)
  let due := match s.mem.ratePosted with
    | none => true
    | some t => decide (t + 100000 ≤ s.now)
  let s := s.updMem (fun m => { m with
    corrected := updI m.corrected location inc32, recentCorrected := recent
    record := errorRecord s.toBlocks address location 1 position foundBy 0
    ratePosted := if many && due then some s.now else m.ratePosted })
  let s := { s with work := { s.work with corrected := inc32 s.work.corrected } }
  if many && due then s.post (memEvent 0x1302 .warn location []) else s

/-- A block transfer closed by the device with an abort code (R80, R87): a write that ends so counts as a rejected write. -/
def closeTransfer (s : State) (h code : Nat) : State :=
  match getI s.host.transfers h with
  | none => s
  | some t =>
    let s := { s with host := { s.host with
      transfers := updI s.host.transfers h (fun _ => none), closed := updI s.host.closed h (fun _ => { code, index := t.index, sub := t.sub }) } }
    if t.writing then s.updDict (fun d => { d with rejected := inc32 d.rejected }) else s

/-- A held package discarded (Table 19.2): the host may send it again (R137). -/
def dropPackage (s : State) (layer : Nat) : State :=
  let kept := s.job.store.filter (fun p => p.head.layer != layer || some p.head.layer == s.job.layer)
  let last := match kept.getLast? with
    | some p => some { job := p.head.job, layer := p.head.layer, last := p.head.last }
    | none => none
  { s with job := { s.job with store := kept, last := if (s.job.last.map (fun l => l.layer)) == some layer then last else s.job.last } }

/-- The first layer data in the receive buffer of port p discarded as if never received (Table 19.2): what stands behind it then follows a
gap, which is discarded and answered with NAK like any other (Table 4.6). -/
def dropDatagram (s : State) (p : Nat) : State :=
  let x := s.host.session
  match x.buffer with
  | [] => s
  | (offset, _) :: l =>
    if x.port.val != p then s
    else
      let nak := if l.isEmpty || s.host.nak.isSome then s.host.nak
        else some { port := x.port, src := x.src, session := x.id, status := 0x09010003 }
      { s with host := { s.host with
        nak, session := { x with
          sequence := (2 ^ 32 + x.sequence - (l.length + 1)) % 2 ^ 32, offset, buffer := []
          gaps := l.foldl (fun n _ => inc32 n) x.gaps } } }

/-- The message that stands first in queue q discarded (Table 19.2): a request that waits, layer data, a message that waits for space, a
fault event or a flash write; 64 and 65 are the receive buffers of the ports. DESIGN CHOICE: assumption 61. -/
def dropEntry (s : State) (q : Nat) : State :=
  if q = 63 then { s with faults := { s.faults with q63 := s.faults.q63.drop 1 } }
  else if q = 62 then takeRing s
  else if q = 57 || q = 59 then
    { s with host := { s.host with requests := updI s.host.requests ((q - 57) / 2) (fun l => l.drop 1) } }
  else if q = 56 || q = 58 then dropDatagram s ((q - 56) / 2)
  else if q = 64 || q = 65 then dropDatagram s (q - 64)
  else
    let mine := fun (e : Egress) => e.queue == q && e.hop.isNone
    { s with host := { s.host with egress := s.host.egress.eraseIdx (s.host.egress.findIdx mine) } }

/-- The severity of an uncorrectable word by its region (Table 19.2, rows from 1). -/
def regionSeverity (region : Nat) : Severity :=
  if region = 1 || region = 2 || region = 4 then .stopJob else if region = 8 then .note else .warn

/-- The result of an uncorrectable word by its region (Table 19.2). `item` is what the word belongs to: the key of an object in region
3, a layer number in regions 5 and 6, a queue in region 7, a handle in region 8; in regions 1 and 2 the stage that expected the word, which
misses its deadline (`expects`). DESIGN CHOICE: assumption 61. -/
def regionResult (s : State) (region item : Nat) : State :=
  match region with
  | 1 => localFault s
  | 2 => localFault s
  | 3 => s.updMem (fun m => { m with badObjects := (item / 256, item % 256) :: m.badObjects.filter (fun x => x != (item / 256, item % 256)) })
  | 4 => { s with job := { s.job with refill := false } }
  | 5 => dropPackage s item
  | 6 =>
    let lost := s.melt.closing.filter (fun c => c.map.layer == item)
    { s with melt := { s.melt with
      maps := s.melt.maps.filter (fun m => m.layer != item), closing := s.melt.closing.filter (fun c => c.map.layer != item)
      q46 := s.melt.q46.filter (fun e => lost.all (fun c => c.serial != e.serial)) } }
  | 7 => dropEntry s item
  | 8 => closeTransfer s item 0x07010001
  | _ => s

/-- An uncorrectable word (R470, R471): count, record, event 0x1301 and the result of Table 19.2. DESIGN CHOICE: assumption 61. -/
def noteUncorrectable (s : State) (location address region foundBy item : Nat) : State :=
  let s := s.updMem (fun m => { m with
    uncorrectable := updI m.uncorrectable location inc32
    record := errorRecord s.toBlocks address location 2 0xFF foundBy region })
  let s := { s with work := { s.work with
    uncorrectable := inc32 s.work.uncorrectable
    health := updI s.work.health 2 (fun h => { h with until_ := s.now + 100000 }) } }
  (regionResult s region item).post (memEvent 0x1301 (regionSeverity region) region [])

/-- Whether the scrubber works in a target (R469): the SRAM, or a trained channel whose background initialisation has ended. -/
def scrubs (s : Blocks) (target : Nat) : Bool :=
  s.time.running && (target == 2 || (getI s.mem.state target == 1 && getI s.mem.initDone target))

/-- The address of the last word of a target: the last SRAM row, or the last word of the channel (R462, R464). -/
def lastWord (s : Blocks) (target : Nat) : Nat :=
  if target = 2 then 786431 else capacityGB (getI s.mem.population target) * 2 ^ 30 - 32

/-- One word read by the scrubber (R469, R471), an armed injection applied first (Table 19.11 sub 0x19); a corrected word is written back
at once: the bad byte differs from the right one by the first syndrome (R465). DESIGN CHOICE: assumption 61. -/
def scrubWord (s : State) (target address region : Nat) (word : List Nat) : State :=
  if !scrubs s.toBlocks target then s
  else
    let bad := match s.mem.injection with
      | some (t, n) => if t = target then n else 0
      | none => 0
    let word := word.mapIdx (fun i x => if i < bad then x ^^^ 0xFF else x)
    let s := if bad = 0 then s else s.updMem (fun m => { m with injection := none })
    let s := if address != lastWord s.toBlocks target then s
      else if target = 2 then s.updMem (fun m => { m with passesSram := inc32 m.passesSram })
      else s.updMem (fun m => { m with passesDdr := inc32 m.passesDdr })
    match decodeWord word with
    | .good => s
    | .corrected p =>
      let fixed := word.mapIdx (fun i x => if i = p then x ^^^ syndrome word 0 else x)
      (noteCorrected s target address p 1).send (.writeBack target address (storeWord target fixed))
    | .bad => noteUncorrectable s target address region 1 0

/-- DDR_TRAINING (R463): in the flash phase of start-up, a channel that the board header names present. DESIGN CHOICE: assumption 9. -/
def execDdrTraining (ch : Fin 2) (ok : Bool) (s : State) : Host.Outcome State Fault Refusal :=
  .next (if s.start.phase == 3 && populationOk (getI s.mem.population ch) then
    let s := s.updMem (fun m => { m with state := updI m.state ch (fun _ => if ok then 1 else 2) })
    if ok then s else s.post (memEvent 0x1303 .warn ch [])
  else s)

/-- BACKGROUND_INIT_COMPLETE (R463, R469). DESIGN CHOICE: assumption 9. -/
def execBackgroundInitComplete (ch : Fin 2) (s : State) : Host.Outcome State Fault Refusal :=
  .next (if getI s.mem.state ch == 1 then s.updMem (fun m => { m with initDone := updI m.initDone ch (fun _ => true) }) else s)

/-- SCRUB (R469). -/
def execScrub (target : Fin 3) (address region : Nat) (word : StoredWord) (s : State) : Host.Outcome State Fault Refusal :=
  .next (scrubWord s target address region (loadWord word))

/-- The words corrected since the last boundary on the fabric and at demand reads, which write a stored word back (R20, R469, R471). -/
def noteCorrections (s : State) (l : List CorrectedWord) : State :=
  l.foldl (fun s c => noteCorrected s c.location (if c.location = 3 then 0 else c.address) c.position (if c.location = 3 then 2 else 0)) s

end Sys2Proof.Machine
end

