-- ==== Sys2Proof/Machine/Dict.lean ====
section
/-! DEFINITION. Writes: the checks of a write group, its commit, and values and commands at their moment of effect
(03_object_dictionary R67–R79, R82, R85, R87, R529). -/

namespace Sys2Proof.Machine

/-- A write of a group: index, subindex and data. -/
abbrev GroupWrite := Nat × Nat × Bytes

/-- Whether the device accepts writes in its pair state (R81, R337). -/
def acceptsWrites (s : Blocks) : Bool := s.pair.st == .single || s.pair.st == .active || s.pair.st == .alone

/-- The value that a write carries, as its object takes it. -/
def writeVal (w : GroupWrite) : Nat × Nat × Val :=
  (w.1, w.2.1, decodeVal (((rowFor w.1 w.2.1).map (fun r => r.type)).getD (.uint 1)) w.2.2)

/-- Steps 1 and 2 of R69: the row of an object that a write may reach, or the abort code. `block` says that a block transfer writes. -/
def writeRow (index sub : Nat) (block : Bool) : Except Nat ObjRow :=
  match rowFor index sub with
  | none => .error (if indexExists index then 0x01010002 else 0x01010001)
  | some r =>
    if r.access == .ro then .error 0x02010001
    else if isTable r.type && !block then .error 0x02010003
    else if !isTable r.type && block then .error 0x02010004
    else .ok r

/-- Step 4 of R69: the abort code, or 0 (R81, R85). -/
def stateCode (s : Blocks) : Nat := if s.job.dev == .startUp then 0x04010001 else if acceptsWrites s then 0 else 0x04010003

/-- Step 5 of R69: the abort code, or 0 (R68). DEDUCED: assumption 52. -/
def ownerCode (s : Blocks) (r : ObjRow) (index : Nat) : Nat :=
  if (r.access == .rws || r.apply == .stp) && !ownerStopped s index then 0x04010002 else 0

/-- Steps 6 and 7 of R69 and the condition of acceptance (R478, R529): the abort code, or 0. `w` is what every object holds once the
group is in force. -/
def valueCode (s : Blocks) (w : View) (r : ObjRow) (index sub : Nat) (v : Val) : Nat :=
  let c := checkContent w r index sub v
  if c != 0 then c
  else if !crossOk w index sub then 0x03010003
  else
    let a := acceptCode s w index sub v
    if a != 0 then a
    else if index == 0x1202 && sub == 0x06 then imageCode (slotSize s.flash.capacity) (valB v)
    else 0

/-- Steps 1 to 7 of R69 for one write of a group: the abort code, or 0. DEDUCED: assumption 52. -/
def writeCode (s : Blocks) (w : View) (block : Bool) (x : GroupWrite) : Nat :=
  match writeRow x.1 x.2.1 block with
  | .error e => e
  | .ok r =>
    if !lengthOk r.type x.2.2.length then 0x03010001
    else if stateCode s != 0 then stateCode s
    else if ownerCode s r x.1 != 0 then ownerCode s r x.1
    else valueCode s w r x.1 x.2.1 (decodeVal r.type x.2.2)

/-- Step 8 of R69 for the writes of a group in order: each one's abort code, or 0. `boots` counts the BOOT values appended by earlier
writes of the group. -/
def spaceCodes (s : Blocks) : List PendingWrite → Nat → List GroupWrite → List Nat
  | _, _, [] => []
  | pend, boots, x :: l =>
    let v := writeVal x
    if isBoot x.1 x.2.1 then
      let c := appendCode s
      (if c != 0 then c else if 256 ≤ s.flash.append.length + boots then 0x06010003 else 0) :: spaceCodes s pend (boots + 1) l
    else
      let next := putPending s.now pend (newPending s v.1 v.2.1 v.2.2 false)
      (if 1024 < storeCount next then 0x06010001 else 0) :: spaceCodes s next boots l

/-- The first failing write of a group: its position and its abort code (R69, R70). -/
def groupCode (s : Blocks) (block : Bool) (l : List GroupWrite) : Option (Nat × Nat) :=
  let w := viewWith (viewNext s) (l.map writeVal)
  let codes := (l.zip (spaceCodes s s.dict.pending 0 l)).map (fun x =>
    let c := writeCode s w block x.1
    if c != 0 then c else x.2)
  match codes.findIdx? (fun c => c != 0) with
  | some k => some (k, nth codes k)
  | none => none

/-- One write committed (R72, R79). -/
def commitOne (s : State) (x : GroupWrite) : State :=
  let v := writeVal x
  let s := s.updDict (fun d => { d with commits := (d.commits + 1) % 2 ^ 32 })
  let s := s.updMem (fun m => { m with badObjects := m.badObjects.filter (fun o => o != (x.1, x.2.1)) })
  if isBoot x.1 x.2.1 then appendBoot s x.1 x.2.1 v.2.2
  else
    let w := newPending s.toBlocks v.1 v.2.1 v.2.2 false
    s.updDict (fun d => { d with pending := putPending s.now d.pending w })

/-- The payload of WRITE (Table 13.4): the group, its commit time, its immediate boundary and the octets of its GDP response.
DEDUCED: assumption 70. -/
def forwardPayload (s : Blocks) (l : List GroupWrite) (response : Option GdpResponse) : Bytes :=
  leBytes 8 s.localTime ++ leBytes 8 (boundaryCount s) ++ leBytes 2 l.length
    ++ l.flatMap (fun x => leBytes 2 x.1 ++ leBytes 1 x.2.1 ++ leBytes 4 x.2.2.length ++ x.2.2)
    ++ (response.map gdpBytes).getD []

/-- A committed group forwarded to the standby with the response it holds back (R345). -/
def forwardGroup (s : State) (l : List GroupWrite) (response : Option GdpResponse) : State :=
  if s.pair.st != .active then s
  else
    let q := getI s.pair.sequences 4
    let body := forwardPayload s.toBlocks l response
    let due := commitDue s.toBlocks
    let s := sendPeer s 4 body
    { s with pair := { s.pair with forwarded := s.pair.forwarded ++ [{ sequence := q, due, sent := s.now, body, response }], groupDues := s.pair.groupDues ++ [due] } }

/-- A group committed whole (R70): every write, one commit time, and WRITE to the standby. -/
def commitGroup (s : State) (l : List GroupWrite) (response : Option GdpResponse) : State :=
  let s := s.updDict (fun d => { d with lastCommit := s.localTime })
  forwardGroup (l.foldl commitOne s) l response

/-- `n` writes counted as rejected (R87). -/
def countRefused (s : State) (n : Nat) : State := s.updDict (fun d => { d with rejected := satU 32 (d.rejected + n) })

/-- A write group checked and, when every write passes, committed (R69, R70, R87). -/
def writeGroup (s : State) (block : Bool) (l : List GroupWrite) : State :=
  match groupCode s.toBlocks block l with
  | some _ => countRefused s l.length
  | none => commitGroup s l none

/-- A write of one object that reaches CC0 at a clock of the tick. DEDUCED: assumption 23. -/
def hostWrite (s : State) (index sub : Nat) (data : Bytes) (clk : Nat) : State :=
  if served s.toBlocks then writeGroup (s.atClock clk) (isTableObj index sub) [(index, sub, data)] else s

/-- The addresses that port p uses after its IPv4 mode or static address has come into force, or its port has started (R91, R92); a DHCPv4
client that starts looks for a lease (R88). -/
def setAddress (s : State) (p : Fin 2) : State :=
  let i : Nat := 0x1100 + p
  let mode := s.objN i 0x06
  let old := ipv4InUse s.toBlocks p
  let started := mode == 2 && (getI s.host.ports p).dhcp == .off
  let s := { s with host := { s.host with ports := updI s.host.ports p (fun e =>
    if mode = 1 then { e with ipv4 := s.objN i 0x07, dhcp := .off }
    else if mode = 2 then
      if e.dhcp == .off then { e with ipv4 := 0, dhcp := .selecting } else e
    else { e with ipv4 := 0, dhcp := .off }) } }
  let s := if ipv4InUse s.toBlocks p == old then s else announceAddress s p
  if started then seekLease s p else s

/-- Whether port p can be reached: it may send, and an address of it is in use. -/
def reachable (s : Blocks) (p : Nat) : Bool := portReady s p && (familyInUse s p false || familyInUse s p true)

/-- A port enabled, or disabled with its Announce gone as with its link (R50, R52, Table 4.9 sub 0x00). -/
def portSwitched (s : State) (p : Nat) : State :=
  if s.objB (0x1100 + p) 0x00 then seekLease (announceAddress s p) p else setAnnounce s p none

/-- The WARN event of a port whose link or last address an object has taken out of use (R93). -/
def noteUnreachable (s : State) (p : Nat) (was : Bool) : State :=
  if was && !reachable s.toBlocks p then s.post (mkEvent (.block (7 + p)) (openCode 11) .warn .device 0 (leBytes 1 p)) else s

/-- A mark cleared by a write of 0 (Tables 1.5, 2.5, 4.9, 7.4, 9.9, 14.6, 17.9). -/
def clearMark (s : State) (index sub : Nat) : State :=
  if index == 0x2003 then s.updTime (fun t => { t with p2High := updI t.p2High sub (fun _ => 0) })
  else if index == 0x2100 then s.updPower (fun p => { p with record := 0 })
  else if index < 0x2000 then
    { s with host := { s.host with ports := updI s.host.ports (index - 0x1100) (fun e => { e with high := 0 }) } }
  else if index < 0x3400 then s.updAxis (index - 0x3200) (fun ax => { ax with peak := 0 })
  else if index < 0x4000 then s.updPortC (index - 0x3500) (fun p => { p with high := 0 })
  else if index < 0x5000 then s.updStep (index - 0x4000) (fun ax => { ax with peak := 0 })
  else { s with queues := updI s.queues (index - 0x6000) (fun q => { q with high := 0 }) }

/-- Whether a write clears a mark. -/
def isMark (index sub : Nat) : Bool :=
  (decide (0x6000 ≤ index) && sub == 0x02) || index == 0x2003 || (index == 0x2100 && sub == 0x09)
    || ((index == 0x1100 || index == 0x1101) && sub == 0x17)
    || (decide (0x3200 ≤ index) && decide (index < 0x3260) && sub == 0x56)
    || (decide (0x3500 ≤ index) && decide (index < 0x3514) && sub == 0x27)
    || (decide (0x4000 ≤ index) && decide (index < 0x4008) && sub == 0x58)

/-- What a block does when a value comes into force, given the value before it. -/
def valueHook (s : State) (index sub : Nat) (old : Val) : State :=
  let changed := objVal s.dict index sub != old
  if index == 0x1100 || index == 0x1101 then
    let p : Fin 2 := if index == 0x1100 then 0 else 1
    if sub == 0x06 || sub == 0x07 || sub == 0x0A then setAddress s p else if sub == 0x00 && changed then portSwitched s p else s
  else if 0x2110 ≤ index && index < 0x2120 && sub == 0x0A then
    if s.objB index 0x0A && safeOpen s.faults then switchTo s (index - 0x2110) .off else s
  else if 0x2210 ≤ index && index < 0x2240 && (sub == 0x00 || sub == 0x09 || sub == 0x0A) then emptyHistory s (index - 0x2210)
  else if 0x3200 ≤ index && index < 0x3260 && sub == 0x00 && changed then
    s.updAxis (index - 0x3200) (fun ax => { ax with trusted := false, trustedOnce := false, trustRun := 0 })
  else if 0x3400 ≤ index && index < 0x3480 && sub == 0x00 && changed then
    if s.objB index 0x00 then s else ctxDisabled s (index - 0x3400)
  else if 0x3500 ≤ index && index < 0x3514 && sub == 0x00 && changed then setStreaming s (index - 0x3500) (s.objB index 0x00)
  else if index == 0x3600 && (sub == 0x47 || sub == 0x48 || sub == 0x49 || sub == 0x4B) then resetHeat s
  else if 0x3600 ≤ index && index < 0x3620 && sub == 0x00 && changed then s.updMelt (index - 0x3600) clearCorrection
  else if 0x5000 ≤ index && index < 0x5040 && sub == 0x00 && changed then setPortEnable s (index - 0x5000) (s.objB index 0x00)
  else s

/-- A value comes into force (R74). -/
def forceValue (s : State) (w : PendingWrite) : State :=
  if isMark w.index w.sub then clearMark s w.index w.sub
  else
    let old := objVal s.dict w.index w.sub
    let was := (w.index == 0x1100 || w.index == 0x1101) && reachable s.toBlocks (w.index - 0x1100)
    noteUnreachable (valueHook (s.updDict (fun d => setVal d w.index w.sub w.val)) w.index w.sub old) (w.index - 0x1100) was

/-- A reset asked for (R85, R490): at once when no ring write waits, otherwise when they are written or 1,000 ticks have passed. -/
def requestReset (s : State) : State :=
  if s.faults.ringPending.isEmpty then enterReset s 3 else { s with start := { s.start with resetDue := some (s.now + 1000) } }

/-- A planned hand-over asked for in the next wisp to leave, with its cause: h is the second boundary after that wisp's tick (R353). -/
def requestHandOver (s : State) (cause : Nat) : State :=
  if s.pair.st == .active && s.work.handOver.isNone then { s with work := { s.work with handOver := some (s.now + (if s.job.decided then 3 else 2), cause) } } else s

/-- A command carried out at its moment of effect (R529). -/
def runCommand (s : State) (w : PendingWrite) : State :=
  let index := w.index
  let sub := w.sub
  let n := (valI w.val).toNat
  if index == 0x1002 then requestReset s
  else if index == 0x1080 then if sub == 0x06 then acknowledgeAt s n w.mark else clearRing s
  else if index == 0x1200 then startPersistence s n
  else if index == 0x1202 then if sub == 0x06 then startUpload s (valB w.val) else activateSlot s n
  else if index < 0x2110 then s
  else if index < 0x2120 then switchCommand s (index - 0x2110) n
  else if index == 0x2300 then s.updMem (fun m => { m with injection := some (n % 4, n / 4 % 4) })
  else if index == 0x2400 then requestHandOver s 1
  else if index < 0x3120 then
    if n = 1 then stopChan (s.post (chanEvent (index - 0x3100) 0x060B .note [])) (index - 0x3100) 1 false else s.updChan (index - 0x3100) (fun c => { c with rejoin := true })
  else if index < 0x3260 then axisCommand s (index - 0x3200) n
  else if index < 0x3360 then
    s.updAxis (index - 0x3300) (fun ax => { ax with fb := { ax.fb with low := 0xFFFF, high := 0 } })
  else if index < 0x3480 then s.updCtx (index - 0x3400) (fun x => { x with armed := true })
  else if index < 0x3514 then
    if sub == 0x0B then s.updPortC (index - 0x3500) (fun p => { p with manual := some s.now })
    else i2cStart s (index - 0x3500) (valB w.val)
  else if index < 0x4008 then
    let m := index - 0x4000
    match sub with
    | 0x40 => stepCommand s m n
    | 0x41 => stepEnqueue s m (valB w.val)
    | 0x42 => onStep s m (fun e ax => (retargetAxis e ax (valI w.val), []))
    | _ => s.updStep m (fun ax => setAxisPosition ax (valI w.val))
  else if index < 0x4110 then clearFailed s (index - 0x4100)
  else if index == 0x4200 then rleCommand s n
  else if index < 0x4351 then startCalibration s (index - 0x4300)
  else if sub == 0x03 then retrainPort s (index - 0x5000)
  else nodeRequestEffect s (index - 0x5000) (valB w.val)

/-- The condition of a command at its moment of effect (R529): the condition of acceptance, that no job runs for a step of local time
(R55), and that the trimmed channel is idle for a calibration. -/
def effectHolds (s : Blocks) (w : PendingWrite) : Bool :=
  acceptCode s (viewNow s) w.index w.sub w.val == 0 && !(w.index == 0x2000 && s.jobRuns) &&
    (decide (w.index < 0x4300) || decide (0x4351 ≤ w.index) || trimIdle s (w.index - 0x4300))

/-- Whether an object is written to command an action (R529). -/
def isCommand (index sub : Nat) : Bool := ((rowFor index sub).map (fun r => r.access == .wo)).getD false

/-- A committed write at its moment of effect (R74, R529). -/
def takeEffect (s : State) (w : PendingWrite) : State :=
  if isCommand w.index w.sub then
    if effectHolds s.toBlocks w then runCommand s w else s.updDict (fun d => { d with noEffect := inc32 d.noEffect })
  else forceValue s w

/-- Whether a committed value of apply class LYR comes into force at a boundary (R74, R452). -/
def lyrNow (s : Blocks) (layer : Bool) (w : PendingWrite) : Bool :=
  if w.index == 0x4350 then s.tickCount % 1000 == 0
  else layer || !s.jobRuns ||
    (decide (0x4300 ≤ w.index) && decide (w.index < 0x4350) && w.due == s.now && trimIdle s (w.index - 0x4300))

/-- Whether the moment of effect of a committed write is the present boundary; FRM values have their own (R74, Table 3.3). -/
def comesNow (s : Blocks) (layer : Bool) (w : PendingWrite) : Bool :=
  decide (w.due ≤ s.now) &&
    (match w.apply with
      | .imm => true
      | .stp => true
      | .lyr => lyrNow s layer w
      | .frm => false
      | .boot => false)

/-- FRM values of contexts that are unbound or disabled (R74, R75). -/
def idleFrames (s : State) : State :=
  let l := (s.dict.pending.filter (fun w => w.apply == .frm && decide (w.due ≤ s.now))).map (fun w => w.index - 0x3400)
  l.foldl (fun s i => if !s.objB (0x3400 + i) 0x00 || ctxN s.toBlocks i 0x01 == 0xFF then frameValues s i else s) s

/-- The writes of a boundary with the values before the commands, each in commit order: a command meets the values in force from the
boundary (R209, R529). -/
def valuesFirst (l : List PendingWrite) : List PendingWrite :=
  l.filter (fun w => !isCommand w.index w.sub) ++ l.filter (fun w => isCommand w.index w.sub)

/-- The dictionary at a tick boundary, after local and job-level actions: every write whose moment of effect it is, in commit order
(R39, R74–R77). `layer` says that the boundary is a layer boundary. -/
def dictBoundary (layer : Bool) (s : State) : State :=
  let before := s.dict
  let all := dropReplaced s.now before.pending
  let due := all.filter (comesNow s.toBlocks layer)
  let kept := dropWaiting s.now (all.filter (fun w => !comesNow s.toBlocks layer w))
  let s := (valuesFirst due).foldl takeEffect (s.updDict (fun d => { d with pending := kept }))
  let s := settleSource (idleFrames s)
  if due.any (fun w => decide (0x3800 ≤ w.index) && decide (w.index < 0x3820)) then
    gridsInForce before (fun k => due.any (fun w => w.staged && w.index == 0x3800 + k && w.sub == 3)) s
  else s

end Sys2Proof.Machine
end

