-- ==== Sys2Proof/Machine/Queues.lean ====
section
/-! DEFINITION. Fill and high-water marks of the hardware queues (01_architecture R26–R31, Tables 1.4, 1.5). -/

namespace Sys2Proof.Machine

/-- The bytes of the requests of a port that stand in its queue, in order of arrival, and of those that are still in the receive buffer. -/
def requestBytes : Nat → List GdpRequest → Nat × Nat
  | q, [] => (q, 0)
  | q, r :: l =>
    if q + r.head.udpLen ≤ 65536 then requestBytes (q + r.head.udpLen) l
    else (q, sumN ((r :: l).map (fun x => x.head.udpLen)))

/-- The queue of GDP requests of port p (Table 1.4). -/
def requestQueue (p : Nat) : Nat := if p == 0 then 57 else 59

/-- What a message queue keeps over a tick boundary: the requests not yet served (R101). -/
def keptBytes (s : Blocks) (q : Nat) : Nat :=
  if q = 57 then (requestBytes 0 (getI s.host.requests 0)).1 else if q = 59 then (requestBytes 0 (getI s.host.requests 1)).1 else 0

/-- The content of queue q in the unit of Table 1.4. The message
queues hold what was placed in them since the last tick boundary. DESIGN CHOICE: assumption 16. -/
def queueContent (s : Blocks) (q : Nat) : Nat :=
  if q < 32 then queueBytes (getI s.scan.chans q)
  else if q < 40 then (getI s.steps (q - 32)).queue.length
  else if q < 44 then 32 * (getI s.melt.queues (q - 40)).length
  else if q = 44 then Nat.min 524288 (sumN (s.cams.ctxs.toList.map (fun x => sumN (x.images.map (fun m => m.data.length)))))
  else if q = 45 then 32 * s.reg.q45.length
  else if q = 46 then sumN (s.melt.q46.map (fun e => 2 * e.cells.length))
  else if q = 47 then sumN (s.melt.q47.map (fun e => e.data.length))
  else if q = 62 then 64 * ringQueued s.faults
  else if q = 63 then 64 * s.faults.q63.length
  else (getI s.queues q).placed

/-- Capacity of queue q (Table 1.4). -/
def queueCapacity (q : Nat) : Nat :=
  if q < 32 then 262144 else if q < 40 then 16 else if q < 48 then 524288 else 65536

/-- The Fill of every queue taken at a tick boundary, with its high-water mark; the message queues then drain (R31, Table 1.5;
DESIGN CHOICE, assumption 16). -/
def takeFills (s : State) : State :=
  let b := s.toBlocks
  { s with queues := mapI s.queues (fun q x =>
    let k := queueContent b q
    { x with fill := k, high := Nat.max x.high k, placed := keptBytes b q }) }

end Sys2Proof.Machine
end

