-- ==== Sys2Proof/Machine/Reads.lean ====
section
/-! DEFINITION. What reads return (03_object_dictionary R65, R84): the read-only objects of every chapter. -/

namespace Sys2Proof.Machine

/-- A text of a STRING object (Table 3.1). -/
def textBytes (n : Nat) (s : List Nat) : Bytes := padTo n (s.map (fun x => BitVec.ofNat 8 x))

/-- "Skoath" (Table 3.6). -/
def vendorName : Bytes := textBytes 16 [0x53, 0x6B, 0x6F, 0x61, 0x74, 0x68]

/-- "GY-5032" (Table 3.6). -/
def deviceName : Bytes := textBytes 16 [0x47, 0x59, 0x2D, 0x35, 0x30, 0x33, 0x32]

/-- "GY-5032-FB2916-MT" (Table 3.6, R1). -/
def partCode : Bytes :=
  textBytes 24 [0x47, 0x59, 0x2D, 0x35, 0x30, 0x33, 0x32, 0x2D, 0x46, 0x42, 0x32, 0x39, 0x31, 0x36, 0x2D, 0x4D, 0x54]

/-- 0x1000 sub 0x09 (Table 3.6): SHA-256 over both coordinates of the key, highest byte first (PRESUMED, assumption 14). -/
def keyDigest : Bytes :=
  match Config.signingKey with
  | some k => beBytes 32 (sha256 (beBytes 32 k.1 ++ beBytes 32 k.2))
  | none => List.replicate 32 0

/-- A number as a value. -/
def vN (n : Nat) : Val := .int (n : Int)

/-- A BOOL as a value. -/
def vB (b : Bool) : Val := .int (b2n b : Int)

/-- Numbers of `k` bytes each as a table. -/
def vTable (k : Nat) (l : List Nat) : Val := .oct (l.flatMap (fun x => leBytes k x))

/-- 0x6000+q (Table 1.5). -/
def readQueue (s : Blocks) (q sub : Nat) : Val :=
  let x := getI s.queues q
  match sub with
  | 0x00 => vN x.fill
  | 0x01 => vN (queueCapacity q)
  | 0x02 => vN x.high
  | 0x03 => vN x.underruns
  | 0x04 => vN x.stalls
  | _ => vN (if 32 ≤ q && q < 40 then 1 else 0)

/-- The number of a timebase state (Table 2.3). -/
def tbNum (t : TbState) : Nat :=
  match t with
  | .free => 0
  | .acquire => 1
  | .locked => 2
  | .holdover => 3

/-- 0x2001 (Table 2.5): without a slave port the mean link delay reads 0, and the elapsed holdover saturates.
DESIGN CHOICE: assumption 88. -/
def readTime (s : Blocks) (sub : Nat) : Val :=
  let t := s.time
  match sub with
  | 0x00 => vN (tbNum t.tb)
  | 0x01 => vN t.boundary
  | 0x02 => vN s.tickCount
  | 0x03 => .int t.offset
  | 0x04 => .int t.tuning
  | 0x05 => .oct (beBytes 8 t.gm)
  | 0x06 => vN ((t.slave.map (fun p => p.val)).getD 0xFF)
  | 0x07 => vN ((t.slave.map (fun p => getI t.linkDelay p.val)).getD 0)
  | 0x08 => .oct (leBytes 8 t.boundary ++ leBytes 6 s.tickCount ++ leBytes 1 (tbNum t.tb) ++ [0])
  | 0x09 => vN t.stepCount
  | _ => vN (if t.tb == .holdover then satU 32 (s.now - t.holdoverStart) else 0)

/-- Whether a stored BOOT value differs from the value in force (Table 3.6 sub 0x07). -/
def bootPending (d : DictState) : Bool := d.boot.any (fun e => objVal d (e.1 / 256) (e.1 % 256) != e.2)

/-- 0x1000 (Table 3.6). -/
def readIdentity (sub : Nat) : Val :=
  match sub with
  | 0x00 => .oct vendorName
  | 0x01 => .oct deviceName
  | 0x02 => .oct partCode
  | 0x03 => vN (Config.stepping % 256)
  | 0x04 => vN (Config.romVersion % 2 ^ 32)
  | 0x05 => vN (Config.dictVersion % 2 ^ 16)
  | 0x06 => .oct (padTo 8 Config.serial)
  | 0x07 => vN (Config.dateCode % 2 ^ 16)
  | 0x08 => .oct (padTo 8 Config.lotCode)
  | _ => .oct keyDigest

/-- 0x1001 (Table 3.6). -/
def readStatus (s : Blocks) (sub : Nat) : Val :=
  match sub with
  | 0x00 => vN (devNum s.job.dev)
  | 0x01 => vN (sevInForce s.faults)
  | 0x02 => vN (satU 16 (openRecords s.faults).length)
  | 0x03 => vN s.start.cause
  | 0x04 => vN s.time.ticks
  | 0x05 => vN s.dict.commits
  | 0x06 => vN (storeCount s.dict.pending)
  | 0x07 => vB (bootPending s.dict)
  | 0x08 => vN s.dict.lastCommit
  | 0x09 => vN s.dict.rejected
  | 0x0A => vN s.role
  | 0x0B => vN (satU 16 (tableCount s.dict.pending))
  | _ => vN s.dict.noEffect

/-- The number of a DHCPv4 state (Table 4.9). -/
def dhcpNum (d : Dhcp) : Nat :=
  match d with
  | .off => 0
  | .selecting => 1
  | .bound => 2
  | .renewing => 3
  | .rebinding => 4
  | .expired => 5

/-- 0x1100+p (Table 4.9). -/
def readPort (s : Blocks) (p sub : Nat) : Val :=
  let x := getI s.host.ports p
  match sub with
  | 0x02 => .oct (beBytes 6 (Config.mac p % 2 ^ 48))
  | 0x10 => vN (if portReady s p then (if s.objN (0x1100 + p) 0x01 = 1 then 1 else 2) else 0)
  | 0x11 => vN x.ipv4
  | 0x12 => vN (dhcpNum x.dhcp)
  | 0x13 => .oct (if s.objN (0x1100 + p) 0x0A = 0 then List.replicate 16 0 else beBytes 16 (linkLocal p))
  | 0x14 => vN x.received
  | 0x15 => vN x.discards
  | 0x16 => vN x.overflow
  | 0x17 => vN x.high
  | _ => vN x.sent

/-- The credit limit of the session (R111); 0 while there is none. DEDUCED: assumption 31. -/
def creditLimit (x : Session) : Nat := if x.id = 0 then 0 else x.released + 491520

/-- 0x1110 (Table 4.9). -/
def readLink (s : Blocks) (sub : Nat) : Val :=
  let h := s.host
  let x := h.session
  match sub with
  | 0x00 => vN 47410
  | 0x01 => vN 47411
  | 0x02 => vN 47412
  | 0x04 => vN x.id
  | 0x05 => vN (if x.id = 0 then 0xFF else x.port.val)
  | 0x06 => vN x.sequence
  | 0x07 => vN x.offset
  | 0x08 => vN (creditLimit x)
  | 0x09 => vN x.duplicates
  | 0x0A => vN x.gaps
  | 0x0B => vN x.exceeded
  | 0x0C => vN x.accepted
  | 0x0D => vN x.rejected
  | 0x0E => vN h.served
  | 0x0F => vN h.replays
  | 0x10 => vN h.malformed
  | 0x11 => vN (h.subs.toList.filter (fun x => x.isSome)).length
  | _ => vN (h.transfers.toList.filter (fun x => x.isSome)).length

/-- The number of a channel state (Table 6.4). -/
def chanNum (c : ChanState) : Nat :=
  match c with
  | .idle => 0
  | .run => 1
  | .waitEnd => 2
  | .waitMark => 3
  | .stopping => 4
  | .stopped => 5

/-- 0x3000+n (Tables 6.7, 12.16). -/
def readLaser (s : Blocks) (n sub : Nat) : Val :=
  let c := (getI s.scan.chans n).counts
  let l := getI s.link.lasers n
  match sub with
  | 0x01 => vN (gateSources s n)
  | 0x05 => vN c.suppressed
  | 0x07 => vN l.power
  | 0x08 => vN l.backReflection
  | 0x09 => vN l.last
  | 0x0A => vN l.reason
  | 0x0B => vN l.alarms
  | _ => vN c.merged

/-- 0x3100+n (Table 6.8). -/
def readChannel (s : Blocks) (n sub : Nat) : Val :=
  let x := getI s.scan.chans n
  let c := x.counts
  match sub with
  | 0x10 => vN (chanNum x.state)
  | 0x11 => vN (satU 32 x.backlog)
  | 0x12 => vN (c.completed % 2 ^ 32)
  | 0x13 => vN (c.markWait % 2 ^ 32)
  | 0x14 => vN (c.claimed % 2 ^ 32)
  | 0x15 => vN (c.lost % 2 ^ 32)
  | 0x16 => vN (c.abandoned % 2 ^ 32)
  | 0x17 => vN (c.throttleDwells % 2 ^ 32)
  | 0x18 => vN (c.rasterReductions % 2 ^ 32)
  | 0x19 => vN (c.speedLimited % 2 ^ 32)
  | 0x1A => vN x.stopCause
  | 0x1B => vN x.stopLayer
  | 0x1C => vB (bit s.temp.channelThrottle n)
  | _ => vB x.rejoin

/-- The number of a loop state (Table 7.1). -/
def loopNum (l : Loop) : Nat :=
  match l with
  | .opened => 0
  | .capture => 1
  | .closed => 2
  | .ramp => 3

/-- 0x3200+a (Table 7.4). -/
def readAxis (s : Blocks) (a sub : Nat) : Val :=
  let x := getI s.axes a
  match sub with
  | 0x03 => vN (loopNum x.loop)
  | 0x04 => vB x.trusted
  | 0x05 => vN x.latched
  | 0x2E => .oct (notchBytes s a 0)
  | 0x3E => .oct (notchBytes s a 1)
  | 0x50 => .int (satS 32 x.e)
  | 0x51 => .int (satS 32 x.y)
  | 0x52 => .int (satS 32 x.r)
  | 0x53 => .int x.u
  | 0x54 => .int x.law.integ
  | 0x55 => .int x.law.satDir
  | 0x56 => vN (x.peak % 2 ^ 32)
  | 0x57 => vN x.followFaults
  | 0x58 => vN x.limitFaults
  | 0x59 => vN x.satTicks
  | _ => vN x.captures

/-- 0x3300+a (Table 8.3). -/
def readFeedback (s : Blocks) (a sub : Nat) : Val :=
  let x := (getI s.axes a).fb
  match sub with
  | 0x10 => .oct (beBytes 8 x.word.toNat)
  | 0x11 => vB x.valid
  | 0x12 => vN x.lastReason
  | 0x13 => vN x.position
  | 0x14 => .int x.sine
  | 0x15 => .int x.cosine
  | 0x16 => vN (isqrt (x.sine * x.sine + x.cosine * x.cosine).toNat)
  | 0x17 => vN x.counter
  | 0x18 => vN x.status
  | 0x27 => vN x.repeats
  | 0x28 => vN x.skips
  | 0x29 => vN x.validWords
  | 0x2A => vN x.low
  | 0x2B => vN x.high
  | k => vN (getI x.fails (k - 0x20))

/-- 0x3400+i (Table 9.10). -/
def readContext (s : Blocks) (i sub : Nat) : Val :=
  let x := getI s.cams.ctxs i
  match sub with
  | 0x30 => vN x.received
  | 0x31 => vN x.valid
  | 0x32 => vN x.truncated
  | 0x33 => vN x.overflowed
  | 0x34 => vN x.long
  | 0x35 => vN x.bad
  | 0x36 => vN x.duplicates
  | 0x37 => vN x.missing
  | 0x38 => vN x.lateSets
  | 0x39 => vN x.lastIndex
  | 0x3A => vN x.lastFlags
  | 0x3B => .oct x.lastRecord
  | 0x3C => vTable 4 x.histogram
  | 0x3D => vTable 2 x.zones
  | 0x3E => vN x.statsIndex
  | 0x3F => .oct x.image
  | 0x40 => vN x.imageIndex
  | _ => vN x.geometry

/-- 0x3500+c (Table 9.9). -/
def readCamera (s : Blocks) (c sub : Nat) : Val :=
  let x := getI s.cams.ports c
  match sub with
  | 0x01 => vN (if c < 16 then 2 else 4)
  | 0x11 => vN x.status
  | 0x12 => .oct (padTo 32 x.response)
  | 0x20 => vN x.link
  | 0x21 => vN x.ecc
  | 0x22 => vN x.headers
  | 0x23 => vN x.crc
  | 0x24 => vN x.linkErrors
  | 0x25 => vN x.overflows
  | 0x26 => vN x.ignored
  | _ => vN x.high

/-- The heat density grid in force as a table (Table 10.7 sub 0x4C). -/
def heatTable (g : HeatGrid) : Val := vTable 4 ((List.range 65536).map (fun k => (lookKey k g.cells).getD 0))

/-- 0x3600+n (Tables 10.6, 10.7). -/
def readMeltObj (s : Blocks) (n sub : Nat) : Val :=
  let m := getI s.melt.chans n
  let h := s.melt.held
  match sub with
  | 0x20 => vN m.gNow
  | 0x21 => .int m.c
  | 0x22 => .int m.fvNow
  | 0x23 => .int m.fhNow
  | 0x24 => vN (getI s.analog.channels n).pd
  | 0x25 => vN m.target
  | 0x26 => vB m.lost
  | 0x27 => vN m.atLimit
  | 0x28 => vN m.pdUpdates
  | 0x29 => vN m.camUpdates
  | 0x2A => vN m.rejected
  | 0x2B => vN m.saturated
  | 0x4C => heatTable s.melt.heat
  | 0x4D => vN (s.melt.heat.layer.getD 0xFFFFFFFF)
  | 0x4E => vN s.melt.heatLags
  | 0x4F => vN h.layer
  | 0x50 => vN h.job
  | 0x51 => vN h.completion
  | 0x52 => vTable 4 (h.planes.map (fun p => p.length))
  | 0x53 => vN h.closed
  | 0x54 => vN h.outside
  | k => .oct (h.planes.getD (k - 0x55) [])

/-- 0x3700+z (Table 11.5). -/
def readFen (s : Blocks) (z sub : Nat) : Val :=
  let x := getI s.reg.status z
  match sub with
  | 0x10 => vN x.layer
  | 0x11 => vN x.chanA
  | 0x12 => vN x.chanB
  | 0x13 => vN x.used
  | 0x14 => vN x.rejected
  | 0x15 => vN x.tx
  | 0x16 => vN x.ty
  | 0x17 => vN x.rotation
  | 0x18 => vN x.scale
  | 0x19 => .int x.cx
  | 0x1A => .int x.cy
  | 0x1B => vN x.rms
  | 0x1C => vN x.rmax
  | 0x1D => vN x.status
  | 0x1E => vN x.update
  | _ => vN x.solves

/-- 0x3800+s (Table 11.6). -/
def readGrid (s : Blocks) (k sub : Nat) : Val :=
  let x := getI s.reg.scanners k
  match sub with
  | 0x10 => vN x.generation
  | 0x11 => vN x.layer
  | 0x12 => vN x.applied
  | 0x13 => vN x.unstaged
  | _ => vN x.shift

/-- The number of a port state (Table 12.12). -/
def portNum (p : PortState) : Nat :=
  match p with
  | .disabled => 0
  | .train => 1
  | .enum => 2
  | .up => 3
  | .down => 4
  | .mismatch => 5

/-- 0x5000+p (Table 12.15). -/
def readZl (s : Blocks) (p sub : Nat) : Val :=
  let x := getI s.link.ports p
  match sub with
  | 0x05 => vN x.reqStatus
  | 0x06 => .oct (padTo 36 x.response)
  | 0x10 => vN (portNum x.st)
  | 0x11 => vN x.info.kind
  | 0x12 => vN x.info.vendor
  | 0x13 => vN x.info.model
  | 0x14 => vN x.info.firmware
  | 0x15 => .oct (leBytes 8 x.info.serial)
  | 0x16 => vN x.info.rating
  | 0x17 => vN x.info.links
  | 0x18 => vN x.info.delay
  | 0x19 => vN (x.echoUnit + 256 * x.echoClaim)
  | 0x1A => .int x.temperature
  | 0x1B => vN x.missedCount
  | 0x20 => vN x.counts.sent
  | 0x21 => vN x.counts.valid
  | 0x22 => vN x.counts.crc
  | 0x23 => vN x.counts.code
  | 0x24 => vN x.counts.other
  | 0x25 => vN x.counts.missing
  | 0x26 => vN x.counts.stalls
  | _ => vN x.counts.downs

/-- The number of a pair state (Table 13.1). -/
def pairNum (p : PairSt) : Nat :=
  match p with
  | .single => 0
  | .discover => 1
  | .sync => 2
  | .active => 3
  | .standby => 4
  | .alone => 5
  | .detached => 6

/-- The health word (Table 13.8): a bit stays 1 for 100,000 ticks after its condition ends (R359). -/
def healthWord (s : Blocks) : Nat :=
  maskOf 9 (fun k => let b := getI s.work.health k; b.active || decide (s.now < b.until_))

/-- UP ports whose last valid response names unit `u` as authority (Table 13.5). -/
def portsFollowing (s : Blocks) (u : Nat) : Nat :=
  ((List.range 64).filter (fun p =>
    let x := getI s.link.ports p
    x.st == .up && bit x.echoUnit 1 && x.echoUnit % 2 == u)).length

/-- The health word that the peer reported last (Table 13.9). -/
def peerHealth (s : Blocks) : Nat := (s.pair.wisp.map (fun w => w.health)).getD 0xFFFFFFFF

/-- 0x2401 (Table 13.11). -/
def readPair (s : Blocks) (sub : Nat) : Val :=
  let p := s.pair
  match sub with
  | 0x00 => vN (pairNum p.st)
  | 0x01 => vN p.unitId
  | 0x02 => vN ((p.wisp.map (fun w => w.pairState)).getD 0xFF)
  | 0x03 => vN (claimOf s)
  | 0x04 => vN (b2n p.lineLow + 2 * b2n p.drives)
  | 0x05 => vN (healthWord s)
  | 0x06 => vN (peerHealth s)
  | 0x07 => vN p.missed
  | 0x08 => vN p.mismatches
  | 0x09 => vN p.handOvers
  | 0x0A => vN (portsFollowing s p.unitId)
  | 0x0B => vN (portsFollowing s (1 - p.unitId))
  | 0x0C => .int (satS 32 s.work.peerOffset)
  | 0x0D => vN p.delay
  | 0x0E => vN p.roleTick
  | 0x0F => vN p.roleCause
  | 0x10 => vN p.laneErrors
  | 0x11 => .oct (padTo 64 p.lantern)
  | _ => vN (if p.st == .active || p.st == .standby then p.lockstep else 0)

/-- The number of a stepper axis state (Table 14.4). -/
def stepNum (x : StepState) : Nat :=
  match x with
  | .idle => 0
  | .moving => 1
  | .dwell => 2
  | .halting => 3
  | .homing => 4
  | .stopped => 5

/-- 0x4000+m (Table 14.6). -/
def readStep (s : Blocks) (m sub : Nat) : Val :=
  let x := getI s.steps m
  match sub with
  | 0x50 => vN (stepNum x.st)
  | 0x51 => vN x.phase
  | 0x52 => .int (satS 32 (rndSar x.pos 16))
  | 0x53 => .int (satS 32 (rndSar x.vel 16))
  | 0x54 => vB x.trusted
  | 0x55 => vN x.latched
  | 0x56 => vN (maskOf 3 (fun k => (getI x.switches k).state) + 16 * maskOf 3 (fun k => (getI x.switches k).raw))
  | 0x57 => vN x.angle
  | 0x58 => vN x.peak
  | 0x59 => .int (satS 32 (rndSar x.homeEdge 16))
  | 0x5A => vN x.moves
  | 0x5B => vN x.stalls
  | 0x5C => vN x.limitStops
  | 0x5D => vN x.chatter
  | _ => vB (bit s.temp.axisThrottle m)

/-- The number of a string state (Table 15.2). -/
def ledNum (x : LedState) : Nat :=
  match x with
  | .off => 0
  | .on => 1
  | .locating => 2
  | .fault => 3

/-- 0x4100+l (Table 15.4). -/
def readLed (s : Blocks) (l sub : Nat) : Val :=
  let x := getI s.light.strings l
  match sub with
  | 0x10 => vN (ledNum x.st)
  | 0x11 => vN x.failed
  | 0x12 => vN x.shorted
  | 0x13 => vN x.level
  | 0x14 => vN x.lampTime
  | 0x15 => vB x.deficit
  | 0x16 => vN x.current
  | 0x17 => vTable 2 x.voltages
  | 0x18 => vN x.opens
  | _ => vN x.notPlaced

/-- The number of a host job state (Table 16.2). -/
def rleNum (x : RleState) : Nat :=
  match x with
  | .empty => 0
  | .running => 1
  | .full => 2
  | .done => Config.rleState 0 % 256
  | .error => Config.rleState 1 % 256

/-- 0x4200 (Table 16.4). -/
def readRle (s : Blocks) (sub : Nat) : Val :=
  let x := s.light.rle
  match sub with
  | 0x10 => vN (rleNum x.st)
  | 0x11 => vN x.consumed
  | 0x12 => vN x.output.length
  | 0x13 => .oct x.output
  | 0x14 => vN (if x.st == .error then x.errorCode else 0)
  | 0x15 => vN x.errorOffset
  | 0x16 => vN x.blocksRun
  | 0x20 => vN x.mapBlocks
  | 0x21 => vN x.hostBlocks
  | 0x22 => vN x.mismatches
  | _ => vN x.rejected

/-- 0x2200 and 0x2210+k (Tables 17.7, 17.8). -/
def readTemp (s : Blocks) (index sub : Nat) : Val :=
  if index == 0x2200 then
    match sub with
    | 0x00 => .int (dieTemp s.temp)
    | 0x01 => .oct (s.temp.die.toList.flatMap (fun x => leBytesI 2 x))
    | 0x03 => .int s.temp.peak
    | 0x04 => vN s.temp.scans
    | 0x05 => vN s.temp.channelThrottle
    | _ => vN s.temp.axisThrottle
  else
    let x := getI s.temp.inputs (index - 0x2210)
    match sub with
    | 0x10 => .int x.reading
    | 0x11 => vN x.validity
    | 0x12 => vN x.series
    | 0x13 => .int (satS 32 x.rate)
    | 0x14 => vB x.tripped
    | 0x15 => vN x.trips
    | _ => vN x.invalid

/-- The number of a load-switch state (Table 17.5). -/
def switchNum (x : SwitchState) : Nat :=
  match x with
  | .off => 0
  | .softStart => 1
  | .on => 2
  | .tripped => 3
  | .retry => 4

/-- 0x2100 and 0x2110+k (Tables 17.9, 17.10). -/
def readPowerObj (s : Blocks) (index sub : Nat) : Val :=
  let p := s.power
  if index == 0x2100 then
    match sub with
    | 0x06 => vN (satU 16 (sumN p.phases.toList))
    | 0x07 => vTable 2 p.phases.toList
    | 0x08 => vN (maskOf 6 (fun k => getI p.outside k))
    | 0x09 => vN p.record
    | 0x0B => vB p.pfLow
    | 0x0C => vN (b2n p.permitLow + 2 * b2n p.gate5)
    | 0x0F => vN p.negations
    | k => vN (getI p.rails k)
  else
    let x := getI p.switches (index - 0x2110)
    match sub with
    | 0x10 => vN (switchNum x.st)
    | 0x11 => vN x.current
    | 0x12 => vN x.voltage
    | 0x13 => vN x.reason
    | _ => vN x.trips

/-- 0x4300+j and 0x4400+n (Tables 18.5, 18.6). -/
def readAnalog (s : Blocks) (index sub : Nat) : Val :=
  if index < 0x4400 then
    let x := getI s.analog.trims (index - 0x4300)
    match sub with
    | 0x03 => vN x.status
    | 0x04 => .int (satS 16 x.r0)
    | 0x05 => .int (satS 16 x.rF)
    | 0x06 => vN x.tick
    | _ => vN x.count
  else
    let x := getI s.analog.channels (index - 0x4400)
    match sub with
    | 0x01 => vN (if calibrating s (index - 0x4400) then 0 else x.lao)
    | 0x02 => vB x.lg
    | 0x03 => vN x.monitor
    | 0x04 => vN x.pdMin
    | 0x05 => vN x.pdMax
    | _ => vN x.overRange

/-- 0x1200, 0x1201 and 0x1202 (Tables 19.8–19.10). -/
def readFlash (s : Blocks) (index sub : Nat) : Val :=
  let f := s.flash
  if index == 0x1200 then
    match sub with
    | 0x01 => vN f.status
    | 0x05 => vN (if f.present then 256 - f.append.length else 0)
    | 0x06 => vN f.lastSave
    | k => vN (if f.present then (getI f.sections (k - 2)).generation else 0)
  else if index == 0x1201 then
    match sub with
    | 0x00 => vN (if f.present then f.capacity else 0)
    | 0x01 => .oct (leBytes 3 f.jedec)
    | 0x02 => vN f.readMode
    | 0x03 => vN (if f.present then slotSize f.capacity else 0)
    | 0x04 => .oct (padTo 64 f.header)
    | _ => vN f.failures
  else
    match sub with
    | 0x00 => vN f.active
    | 0x01 => vN f.selected
    | 0x07 => vN f.progress
    | k =>
      let x := getI f.slots (k % 2)
      if k < 4 then vN x.status else vN (if x.status = 1 then x.version else 0)

/-- 0x2300 (Table 19.11). -/
def readMem (s : Blocks) (sub : Nat) : Val :=
  let m := s.mem
  match sub with
  | 0x00 => vN (getI m.population 0)
  | 0x01 => vN (getI m.population 1)
  | 0x02 => vN (getI m.state 0)
  | 0x03 => vN (getI m.state 1)
  | 0x04 => vB (allI 2 (fun c => getI m.state c != 1 || getI m.initDone c) && anyI 2 (fun c => getI m.state c == 1))
  | 0x07 => vN m.passesDdr
  | 0x08 => vN m.passesSram
  | 0x18 => .oct m.record
  | k => vN (if k < 0x14 then getI m.corrected (k - 0x10) else getI m.uncorrectable (k - 0x14))

/-- 0x1080 to 0x1083 (Tables 20.8, 20.9). -/
def readFaults (s : Blocks) (index sub : Nat) : Val :=
  let f := s.faults
  let u := s.pair.unitId
  if index == 0x1080 then
    match sub with
    | 0x00 => vN f.created
    | 0x01 => vN f.boot
    | 0x02 => vN f.overflowCount
    | 0x03 => vN f.lostEvents
    | 0x04 => vN ((f.log.head?.map (fun r => r.number)).getD 0)
    | 0x05 => vN ((f.log.getLast?.map (fun r => r.number)).getD 0)
    | 0x08 => vN (holdCauseOf s)
    | 0x09 => vN s.flash.ring.length
    | 0x0A => vN (ringQueued f)
    | 0x0B => vN f.overflowSev
    | 0x0D => vTable 2 f.durations
    | _ => vN f.overMaximum
  else if index == 0x1081 then
    .oct (((f.log.find? (fun r => r.number == s.objN 0x1080 0x07)).map (fun r => recordBytes u r)).getD (List.replicate 64 0))
  else if index == 0x1082 then .oct (f.log.flatMap (fun r => recordBytes u r))
  else .oct (s.flash.ring.flatMap (fun r => recordBytes u r.record))

/-- The value that the device gives a read-only object, or an object that holds a mark of the device. -/
def deviceVal (s : Blocks) (index sub : Nat) : Val :=
  if index < 0x1001 then readIdentity sub
  else if index < 0x1080 then readStatus s sub
  else if index < 0x1100 then readFaults s index sub
  else if index < 0x1110 then readPort s (index - 0x1100) sub
  else if index < 0x1111 then readLink s sub
  else if index < 0x1200 then vN (getI s.host.dests (index - 0x1118)).sequence
  else if index < 0x2000 then readFlash s index sub
  else if index < 0x2002 then readTime s sub
  else if index < 0x2003 then vN (getI s.time.overruns sub)
  else if index < 0x2100 then vN (getI s.time.p2High sub)
  else if index < 0x2200 then readPowerObj s index sub
  else if index < 0x2300 then readTemp s index sub
  else if index < 0x2400 then readMem s sub
  else if index < 0x3000 then readPair s sub
  else if index < 0x3100 then readLaser s (index - 0x3000) sub
  else if index < 0x3200 then readChannel s (index - 0x3100) sub
  else if index < 0x3300 then readAxis s (index - 0x3200) sub
  else if index < 0x3400 then readFeedback s (index - 0x3300) sub
  else if index < 0x3500 then readContext s (index - 0x3400) sub
  else if index < 0x3600 then readCamera s (index - 0x3500) sub
  else if index < 0x3700 then readMeltObj s (index - 0x3600) sub
  else if index < 0x3800 then readFen s (index - 0x3700) sub
  else if index < 0x4000 then readGrid s (index - 0x3800) sub
  else if index < 0x4100 then readStep s (index - 0x4000) sub
  else if index < 0x4200 then readLed s (index - 0x4100) sub
  else if index < 0x4300 then readRle s sub
  else if index < 0x5000 then readAnalog s index sub
  else if index < 0x6000 then readZl s (index - 0x5000) sub
  else readQueue s (index - 0x6000) sub

/-- Whether a subindex lies in one of some closed ranges. -/
def subIn (sub : Nat) (l : List (Nat × Nat)) : Bool := l.any (fun r => decide (r.1 ≤ sub) && decide (sub ≤ r.2))

/-- The RO objects that count or measure and whose table states no other moment (R65): by index, ranges of subindices. States, identities,
results and what a table gives at the last tick boundary are not among them. DEDUCED: assumption 89. -/
def countsOrMeasures (index sub : Nat) : Bool :=
  if index == 0x1001 then subIn sub [(0x02, 0x02), (0x05, 0x06), (0x09, 0x09), (0x0B, 0x0C)]
  else if index == 0x1080 then subIn sub [(0x00, 0x00), (0x02, 0x03), (0x09, 0x0A)]
  else if index == 0x1100 || index == 0x1101 then subIn sub [(0x14, 0x16), (0x18, 0x18)]
  else if index == 0x1110 then subIn sub [(0x09, 0x12)]
  else if index == 0x1200 then sub == 0x05
  else if index == 0x1201 then sub == 0x05
  else if index == 0x1202 then sub == 0x07
  else if index == 0x2001 then subIn sub [(0x04, 0x04), (0x07, 0x07), (0x09, 0x0A)]
  else if index == 0x2002 then true
  else if index == 0x2100 then subIn sub [(0x00, 0x07), (0x0F, 0x0F)]
  else if 0x2110 ≤ index && index < 0x2120 then subIn sub [(0x11, 0x12), (0x14, 0x14)]
  else if index == 0x2200 then subIn sub [(0x00, 0x01), (0x03, 0x04)]
  else if 0x2210 ≤ index && index < 0x2240 then subIn sub [(0x10, 0x10), (0x12, 0x13), (0x15, 0x16)]
  else if index == 0x2300 then subIn sub [(0x07, 0x08), (0x10, 0x17)]
  else if index == 0x2401 then subIn sub [(0x07, 0x0D), (0x10, 0x10)]
  else if 0x3000 ≤ index && index < 0x3020 then subIn sub [(0x05, 0x05), (0x07, 0x08), (0x0B, 0x0C)]
  else if 0x3100 ≤ index && index < 0x3120 then subIn sub [(0x11, 0x19)]
  else if 0x3200 ≤ index && index < 0x3260 then subIn sub [(0x50, 0x54), (0x57, 0x5A)]
  else if 0x3300 ≤ index && index < 0x3360 then subIn sub [(0x10, 0x18), (0x20, 0x2B)]
  else if 0x3400 ≤ index && index < 0x3480 then subIn sub [(0x30, 0x38), (0x3B, 0x3D)]
  else if 0x3500 ≤ index && index < 0x3514 then subIn sub [(0x21, 0x26)]
  else if 0x3600 ≤ index && index < 0x3620 then subIn sub [(0x20, 0x25), (0x27, 0x2B), (0x4E, 0x4E), (0x53, 0x54)]
  else if 0x3700 ≤ index && index < 0x3800 then subIn sub [(0x13, 0x14), (0x1F, 0x1F)]
  else if 0x3800 ≤ index && index < 0x3820 then subIn sub [(0x12, 0x13)]
  else if 0x4000 ≤ index && index < 0x4008 then subIn sub [(0x52, 0x53), (0x57, 0x57), (0x5A, 0x5D)]
  else if 0x4100 ≤ index && index < 0x4110 then subIn sub [(0x13, 0x14), (0x16, 0x19)]
  else if index == 0x4200 then subIn sub [(0x11, 0x12), (0x16, 0x16), (0x20, 0x23)]
  else if 0x4300 ≤ index && index < 0x4351 then subIn sub [(0x04, 0x05), (0x07, 0x07)]
  else if 0x4400 ≤ index && index < 0x4420 then subIn sub [(0x01, 0x01), (0x03, 0x06)]
  else if 0x5000 ≤ index && index < 0x5040 then subIn sub [(0x18, 0x18), (0x1A, 0x1B), (0x20, 0x27)]
  else if 0x6000 ≤ index && index < 0x6040 then subIn sub [(0x03, 0x04)]
  else false

/-- The value that a read of an object returns (R65, R84): of the device as it stood at the last tick boundary, or as it was sampled in P4
of the tick before; of a BOOT object the value stored for the next reset, given by `boot`. DESIGN CHOICE: assumption 17.
DEDUCED: assumption 89. -/
def readVal (seen sampled : Blocks) (boot : List (Nat × Val)) (r : ObjRow) (index sub : Nat) : Val :=
  if r.access == .ro && countsOrMeasures index sub then deviceVal sampled index sub
  else if r.access == .ro || isMark index sub then deviceVal seen index sub
  else if r.apply == .boot then (lookKey (objKey index sub) boot).getD (objVal seen.dict index sub)
  else objVal seen.dict index sub

/-- Steps 1 and 2 of R69 for a read: the row of the object, or the abort code. `block` says that a block transfer reads. -/
def readRow (index sub : Nat) (block : Bool) : Except Nat ObjRow :=
  match rowFor index sub with
  | none => .error (if indexExists index then 0x01010002 else 0x01010001)
  | some r =>
    if r.access == .wo then .error 0x02010002
    else if isTable r.type && !block then .error 0x02010003
    else if !isTable r.type && block then .error 0x02010004
    else .ok r

/-- The bytes that a read returns, or the abort code (R65, R470). DESIGN CHOICE: assumption 17. -/
def readObject (s : State) (index sub : Nat) (block : Bool) : Except Nat Bytes :=
  match readRow index sub block with
  | .error e => .error e
  | .ok r =>
    if s.mem.badObjects.contains (index, sub) then .error 0x07010001
    else .ok (encodeVal r.type (readVal s.seen s.sampled s.dict.boot r index sub))

end Sys2Proof.Machine
end

