-- ==== Sys2Proof/Machine/Gdp.lean ====
section
/-! DEFINITION. The Gyvar Dictionary Protocol: common checks, requests and responses, block transfers, subscriptions
(04_host_link R94–R107). -/

namespace Sys2Proof.Machine

/-- A message that is discarded counted as malformed. -/
def noteMalformed (s : State) : State := s.updHost (fun h => { h with malformed := inc32 h.malformed })

/-- A frame or message discarded on port p (Table 4.9 sub 0x15). -/
def noteDiscard (s : State) (p : Nat) : State := s.updEth p (fun e => { e with discards := inc32 e.discards })

/-- Whether the host filter passes a source address (R96). -/
def filterPasses (s : Blocks) (src : Src) : Bool :=
  !s.objB 0x1110 0x03 ||
    (if src.v6 then anyI 4 (fun k => src.addr != 0 && beNat (s.objT 0x1111 (4 + k)) == src.addr)
     else anyI 4 (fun k => src.addr != 0 && s.objN 0x1111 k == src.addr))

/-- Whether a message from a source can reach the device on port p: the host is served, the port is up, and it has an address of the
source's family in use (R91, R92, Table 20.2). -/
def hears (s : Blocks) (p : Nat) (src : Src) : Bool := served s && portReady s p && familyInUse s p src.v6

/-- The bytes of the session's messages that stand in the receive buffer of port p (R94). -/
def streamFill (s : Blocks) (p : Nat) : Nat :=
  if s.host.session.port.val == p then s.host.session.offset - s.host.session.released else 0

/-- The high-water mark of the receive buffer of port p after a message has been placed in it (Table 4.9 sub 0x17). -/
def noteHigh (s : State) (p : Nat) : State :=
  s.updEth p (fun e => { e with high := Nat.max e.high (e.otherFill + streamFill s.toBlocks p) })

/-- A message placed in the part of the receive buffer for other traffic, or discarded when that part is full (R94): whether it was
placed. DESIGN CHOICE: assumption 16. -/
def placeOther (s : State) (p len : Nat) : State × Bool :=
  let e := getI s.host.ports p
  if 32768 < e.otherFill + len then (s.updEth p (fun e => { e with overflow := inc32 e.overflow }), false)
  else (noteHigh (s.updEth p (fun e => { e with otherFill := e.otherFill + len })) p, true)

/-- The checks of R95 on a message: the abort code, or 0. -/
def prefixCode (version length udpLen : Nat) (known : Bool) (min : Nat) (reservedZero : Bool) : Nat :=
  if version != 1 then 0x08010003
  else if length != udpLen || decide (udpLen < 16) || decide (1452 < udpLen) then 0x08010001
  else if !known then 0x08010002
  else if udpLen < min then 0x08010001
  else if !reservedZero then 0x08010001
  else 0

/-- The queue of a response on a port: block-transfer data, and the other responses (Table 1.4). -/
def responseQueue (port : Fin 2) (r : GdpResponse) : Nat :=
  (if r.type == 0x84 && r.status == 0 then 51 else 49) + (if port == 0 then 0 else 4)

/-- A response sent on a port (R90, R98). -/
def sendGdp (s : State) (port : Fin 2) (r : GdpResponse) : State := sendUdp s (responseQueue port r) port 47410 r.src (gdpBytes r)

/-- A response put on its way and held for replay (R98, R102). -/
def sendResponse (s : State) (r : GdpResponse) : State :=
  let s := sendGdp s r.port r
  let l := s.host.replay ++ [r]
  s.updHost (fun h => { h with replay := l.drop (l.length - 256) })

/-- The response to a request. -/
def response (h : GdpHead) (type status position : Nat) (body : Bytes) : GdpResponse :=
  { port := h.port, src := h.src, type := type ||| 0x80, reqId := h.reqId, status, position, body }

/-- A request served (Table 4.9 sub 0x0E). -/
def noteServed (s : State) : State := s.updHost (fun x => { x with served := (x.served + 1) % 2 ^ 32 })

/-- A request answered. DEDUCED: assumption 30. -/
def answer (s : State) (h : GdpHead) (type status position : Nat) (body : Bytes) : State :=
  sendResponse (noteServed s) (response h type status position body)

/-- The body of a refusal: index and subindex, and for a WRITE the rest of its body at 0 (R87, R100). DEDUCED: assumption 30. -/
def refusalBody (type index sub : Nat) : Bytes :=
  leBytes 2 index ++ leBytes 1 sub ++ [0] ++ (if type = 2 then leBytes 20 0 else [])

/-- A request refused with an abort code; the format refusals are counted as malformed (R95, Table 4.9 sub 0x10). -/
def refuse (s : State) (h : GdpHead) (type status position index sub : Nat) : State :=
  let s := if status == 0x08010001 then noteMalformed s else s
  answer s h type status position (refusalBody type index sub)

/-- The responses held under the key of a request (R102). -/
def heldResponses (s : Blocks) (h : GdpHead) : List GdpResponse :=
  s.host.replay.filter (fun r => r.src == h.src && r.reqId == h.reqId)

/-- Held responses sent again (R102). -/
def replay (s : State) (port : Fin 2) (l : List GdpResponse) : State :=
  let s := s.updHost (fun x => { x with replays := (x.replays + 1) % 2 ^ 32 })
  l.foldl (fun s r => sendGdp s port r) s

/-- The value of an entry of a READ response: status, length and value padded to a multiple of 4 bytes (Table 4.4). -/
def readEntry (s : State) (x : ReadItem) : Bytes :=
  let head := leBytes 2 x.index ++ leBytes 1 x.sub ++ [0]
  match readObject s x.index x.sub false with
  | .error c => head ++ leBytes 4 c ++ leBytes 2 0 ++ leBytes 2 0
  | .ok b => head ++ leBytes 4 0 ++ leBytes 2 b.length ++ leBytes 2 0 ++ padTo ((b.length + 3) / 4 * 4) b

/-- READ served (R99). -/
def serveRead (h : GdpHead) (items : List ReadItem) (s : State) : State :=
  if items.isEmpty || decide (64 < items.length) then refuse s h 1 0x08010001 0xFFFF 0 0
  else
    let body := leBytes 8 s.seen.tickCount ++ items.flatMap (readEntry s)
    if 1452 < 16 + body.length then refuse s h 1 0x08010001 0xFFFF 0 0 else answer s h 1 0 0xFFFF body

/-- The response to a committed group (R100). -/
def writeBody (s : Blocks) (index sub : Nat) : Bytes :=
  leBytes 2 index ++ leBytes 1 sub ++ [0] ++ leBytes 8 s.localTime ++ leBytes 8 (boundaryCount s) ++ leBytes 4 s.dict.commits

/-- WRITE served (R70, R100, R345): the response to a committed group waits for the standby's ACK. A group of more than 64 writes concerns
no one object: index and subindex 0, position 0xFFFF. DESIGN CHOICE: assumption 90. -/
def serveWrite (h : GdpHead) (items : List WriteItem) (s : State) : State :=
  match items with
  | [] => refuse s h 2 0x08010001 0xFFFF 0 0
  | first :: _ =>
    if 64 < items.length then refuse (countRefused s items.length) h 2 0x06010005 0xFFFF 0 0
    else
      let l := items.map (fun x => (x.index, x.sub, x.data))
      match groupCode s.toBlocks false l with
      | some (k, c) =>
        let x := nth items k
        refuse (countRefused s items.length) h 2 c k x.index x.sub
      | none =>
        let done := l.foldl commitOne (s.updDict (fun d => { d with lastCommit := s.localTime }))
        let r := response h 2 0 0xFFFF (writeBody done.toBlocks first.index first.sub)
        let s := noteServed (forwardGroup done l (some r))
        if s.pair.st == .active then s else sendResponse s r

/-- The first free handle. DEDUCED: assumption 30. -/
def freeHandle (s : Blocks) : Option Nat := (List.range 4).find? (fun k => (getI s.host.transfers k).isNone)

/-- A transfer in a handle, or the handle freed. -/
def setTransfer (s : State) (k : Nat) (t : Option BlockTransfer) : State :=
  s.updHost (fun h => { h with transfers := updI h.transfers k (fun _ => t), closed := updI h.closed k (fun _ => default) })

/-- A handle in a body. -/
def handleBytes (k : Nat) : Bytes := leBytes 1 k ++ [0, 0, 0]

/-- BLOCK READ OPEN served (R80, R103, R105). -/
def serveReadOpen (h : GdpHead) (index sub : Nat) (s : State) : State :=
  match readObject s index sub true with
  | .error c => refuse s h 3 c 0xFFFF index sub
  | .ok b =>
    match freeHandle s.toBlocks with
    | none => refuse s h 3 0x05010005 0xFFFF index sub
    | some k =>
      let crc := crc32c b
      let s := setTransfer s k (some
        { writing := false, src := h.src, index, sub, size := b.length, crc, next := 0, data := b, lastTick := s.now })
      answer s h 3 0 0xFFFF (handleBytes k ++ leBytes 4 b.length ++ leBytes 4 crc)

/-- How a request on a handle that holds no such transfer is refused: with the code with which the device closed it and its table (R80,
R87), or as a malformed request. DEDUCED: assumption 30. -/
def closedHandle (s : Blocks) (k : Nat) : ClosedHandle :=
  let c := if k < 4 then getI s.host.closed k else default
  if c.code = 0 then { code := 0x08010001, index := 0, sub := 0 } else c

/-- A request refused on a handle that holds no such transfer. -/
def refuseHandle (s : State) (h : GdpHead) (type k : Nat) : State :=
  let c := closedHandle s.toBlocks k
  refuse s h type c.code 0xFFFF c.index c.sub

/-- The index and subindex of a transfer's table behind the body of an answer that refuses a segment of it; 0 for a message-level abort
(R87). DEDUCED: assumption 30. -/
def concerned (t : BlockTransfer) (code : Nat) : Bytes :=
  if code / 2 ^ 24 == 8 || code / 2 ^ 24 == 9 then leBytes 4 0 else leBytes 2 t.index ++ leBytes 1 t.sub ++ [0]

/-- The transfer of a handle, of the kind asked for, whichever source opened it. DESIGN CHOICE: assumption 90. -/
def transferOf (s : Blocks) (k : Nat) (writing : Bool) : Option BlockTransfer :=
  if k < 4 then (getI s.host.transfers k).filter (fun t => t.writing == writing) else none

/-- One segment of a read copy (R103, R105). -/
def segmentOf (t : BlockTransfer) (k seg : Nat) : Bytes := handleBytes k ++ leBytes 4 seg ++ slice t.data (1024 * seg) 1024

/-- BLOCK READ SEGMENTS served (R105): one message for each segment, and one refusal at the first beyond the last. DEDUCED: assumption 30. -/
def serveSegments (h : GdpHead) (handle count first : Nat) (s : State) : State :=
  if count = 0 || decide (32 < count) then refuse s h 4 0x08010001 0xFFFF 0 0
  else
    match transferOf s.toBlocks handle false with
    | none => refuseHandle s h 4 handle
    | some t =>
      let total := (t.size + 1023) / 1024
      let s := noteServed (setTransfer s handle (some { t with lastTick := s.now }))
      let sent := (List.range count).filter (fun i => decide (first + i < total))
      let s := sent.foldl (fun s i => sendResponse s (response h 4 0 0xFFFF (segmentOf t handle (first + i)))) s
      if first + count ≤ total then s
      else sendResponse s (response h 4 0x05010004 0xFFFF (handleBytes handle ++ leBytes 4 (Nat.max first total) ++ concerned t 0x05010004))

/-- The largest size of a TABLE object; the image upload takes at most the size of a slot (R103, R478). -/
def tableLimit (s : Blocks) (r : ObjRow) (index sub : Nat) : Nat :=
  if index == 0x1202 && sub == 0x06 then slotSize s.flash.capacity
  else
    match r.type with
    | .table e c _ => e * c
    | _ => 0

/-- Checks of a block-write open (R97, R103): the abort code, or 0. -/
def writeOpenCode (s : Blocks) (index sub size : Nat) : Nat :=
  match writeRow index sub true with
  | .error c => c
  | .ok r =>
    if !acceptsWrites s then 0x04010003
    else if ownerCode s r index != 0 then ownerCode s r index
    else if index == 0x1202 && !s.flash.present then 0x06010003
    else if tableLimit s r index sub < size then 0x05010004
    else if (freeHandle s).isNone then 0x05010005
    else 0

/-- BLOCK WRITE OPEN served (R80, R103). -/
def serveWriteOpen (h : GdpHead) (index sub size crc : Nat) (s : State) : State :=
  let c := writeOpenCode s.toBlocks index sub size
  if c != 0 then refuse (countRefused s 1) h 5 c 0xFFFF index sub
  else
    match freeHandle s.toBlocks with
    | none => s
    | some k =>
      let s := setTransfer s k (some
        { writing := true, src := h.src, index, sub, size, crc, next := 0, data := [], lastTick := s.now })
      answer s h 5 0 0xFFFF (handleBytes k)

/-- The answer to a write segment (R104). -/
def segmentBody (k next time boundary : Nat) : Bytes := handleBytes k ++ leBytes 4 next ++ leBytes 8 time ++ leBytes 8 boundary

/-- The last segment of a block write has arrived (R104, R105): its check value, the remaining checks of R69, the commit. -/
def finishWrite (h : GdpHead) (k : Nat) (t : BlockTransfer) (s : State) : State :=
  let s := setTransfer s k none
  let total := (t.size + 1023) / 1024
  if crc32c t.data != t.crc then answer (countRefused s 1) h 6 0x05010002 0xFFFF (segmentBody k total 0 0 ++ concerned t 0x05010002)
  else
    let l : List GroupWrite := [(t.index, t.sub, t.data)]
    match groupCode s.toBlocks true l with
    | some (_, c) => answer (countRefused s 1) h 6 c 0xFFFF (segmentBody k total 0 0 ++ concerned t c)
    | none =>
      let r := response h 6 0 0xFFFF (segmentBody k total s.localTime (boundaryCount s.toBlocks))
      let s := noteServed (commitGroup s l (some r))
      if s.pair.st == .active then s else sendResponse s r

/-- BLOCK WRITE SEGMENT served (R103, R104): of a wrong number and a wrong length the number is tested first.
DESIGN CHOICE: assumption 90. -/
def serveSegment (h : GdpHead) (handle segment : Nat) (data : Bytes) (s : State) : State :=
  match transferOf s.toBlocks handle true with
  | none => refuseHandle s h 6 handle
  | some t =>
    let t := { t with lastTick := s.now }
    let s := setTransfer s handle (some t)
    if segment != t.next then answer s h 6 0x05010001 0xFFFF (segmentBody handle t.next 0 0 ++ concerned t 0x05010001)
    else if data.length != Nat.min 1024 (t.size - 1024 * segment) then
      answer (noteMalformed s) h 6 0x08010001 0xFFFF (segmentBody handle t.next 0 0 ++ concerned t 0x08010001)
    else
      let t := { t with next := t.next + 1, data := t.data ++ data }
      if t.size ≤ 1024 * t.next then finishWrite h handle t s
      else answer (setTransfer s handle (some t)) h 6 0 0xFFFF (segmentBody handle t.next 0 0)

/-- BLOCK CLOSE served (R105). -/
def serveClose (h : GdpHead) (handle : Nat) (s : State) : State :=
  if handle < 4 && (getI s.host.transfers handle).isSome then answer (setTransfer s handle none) h 7 0 0xFFFF (handleBytes handle)
  else refuseHandle s h 7 handle

/-- The size of a type in bytes, for the limit of R106. -/
def typeSize (t : ObjType) : Nat :=
  match t with
  | .bool => 1
  | .uint k => k
  | .sint k => k
  | .f32 => 4
  | .octets k => k
  | .str k => k
  | .table e c _ => e * c

/-- Checks of a SUBSCRIBE (R97, R106, R107): the abort code, or 0. -/
def subscribeCode (s : Blocks) (index sub dest period : Nat) : Nat :=
  if !acceptsWrites s then 0x04010003
  else
    match readRow index sub false with
    | .error c => c
    | .ok r =>
      if 64 < typeSize r.type || 4 ≤ dest || !(period == 0 || (decide (100 ≤ period) && decide (period ≤ 6000000))) then 0x03010002
      else if !s.host.subs.toList.any (fun x => x.isNone) then 0x06010002
      else 0

/-- SUBSCRIBE served (R106). DEDUCED: assumption 30. -/
def serveSubscribe (h : GdpHead) (index sub dest period : Nat) (s : State) : State :=
  let c := subscribeCode s.toBlocks index sub dest period
  if c != 0 then refuse s h 8 c 0xFFFF index sub
  else
    let k := s.host.subs.toList.findIdx (fun x => x.isNone)
    let s := s.updHost (fun x => { x with subs := updI x.subs k (fun _ =>
      some { src := h.src, index, sub, dest, period, reported := none, sampled := none }) })
    answer s h 8 0 0xFFFF (leBytes 1 k ++ [0, 0, 0])

/-- UNSUBSCRIBE served (R106, Table 4.4). DEDUCED: assumption 30. DESIGN CHOICE: assumption 90. -/
def serveUnsubscribe (h : GdpHead) (id : Nat) (s : State) : State :=
  if id = 0xFF then
    let s := s.updHost (fun x => { x with subs := x.subs.map (fun y =>
      y.filter (fun z => !(z.src.v6 == h.src.v6 && z.src.addr == h.src.addr))) })
    answer s h 9 0 0xFFFF (handleBytes id)
  else if id < 64 && (getI s.host.subs id).isSome then
    answer (s.updHost (fun x => { x with subs := updI x.subs id (fun _ => none) })) h 9 0 0xFFFF (handleBytes id)
  else refuse s h 9 0x03010002 0xFFFF 0 0

/-- The value that subscription k samples at the present boundary, when it is due (R107). -/
def sampleDue (s : State) (k : Nat) : Option Bytes :=
  match getI s.host.subs k with
  | none => none
  | some x =>
    let period := if x.period = 0 then 100 else x.period
    if s.tickCount % period != 0 || x.sampled == some s.now || !destSelects s.toBlocks x.dest 2 then none
    else
      match readObject s x.index x.sub false with
      | .error _ => none
      | .ok b => if x.period = 0 && x.reported == some b then none else some b

/-- One entry of NOTIFY (Table 4.8). -/
def notifyEntry (k : Nat) (b : Bytes) : Bytes := leBytes 1 k ++ [0] ++ leBytes 2 b.length ++ padTo ((b.length + 3) / 4 * 4) b

/-- Entries split into messages of at most 1,452 bytes (R95, R107). -/
def notifyGroups : List Bytes → List Bytes → List (List Bytes)
  | cur, [] => if cur.isEmpty then [] else [cur]
  | cur, e :: l =>
    if 1452 < 36 + sumN (cur.map (fun x => x.length)) + e.length || 255 ≤ cur.length then cur :: notifyGroups [e] l
    else notifyGroups (cur ++ [e]) l

/-- The samples of some subscriptions, for one destination, sent in NOTIFY messages (R107). -/
def notify (s : State) (d : Nat) (l : List (Nat × Bytes)) : State :=
  (notifyGroups [] (l.map (fun x => notifyEntry x.1 x.2))).foldl (fun s g =>
    eventTo s d 2 0x83 s.time.boundary (leBytes 8 s.tickCount ++ leBytes 1 g.length ++ [0, 0, 0] ++ g.flatten)) s

/-- A subscription sampled at the present boundary. -/
def noteSample (s : State) (k : Nat) (b : Bytes) : State :=
  s.updHost (fun h => { h with subs := updI h.subs k (fun x =>
    x.map (fun y => { y with reported := some b, sampled := some s.now })) })

/-- The subscriptions of some numbers sampled, in one message for each destination where it fits (R107). -/
def sampleSubs (s : State) (ks : List Nat) : State :=
  let due := ks.filterMap (fun k => (sampleDue s k).map (fun b => (k, b)))
  let s' := forI 4 s (fun t d =>
    let mine := due.filter (fun x => ((getI s.host.subs x.1).map (fun y => y.dest)) == some d)
    if mine.isEmpty then t else notify t d mine)
  due.foldl (fun t x => noteSample t x.1 x.2) s'

/-- A block transfer that has received no segment for 100,000 ticks closed (R80). -/
def timeoutTransfer (s : State) (k : Nat) : State :=
  match getI s.host.transfers k with
  | some t => if t.lastTick + 100000 ≤ s.now then closeTransfer s k 0x05010003 else s
  | none => s

/-- A request whose message has passed the checks of R95 and is no repeat, served by its type. -/
def serveBody (h : GdpHead) (b : GdpBody) (s : State) : State :=
  match b with
  | .read items => serveRead h items s
  | .write items => serveWrite h items s
  | .readOpen index sub => serveReadOpen h index sub s
  | .segments handle count first => serveSegments h handle count first s
  | .writeOpen index sub size crc => serveWriteOpen h index sub size crc s
  | .segment handle number data => serveSegment h handle number data s
  | .close handle => serveClose h handle s
  | .subscribe index sub dest period => serveSubscribe h index sub dest period s
  | .unsubscribe id => serveUnsubscribe h id s
  | .other => s

/-- A request taken from its queue: the checks of R95, the replay of R102, its service. DEDUCED: assumption 30. -/
def serveRequest (s : State) (r : GdpRequest) : State :=
  let h := r.head
  if h.udpLen < 8 then noteMalformed s
  else
    let zero := r.reservedZero && h.reserved == 0 && h.status == 0 && h.position == 0xFFFF
    let c := prefixCode h.version h.length h.udpLen r.known r.min zero
    if c != 0 then refuse s h r.type c 0xFFFF 0 0
    else
      match heldResponses s.toBlocks h with
      | [] => serveBody h r.body s
      | l => replay s h.port l

/-- Whether service waits: the response to a write group is held back until the standby's ACK (R101, R345). -/
def writeWaits (s : Blocks) : Bool := s.pair.st == .active && s.pair.forwarded.any (fun f => f.response.isSome)

/-- The port whose queue gives the next request: the other one than before, where both hold one (R101). -/
def nextQueue (s : Blocks) : Option (Fin 2) :=
  let has := fun (p : Fin 2) => !(getI s.host.requests p).isEmpty
  if has s.host.turn then some s.host.turn else if has (1 - s.host.turn) then some (1 - s.host.turn) else none

/-- At most `n` requests served one at a time, alternately from Q57 and Q59 (R101). -/
def serveSome : Nat → State → State
  | 0, s => s
  | n + 1, s =>
    if writeWaits s.toBlocks then s
    else
      match nextQueue s.toBlocks with
      | none => s
      | some p =>
        match getI s.host.requests p with
        | [] => s
        | r :: l => serveSome n (serveRequest (s.updHost (fun h => { h with requests := updI h.requests p (fun _ => l), turn := 1 - p })) r)

/-- The requests that wait, served (R101). -/
def serveRequests (s : State) : State := serveSome ((getI s.host.requests 0).length + (getI s.host.requests 1).length) s

/-- A GDP request received on its port (R94, R96, R101): filtered, placed in the receive buffer and in its queue, or left in the buffer with a
stall counted where the queue is full (R29); then service. DEDUCED: assumption 30. DESIGN CHOICE: assumption 16. -/
def gdpRequest (s : State) (r : GdpRequest) : State :=
  let h := r.head
  if !hears s.toBlocks h.port h.src then s
  else
    let s := s.atClock h.clk
    if !filterPasses s.toBlocks h.src then noteDiscard s h.port
    else
      let p := placeOther s h.port h.udpLen
      if !p.2 then p.1
      else
        let q := requestQueue h.port
        let s := p.1
        let s := if roomIn s.toBlocks q h.udpLen then s.fillQueue q h.udpLen
          else { s with queues := updI s.queues q (fun x => { x with stalls := inc32 x.stalls }) }
        serveRequests (s.updHost (fun x => { x with requests := updI x.requests h.port (fun l => l ++ [r]) }))

/-- A frame with a GDP request on its port (Table 4.9 sub 0x14). -/
def gdpFrame (h : GdpHead) (type min : Nat) (reservedZero : Bool) (body : GdpBody) (s : State) : State :=
  gdpRequest (countReceived s h.port) { head := h, type, known := true, min, reservedZero, body }

/-- The least length of a WRITE (Table 4.4). -/
def writeMin (items : List WriteItem) : Nat := 20 + sumN (items.map (fun x => 8 + (x.data.length + 3) / 4 * 4))

/-- READ (R99). -/
def execRead (h : GdpHead) (items : List ReadItem) (s : State) : Host.Outcome State Fault Refusal :=
  .next (gdpFrame h 1 (20 + 4 * items.length) (items.all (fun x => x.reserved == 0)) (.read items) s)

/-- WRITE (R100). -/
def execWrite (h : GdpHead) (items : List WriteItem) (s : State) : Host.Outcome State Fault Refusal :=
  .next (gdpFrame h 2 (writeMin items) (items.all (fun x => x.reserved == 0)) (.write items) s)

/-- BLOCK_READ_OPEN (R103, R105). -/
def execBlockReadOpen (h : GdpHead) (index sub : Nat) (s : State) : Host.Outcome State Fault Refusal :=
  .next (gdpFrame h 3 20 true (.readOpen index sub) s)

/-- BLOCK_READ_SEGMENTS (R105). -/
def execBlockReadSegments (h : GdpHead) (handle count first : Nat) (s : State) : Host.Outcome State Fault Refusal :=
  .next (gdpFrame h 4 24 true (.segments handle count first) s)

/-- BLOCK_WRITE_OPEN (R103). -/
def execBlockWriteOpen (h : GdpHead) (index sub size crc : Nat) (s : State) : Host.Outcome State Fault Refusal :=
  .next (gdpFrame h 5 28 true (.writeOpen index sub size crc) s)

/-- BLOCK_WRITE_SEGMENT (R103, R104). -/
def execBlockWriteSegment (h : GdpHead) (handle segment : Nat) (data : Bytes) (s : State) : Host.Outcome State Fault Refusal :=
  .next (gdpFrame h 6 24 true (.segment handle segment data) s)

/-- BLOCK_CLOSE (R105). -/
def execBlockClose (h : GdpHead) (handle : Nat) (s : State) : Host.Outcome State Fault Refusal :=
  .next (gdpFrame h 7 20 true (.close handle) s)

/-- BLOCK_TRANSFER_TIMEOUT (R80). -/
def execBlockTransferTimeout (handle : Fin 4) (s : State) : Host.Outcome State Fault Refusal := .next (timeoutTransfer s handle)

/-- SUBSCRIBE (R106). -/
def execSubscribe (h : GdpHead) (index sub dest period : Nat) (s : State) : Host.Outcome State Fault Refusal :=
  .next (gdpFrame h 8 24 true (.subscribe index sub dest period) s)

/-- UNSUBSCRIBE (Table 4.4). -/
def execUnsubscribe (h : GdpHead) (id : Nat) (s : State) : Host.Outcome State Fault Refusal :=
  .next (gdpFrame h 9 20 true (.unsubscribe id) s)

/-- SUBSCRIPTION_SAMPLE (R107). -/
def execSubscriptionSample (id : Fin 64) (s : State) : Host.Outcome State Fault Refusal := .next (sampleSubs s [id.val])

end Sys2Proof.Machine
end

