-- ==== Sys2Proof/Machine/HostWrites.lean ====
section
/-! DEFINITION. The commands that are writes of one object: each passes the checks of R69 and takes effect at its moment
(03_object_dictionary R69, R73, R529, with the rules of the chapter that owns the object). -/

namespace Sys2Proof.Machine

/-- LOCAL_TIME_SET (R55). -/
def execLocalTimeSet (value clk : Nat) (s : State) : Host.Outcome State Fault Refusal :=
  .next (hostWrite s 0x2000 0x07 (leBytes 8 value) clk)

/-- OBJECT_WRITE (R69). -/
def execObjectWrite (index sub : Nat) (data : Bytes) (clk : Nat) (s : State) : Host.Outcome State Fault Refusal :=
  .next (hostWrite s index sub data clk)

/-- RESET_REQUEST (R85). -/
def execResetRequest (value clk : Nat) (s : State) : Host.Outcome State Fault Refusal :=
  .next (hostWrite s 0x1002 0x00 (leBytes 4 value) clk)

/-- HOST_LASER_ENABLE (Table 6.7 sub 0x00). -/
def execHostLaserEnable (n : Fin 32) (value clk : Nat) (s : State) : Host.Outcome State Fault Refusal :=
  .next (hostWrite s (0x3000 + n) 0x00 (leBytes 1 value) clk)

/-- CHANNEL_STOP: channel command 1 (Table 6.8). -/
def execChannelStop (n : Fin 32) (clk : Nat) (s : State) : Host.Outcome State Fault Refusal :=
  .next (hostWrite s (0x3100 + n) 0x0C [1] clk)

/-- REJOIN: channel command 2 (R189). -/
def execRejoin (n : Fin 32) (clk : Nat) (s : State) : Host.Outcome State Fault Refusal :=
  .next (hostWrite s (0x3100 + n) 0x0C [2] clk)

/-- AXIS_CLOSE: axis command 1 (R209). -/
def execAxisClose (a : Fin 96) (clk : Nat) (s : State) : Host.Outcome State Fault Refusal :=
  .next (hostWrite s (0x3200 + a) 0x02 [1] clk)

/-- AXIS_OPEN: axis command 2 (R209). -/
def execAxisOpen (a : Fin 96) (clk : Nat) (s : State) : Host.Outcome State Fault Refusal :=
  .next (hostWrite s (0x3200 + a) 0x02 [2] clk)

/-- AXIS_CLEAR_FAULT: axis command 3 (R209). -/
def execAxisClearFault (a : Fin 96) (clk : Nat) (s : State) : Host.Outcome State Fault Refusal :=
  .next (hostWrite s (0x3200 + a) 0x02 [3] clk)

/-- CLEAR_AMPLITUDE_MARKS (Table 8.3 sub 0x2C). -/
def execClearAmplitudeMarks (a : Fin 96) (value clk : Nat) (s : State) : Host.Outcome State Fault Refusal :=
  .next (hostWrite s (0x3300 + a) 0x2C (leBytes 1 value) clk)

/-- MANUAL_TRIGGER (R238). -/
def execManualTrigger (c : Fin 20) (value clk : Nat) (s : State) : Host.Outcome State Fault Refusal :=
  .next (hostWrite s (0x3500 + c) 0x0B (leBytes 1 value) clk)

/-- I2C_REQUEST (R236). -/
def execI2cRequest (c : Fin 20) (data : Bytes) (clk : Nat) (s : State) : Host.Outcome State Fault Refusal :=
  .next (hostWrite s (0x3500 + c) 0x10 data clk)

/-- STREAMING_ENABLE (R237). -/
def execStreamingEnable (c : Fin 20) (value clk : Nat) (s : State) : Host.Outcome State Fault Refusal :=
  .next (hostWrite s (0x3500 + c) 0x00 (leBytes 1 value) clk)

/-- SNAPSHOT_ARM (R256). -/
def execSnapshotArm (i : Fin 128) (value clk : Nat) (s : State) : Host.Outcome State Fault Refusal :=
  .next (hostWrite s (0x3400 + i) 0x1D (leBytes 1 value) clk)

/-- PORT_ENABLE (R318). -/
def execPortEnable (p : Fin 64) (value clk : Nat) (s : State) : Host.Outcome State Fault Refusal :=
  .next (hostWrite s (0x5000 + p) 0x00 (leBytes 1 value) clk)

/-- PORT_COMMAND (Table 12.15 sub 0x03). -/
def execPortCommand (p : Fin 64) (clk : Nat) (s : State) : Host.Outcome State Fault Refusal :=
  .next (hostWrite s (0x5000 + p) 0x03 [1] clk)

/-- NODE_REQUEST (R332). -/
def execNodeRequest (p : Fin 64) (data : Bytes) (clk : Nat) (s : State) : Host.Outcome State Fault Refusal :=
  .next (hostWrite s (0x5000 + p) 0x04 data clk)

/-- PAIR_COMMAND: pair command 1 (R353). -/
def execPairCommand (clk : Nat) (s : State) : Host.Outcome State Fault Refusal :=
  .next (hostWrite s 0x2400 0x09 [1] clk)

/-- MOVE_REQUEST (R368). -/
def execMoveRequest (m : Fin 8) (data : Bytes) (clk : Nat) (s : State) : Host.Outcome State Fault Refusal :=
  .next (hostWrite s (0x4000 + m) 0x41 data clk)

/-- RETARGET (R373). -/
def execRetarget (m : Fin 8) (target : Int) (clk : Nat) (s : State) : Host.Outcome State Fault Refusal :=
  .next (hostWrite s (0x4000 + m) 0x42 (leBytesI 4 target) clk)

/-- SET_POSITION (R386). -/
def execSetPosition (m : Fin 8) (value : Int) (clk : Nat) (s : State) : Host.Outcome State Fault Refusal :=
  .next (hostWrite s (0x4000 + m) 0x43 (leBytesI 4 value) clk)

/-- HALT: axis command 1 (R380). -/
def execHalt (m : Fin 8) (clk : Nat) (s : State) : Host.Outcome State Fault Refusal :=
  .next (hostWrite s (0x4000 + m) 0x40 [1] clk)

/-- STOP: axis command 2 (R379). -/
def execStop (m : Fin 8) (clk : Nat) (s : State) : Host.Outcome State Fault Refusal :=
  .next (hostWrite s (0x4000 + m) 0x40 [2] clk)

/-- HOME: axis command 3 (R383). -/
def execHome (m : Fin 8) (clk : Nat) (s : State) : Host.Outcome State Fault Refusal :=
  .next (hostWrite s (0x4000 + m) 0x40 [3] clk)

/-- STEPPER_CLEAR_FAULT: axis command 4 (Table 14.4). -/
def execStepperClearFault (m : Fin 8) (clk : Nat) (s : State) : Host.Outcome State Fault Refusal :=
  .next (hostWrite s (0x4000 + m) 0x40 [4] clk)

/-- STRING_ENABLE (Table 15.2). -/
def execStringEnable (l : Fin 16) (value clk : Nat) (s : State) : Host.Outcome State Fault Refusal :=
  .next (hostWrite s (0x4100 + l) 0x00 (leBytes 1 value) clk)

/-- CLEAR_FAILED_LAMPS (Table 15.4 sub 0x0C). -/
def execClearFailedLamps (l : Fin 16) (value clk : Nat) (s : State) : Host.Outcome State Fault Refusal :=
  .next (hostWrite s (0x4100 + l) 0x0C (leBytes 1 value) clk)

/-- RLE_START: job command 1 (R415). -/
def execRleStart (clk : Nat) (s : State) : Host.Outcome State Fault Refusal :=
  .next (hostWrite s 0x4200 0x00 [1] clk)

/-- RLE_RESUME: job command 2 (R415). -/
def execRleResume (clk : Nat) (s : State) : Host.Outcome State Fault Refusal :=
  .next (hostWrite s 0x4200 0x00 [2] clk)

/-- RLE_UNLOAD: job command 3 (R415). -/
def execRleUnload (clk : Nat) (s : State) : Host.Outcome State Fault Refusal :=
  .next (hostWrite s 0x4200 0x00 [3] clk)

/-- SWITCH_OFF: switch command 0 (Table 17.5). -/
def execSwitchOff (k : Fin 16) (clk : Nat) (s : State) : Host.Outcome State Fault Refusal :=
  .next (hostWrite s (0x2110 + k) 0x00 [0] clk)

/-- SWITCH_ON: switch command 1 (Table 17.5). -/
def execSwitchOn (k : Fin 16) (clk : Nat) (s : State) : Host.Outcome State Fault Refusal :=
  .next (hostWrite s (0x2110 + k) 0x00 [1] clk)

/-- RESET_TRIP: switch command 2 (Table 17.5). -/
def execResetTrip (k : Fin 16) (clk : Nat) (s : State) : Host.Outcome State Fault Refusal :=
  .next (hostWrite s (0x2110 + k) 0x00 [2] clk)

/-- CALIBRATION_COMMAND (R454). -/
def execCalibrationCommand (j : Fin 81) (value clk : Nat) (s : State) : Host.Outcome State Fault Refusal :=
  .next (hostWrite s (0x4300 + j) 0x02 (leBytes 1 value) clk)

/-- ERROR_INJECTION (Table 19.11 sub 0x19). -/
def execErrorInjection (value clk : Nat) (s : State) : Host.Outcome State Fault Refusal :=
  .next (hostWrite s 0x2300 0x19 (leBytes 1 value) clk)

/-- ACTIVATE (R478). -/
def execActivate (value clk : Nat) (s : State) : Host.Outcome State Fault Refusal :=
  .next (hostWrite s 0x1202 0x08 (leBytes 1 value) clk)

/-- SAVE: persistence command 1 (R481). -/
def execSave (clk : Nat) (s : State) : Host.Outcome State Fault Refusal :=
  .next (hostWrite s 0x1200 0x00 [1] clk)

/-- CLEAR_OBJECTS_AND_TABLES: persistence command 2 (R482). -/
def execClearObjectsAndTables (clk : Nat) (s : State) : Host.Outcome State Fault Refusal :=
  .next (hostWrite s 0x1200 0x00 [2] clk)

/-- CLEAR_ALL: persistence command 3 (R482). -/
def execClearAll (clk : Nat) (s : State) : Host.Outcome State Fault Refusal :=
  .next (hostWrite s 0x1200 0x00 [3] clk)

/-- ACKNOWLEDGE (R506). -/
def execAcknowledge (value clk : Nat) (s : State) : Host.Outcome State Fault Refusal :=
  .next (hostWrite s 0x1080 0x06 (leBytes 4 value) clk)

/-- CLEAR_RING (R512). -/
def execClearRing (clk : Nat) (s : State) : Host.Outcome State Fault Refusal :=
  .next (hostWrite s 0x1080 0x0C [1] clk)

/-- IMAGE_UPLOAD (R478): the last segment of the transfer has arrived; its check value comes first (R104). -/
def execImageUpload (image : Bytes) (crc clk : Nat) (s : State) : Host.Outcome State Fault Refusal :=
  .next (if served s.toBlocks && crc32c image != crc then countRefused s 1 else hostWrite s 0x1202 0x06 image clk)

end Sys2Proof.Machine
end

