-- ==== Sys2Proof/Machine/Packages.lean ====
section
/-! DEFINITION. Layer packages: layout, records and the checks of Table 5.13 (05_layer_stream R119–R136; 06_scan_execution
R179). -/

namespace Sys2Proof.Machine

/-- Where a package fails (R138): reason code, directory position, byte offset of the failing record in its section. -/
structure PkgError where
  reason : Nat
  dir : Nat
  record : Nat
deriving DecidableEq, Repr, Inhabited

/-- A package-level failure. -/
def pkgFail (reason : Nat) : PkgError := { reason, dir := 0xFFFF, record := 0xFFFFFFFF }

/-- A section-level failure. -/
def secFail (reason dir : Nat) : PkgError := { reason, dir, record := 0xFFFFFFFF }

/-- A directory entry (Table 5.2) with its position. -/
structure DirEntry where
  pos : Nat
  kind : Nat
  inst : Nat
  reserved : Nat
  offset : Nat
  length : Nat
  count : Nat
deriving DecidableEq, Repr, Inhabited

/-- A record of a section as decoded: a ZONE, or a record of Table 5.4. -/
inductive PkgRec
  | zone (flags fen a b r7 items r12 : Nat)
  | body (r : Rec)
deriving DecidableEq, Repr

/-- A decoded record with its offset in the section and its length in bytes. -/
structure SecRec where
  offset : Nat
  bytes : Nat
  r : PkgRec
  words : List (Nat × Nat)
deriving DecidableEq, Repr

/-- Checks 1 and 2 (R119): magic, version, length. -/
def checkFrame (b : Bytes) : Option PkgError :=
  let len := fieldU b 8 4
  if fieldU b 0 4 ≠ 0x504C5947 || fieldU b 4 2 ≠ 1 then some (pkgFail 1)
  else if len < 68 || 268435452 < len || len % 8 ≠ 4 then some (pkgFail 2)
  else none

/-- Check 5 (R119): reserved bits and ranges of the header. -/
def checkHead (b : Bytes) : Bool :=
  decide (fieldU b 6 2 ≤ 296) && decide (fieldU b 16 4 ≤ 3) && decide (fieldU b 20 4 ≤ 6000000) && decide (fieldU b 24 8 < 2 ^ 48)
    && fieldU b 32 4 != 0 && (slice b 36 28).all (fun x => x == 0)

/-- The directory entries (R120). -/
def dirEntries (b : Bytes) : List DirEntry :=
  (List.range (fieldU b 6 2)).map (fun k =>
    let o := 64 + 16 * k
    { pos := k, kind := fieldU b o 1, inst := fieldU b (o + 1) 1, reserved := fieldU b (o + 2) 2, offset := fieldU b (o + 4) 4
      length := fieldU b (o + 8) 4, count := fieldU b (o + 12) 4 })

/-- Whether kind and instance of an entry are in Table 5.2. -/
def entryKnown (e : DirEntry) : Bool :=
  (e.kind == 1 && decide (e.inst < 32)) || (e.kind == 2 && decide (e.inst < 256)) || (e.kind == 3 && decide (e.inst < 8))

/-- Check 6 over the entries (R120): `prev` is the kind and instance before, `at_` where the next section must begin. -/
def checkDir (stop : Nat) : Option Nat → Nat → List DirEntry → Option PkgError
  | _, at_, [] => if at_ = stop then none else some (pkgFail 6)
  | prev, at_, e :: l =>
    let key := e.kind * 256 + e.inst
    let sorted := match prev with | some p => decide (p < key) | none => true
    if entryKnown e && e.reserved == 0 && sorted && e.offset == at_ && decide (e.length ≠ 0) && e.length % 8 == 0
        && decide (e.offset + e.length ≤ stop) then checkDir stop (some key) (e.offset + e.length) l
    else some (secFail 6 e.pos)

/-- Check 7 (R122): opcodes that may stand in a section of a kind. -/
def opAllowed (kind op : Nat) : Bool :=
  if kind = 1 then [1, 2, 3, 4, 6, 7, 8].contains op else [1, 2, 3, 5].contains op

/-- The length in units that Table 5.4 gives a record. -/
def opUnits (op : Nat) (b : Bytes) : Nat :=
  match op with
  | 1 => 2
  | 2 => 3
  | 3 => 2 + fieldU b 4 2
  | 4 => 5 + (fieldU b 28 4 + 7) / 8
  | 5 => 2
  | 7 => 4
  | _ => 1

/-- Check 9 (R7, R122): reserved bits and fields of a record; those of a ZONE belong to check 13. -/
def recReserved (op : Nat) (b : Bytes) : Bool :=
  let flags := fieldU b 1 1
  let zero := fun (l : Bytes) => l.all (fun x => x == 0)
  match op with
  | 1 => flags ≤ 1
  | 2 => flags ≤ 3 && zero (slice b 22 2)
  | 3 => flags ≤ 1 && zero (slice b 14 2)
  | 4 => flags ≤ 3 && zero (slice b 36 4) && zero (b.drop (40 + fieldU b 28 4))
  | 5 => true
  | 6 => flags == 0
  | 7 => flags ≤ 1 && zero (slice b 5 1) && zero (slice b 30 2)
  | _ => flags == 0 && zero (slice b 4 4)

/-- A code word of a map (R130): count, whether it repeats, and its length. -/
def mapRuns : Nat → Bytes → List (Nat × Nat) → Option (List (Nat × Nat))
  | _, [], acc => some acc.reverse
  | 0, _, _ => none
  | f + 1, h :: rest, acc =>
    let k := h.toNat % 128 + 1
    if 128 ≤ h.toNat then
      match rest with
      | a :: b :: l => mapRuns f l ((k, a.toNat + 256 * b.toNat) :: acc)
      | _ => none
    else if rest.length < 2 * k then none
    else mapRuns f (rest.drop (2 * k)) (((cellsOf (rest.take (2 * k))).map (fun v => (1, v))).reverse ++ acc)

/-- The runs of a RASTER map (R130). -/
def rasterRuns (b : Bytes) : List (Nat × Nat) :=
  let m := slice b 40 (fieldU b 28 4)
  (mapRuns m.length m []).getD []

/-- Cells and bytes of each code word of a map, the padding of its record with the last (R130, R166). -/
def mapWords : Nat → Bytes → List (Nat × Nat)
  | _, [] => []
  | 0, _ => []
  | f + 1, h :: rest =>
    let k := h.toNat % 128 + 1
    let n := if 128 ≤ h.toNat then 2 else 2 * k
    (k, 1 + n) :: mapWords f (rest.drop n)

/-- The code words of the map of a RASTER record, with the bytes that pad the record counted to the first. -/
def rasterWords (b : Bytes) : List (Nat × Nat) :=
  let m := slice b 40 (fieldU b 28 4)
  match mapWords m.length m with
  | (k, n) :: l => (k, n + (b.length - 40 - m.length)) :: l
  | [] => []

/-- Check 12 (R130): the map decodes to C × L cells, uses M bytes, and matches its check. -/
def mapValid (b : Bytes) : Bool :=
  let m := slice b 40 (fieldU b 28 4)
  match mapRuns m.length m [] with
  | none => false
  | some l =>
    sumN (l.map (fun r => r.1)) == fieldU b 18 2 * fieldU b 20 2
      && crc32c (l.flatMap (fun r => (List.replicate r.1 (leBytes 2 r.2)).flatten)) == fieldU b 32 4

/-- The points of a POLY. -/
def polyPoints (b : Bytes) : List (Int × Int) :=
  (List.range (fieldU b 4 2)).map (fun i => (fieldI b (16 + 8 * i) 4, fieldI b (20 + 8 * i) 4))

/-- The record that 8-byte units spell (Tables 5.5–5.12). -/
def decodeRec (op : Nat) (b : Bytes) : PkgRec :=
  let u := fun o n => fieldU b o n
  let i := fun o n => fieldI b o n
  let f := u 1 1
  match op with
  | 1 => .body (.jump (bit f 0) (i 4 4) (i 8 4) (i 12 2) (u 14 2))
  | 2 => .body (.vec (bit f 0) (bit f 1) (i 4 4) (i 8 4) (i 12 2) (u 14 2) (u 16 2) (u 18 2) (u 20 2))
  | 3 => .body (.poly (bit f 0) (i 6 2) (u 8 2) (u 10 2) (u 12 2) (polyPoints b))
  | 4 => .body (.raster (bit f 0) (bit f 1) (i 4 4) (i 8 4) (u 12 2) (u 14 2) (u 16 2) (u 18 2) (u 20 2) (u 22 2) (i 24 2) (u 26 2)
      (rasterRuns b))
  | 5 => .zone f (u 4 1) (u 5 1) (u 6 1) (u 7 1) (u 8 4) (u 12 4)
  | 6 => .body (.dwell (u 4 4))
  | 7 => .body (.mark (bit f 0) (u 4 1) (u 6 2) (i 8 4) (i 12 4) (i 16 4) (i 20 4) (u 24 2) (u 26 2) (i 28 2))
  | _ => .body .endRec

/-- Whether a bed coordinate is in range (R123). -/
def coordOk (x : Int) : Bool := -4000000 ≤ x && x ≤ 4000000

/-- Whether a focus offset is in range (R123). -/
def focusOk (f : Int) : Bool := -20000 ≤ f && f ≤ 20000

/-- Whether a marking speed is in range (R123). -/
def speedOk (v : Nat) : Bool := 1 ≤ v && v ≤ 20000

/-- Whether a point of the bed, taken exactly, lies within the coordinate range (R129). -/
def ptOk (p : Pt) : Bool :=
  let x := snapP p.x
  let y := snapP p.y
  cnt (-4000000) ≤ x && x ≤ cnt 4000000 && cnt (-4000000) ≤ y && y ≤ cnt 4000000

/-- Whether the four corners of a RASTER lie within the range (R129). -/
def cornersOk (x y : Int) (an c h cs ls : Nat) : Bool :=
  let a := rasterLine false x y an c h cs 0
  let b := rasterLine false x y an c h cs (ls - 1)
  ptOk a.1 && ptOk a.2.2 && ptOk b.1 && ptOk b.2.2

/-- Whether no two neighbours of a list of points are equal. -/
def segmentsOk : Option Pt → List (Int × Int) → Bool
  | _, [] => true
  | p, (x, y) :: l => (match p with | some q => q != ptOf x y | none => true) && segmentsOk (some (ptOf x y)) l

/-- Check 10 (R123–R134): `pos` is the current position in the section, `own` that the section is a channel's, `mapLen` the
length of a RASTER map. -/
def recRanges (own : Bool) (pos : Option Pt) (mapLen : Nat) (r : Rec) : Bool :=
  match r with
  | .jump _ x y f v => coordOk x && coordOk y && focusOk f && decide (v ≤ 40000)
  | .vec ramp _ x y f v _ pe _ =>
    coordOk x && coordOk y && focusOk f && speedOk v && (ramp || pe == 0) && !(own && pos.isNone) && segmentsOk pos [(x, y)]
  | .poly _ f v _ _ pts =>
    decide (1 ≤ pts.length) && decide (pts.length ≤ 8190) && pts.all (fun p => coordOk p.1 && coordOk p.2) && focusOk f && speedOk v
      && !(own && pos.isNone) && segmentsOk pos pts
  | .raster _ _ x y an c h cs ls v f _ _ =>
    coordOk x && coordOk y && focusOk f && speedOk v && decide (8 ≤ c) && decide (8 ≤ h) && decide (1 ≤ cs) && decide (cs ≤ 8192)
      && decide (1 ≤ ls) && decide (ls ≤ 8192) && decide (cs * ls ≤ 4194304) && decide (1 ≤ mapLen) && decide (mapLen ≤ 65496)
      && cornersOk x y an c h cs ls
  | .dwell t => 1 ≤ t && t ≤ 6000000
  | .mark observe _ _ sx sy ex ey v p f =>
    let d := (ex - sx) * (ex - sx) + (ey - sy) * (ey - sy)
    coordOk sx && coordOk sy && coordOk ex && coordOk ey && focusOk f && speedOk v && decide (800 * 800 ≤ d) && decide (d ≤ 32000 * 32000)
      && (if observe then p == 0 else p != 0)
  | .endRec => true

/-- The current position after a record (R124). -/
def posAfter (pos : Option Pt) (r : Rec) : Option Pt :=
  match recEnd r with
  | some p => some p
  | none => pos

/-- Checks 7, 8, 9, 10 and 12 of the records of one section from byte `at_` on (R136). DEDUCED: assumption 36. -/
def sectionRecs (kind : Nat) (dir : Nat) : Nat → Nat → Option Pt → Bytes → List SecRec → Except PkgError (List SecRec)
  | _, _, _, [], acc => .ok acc.reverse
  | 0, _, _, _, acc => .ok acc.reverse
  | f + 1, at_, pos, b, acc =>
    let op := fieldU b 0 1
    let units := fieldU b 2 2
    let fail := fun (k : Nat) => (Except.error { reason := k, dir, record := at_ } : Except PkgError (List SecRec))
    if !opAllowed kind op then fail 7
    else if units ≠ opUnits op b || 8192 < units || b.length < 8 * units then fail 8
    else
      let rb := b.take (8 * units)
      if !recReserved op rb then fail 9
      else
        let next := fun (pos : Option Pt) (r : PkgRec) =>
          sectionRecs kind dir f (at_ + 8 * units) pos (b.drop (8 * units)) ({ offset := at_, bytes := 8 * units, r, words := if op == 4 && decide (32768 < 8 * units) then rasterWords rb else [] } :: acc)
        match decodeRec op rb with
        | .zone g z a c r7 n r12 => next pos (.zone g z a c r7 n r12)
        | .body r =>
          if !recRanges (kind == 1) pos (fieldU rb 28 4) r then fail 10
          else if op == 4 && !mapValid rb then fail 12
          else next (posAfter pos r) (.body r)

/-- The records of a section's bytes (R136 stage 2). -/
def checkSection (b : Bytes) (e : DirEntry) : Except PkgError (List SecRec) :=
  let s := slice b e.offset e.length
  sectionRecs e.kind e.pos s.length 0 none s []

/-- Whether a decoded record is END. -/
def secIsEnd (r : SecRec) : Bool :=
  match r.r with
  | .body .endRec => true
  | _ => false

/-- Check 11 of a channel section (R120, R133). -/
def checkEnd (e : DirEntry) (l : List SecRec) : Option PkgError :=
  match l.dropLast.find? secIsEnd with
  | some r => some { reason := 0xB, dir := e.pos, record := r.offset }
  | none =>
    if (l.getLast?.map secIsEnd).getD false && l.length == e.count then none else some (secFail 0xB e.pos)

/-- The items of a fen section behind its ZONE (R131): answers the offset of the record that breaks the structure. -/
def fenItems : List SecRec → Nat → List FenItem → Except Nat (List FenItem)
  | [], _, acc => .ok acc.reverse
  | j :: v :: l, k, acc =>
    match j.r, v.r with
    | .body (.jump s x y f sp), .body r =>
      let ok := match r with
        | .vec _ _ _ _ _ _ _ _ _ => true
        | .poly _ _ _ _ _ pts => decide (pts.length ≤ 1022)
        | _ => false
      if ok then
        let q := fun (o n : Nat) (r : Rec) => ({ body := r, bytes := n, offset := o, layer := 0, nominal := 0, words := [] } : QRec)
        fenItems l (k + 1)
          ({ number := k, recs := [q j.offset j.bytes (.jump s x y f sp), q v.offset v.bytes r], bytes := j.bytes + v.bytes } :: acc)
      else .error v.offset
    | .body (.jump _ _ _ _ _), _ => .error v.offset
    | _, _ => .error j.offset
  | [j], _, _ => .error j.offset

/-- Check 13 of a fen section (R131): `chans` are the channels with a section. -/
def checkFen (chans : List Nat) (e : DirEntry) (l : List SecRec) : Except PkgError FenSection :=
  let fail := fun (o : Nat) => (Except.error { reason := 0xD, dir := e.pos, record := o } : Except PkgError FenSection)
  match l with
  | [] => fail 0xFFFFFFFF
  | z :: rest =>
    match z.r with
    | .zone flags fen a b r7 n r12 =>
      if flags ≠ 0 || fen ≠ e.inst || 31 < b || b ≤ a || r7 ≠ 0 || n < 1 || 65535 < n || r12 ≠ 0 then fail z.offset
      else
        match fenItems rest 0 [] with
        | .error o => fail o
        | .ok items =>
          if items.length = n && l.length = e.count && chans.contains a && chans.contains b then
            .ok { fen, chanA := a, chanB := b, items }
          else fail 0xFFFFFFFF
    | _ => fail z.offset

/-- A MARK of a package: its channel and its fields. -/
structure MarkRef where
  channel : Nat
  observe : Bool
  fen : Nat
  number : Nat
  track : List Int
  speed : Nat
deriving DecidableEq, Repr, Inhabited

/-- The MARK records of a channel section. -/
def sectionMarks (n : Nat) (l : List SecRec) : List MarkRef :=
  l.filterMap (fun r =>
    match r.r with
    | .body (.mark o z k sx sy ex ey v _ _) => some { channel := n, observe := o, fen := z, number := k, track := [sx, sy, ex, ey], speed := v }
    | _ => none)

/-- Whether numbers rise strictly. -/
def rising : List Nat → Bool
  | a :: b :: l => decide (a < b) && rising (b :: l)
  | _ => true

/-- Check 14 (R135). -/
def checkMarks (fens : List FenSection) (chans : List (Nat × List SecRec)) : Bool :=
  let all := chans.flatMap (fun c => sectionMarks c.1 c.2)
  chans.all (fun c => rising ((sectionMarks c.1 c.2).map (fun m => m.number)))
    && all.all (fun m =>
      match all.filter (fun x => x.number == m.number) with
      | [x, y] =>
        x.observe != y.observe && x.fen == y.fen && x.track == y.track && x.speed == y.speed && x.channel != y.channel
          && fens.any (fun f => f.fen == x.fen && (f.chanA == x.channel || f.chanB == x.channel) && (f.chanA == y.channel || f.chanB == y.channel))
      | _ => false)

/-- Check 15 (R367): the moves of a stepper section. -/
def checkMoves (b : Bytes) (e : DirEntry) : Except PkgError (List StepMove) :=
  let moves := (List.range (e.length / 16)).map (fun k => slice b (e.offset + 16 * k) 16)
  if e.count < 1 || 16 < e.count || e.length ≠ 16 * e.count then .error (secFail 0xF e.pos)
  else
    match moves.findIdx? (fun m => !moveWellFormed m) with
    | some k => .error { reason := 0xF, dir := e.pos, record := 16 * k }
    | none => .ok (moves.map (fun m => { raw := m }))

/-- The first error of a list of results, or all the results. -/
def allOk {α : Type} : List (Except PkgError α) → Except PkgError (List α)
  | [] => .ok []
  | .error e :: _ => .error e
  | .ok x :: l =>
    match allOk l with
    | .error e => .error e
    | .ok r => .ok (x :: r)

/-- Smallest whole number of counts that is not less than the distance of two points of the bed (R179). -/
def ceilDist (p q : Pt) : Nat := ceilP (ptDist p q)

/-- `ceil (25 d / (2 V))` (R179). -/
def ticksFor (d v : Nat) : Nat := (25 * d + 2 * v - 1) / (2 * v)

/-- The nominal duration of a record from a position (R179). -/
def nominalOf (pos : Option Pt) (r : Rec) : Nat :=
  match r with
  | .jump _ x y _ v =>
    match pos with
    | some p => ticksFor (ceilDist p (ptOf x y)) (if v = 0 then 10000 else v)
    | none => 0
  | .vec _ _ x y _ v _ _ _ => ticksFor (ceilDist (pos.getD (ptOf x y)) (ptOf x y)) v
  | .poly _ _ v _ _ pts =>
    match pts with
    | [] => 0
    | (x, y) :: _ => ticksFor (ceilP (polyLength (pos.getD (ptOf x y)) pts)) v
  | .raster _ _ _ _ _ c _ cs ls v _ _ _ => ticksFor (cs * ls * c) v
  | .dwell t => t
  | .mark _ _ _ sx sy ex ey v _ _ =>
    let d := ((ex - sx) * (ex - sx) + (ey - sy) * (ey - sy)).toNat
    let k := isqrt (625 * d / (4 * v * v))
    if 4 * v * v * (k * k) = 625 * d then k else k + 1
  | .endRec => 0

/-- The records of a channel section as they enter the queue, with their nominal durations, and the position after them. -/
def queueRecs (layer : Nat) (pos : Option Pt) (l : List SecRec) : List QRec × Option Pt :=
  let r := l.foldl (fun (acc : List QRec × Option Pt) x =>
    match x.r with
    | .body b => ({ body := b, bytes := x.bytes, offset := x.offset, layer, nominal := nominalOf acc.2 b, words := x.words } :: acc.1, posAfter acc.2 b)
    | .zone _ _ _ _ _ _ _ => acc) ([], pos)
  (r.1.reverse, r.2)

/-- Stages 2 and 3 of validation (R136) for a package that passed checks 1 to 6: the package, or its first failure. `ends` are
the channels' positions after the job's earlier packages. DEDUCED: assumption 36. -/
def checkBody (ends : Vector (Option Pt) 32) (b : Bytes) (dir : List DirEntry) : Except PkgError (Package × Vector (Option Pt) 32) :=
  let layer := fieldU b 12 4
  match allOk ((dir.filter (fun e => e.kind != 3)).map (fun e => (checkSection b e).map (fun l => (e, l)))) with
  | .error e => .error e
  | .ok secs =>
    let chans := secs.filter (fun s => s.1.kind == 1)
    match chans.findSome? (fun s => checkEnd s.1 s.2) with
    | some e => .error e
    | none =>
      match allOk ((secs.filter (fun s => s.1.kind == 2)).map (fun s => checkFen (chans.map (fun c => c.1.inst)) s.1 s.2)) with
      | .error e => .error e
      | .ok fens =>
        if !checkMarks fens (chans.map (fun c => (c.1.inst, c.2))) then .error (pkgFail 0xE)
        else
          match allOk ((dir.filter (fun e => e.kind == 3)).map (fun e => (checkMoves b e).map (fun m => (e.inst, m)))) with
          | .error e => .error e
          | .ok steppers =>
            let first := bit (fieldU b 16 4) 0
            let ends := if first then Vector.replicate 32 none else ends
            let q := chans.map (fun c => (c.1.inst, queueRecs layer (getI ends c.1.inst) c.2))
            .ok ({ layer, first, last := bit (fieldU b 16 4) 1, interlayer := fieldU b 20 4, earliest := fieldU b 24 8
                   job := fieldU b 32 4, length := fieldU b 8 4
                   channels := q.map (fun c => (c.1, c.2.1))
                   fens := fens.map (fun f => { f with items := f.items.map (fun it =>
                     { it with recs := it.recs.map (fun r => { r with layer := layer }) }) })
                   steppers },
                 q.foldl (fun v c => updI v c.1 (fun _ => c.2.2)) ends)

end Sys2Proof.Machine
end

