-- ==== Sys2Proof/Machine/Job.lean ====
section
/-! DEFINITION. The layer store, validation and job control: acceptance, refill, completion, decision point, boundaries and
stops (05_layer_stream R117, R118, R136–R149; 06_scan_execution R187–R189; 20_startup_and_faults R496–R500). -/

namespace Sys2Proof.Machine

/-- Job control changed by `f`. -/
def State.updJob (s : State) (f : JobState → JobState) : State := { s with job := f s.job }

/-- The Layer Stream session changed by `f`. -/
def State.updSession (s : State) (f : Session → Session) : State := { s with host := { s.host with session := f s.host.session } }

/-- PACKAGE STATUS (R112, R140; Table 4.6). -/
def packageStatus (s : State) (status layer offset : Nat) : State :=
  let x := s.host.session
  if x.id = 0 then s
  else sendStream s x.port x.src 0x84 x.id 0 status offset (leBytes 4 layer ++ leBytes 4 0)

/-- A package counted as rejected in CREDIT (R111, R112). -/
def countRejected (s : State) : State := s.updSession (fun x => { x with rejected := (x.rejected + 1) % 2 ^ 32, changed := true })

/-- The event of a rejected package (R138, R504, R530). -/
def rejectEvent (layer offset : Nat) (e : PkgError) : Event :=
  mkEvent (.core 2) 0x0501 .warn .layerPackage 0
    (leBytes 4 layer ++ leBytes 8 offset ++ leBytes 2 e.reason ++ leBytes 2 e.dir ++ leBytes 4 e.record)

/-- A package rejected (R112, R138). -/
def rejectPackage (s : State) (layer offset : Nat) (e : PkgError) (tell : Bool) : State :=
  let s := packageStatus (countRejected s) 0x09010001 layer offset
  if tell then s.post (rejectEvent layer offset e) else s

/-- Bytes and packages that the store holds or has reserved (R141). -/
def storeUse (s : Blocks) : Nat × Nat :=
  let l := s.job.store.map (fun p => p.head.length) ++ s.job.arrived.map (fun a => a.bytes.length)
  (l.length, sumN l)

/-- Whether the store has room for a further package (R141). -/
def storeFits (s : Blocks) (len : Nat) : Bool :=
  decide ((storeUse s).1 < 8) && decide ((storeUse s).2 + len ≤ 2147483648)

/-- Whether bytes begin with the package magic (R117, R139). -/
def startsMagic (b : Bytes) : Bool := b.length ≥ 4 && fieldU b 0 4 == 0x504C5947

/-- The package in assembly is over: what of the message lies behind its last byte is discarded as malformed (R118). -/
def finishPackage (s : State) (whole rest : Bytes) : State :=
  let stop := s.job.partialAt + whole.length
  let s := s.updJob (fun j => { j with
    arrived := j.arrived ++ [{ since := s.now, offset := j.partialAt, bytes := whole }], partialBytes := [], reserved := none
    resync := !rest.isEmpty })
  let s := s.updSession (fun x => { x with lastWhole := stop })
  if rest.isEmpty then s else { s with host := { s.host with malformed := inc32 s.host.malformed } }

/-- The package in assembly, grown by one DATA message to the bytes `l`, its header complete (R117). -/
def feedBody (s : State) (l : Bytes) : State :=
  let len := fieldU l 8 4
  let s := s.updJob (fun j => { j with reserved := some len })
  if l.length < len then s.updJob (fun j => { j with partialBytes := l }) else finishPackage s (l.take len) (l.drop len)

/-- A DATA message at stream offset `o` that CC1 moves to the queue (R111, R117, R118, R139); none when it completes the header of a
package that does not fit in the store, or begins one while the store holds its 8 packages (R141). A package is judged once its 64 header
bytes are there; where check 1 or 2 then fails, the message that completed them is discarded whole. DESIGN CHOICE: assumption 91. -/
def feedMessage (s : State) (o : Nat) (b : Bytes) : Option State :=
  if s.job.partialBytes.isEmpty && s.job.resync && !startsMagic b then some s
  else if s.job.reserved.isNone && 8 ≤ (storeUse s.toBlocks).1 then none
  else
    let s := if s.job.partialBytes.isEmpty then s.updJob (fun j => { j with partialAt := o, resync := false, reserved := none }) else s
    let l := s.job.partialBytes ++ b
    if l.length < 64 then some (s.updJob (fun j => { j with partialBytes := l }))
    else if s.job.reserved.isSome then some (feedBody s l)
    else
      match checkFrame (l.take 64) with
      | some e =>
        some ((rejectPackage s 0xFFFFFFFF s.job.partialAt e true).updJob (fun j => { j with partialBytes := [], resync := true }))
      | none => if storeFits s.toBlocks (fieldU l 8 4) then some (feedBody s l) else none

/-- P4: CC1 releases the DATA messages of the receive buffer in order, while the store has room (R111, R141). DEDUCED: assumption 31. -/
def releaseStream : Nat → State → State
  | 0, s => s
  | f + 1, s =>
    match s.host.session.buffer with
    | [] => s
    | (o, b) :: rest =>
      match feedMessage s o b with
      | none => s
      | some t =>
        let t := t.updSession (fun x => { x with released := o + b.length, changed := true, buffer := rest })
        releaseStream f (t.fillQueue (if t.host.session.port == 0 then 56 else 58) b.length)

/-- Outcome of check 4 (R137). -/
inductive SeqVerdict
  | good
  | stopped
  | bad
deriving DecidableEq, Repr

/-- Whether the device has stopped a job (R137, R149). -/
def isStopped (j : JobState) (job : Nat) : Bool := j.stopped.any (fun x => x.1 == job)

/-- Check 4 (R137) of a package header; a package with FIRST passes it, and R140 refuses it while a job runs. DEDUCED: assumption 36. -/
def checkSequence (j : JobState) (b : Bytes) : SeqVerdict :=
  let job := fieldU b 32 4
  let first := bit (fieldU b 16 4) 0
  if first then .good
  else if isStopped j job then .stopped
  else
    match j.last with
    | none => .bad
    | some l =>
      if !l.last && !isStopped j l.job && job == l.job && fieldU b 12 4 == (l.layer + 1) % 2 ^ 32 then .good else .bad

/-- Checks 1 to 6 and the rest, in order (R136). DEDUCED: assumption 36. -/
def checkPackage (j : JobState) (b : Bytes) : Except PkgError (Package × Vector (Option Pt) 32) :=
  let stop := b.length - 4
  match checkFrame b with
  | some e => .error e
  | none =>
    if crc32c (b.take stop) ≠ fieldU b stop 4 then .error (pkgFail 3)
    else if checkSequence j b ≠ .good then .error (pkgFail 4)
    else if !checkHead b then .error (pkgFail 5)
    else if stop < 64 + 16 * fieldU b 6 2 then .error (pkgFail 6)
    else
      match checkDir stop none (64 + 16 * fieldU b 6 2) (dirEntries b) with
      | some e => .error e
      | none => checkBody j.ends b (dirEntries b)

/-- The channels that a package names, by section or by fen. -/
def packageChans (p : Package) : List Nat :=
  p.channels.map (fun c => c.1) ++ p.fens.flatMap (fun f => [f.chanA, f.chanB])

/-- Whether every axis that must be is CLOSED and trusted (R212). -/
def axesReady (s : Blocks) (chans : List Nat) : Bool :=
  allI 96 (fun a => !axisEnabled s a || ((getI s.axes a).loop == .closed && (getI s.axes a).trusted))
    && chans.all (fun n => allI 3 (fun q => axisEnabled s (3 * n + q)))

/-- Whether the ports and nodes of the channels allow a start (R330). -/
def portsReady (s : Blocks) (chans : List Nat) : Bool :=
  chans.all (fun n =>
    (getI s.link.ports (32 + n)).st == .up && (!s.objB (0x5000 + n) 0x00 || (getI s.link.ports n).st == .up)
      && !(getI s.scan.chans n).gates.node)

/-- Whether the stepper axes allow a start (R387). -/
def steppersReady (s : Blocks) (p : Package) : Bool :=
  p.steppers.all (fun x => s.objB (0x4000 + x.1) 0x00 && (getI s.steps x.1).trusted && (getI s.steps x.1).st != .stopped)
    && allI 8 (fun m => stepAtRest (getI s.steps m) && (getI s.steps m).queue.isEmpty)

/-- Whether the pair allows a start at this unit (R337, R341). -/
def pairReady (s : Blocks) : Bool :=
  match s.pair.st with
  | .single => true
  | .active => true
  | .standby => true
  | .alone => !((s.pair.wisp.map (fun w => w.valid && w.pairState == 2)).getD false && s.pair.linkUp)
  | _ => false

/-- Whether the device grants a job start (R140, R495). -/
def startGranted (s : Blocks) (p : Package) : Bool :=
  let chans := packageChans p
  s.job.dev == .ready && !s.job.granted && decide (sevInForce s.faults < 4)
    && (!s.objB 0x2000 0x01 || s.time.tb == .locked) && axesReady s chans && chans.all (fun n => !gridBlank s n) && portsReady s chans
    && steppersReady s p && pairReady s && !anyCalibration s && (getI s.mem.state 0 == 1 || getI s.mem.state 1 == 1)

/-- A package as it stands in the store when accepted. -/
def newStored (p : Package) (bytes : Bytes) : Stored := { head := p, bytes, channels := p.channels, fens := p.fens, steppersMoved := false }

/-- A package accepted into the store (R137, R140, R141). -/
def acceptPackage (s : State) (p : Package) (bytes : Bytes) (ends : Vector (Option Pt) 32) : State :=
  (s.updJob (fun j => { j with
    store := j.store ++ [newStored p bytes], last := some { job := p.job, layer := p.layer, last := p.last }, ends
    granted := j.granted || p.first
    stopped := if p.first then j.stopped.filter (fun x => x.1 != p.job) else j.stopped })).updSession
    (fun x => { x with accepted := (x.accepted + 1) % 2 ^ 32, changed := true })

/-- The STREAM messages of an accepted package, each with its stream offset, the sequence of its first DATA message and up to 2,036
bytes (R345, Table 13.4). DEDUCED: assumption 35. -/
def streamOut : Nat → State → Nat → Bytes → State
  | 0, s, _, _ => s
  | f + 1, s, o, b =>
    if b.isEmpty then s
    else streamOut f (sendPeer s 6 (leBytes 8 o ++ leBytes 4 s.host.session.sequence ++ b.take 2036)) (o + 2036) (b.drop 2036)

/-- CC2 checks one whole package (R136–R140). -/
def validatePackage (s : State) (a : Arrived) : State :=
  let b := a.bytes
  let layer := fieldU b 12 4
  match checkPackage s.job b with
  | .error e =>
    let old := e.reason == 4 && checkSequence s.job b == .stopped
    let s := rejectPackage s (if e.reason ≤ 2 then 0xFFFFFFFF else layer) a.offset e (!(old && s.job.stopped.contains (fieldU b 32 4, true)))
    if old then s.updJob (fun j => { j with stopped := j.stopped.map (fun x => (x.1, x.2 || x.1 == fieldU b 32 4)) }) else s
  | .ok (p, ends) =>
    if p.first && !startGranted s.toBlocks p then packageStatus (countRejected s) 0x04010001 layer a.offset
    else
      let s := acceptPackage s p b ends
      if s.pair.st == .active then streamOut (b.length / 2036 + 1) s a.offset b else s

/-- The oldest package whose last byte has arrived is checked (R136). -/
def validateNext (s : State) : State :=
  match s.job.arrived with
  | [] => s
  | a :: rest => validatePackage (s.updJob (fun j => { j with arrived := rest })) a

/-- Packages whose 1,000 ticks are over, or all that have arrived, checked (R136). -/
def validateDue (all : Bool) (s : State) : State :=
  forI s.job.arrived.length s (fun s _ =>
    match s.job.arrived with
    | a :: _ => if all || a.since + 1000 ≤ s.now then validateNext s else s
    | [] => s)

/-- The records that move from a list within the budget of a tick and the capacity of the queue (R142): `moved` bytes have moved
in the tick, `fill` stand in the queue. -/
def takeRecs : Nat → Nat → List QRec → List QRec × List QRec
  | _, _, [] => ([], [])
  | moved, fill, r :: l =>
    if moved < 8192 && decide (fill + r.bytes ≤ 262144) then
      let x := takeRecs (moved + r.bytes) (fill + r.bytes) l
      (r :: x.1, x.2)
    else ([], r :: l)

/-- The remaining records of channel n in a stored package. -/
def leftOver (p : Stored) (n : Nat) : List QRec := ((p.channels.find? (fun c => c.1 == n)).map (fun c => c.2)).getD []

/-- The stored package with the remaining records of channel n replaced. -/
def setLeft (p : Stored) (n : Nat) (l : List QRec) : Stored :=
  { p with channels := p.channels.map (fun c => if c.1 == n then (n, l) else c) }

/-- Refill of Qn from the packages that may move, in stream order (R142). -/
def refillFrom (n : Nat) : Nat → Nat → List Stored → List QRec × List Stored
  | _, _, [] => ([], [])
  | moved, fill, p :: rest =>
    let x := takeRecs moved fill (leftOver p n)
    let b := bytesOf x.1
    if x.2.isEmpty then
      let y := refillFrom n (moved + b) (fill + b) rest
      (x.1 ++ y.1, setLeft p n [] :: y.2)
    else (x.1, setLeft p n x.2 :: rest)

/-- Number of packages of the store whose records may move: that of the layer in progress and the next (R142). -/
def refillSpan (j : JobState) : Nat := if j.layer.isSome then 2 else 1

/-- Refill of one channel; a STOPPED channel loses its records of the layer in progress (R148). -/
def refillChan (s : State) (n : Nat) : State :=
  let c := getI s.scan.chans n
  if c.state == .stopped then
    let keep := fun (r : QRec) => some r.layer != s.job.layer
    (s.updChan n (fun c => { c with queue := c.queue.filter keep })).updJob (fun j => { j with
      store := j.store.map (fun p => setLeft p n ((leftOver p n).filter keep)) })
  else
    let k := refillSpan s.job
    let x := refillFrom n 0 (queueBytes c) (s.job.store.take k)
    let fill := queueBytes c + bytesOf x.1
    let left := x.2.findSome? (fun p => (leftOver p n).head?)
    let waits := (left.map (fun r => decide (262144 < fill + r.bytes))).getD false
    noteStall ((s.updChan n (fun c => { c with queue := c.queue ++ x.1 })).updJob (fun j => { j with store := x.2 ++ j.store.drop k }))
      n waits (!x.1.isEmpty)

/-- The items that move into a fen buffer within the budget of a tick and its 16,384 bytes (R142). -/
def takeItems : Nat → Nat → List FenItem → List FenItem × List FenItem
  | _, _, [] => ([], [])
  | moved, fill, r :: l =>
    if moved < 8192 && decide (fill + r.bytes ≤ 16384) then
      let x := takeItems (moved + r.bytes) (fill + r.bytes) l
      (r :: x.1, x.2)
    else ([], r :: l)

/-- Refill of the buffer of one fen section (R142). -/
def refillFen (s : State) (layer : Nat) (f : FenSection) : State :=
  let mine := s.scan.bufs.find? (fun (b : FenBuf) => b.fen == f.fen && b.layer == layer)
  let others := s.scan.bufs.any (fun (b : FenBuf) => b.fen == f.fen && b.layer != layer && !b.items.isEmpty)
  let earlier := s.job.store.any (fun (p : Stored) => p.head.layer != layer && some p.head.layer == s.job.layer &&
    p.fens.any (fun g => g.fen == f.fen && !g.items.isEmpty))
  if others || earlier || f.items.isEmpty then s
  else
    let held := (mine.map (fun b => b.items)).getD []
    let x := takeItems 0 (sumN (held.map (fun i => i.bytes))) f.items
    let buf : FenBuf := { fen := f.fen, layer, chanA := f.chanA, chanB := f.chanB, items := held ++ x.1 }
    ({ s with scan := { s.scan with bufs := s.scan.bufs.filter (fun (b : FenBuf) => b.fen != f.fen) ++ [buf] } }).updJob (fun j => { j with
      store := j.store.map (fun (p : Stored) =>
        if p.head.layer == layer then { p with fens := p.fens.map (fun (g : FenSection) => if g.fen == f.fen then { g with items := x.2 } else g) } else p) })

/-- Refill of the fen buffers from the packages that may move. -/
def refillFens (s : State) : State :=
  (s.job.store.take (refillSpan s.job)).foldl (fun s p => p.fens.foldl (fun s f => refillFen s p.head.layer f) s) s

/-- The package after the layer in progress: the first of the job while no layer is. -/
def nextPackage (j : JobState) : Option Stored := if j.layer.isSome then j.store[1]? else j.store[0]?

/-- The stepper moves of the next package enter Q32–Q39 in the P4 in which the layer in progress completes, or, of a package accepted
later, in the first P4 in which the store holds it (R142). DESIGN CHOICE: assumption 91. -/
def moveSteppers (s : State) : State :=
  match nextPackage s.job with
  | none => s
  | some p =>
    if s.job.dev == .running && (s.job.layer.isNone || s.job.completeTick.isSome) && !p.steppersMoved then
      let s := p.head.steppers.foldl (fun s x =>
        s.updStep x.1 (fun ax => { ax with queue := ax.queue ++ x.2, cut := false })) s
      s.updJob (fun j => { j with store := j.store.map (fun q => if q.head.layer == p.head.layer then { q with steppersMoved := true } else q) })
    else s

/-- P4: queue refill (R142): while the job is RUNNING, and from the decision of its start on. -/
def refill (s : State) : State :=
  if s.job.dev == .running || s.job.refill then refillFens (forI 32 s refillChan) else s

/-- Whether fen items that name channel n remain unclaimed in the layer in progress (R144). -/
def fenItemsLeft (s : Blocks) (n : Nat) : Bool :=
  s.scan.bufs.any (fun b => some b.layer == s.job.layer && (b.chanA == n || b.chanB == n) && !b.items.isEmpty)
    || s.job.store.any (fun p => some p.head.layer == s.job.layer &&
      p.fens.any (fun f => (f.chanA == n || f.chanB == n) && !f.items.isEmpty))

/-- Whether channel n has completed the layer in progress (R144, R148). -/
def chanComplete (s : Blocks) (n : Nat) : Bool :=
  let c := getI s.scan.chans n
  c.state == .stopped || (c.state == .waitEnd && c.atEnd && c.item.isNone && !fenItemsLeft s n)

/-- The tick count of the boundary of the layer in progress. -/
def layerBoundaryCount (s : Blocks) : Nat := (2 ^ 48 + s.tickCount - (s.now - s.job.boundaryTick)) % 2 ^ 48

/-- P4: whether the layer in progress completes in this tick (R144), and what begins with it. -/
def checkComplete (s : State) : State :=
  match s.job.layer with
  | none => s
  | some l =>
    if s.job.dev == .running && s.job.completeTick.isNone && allI 32 (chanComplete s.toBlocks) then
      let s := s.updJob (fun j => { j with completeTick := some s.now })
      let s := fenLayerComplete (meltLayerComplete s l) l (layerBoundaryCount s.toBlocks)
      layerTrigger s 0 (s.now + 1)
    else s

/-- P3: every channel with a section in the layer in progress is STOPPED (R499). DEDUCED: assumption 60. -/
def checkAllStopped (s : State) : State :=
  let l := s.job.layerSections
  let all := s.jobRuns && s.job.layer.isSome && !l.isEmpty && l.all (fun n => (getI s.scan.chans n).state == .stopped)
  let s' := { s with faults := { s.faults with allStopped := all } }
  if all && !s.faults.allStopped then s'.post (mkEvent (.core 0) 0x1405 .stopJob .device 0 []) else s'

/-- Whether the standby's wisp of the tick before reports a package held, where the unit is the active one of a pair (R346): the last
package held is that one, or a later one of the at most eight that a store holds. DEDUCED: assumption 35. -/
def standbyHolds (s : Blocks) (p : Package) : Bool :=
  s.pair.st != .active || (decide (s.now ≤ s.pair.wispTick + 1) &&
    (s.pair.wisp.map (fun w => w.lastPackage != 0xFFFFFFFF && decide ((2 ^ 32 + w.lastPackage - p.layer) % 2 ^ 32 < 8))).getD false)

/-- Whether the stepper moves of the next package are complete (R145 condition 3, R380). DEDUCED: assumption 37. -/
def movesDone (s : Blocks) (p : Stored) : Bool :=
  p.steppersMoved && allI 8 (fun m => (getI s.steps m).queue.isEmpty && (getI s.steps m).st != .moving)
    && p.head.steppers.all (fun x => !(getI s.steps x.1).cut)

/-- Whether the next tick boundary is a layer boundary (R145). -/
def layerDue (s : Blocks) : Bool :=
  match nextPackage s.job with
  | none => false
  | some p =>
    let c : Option Nat := if s.job.layer.isNone then some (s.job.boundaryTick - 1) else s.job.completeTick
    match c with
    | none => false
    | some c =>
      s.job.dev == .running && standbyHolds s p.head && movesDone s p && decide (c + 1 + p.head.interlayer ≤ s.now + 1)
        && (p.head.earliest == 0 || decide (p.head.earliest ≤ s.tickCount + 1))

/-- The decision point of CC2 (R140, R145, R78), once in a tick; a standby takes the active unit's decisions instead (R346). -/
def decidePoint (s : State) : State :=
  if s.job.decided || s.pair.st == .standby then s
  else
    let start := s.job.granted && s.job.dev == .ready && decide (sevInForce s.faults < 4)
      && !s.dict.pending.any (fun w => w.apply == .stp && decide (s.now + 1 < w.due))
      && (s.job.store.head?.map (fun p => standbyHolds s.toBlocks p.head)).getD false
    let s := s.updJob (fun j => { j with decided := true, nextStart := start, nextLayer := layerDue s.toBlocks, refill := start })
    if start then refill s else s

/-- A channel at rest without a job: IDLE, with nothing of the job left (R187, R531). DEDUCED: assumption 84. -/
def idleChan (c : Chan) : Chan :=
  { c with
    state := .idle, act := .ready, queue := [], ahead := [], segs := [], chainOpen := false, active := none, raster := none, item := none
    cur := none, rest := none, focus := 0, atEnd := false, backlog := 0, rejoin := false, blocked := false
    placed := false, mapWords := [] }

/-- A job starts (R140, R187, R188, R58, R267, R272). -/
def startJob (s : State) : State :=
  let job := ((s.job.store.head?).map (fun p => p.head.job)).getD 0
  let s := s.updJob (fun j => { j with
    dev := .running, job, layer := none, layerSections := [], isLast := false, granted := false, nextStart := false, nextLayer := false
    refill := false, boundaryTick := s.now, completeTick := none })
  let s := { s with scan := { s.scan with chans := s.scan.chans.map (fun c =>
    { idleChan c with queue := c.queue, state := .run, stopCause := 0
                      gates := { c.gates with stop := false, overrun := false } }) } }
  fenJobStart (meltJobStart s)

/-- Whether the pending rejoin of channel n takes effect (R189, R457). -/
def rejoinNow (s : Blocks) (n : Nat) : Bool :=
  let c := getI s.scan.chans n
  c.rejoin && c.state == .stopped && scannerClosed s n && !c.gates.feedback && !c.gates.node && !c.gates.overrun && !c.gates.job
    && !calibrating s n && !calibrating s (32 + n)

/-- Channel n at the boundary of a layer (R144, R148, R179, R187, R189); `sec` are its records in the layer's package, if it has a
section. -/
def chanBoundary (s : Blocks) (layer : Nat) (sec : Option (List QRec)) (n : Nat) (c : Chan) : Chan :=
  let go := rejoinNow s n
  let c := if go then { idleChan c with queue := c.queue, gates := { c.gates with stop := false }, state := .run } else c
  let c := { c with
    backlog := sumN ((sec.getD []).map (fun (r : QRec) => r.nominal)), counts := { c.counts with completed := 0 }, underrunPosted := false
    rasterPosted := false }
  if c.state == .stopped || c.state == .stopping then { c with queue := c.queue.filter (fun r => r.layer != layer) }
  else { c with state := if sec.isSome then .run else .waitEnd, atEnd := sec.isNone }

/-- Fens both of whose channels are STOPPED lose their items at a layer boundary (R148); the event names the fen and the items, the first five
of more (Table 6.6). DESIGN CHOICE: assumption 92. -/
def discardFens (s : State) : State :=
  let stopped := fun (n : Nat) => (getI s.scan.chans n).state == .stopped
  let left := (layerFens s.toBlocks).filter (fun f => stopped f.chanA && stopped f.chanB)
  left.foldl (fun s f =>
    let items := ((s.scan.bufs.find? (fun b => b.fen == f.fen && some b.layer == s.job.layer)).map (fun b => b.items)).getD []
      ++ ((s.job.store.find? (fun p => some p.head.layer == s.job.layer)).bind (fun p =>
        (p.fens.find? (fun g => g.fen == f.fen)).map (fun g => g.items))).getD []
    if items.isEmpty then s
    else s.post (chanEvent f.chanA 0x060A .warn (leBytes 1 f.fen ++ (items.take 5).flatMap (fun it => leBytes 4 it.number)))) s

/-- The boundary of the next layer (R141, R144, R145), with the values of the boundary in force. -/
def layerBoundary (s : State) : State :=
  match nextPackage s.job with
  | none => s
  | some p =>
    let s := discardFens s
    let l := p.head.layer
    let s := s.updJob (fun j => { j with
      layer := some l, layerSections := p.head.channels.map (fun c => c.1), isLast := p.head.last, nextLayer := false
      boundaryTick := s.now, completeTick := none, store := if j.layer.isSome then j.store.drop 1 else j.store })
    let b := s.toBlocks
    let s := { s with scan := { s.scan with
      chans := mapI s.scan.chans (fun n c =>
        chanBoundary b l ((p.head.channels.find? (fun (x : Nat × List QRec) => x.1 == n)).map (fun (x : Nat × List QRec) => x.2)) n c)
      bufs := s.scan.bufs.filter (fun x => x.layer == l) } }
    let s := s.updReg (fun x => { x with tracks := Vector.replicate 32 none })
    let s := { s with axes := s.axes.map (fun (ax : Axis) => { ax with satPosted := false }) }
    layerTrigger (meltLayerBoundary s l) 1 s.now

/-- Every channel at rest taken to IDLE, a pending rejoin dropped (R187, R189). -/
def idleChannels (s : State) : State := { s with scan := { s.scan with chans := s.scan.chans.map idleChan, bufs := [] } }

/-- The job ends (R141, R146). -/
def endJob (s : State) : State :=
  (idleChannels s).updJob (fun j => { j with
    dev := .ready, layer := none, layerSections := [], completeTick := none, isLast := false, store := [], granted := false
    nextLayer := false, nextStart := false, refill := false })

/-- The packages of the job in hand are discarded and its later ones will be rejected (R137, R140, R149). -/
def dropJob (s : State) (job : Nat) : State :=
  s.updJob (fun j => { j with
    store := [], stopped := (job, false) :: j.stopped.filter (fun x => x.1 != job), granted := false, nextStart := false, nextLayer := false, refill := false })

/-- A granted start that does not take effect (R140, R510). -/
def cancelStart (s : State) : State :=
  let s := dropJob s (((s.job.store.head?).map (fun p => p.head.job)).getD 0)
  { s with scan := { s.scan with chans := s.scan.chans.map (fun c => { c with queue := [] }), bufs := [] } }

/-- The maps of a stopped layer that are not closed carry STOPPED (Table 10.5). -/
def markStopped (s : State) : State :=
  s.updMeltState (fun x => { x with maps := x.maps.map (fun (m : MapAcc) => if m.until_.isNone then { m with stopped := true } else m) })

/-- A running job stops (R149, R497, R498). -/
def stopJob (s : State) : State :=
  let job := s.job.job
  let s := fenJobStopped s
  let s := setJobGates (dropJob (s.updJob (fun j => { j with dev := .stopping })) job) true
  let s := forI 32 s (fun s n =>
    let s := stopChan s n 7 false
    s.updChan n (fun c => { c with queue := [], ahead := [], backlog := 0, rejoin := false }))
  markStopped { s with scan := { s.scan with bufs := [], grants := [] } }

/-- The job-level action of the severity read in the tick before (R37, R498, R500). -/
def jobAction (s : State) (a : Severity) : State :=
  let was := s.job.dev
  let s := if was == .running then stopJob s else s
  let s := if s.job.granted then cancelStart s else s
  if a == .safe then
    let s := safeOffSwitches (stopAllSteppers s)
    if was == .ready then setJobGates (s.updJob (fun j => { j with dev := .held })) true else s
  else if was == .running then haltAllSteppers s
  else s

/-- Whether every channel and every stepper axis is at rest (Table 20.3). -/
def allAtRest (s : Blocks) : Bool :=
  allI 32 (fun n => chanResting s n) && allI 8 (fun m => stepAtRest (getI s.steps m))

/-- STOPPING is over (R496, R497): every channel IDLE, then READY or HELD. -/
def stoppingOver (s : State) : State :=
  if s.job.dev == .stopping && allAtRest s.toBlocks then
    let s := idleChannels s
    let s := s.updJob (fun j => { j with layer := none, layerSections := [], completeTick := none, isLast := false })
    if safeOpen s.faults then s.updJob (fun j => { j with dev := .held })
    else setJobGates (s.updJob (fun j => { j with dev := .ready })) false
  else s

/-- P4: the map of a stopped layer gets its completion in the tick in which every channel is at rest (Table 10.5). -/
def stoppedMap (s : State) : State :=
  if s.job.dev == .stopping && allI 32 (fun n => chanResting s.toBlocks n) then completeMap s true else s

/-- The first boundary after the end of start-up (R442, R494, R496, R497): READY, or HELD while a SAFE record is open; event 0x1403 with the
durations of the phases; the first start-up group of load switches. DEDUCED: assumption 74. -/
def leaveStartUp (s : State) : State :=
  if s.job.dev == .startUp && s.start.phase == 0 then
    let held := safeOpen s.faults
    let s := setJobGates (s.updJob (fun j => { j with dev := if held then .held else .ready })) held
    startGroup (s.post (mkEvent (.core 0) 0x1403 .note .device 0 (s.faults.durations.flatMap (leBytes 2)))) 1
  else s

/-- What the job does at a tick boundary, layer boundaries apart: job-level action, end, start, rest (R37, R140, R146, R496). -/
def jobBoundary (s : State) : State :=
  let s := leaveStartUp s
  let a := s.faults.action
  let s := { s with faults := { s.faults with action := none } }
  let s := match a with | some x => jobAction s x | none => s
  let s := if s.job.granted && decide (4 ≤ sevInForce s.faults) then cancelStart s else s
  let s := if s.job.dev == .running && s.job.isLast && s.job.completeTick.isSome then endJob s else s
  let s := if s.job.nextStart && s.job.dev == .ready then startJob s else s
  stoppingOver s

/-- PACKAGE_VALIDATION (R136). -/
def execPackageValidation (s : State) : Host.Outcome State Fault Refusal := .next (validateNext s)

/-- STOPPING_COMPLETE (R496). -/
def execStoppingComplete (s : State) : Host.Outcome State Fault Refusal := .next (stoppingOver s)

end Sys2Proof.Machine
end

