-- ==== Sys2Proof/Machine/LayerStream.lean ====
section
/-! DEFINITION. Layer Stream: sessions, DATA, credit and answers (04_host_link R108–R113). -/

namespace Sys2Proof.Machine

/-- The first message of the tick that calls for a NAK is kept for P4 (R110). -/
def wantNak (s : State) (port : Fin 2) (src : Src) (session status : Nat) : State :=
  s.updHost (fun h => { h with nak := if h.nak.isSome then h.nak else some { port, src, session, status } })

/-- The next expected sequence and offset that an answer to a session ID carries; 0 where there is no such session (Table 4.5). -/
def expected (x : Session) (id : Nat) : Nat × Nat := if id != 0 && x.id == id then (x.sequence, x.offset) else (0, 0)

/-- A NAK sent (Table 4.6). -/
def sendNak (s : State) (n : LsNak) : State :=
  let e := expected s.host.session n.session
  sendStream s n.port n.src 0x82 n.session e.1 n.status e.2 []

/-- CREDIT (R111, Table 4.6). -/
def sendCredit (s : State) : State :=
  let x := s.host.session
  let s := sendStream s x.port x.src 0x81 x.id x.sequence 0 x.offset
    (leBytes 8 (creditLimit x) ++ leBytes 4 x.accepted ++ leBytes 4 x.rejected)
  s.updSession (fun y => { y with changed := false, lastCredit := s.now })

/-- A Layer Stream message on its way to its own checks (R94–R96). DEDUCED: assumption 31. -/
def lsMessage (s : State) (h : LsHead) (known : Bool) (min : Nat) (reservedZero : Bool) (run : State → State) : State :=
  if !hears s.toBlocks h.port h.src then s
  else if !filterPasses s.toBlocks h.src then noteDiscard s h.port
  else if h.udpLen < 8 then noteMalformed s
  else
    let c := prefixCode h.version h.length h.udpLen known min (reservedZero && h.status == 0)
    if c != 0 then wantNak (if c == 0x08010001 then noteMalformed s else s) h.port h.src h.session c else run s

/-- OPEN or CLOSE kept for the next P4 in the buffer's part for other traffic (R94, R109). -/
def keepControl (s : State) (h : LsHead) (close resume : Bool) : State :=
  let p := placeOther s h.port h.udpLen
  if p.2 then
    p.1.updHost (fun x => { x with control := x.control ++ [{
      port := h.port, src := h.src, session := h.session, close, resume, beforeNak := x.nak.isNone }] })
  else p.1

/-- Whether a DATA or CLOSE message is one of the session (R109). -/
def inSession (s : Blocks) (h : LsHead) : Bool := h.session != 0 && h.session == s.host.session.id && h.port == s.host.session.port

/-- The rows of R110 for a DATA message of the session. -/
def takeData (s : State) (h : LsHead) (payload : Bytes) : State :=
  let x := s.host.session
  let behind := (2 ^ 32 + x.sequence - h.sequence) % 2 ^ 32
  if 1 ≤ behind && behind ≤ 2 ^ 31 then s.updSession (fun y => { y with duplicates := inc32 y.duplicates })
  else if h.sequence != x.sequence || h.offset != x.offset then
    wantNak (s.updSession (fun y => { y with gaps := inc32 y.gaps })) h.port h.src h.session 0x09010003
  else if creditLimit x < h.offset + payload.length then
    wantNak (s.updSession (fun y => { y with exceeded := inc32 y.exceeded })) h.port h.src h.session 0x09010002
  else
    let s := s.updSession (fun y => { y with
      sequence := (y.sequence + 1) % 2 ^ 32, offset := y.offset + payload.length, buffer := y.buffer ++ [(h.offset, payload)]
      changed := true })
    noteHigh s h.port

/-- A NAK that an OPEN or CLOSE calls for in P4; it takes the place of the NAK of a message that arrived after it (R110). -/
def refuseControl (s : State) (c : LsControl) (status : Nat) (first : Bool) : State × Bool :=
  let n : LsNak := { port := c.port, src := c.src, session := c.session, status }
  if first && (c.beforeNak || s.host.nak.isNone) then (s.updHost (fun h => { h with nak := some n }), false) else (s, first)

/-- The session ends (R109, R113): what has arrived whole is validated, and a partial package is discarded. -/
def endSession (s : State) : State :=
  (validateDue true s).updJob (fun j => { j with partialBytes := [], reserved := none, resync := false })

/-- OPEN in P4 (R97, R109), with whether a NAK may still take the place of the tick's. An OPEN that replaces a session discards what its
buffer still holds; a package that has arrived whole is validated. DESIGN CHOICE: assumption 90. DEDUCED: assumption 31. -/
def openSession (s : State) (first : Bool) (c : LsControl) : State × Bool :=
  let x := s.host.session
  if !acceptsWrites s.toBlocks then refuseControl s c 0x04010003 first
  else if c.resume then
    if c.session == x.id then (sendCredit (s.updSession (fun y => { y with port := c.port, src := c.src })), first)
    else refuseControl s c 0x04010001 first
  else if s.jobRuns then refuseControl s c 0x04010001 first
  else
    let s := (endSession s).updJob (fun j => { j with last := none })
    (sendCredit (s.updSession (fun _ => { (default : Session) with id := c.session, port := c.port, src := c.src })), first)

/-- CLOSE in P4 (R113): refused while a job runs; otherwise the session takes no more DATA and ends after the data placed.
DEDUCED: assumption 31. -/
def closeSession (s : State) (first : Bool) (c : LsControl) : State × Bool :=
  if !(c.session == s.host.session.id && c.port == s.host.session.port) || s.host.session.closing.isSome then (noteMalformed s, first)
  else if s.jobRuns then refuseControl s c 0x04010001 first
  else (s.updSession (fun x => { x with closing := some (c.port, c.src) }), first)

/-- The end of a session whose CLOSE has been accepted, once the data placed in its buffer has been released (R113).
DEDUCED: assumption 31. -/
def finishClose (s : State) : State :=
  match s.host.session.closing with
  | none => s
  | some (port, src) =>
    if !s.host.session.buffer.isEmpty then s
    else
      let s := validateDue true s
      let cut := !s.job.partialBytes.isEmpty
      let s := endSession s
      let stop := s.host.session.lastWhole
      let s := if cut then countRejected s else s
      let s := sendStream s port src 0x83 s.host.session.id 0 (if cut then 0x09010001 else 0) stop []
      s.updSession (fun x => { (default : Session) with accepted := x.accepted, rejected := x.rejected })

/-- P4: OPEN and CLOSE in the order of arrival, the one NAK of the tick, the end of a closing session, and CREDIT, which a standby that
holds the session sends as well (R109–R111, R113). DESIGN CHOICE: assumption 90. DEDUCED: assumption 31. -/
def streamAnswers (s : State) : State :=
  let l := s.host.control
  let r := l.foldl (fun (x : State × Bool) c => if c.close then closeSession x.1 x.2 c else openSession x.1 x.2 c)
    (s.updHost (fun h => { h with control := [] }), true)
  let s := r.1
  let s : State := match s.host.nak with
    | some n => (sendNak s n).updHost (fun h => { h with nak := none })
    | none => s
  let s := finishClose s
  if s.host.session.id != 0 && (s.host.session.changed || decide (s.host.session.lastCredit + 1000 ≤ s.now)) then sendCredit s else s

/-- An OPEN message (R109). -/
def openMessage (h : LsHead) (flags : Nat) (s : State) : State :=
  lsMessage s h true 28 (h.sequence == 0 && h.offset == 0 && decide (flags < 2) && h.session != 0) (fun s => keepControl s h false (flags == 1))

/-- A DATA message (R110): that of a session which an accepted CLOSE is ending is discarded like DATA of no session (R109, R113). -/
def dataMessage (h : LsHead) (payload : Bytes) (s : State) : State :=
  lsMessage s h true 25 true (fun s =>
    if !acceptsWrites s.toBlocks then s
    else if inSession s.toBlocks h && s.host.session.closing.isNone then takeData s h payload else noteMalformed s)

/-- A CLOSE message (R113). -/
def closeMessage (h : LsHead) (s : State) : State :=
  lsMessage s h true 24 (h.sequence == 0 && h.offset == 0) (fun s =>
    if inSession s.toBlocks h then keepControl s h true false else noteMalformed s)

/-- OPEN (R109). -/
def execLsOpen (h : LsHead) (flags : Nat) (s : State) : Host.Outcome State Fault Refusal := .next (openMessage h flags (countReceived s h.port))

/-- DATA (R110). -/
def execLsData (h : LsHead) (payload : Bytes) (s : State) : Host.Outcome State Fault Refusal := .next (dataMessage h payload (countReceived s h.port))

/-- CLOSE (R113). -/
def execLsClose (h : LsHead) (s : State) : Host.Outcome State Fault Refusal := .next (closeMessage h (countReceived s h.port))

/-- CREDIT_PERIODIC (R111). -/
def execCreditPeriodic (s : State) : Host.Outcome State Fault Refusal :=
  .next (if s.host.session.id != 0 && decide (s.host.session.lastCredit + 1000 ≤ s.now) then sendCredit s else s)

end Sys2Proof.Machine
end

