-- ==== Sys2Proof/Machine/Net.lean ====
section
/-! DEFINITION. Frames on the host ports, addresses, leases and link changes (04_host_link R88–R96). -/

namespace Sys2Proof.Machine

/-- Whether VLAN tagging lets a frame pass (R89). -/
def vlanPasses (s : Blocks) (f : EthFrame) : Bool :=
  if s.objB (0x1100 + f.port) 0x03 then
    match f.vlan with
    | some v => v == s.objN (0x1100 + f.port) 0x04
    | none => f.kind == .gptp
  else f.vlan.getD 0 == 0

/-- Whether Table 4.1 supports a frame on its port. -/
def frameSupported (s : Blocks) (f : EthFrame) : Bool :=
  decide (64 ≤ f.bytes) && decide (f.bytes ≤ 1522) &&
    (match f.kind with
      | .pause => false
      | .other => false
      | .udp4 dst ok fragment => ok && !fragment && (dst == 47410 || dst == 47411) && familyInUse s f.port false
      | .udp6 dst ok fragment extension =>
        ok && !fragment && !extension && (dst == 47410 || dst == 47411) && familyInUse s f.port true
      | _ => true)

/-- The header of a GDP request in a payload (Table 4.3). -/
def gdpHeadOf (s : Blocks) (f : EthFrame) : GdpHead :=
  let b := f.payload
  { port := f.port, src := f.src, udpLen := b.length, version := fieldU b 0 1, length := fieldU b 2 2, reqId := fieldU b 4 4
    status := fieldU b 8 4, position := fieldU b 12 2, reserved := fieldU b 14 2, clk := s.time.clock }

/-- The entries of a READ body (Table 4.4). -/
def readItems (n : Nat) (b : Bytes) : List ReadItem :=
  (List.range n).map (fun k => { index := fieldU b (4 * k) 2, sub := fieldU b (4 * k + 2) 1, reserved := fieldU b (4 * k + 3) 1 })

/-- The entries of a WRITE body (Table 4.4); the padding counts as reserved. None where the body ends inside an entry. -/
def writeItems : Nat → Bytes → Option (List WriteItem)
  | 0, _ => some []
  | n + 1, b =>
    let len := fieldU b 4 2
    let all := 8 + (len + 3) / 4 * 4
    if b.length < 8 || b.length < all then none
    else
      match writeItems n (b.drop all) with
      | none => none
      | some l => some ({
          index := fieldU b 0 2, sub := fieldU b 2 1
          reserved := fieldU b 3 1 + fieldU b 6 2 + leNat (slice b (8 + len) (all - 8 - len)), data := slice b 8 len } :: l)

/-- The request that a payload on UDP port 47410 holds (Tables 4.2–4.4). -/
def gdpRequestOf (s : Blocks) (f : EthFrame) : GdpRequest :=
  let head := gdpHeadOf s f
  let b := f.payload
  let z := fun off len => fieldU b off len == 0
  let body := b.drop 20
  let make := fun type min zero (x : GdpBody) => ({ head, type, known := true, min, reservedZero := zero, body := x } : GdpRequest)
  match fieldU b 1 1 with
  | 1 =>
    let n := fieldU b 16 1
    let l := readItems n body
    make 1 (20 + 4 * n) (z 17 3 && l.all (fun x => x.reserved == 0)) (.read l)
  | 2 =>
    match writeItems (fieldU b 16 1) body with
    | none => make 2 1453 true .other
    | some l => make 2 20 (z 17 3 && l.all (fun x => x.reserved == 0)) (.write l)
  | 3 => make 3 20 (z 19 1) (.readOpen (fieldU b 16 2) (fieldU b 18 1))
  | 4 => make 4 24 (z 18 2) (.segments (fieldU b 16 1) (fieldU b 17 1) (fieldU b 20 4))
  | 5 => make 5 28 (z 19 1) (.writeOpen (fieldU b 16 2) (fieldU b 18 1) (fieldU b 20 4) (fieldU b 24 4))
  | 6 => make 6 24 (z 17 3) (.segment (fieldU b 16 1) (fieldU b 20 4) (b.drop 24))
  | 7 => make 7 20 (z 17 3) (.close (fieldU b 16 1))
  | 8 => make 8 24 true (.subscribe (fieldU b 16 2) (fieldU b 18 1) (fieldU b 19 1) (fieldU b 20 4))
  | 9 => make 9 20 (z 17 3) (.unsubscribe (fieldU b 16 1))
  | t => { head, type := t, known := false, min := 16, reservedZero := true, body := .other }

/-- The header of a Layer Stream message in a payload (Table 4.5). -/
def lsHeadOf (f : EthFrame) : LsHead :=
  let b := f.payload
  { port := f.port, src := f.src, udpLen := b.length, version := fieldU b 0 1, length := fieldU b 2 2, session := fieldU b 4 4
    sequence := fieldU b 8 4, status := fieldU b 12 4, offset := fieldU b 16 8 }

/-- A payload on UDP port 47411 (Tables 4.2, 4.5, 4.6). -/
def lsPayload (s : State) (f : EthFrame) : State :=
  let b := f.payload
  let h := lsHeadOf f
  match fieldU b 1 1 with
  | 1 => openMessage h (fieldU b 24 1 + 256 * fieldU b 25 3) s
  | 2 => dataMessage h (b.drop 24) s
  | 3 => closeMessage h s
  | _ => lsMessage s h false 24 true (fun s => s)

/-- An ARP packet: the sender of a reply, and of a request for the port's address, enters the cache; the request is answered (R88).
PRESUMED: assumption 15. -/
def arpPacket (s : State) (p : Fin 2) (request : Bool) (target sender mac : Nat) : State :=
  let own := ipv4InUse s.toBlocks p
  if !served s.toBlocks || !portReady s.toBlocks p || own == 0 then s
  else if !request then learn s p sender mac
  else if target == own then learn (sendFrame s p (.arpReply sender mac own)) p sender mac
  else s

/-- Whether an IPv6 address is one of port p (R91). -/
def ownV6 (s : Blocks) (p a : Nat) : Bool :=
  let mode := s.objN (0x1100 + p) 0x0A
  (mode != 0 && a == linkLocal p) || (mode == 2 && a != 0 && a == beNat (s.objT (0x1100 + p) 0x0B))

/-- A Neighbor Solicitation answered (R88). PRESUMED: assumption 15. -/
def solicited (s : State) (p : Fin 2) (target : Nat) : State :=
  if served s.toBlocks && portReady s.toBlocks p && ownV6 s.toBlocks p target then
    sendFrame s p (.neighbourAdvertisement target)
  else s

/-- The message type, option 53, among the options of a DHCPv4 message (RFC 2131; PRESUMED, assumption 33). -/
def dhcpType : Nat → Bytes → Option Nat
  | 0, _ => none
  | _, [] => none
  | n + 1, x :: l =>
    if x = 0 then dhcpType n l
    else if x = 255 then none
    else if x = 53 then some (fieldU l 1 1)
    else dhcpType n (l.drop (1 + fieldU l 0 1))

/-- A DHCPOFFER taken up by the client that looks for a lease (RFC 2131; PRESUMED, assumption 33). -/
def takeOffer (s : State) (p : Nat) : State :=
  if (getI s.host.ports p).dhcp == .selecting then sendFrame s p (.dhcp .request) else s

/-- The content of an ARP frame or of a neighbour message, in their standard layouts (PRESUMED, assumption 15). -/
def resolvePacket (s : State) (f : EthFrame) : State :=
  let b := f.payload
  match f.kind with
  | .arp => arpPacket s f.port (beNat (slice b 6 2) == 1) (beNat (slice b 24 4)) (beNat (slice b 14 4)) (beNat (slice b 8 6))
  | .neighbour =>
    if fieldU b 0 1 == 135 then solicited s f.port (beNat (slice b 8 16))
    else if fieldU b 0 1 == 136 && fieldU b 24 1 == 2 then learn s f.port (beNat (slice b 8 16)) (beNat (slice b 26 6))
    else s
  | .dhcp => if dhcpType 64 (b.drop 240) == some 2 then takeOffer s f.port else s
  | _ => s

/-- A network service frame of `len` bytes placed in the receive buffer and in Q60, or waiting in the buffer with a stall counted where Q60
is full, and handled (R29, R94). -/
def intoService (s : State) (p len : Nat) (run : State → State) : State :=
  let x := placeOther s p len
  if !x.2 then x.1
  else if roomIn x.1.toBlocks 60 len then run (x.1.fillQueue 60 len)
  else run { x.1 with queues := updI x.1.queues 60 (fun y => { y with stalls := inc32 y.stalls }) }

/-- A network service frame that arrives as a command of its own: counted, and handled (Table 4.9 sub 0x14). PRESUMED: assumption 15. -/
def serviceFrame (s : State) (p len : Nat) (run : State → State) : State :=
  if !served s.toBlocks || !portReady s.toBlocks p then s else intoService (countReceived s p) p len run

/-- A frame received on a host port (R88, R89, R96). -/
def frameArrives (s : State) (f : EthFrame) : State :=
  if !served s.toBlocks || !portReady s.toBlocks f.port then s
  else
    let s := countReceived s f.port
    if !vlanPasses s.toBlocks f || !frameSupported s.toBlocks f then noteDiscard s f.port
    else
      let message := fun dst => if dst == 47410 then gdpRequest s (gdpRequestOf s.toBlocks f) else lsPayload s f
      match f.kind with
      | .udp4 dst _ _ => message dst
      | .udp6 dst _ _ _ => message dst
      | _ => intoService s f.port f.payload.length (fun s => resolvePacket s f)

/-- An Echo Request (R88): answered up to 100 times in a second on a port. -/
def echoed (s : State) (p : Fin 2) (v6 : Bool) (dst len : Nat) : State :=
  if !served s.toBlocks || !portReady s.toBlocks p then s
  else
    let mine := if v6 then ownV6 s.toBlocks p dst else dst != 0 && dst == ipv4InUse s.toBlocks p
    let e := getI s.host.ports p
    let fresh := decide (e.echoSecond + 100000 ≤ s.now) || e.echoCount == 0
    let count := if fresh then 0 else e.echoCount
    if !mine || 1472 < len || 100 ≤ count then noteDiscard s p
    else
      let s := s.updEth p (fun e => { e with echoSecond := if fresh then s.now else e.echoSecond, echoCount := count + 1 })
      sendFrame s p (.echoReply v6 len)

/-- A lease bound on port p (R92): times in seconds. PRESUMED: assumption 33. -/
def leaseBound (s : State) (p : Fin 2) (addr maskLen gateway t1 t2 lease : Nat) : State :=
  let e := getI s.host.ports p
  if !served s.toBlocks || !portReady s.toBlocks p || e.dhcp == .off then s
  else
    let s := s.updEth p (fun e => { e with
      dhcp := .bound, ipv4 := addr, prefixLen := maskLen, gateway, t1 := s.now + 100000 * t1, t2 := s.now + 100000 * t2
      leaseEnd := s.now + 100000 * lease })
    if e.ipv4 == addr then s else announceAddress s p

/-- The lease of port p at T1 (R92). -/
def leaseRenew (s : State) (p : Fin 2) : State :=
  let e := getI s.host.ports p
  if e.dhcp == .bound && decide (e.t1 ≤ s.now) then
    sendFrame (s.updEth p (fun e => { e with dhcp := .renewing })) p (.dhcp .renew)
  else s

/-- The lease of port p at T2 (R92). -/
def leaseRebind (s : State) (p : Fin 2) : State :=
  let e := getI s.host.ports p
  if (e.dhcp == .bound || e.dhcp == .renewing) && decide (e.t2 ≤ s.now) then
    sendFrame (s.updEth p (fun e => { e with dhcp := .rebinding })) p (.dhcp .rebind)
  else s

/-- The lease of port p expires (R92, R93): the address leaves use, with a WARN event. PRESUMED: assumption 33. -/
def leaseExpire (s : State) (p : Fin 2) : State :=
  let e := getI s.host.ports p
  if (e.dhcp == .bound || e.dhcp == .renewing || e.dhcp == .rebinding) && decide (e.leaseEnd ≤ s.now) then
    let s := (s.updEth p (fun e => { e with dhcp := .expired, ipv4 := 0 })).post
      (mkEvent (.block (7 + p)) (openCode 10) .warn .device 0 (leBytes 1 p))
    if familyInUse s.toBlocks p true then s else s.post (mkEvent (.block (7 + p)) (openCode 11) .warn .device 0 (leBytes 1 p))
  else s

/-- The messages that have waited 100,000 ticks for the link address of a next hop are not sent. DESIGN CHOICE: assumption 32. -/
def egressTimeout (s : State) : State :=
  s.updHost (fun h => { h with egress := h.egress.filter (fun e => e.hop.isNone || decide (s.now < e.since + 100000)) })

/-- The deadlines of the host ports at a tick boundary: leases, cached addresses, messages that wait for a link address, and the receive
buffers drained but for the requests that their queues do not take. -/
def portDeadlines (s : State) : State :=
  let one := fun (s : State) (p : Fin 2) =>
    leaseExpire (leaseRebind (leaseRenew (s.updEth p (fun e => { e with
      otherFill := (requestBytes 0 (getI s.host.requests p)).2, arp := e.arp.filter (fun x => decide (s.now < x.2.2)) })) p) p) p
  egressTimeout (one (one s 0) 1)

/-- The messages of destination d whose next hop has not been resolved for 100,000 ticks are not sent (R115).
DESIGN CHOICE: assumption 32. -/
def hopTimeout (s : State) (d : Nat) : State :=
  let x := getI s.host.dests d
  match x.waiting with
  | some t =>
    if t + 100000 ≤ s.now then
      s.updDest d (fun x => { x with dropped := satU 16 (x.dropped + x.held.length), held := [], waiting := none })
    else s
  | none => s

/-- ETHERNET_FRAME_RECEIVED (R88). -/
def execEthernetFrameReceived (f : EthFrame) (s : State) : Host.Outcome State Fault Refusal := .next (frameArrives s f)

/-- ARP_REQUEST (R88). -/
def execArpRequest (port : Fin 2) (target sender : Nat) (senderMac : Nat) (s : State) : Host.Outcome State Fault Refusal :=
  .next (serviceFrame s port 28 (fun s => arpPacket s port true target sender senderMac))

/-- ARP_CACHE_EXPIRY (R88): an entry held 60 s leaves the cache. -/
def execArpCacheExpiry (port : Fin 2) (addr : Nat) (s : State) : Host.Outcome State Fault Refusal :=
  .next (s.updEth port (fun e => { e with arp := e.arp.filter (fun x => x.1 != addr || decide (s.now < x.2.2)) }))

/-- NEIGHBOR_SOLICITATION (R88). -/
def execNeighborSolicitation (port : Fin 2) (target : Nat) (s : State) : Host.Outcome State Fault Refusal :=
  .next (serviceFrame s port 32 (fun s => solicited s port target))

/-- ECHO_REQUEST (R88). -/
def execEchoRequest (port : Fin 2) (v6 : Bool) (dst dataLen : Nat) (s : State) : Host.Outcome State Fault Refusal :=
  .next (serviceFrame s port (8 + dataLen) (fun s => echoed s port v6 dst dataLen))

/-- DHCP_LEASE_BOUND (R92). PRESUMED: assumption 33. -/
def execDhcpLeaseBound (port : Fin 2) (addr maskLen gateway t1 t2 lease : Nat) (s : State) : Host.Outcome State Fault Refusal :=
  .next (leaseBound s port addr maskLen gateway t1 t2 lease)

/-- DHCP_RENEW (R92). -/
def execDhcpRenew (port : Fin 2) (s : State) : Host.Outcome State Fault Refusal := .next (leaseRenew s port)

/-- DHCP_REBIND (R92). -/
def execDhcpRebind (port : Fin 2) (s : State) : Host.Outcome State Fault Refusal := .next (leaseRebind s port)

/-- DHCP_LEASE_EXPIRY (R92). -/
def execDhcpLeaseExpiry (port : Fin 2) (s : State) : Host.Outcome State Fault Refusal := .next (leaseExpire s port)

/-- HOST_LINK_DOWN (R93): the port's Announce goes with its link, and with it the slave port where it was selected (R50, R52). -/
def execHostLinkDown (port : Fin 2) (s : State) : Host.Outcome State Fault Refusal :=
  .next (if (getI s.host.ports port).linkUp then
      (setAnnounce (s.updEth port (fun e => { e with linkUp := false })) port none).post
        (mkEvent (.block (7 + port)) (openCode 11) .warn .device 0 (leBytes 1 port))
    else s)

/-- HOST_LINK_UP (R88, Table 4.9 sub 0x10): an address in use is announced, and a DHCPv4 client without a lease looks for one. -/
def execHostLinkUp (port : Fin 2) (s : State) : Host.Outcome State Fault Refusal :=
  .next (if (getI s.host.ports port).linkUp || !served s.toBlocks then s
    else seekLease (announceAddress (s.updEth port (fun e => { e with linkUp := true })) port) port)

/-- NEXT_HOP_TIMEOUT (R115). -/
def execNextHopTimeout (dest : Fin 4) (s : State) : Host.Outcome State Fault Refusal := .next (hopTimeout s dest)

end Sys2Proof.Machine
end

