-- ==== Sys2Proof/Machine/Nodes.lean ====
section
/-! DEFINITION. The field nodes at the far ends of the Zhomon Link (12_zhomon_link R303, R309, R310, R316–R326). -/

namespace Sys2Proof.Machine

/-- The node at port p changed by `f`. -/
def State.updNode (s : State) (p : Nat) (f : FieldNode → FieldNode) : State :=
  { s with link := { s.link with nodes := updI s.link.nodes p f } }

/-- Link `l` of a node changed by `f`. -/
def FieldNode.updLink (x : FieldNode) (l : Nat) (f : NodeLink → NodeLink) : FieldNode := { x with links := updI x.links l f }

/-- Whether sequence a is later than sequence b (R304). -/
def laterSeq (a b : Nat) : Bool :=
  let d := (2 ^ 32 + a - b % 2 ^ 32) % 2 ^ 32
  decide (1 ≤ d) && decide (d < 2 ^ 31)

/-- Whether tick a is later than tick b, modulo 65,536 (R322). -/
def laterTick (a b : Nat) : Bool :=
  let d := (a + 65536 - b % 65536) % 65536
  decide (1 ≤ d) && decide (d < 32768)

/-- Whether a link may be the authority (R324). -/
def eligible (l : NodeLink) : Bool := l.live && decide (0 < l.claim / 2)

/-- The authority link (R324). -/
def authorityOf (x : FieldNode) : Option (Fin 2) :=
  let a := getI x.links 0
  let b := getI x.links 1
  if eligible a && eligible b then (if b.claim < a.claim then some 0 else some 1)
  else if eligible a then some 0
  else if eligible b then some 1
  else none

/-- No emission. -/
def darkCommand : LaserCommand := { start := 0, events := [] }

/-- One step of the ramp to 0 over the fault ramp (Table 12.13). DEDUCED: assumption 54. -/
def rampNode (x : FieldNode) : FieldNode :=
  match x.ramp with
  | none => x
  | some k =>
    let k := k + 1
    let n := x.faultRamp
    { x with ramp := some k
             currents := x.rampFrom.map (fun c => if n ≤ k then 0 else rndDiv (c * ((n - k : Nat) : Int)) n) }

/-- Authority lost: ACTIVE to LINKED (Table 12.13). -/
def loseAuthority (x : FieldNode) : FieldNode :=
  { x with power := darkCommand, cmds := [], missRun := 0
           rampFrom := if x.ramp.isNone then x.currents else x.rampFrom
           ramp := some (x.ramp.getD 0) }

/-- The authority evaluated again (R324). -/
def evalAuthority (x : FieldNode) : FieldNode :=
  let a := authorityOf x
  if a.isNone && x.authority.isSome then loseAuthority { x with authority := none } else { x with authority := a }

/-- Whether a frame body is a tick frame valid for the kind of node at port p (R303). -/
def tickBody (p : Nat) (b : FrameBody) : Bool :=
  match b with
  | .sensorRequest _ _ => decide (32 ≤ p)
  | .currentCommand _ _ _ => decide (32 ≤ p)
  | .statusRequest _ => decide (p < 32)
  | .laserCommand _ _ _ => decide (p < 32)
  | _ => false

/-- Whether a frame body is a service frame (R301). -/
def serviceBody (b : FrameBody) : Bool :=
  match b with
  | .enumerate _ _ => true
  | .configWrite _ _ => true
  | .configRead _ => true
  | .echo => true
  | _ => false

/-- Whether a frame body is ENUMERATE. -/
def enumBody (b : FrameBody) : Bool :=
  match b with
  | .enumerate _ _ => true
  | _ => false

/-- The conditions of R303 on a frame that came on link `l`. -/
def nodeFrameOk (x : FieldNode) (l : Nat) (f : DeviceFrame) : Bool :=
  let k := getI x.links l
  k.trained && !f.codeError && f.crcOk && f.reservedZero && (f.address == k.address || (enumBody f.body && f.address == 0xFF))
    && (!x.twoLinks || f.unit % 2 == l)

/-- A valid frame on link `l`: its claim, the link live while its Run is 1, and the authority evaluated again (R324). -/
def frameSeen (x : FieldNode) (l : Nat) (f : DeviceFrame) : FieldNode :=
  evalAuthority (x.updLink l (fun k => { k with claim := f.claim, live := k.run }))

/-- A node frame on link `l` (Table 12.2): its Unit and Claim fields carry the authority in force (R326); the unit of a link is bit 0 of its
claim (R323, R324). -/
def nodeBytes (x : FieldNode) (l type sequence : Nat) (payload : Bytes) : Bytes :=
  let (unit, claim) := match x.authority with
    | some a => let c := (getI x.links a).claim; (c % 2 + 2, c)
    | none => (0, 0)
  let body := leBytes 1 (getI x.links l).address ++ leBytes 1 type
    ++ leBytes 1 (unit + 4 * b2n (getI x.links 0).live + 8 * b2n (getI x.links 1).live) ++ leBytes 4 sequence ++ leBytes 1 claim
    ++ leBytes 3 0 ++ padTo 48 payload
  0xFB :: body ++ leBytes 4 (crc32c body)

/-- The answer to an accepted request, on every live link with identical payloads (R326). -/
def answerRequest (s : State) (p type sequence : Nat) (payload : Bytes) : State :=
  let x := getI s.link.nodes p
  forI 2 s (fun s l => if (getI x.links l).live then s.send (.nodeFrame p l (nodeBytes x l type sequence payload)) else s)

/-- The status bits that the node itself sets (Tables 12.6, 12.8): a laser node's [5] and [6], a scanner node's [4]. -/
def nodeStatus (p : Nat) (x : FieldNode) : Nat :=
  if p < 32 then 32 * b2n x.commandMissed + 64 * b2n x.gateSeen else 16 * b2n (x.ramp.isSome || x.missRun != 0)

/-- The payload of a SENSOR RESPONSE (Table 12.6). What the sensors and the amplifier give is free: which words of the mask are present, the
words, the status bits that are not the node's, the currents and the temperature. A word is relayed unchanged with its bits [63:56] first, and
an absent one has bytes 0 (R219, R312). DESIGN CHOICE: assumption 2. -/
def sensorPayload (s : State) (p tick mask : Nat) : Bytes × State :=
  let x := getI s.link.nodes p
  let (v, s) := s.frees 9
  let f := fun (k : Nat) => v.getD k 0
  let got := f 0 % 8 &&& mask
  let word := fun (q : Nat) => if bit got q then beBytes 8 (f (2 + q) % 2 ^ 64) else List.replicate 8 0
  (leBytes 2 tick ++ leBytes 1 got ++ leBytes 1 (f 1 % 16 + nodeStatus p x) ++ word 0 ++ word 1 ++ word 2
    ++ leBytes 2 (f 5) ++ leBytes 2 (f 6) ++ leBytes 2 (f 7) ++ leBytes 2 (f 8) ++ leBytes 2 x.missed, s)

/-- The payload of a LASER STATUS (Table 12.8). What the laser measures is free. DESIGN CHOICE: assumption 2. -/
def laserPayload (s : State) (p tick : Nat) : Bytes × State :=
  let x := getI s.link.nodes p
  let (v, s) := s.frees 4
  let f := fun (k : Nat) => v.getD k 0
  (leBytes 2 tick ++ leBytes 1 (f 0 % 32 + nodeStatus p x) ++ leBytes 1 0 ++ leBytes 2 (f 1) ++ leBytes 2 (f 2) ++ leBytes 2 (f 3)
    ++ leBytes 2 x.missed, s)

/-- The payload of an ENUMERATE response (Table 12.10): kind, version and links are those of the node, what its maker gives it is free, with at
least 4 events per tick. DESIGN CHOICE: assumption 2. -/
def enumPayload (s : State) (p status : Nat) : Bytes × State :=
  let (v, s) := s.frees 6
  let f := fun (k : Nat) => v.getD k 0
  (leBytes 1 (if p < 32 then 1 else 2) ++ leBytes 1 1 ++ leBytes 1 (1 + b2n (getI s.link.nodes p).twoLinks) ++ leBytes 1 status
    ++ leBytes 2 (f 0) ++ leBytes 2 (f 1) ++ leBytes 4 (f 2) ++ leBytes 8 (f 3) ++ leBytes 4 (f 4) ++ leBytes 1 (4 + f 5 % 252), s)

/-- Whether a GATE discards a laser command for tick t (R322). -/
def gated (x : FieldNode) (t : Nat) : Bool :=
  match x.gateUpTo with
  | some k => !laterTick t k
  | none => false

/-- A frame accepted (R325 step 2): its sequence, the held copies it supersedes, and its effect. -/
def acceptFrame (s : State) (p : Nat) (f : DeviceFrame) : State :=
  let s := s.updNode p (fun x => { x with
    accepted := some f.sequence
    held := x.held.map (fun h => match h with
      | some c => if laterSeq c.frame.sequence f.sequence then h else none
      | none => none) })
  match f.body with
  | .sensorRequest t m =>
    let (b, s) := sensorPayload s p t m
    answerRequest s p 0x81 f.sequence b
  | .statusRequest t =>
    let (b, s) := laserPayload s p t
    (answerRequest s p 0x91 f.sequence b).updNode p (fun x => { x with gateSeen := false, commandMissed := false })
  | .laserCommand t st ev => s.updNode p (fun x =>
      if gated x t then x else { x with cmds := x.cmds ++ [.laser t { start := st, events := ev }] })
  | .currentCommand t c m => s.updNode p (fun x => { x with cmds := x.cmds ++ [.currents t c m] })
  | _ => s

/-- Whether a sequence is still later than the last accepted one. -/
def fresher (x : FieldNode) (q : Nat) : Bool :=
  match x.accepted with
  | some a => laterSeq q a
  | none => true

/-- The four steps of R325 for a valid tick frame on link `l`. -/
def takeFrame (s : State) (p : Nat) (l : Fin 2) (f : DeviceFrame) : State :=
  let x := getI s.link.nodes p
  if !fresher x f.sequence then s.updNode p (fun x => { x with duplicates := x.duplicates + 1 })
  else if x.authority == some l then acceptFrame s p f
  else if eligible (getI x.links l) then
    s.updNode p (fun x => { x with held := updI x.held (f.sequence % 4) (fun _ => some { link := l.val, frame := f }) })
  else s

/-- The target tick of a command. -/
def NodeCommand.target (c : NodeCommand) : Nat :=
  match c with
  | .laser t _ => t
  | .currents t _ _ => t

/-- The command for the tick of the reference, applied (R310): commands of that tick and of earlier ones leave. -/
def applyNode (x : FieldNode) : FieldNode :=
  match x.tickCount with
  | none => x
  | some k =>
    match (x.cmds.filter (fun c => c.target == k)).getLast? with
    | none => x
    | some c =>
      let x := { x with cmds := x.cmds.filter (fun c => laterTick c.target k), missRun := 0, ramp := none, commandMissed := false }
      match c with
      | .laser _ v => { x with power := v }
      | .currents _ v m => { x with currents := Vector.ofFn (fun q => if bit x.axisMask q.val && bit m q.val then v[q] else 0) }

/-- The target tick of the reference has no command (Table 12.13). DEDUCED: assumption 54. -/
def missNode (p : Nat) (x : FieldNode) : FieldNode :=
  let x := { x with missed := (x.missed + 1) % 65536 }
  if p < 32 then { x with power := darkCommand, commandMissed := true }
  else
    let n := x.missRun + 1
    let x := { x with missRun := n }
    if n < 3 then x
    else rampNode (if x.ramp.isNone then { x with ramp := some 0, rampFrom := x.currents } else x)

/-- Whether some command stands for the tick of the reference. -/
def commandDue (x : FieldNode) : Bool :=
  match x.tickCount with
  | some k => x.cmds.any (fun c => c.target == k)
  | none => false

/-- The discard of a GATE ends with the last tick it concerns (R322). -/
def endGate (x : FieldNode) : FieldNode :=
  { x with gateUpTo := x.gateUpTo.filter (fun k => match x.tickCount with
    | some t => !laterTick t k
    | none => true) }

/-- The reference moved on by the node's own clock (R309); a node that has lost its authority goes on with its ramp (Table
12.13). -/
def ownTick (x : FieldNode) : FieldNode :=
  let x := endGate { x with reference := x.reference + 160000, tickCount := x.tickCount.map (fun k => (k + 1) % 65536) }
  if x.authority.isNone then rampNode x else x

/-- Whether a TICK on link `l` is valid (R309). -/
def nodeTickOk (x : FieldNode) (l count : Nat) (complementOk : Bool) : Bool :=
  let k := getI x.links l
  k.trained && complementOk && (match k.count with
    | some c => count == (c + 1) % 65536
    | none => true)

/-- A TICK on link `l` (R309, R324). DEDUCED: assumption 54. DEDUCED: assumption 80. -/
def nodeTick (x : FieldNode) (l : Fin 2) (count : Nat) (complementOk : Bool) (arrival : Nat) : FieldNode :=
  if nodeTickOk x l count complementOk then
    let x := x.updLink l (fun k => { k with count := some count, live := k.run })
    let x := evalAuthority x
    if x.authority == some l then
      endGate { x with reference := arrival - (getI x.links l).delay, tickCount := some count }
    else x
  else if x.authority == some l then ownTick x
  else x

/-- ENUMERATE (R316): the address taken and the status answered. -/
def nodeEnumerate (x : FieldNode) (l address : Nat) : FieldNode × Nat :=
  let other := getI x.links (1 - l)
  if other.trained && other.address != 0xFF && other.address != address then (x, 1)
  else (x.updLink l (fun k => { k with address }), 0)

/-- Whether the node at port p has a configuration item of its own (Table 12.11), with its size. -/
def nodeItem (p item : Nat) : Option Nat :=
  if item == 0x0001 then some 1
  else if item == 0x0002 then some 4
  else if item == 0x0003 && 32 ≤ p then some 2
  else if item == 0x0004 && 32 ≤ p then some 1
  else none

/-- CONFIG WRITE of an item of Table 12.11: the node and the status (Table 12.10). -/
def nodeConfigWrite (p : Nat) (x : FieldNode) (l item : Nat) (data : Bytes) : FieldNode × Nat :=
  match nodeItem p item with
  | none => (x, 1)
  | some n =>
    let v := leNat data
    if data.length != n then (x, 2)
    else if item == 0x0001 then
      if v ≤ 1 then (evalAuthority (x.updLink l (fun k => { k with run := v == 1, live := k.live && v == 1 })), 0) else (x, 2)
    else if item == 0x0002 then (x.updLink l (fun k => { k with delay := v }), 0)
    else if item == 0x0003 then (if 1 ≤ v && v ≤ 1000 then ({ x with faultRamp := v }, 0) else (x, 2))
    else if v < 8 then
      ({ x with axisMask := v, currents := Vector.ofFn (fun q => if bit v q.val then x.currents[q] else 0) }, 0)
    else (x, 2)

/-- The value of an item of Table 12.11. -/
def nodeConfigRead (p : Nat) (x : FieldNode) (l item : Nat) : Nat × Bytes :=
  let k := getI x.links l
  match nodeItem p item with
  | none => (1, [])
  | some n =>
    (0, leBytes n (if item == 0x0001 then b2n k.run else if item == 0x0002 then k.delay else if item == 0x0003 then x.faultRamp
      else x.axisMask))

/-- A service frame processed on its link and answered there (R316, Table 12.10). Items of the node maker get a free status and free data,
and a turnaround is free. DESIGN CHOICE: assumption 2. -/
def serveNode (s : State) (p : Nat) (l : Fin 2) (f : DeviceFrame) : State :=
  let x := getI s.link.nodes p
  let answer := fun (s : State) (type : Nat) (d : Bytes) => s.send (.nodeFrame p l.val (nodeBytes (getI s.link.nodes p) l type f.sequence d))
  match f.body with
  | .enumerate a _ =>
    let r := nodeEnumerate x l a
    let (b, s) := enumPayload (s.updNode p (fun _ => r.1)) p r.2
    answer s 0xA1 b
  | .configWrite item d =>
    if 0x8000 ≤ item then
      let (v, s) := s.free
      answer s 0xA2 (leBytes 2 item ++ leBytes 1 (v % 4))
    else
      let r := nodeConfigWrite p x l item d
      answer (s.updNode p (fun _ => r.1)) 0xA2 (leBytes 2 item ++ leBytes 1 r.2)
  | .configRead item =>
    if 0x8000 ≤ item then
      let (v, s) := s.frees 3
      let n := v.getD 1 0 % 33
      answer s 0xA3 (leBytes 2 item ++ leBytes 1 (v.getD 0 0 % 4) ++ leBytes 1 n ++ leBytes n (v.getD 2 0))
    else
      let r := nodeConfigRead p x l item
      answer s 0xA3 (leBytes 2 item ++ leBytes 1 r.1 ++ leBytes 1 r.2.length ++ r.2)
  | .echo =>
    let (v, s) := s.free
    answer s 0xA5 (leBytes 4 v)
  | _ => s

/-- GATE at a laser node (R322): power 0, and every LASER COMMAND for a tick up to the next one discarded, held copies too. -/
def gateNode (x : FieldNode) : FieldNode :=
  let x := { x with power := darkCommand, gateSeen := true, gateUpTo := some ((x.tickCount.getD 0 + 1) % 65536) }
  let stale := gated x
  { x with
    cmds := x.cmds.filter (fun c => match c with
      | .laser t _ => !stale t
      | _ => true)
    held := x.held.map (fun h => match h with
      | some c => (match c.frame.body with
        | .laserCommand t _ _ => if stale t then none else h
        | _ => h)
      | none => none) }

/-- NODE_TS1_RECEIVED (R319): 8 consecutive TS1, or, with `idle`, the IDLE that follows them. -/
def execNodeTs1Received (p : Fin 64) (link : Fin 2) (idle : Bool) (s : State) : Host.Outcome State Fault Refusal :=
  .next (s.updNode p (fun x =>
    if !idle then x.updLink link (fun k => { k with ts1 := 8 })
    else if (getI x.links link).ts1 == 8 then
      evalAuthority ({ x with twoLinks := x.twoLinks || link == 1 }.updLink link (fun k =>
        { k with trained := true, ts1 := 0, address := 0xFF, run := false, live := false, count := none }))
    else x))

/-- NODE_TICK_RECEIVED (R309). DEDUCED: assumption 54. -/
def execNodeTickReceived (p : Fin 64) (link : Fin 2) (count : Nat) (complementOk : Bool) (arrival : Nat) (s : State) :
    Host.Outcome State Fault Refusal :=
  .next (s.updNode p (fun x => nodeTick x link count complementOk arrival))

/-- NODE_TICK_MISSING (R309). -/
def execNodeTickMissing (p : Fin 64) (s : State) : Host.Outcome State Fault Refusal := .next (s.updNode p ownTick)

/-- NODE_FRAME_RECEIVED (R303, R325). -/
def execNodeFrameReceived (p : Fin 64) (link : Fin 2) (f : DeviceFrame) (s : State) : Host.Outcome State Fault Refusal :=
  .next (if nodeFrameOk (getI s.link.nodes p) link f && tickBody p f.body then
    takeFrame (s.updNode p (fun x => frameSeen x link f)) p link f else s)

/-- NODE_HOLD_DEADLINE (R325): the held copy of a slot. -/
def execNodeHoldDeadline (p : Fin 64) (slot : Fin 2) (s : State) : Host.Outcome State Fault Refusal :=
  let x := getI s.link.nodes p
  .next (match getI x.held slot with
    | some h =>
      let s := s.updNode p (fun x => { x with held := updI x.held slot (fun _ => none) })
      if fresher x h.frame.sequence then acceptFrame s p h.frame else s
    | none => s)

/-- NODE_SERVICE_FRAME (R316). -/
def execNodeServiceFrame (p : Fin 64) (link : Fin 2) (f : DeviceFrame) (s : State) : Host.Outcome State Fault Refusal :=
  .next (if nodeFrameOk (getI s.link.nodes p) link f && serviceBody f.body then
    serveNode (s.updNode p (fun x => frameSeen x link f)) p link f else s)

/-- NODE_APPLY_COMMAND (R310). -/
def execNodeApplyCommand (p : Fin 64) (s : State) : Host.Outcome State Fault Refusal :=
  .next (if (getI s.link.nodes p).authority.isSome then s.updNode p applyNode else s)

/-- NODE_COMMAND_MISSED (R321). DEDUCED: assumption 54. -/
def execNodeCommandMissed (p : Fin 64) (s : State) : Host.Outcome State Fault Refusal :=
  let x := getI s.link.nodes p
  .next (if x.authority.isSome && !commandDue x then s.updNode p (missNode p) else s)

/-- NODE_AUTHORITY_LOST (R321). -/
def execNodeAuthorityLost (p : Fin 64) (s : State) : Host.Outcome State Fault Refusal :=
  .next (if (getI s.link.nodes p).authority.isNone then s.updNode p loseAuthority else s)

/-- NODE_GATE_RECEIVED (R322): a scanner node ignores it. -/
def execNodeGateReceived (p : Fin 64) (_link : Fin 2) (s : State) : Host.Outcome State Fault Refusal :=
  .next (if p.val < 32 then s.updNode p gateNode else s)

/-- NODE_LINK_UNTRAINED (R319). -/
def execNodeLinkUntrained (p : Fin 64) (link : Fin 2) (s : State) : Host.Outcome State Fault Refusal :=
  .next (s.updNode p (fun x => evalAuthority (x.updLink link (fun k =>
    { k with trained := false, run := false, live := false, ts1 := 0, count := none }))))

/-- NODE_LINK_NOT_LIVE (R324). -/
def execNodeLinkNotLive (p : Fin 64) (link : Fin 2) (s : State) : Host.Outcome State Fault Refusal :=
  .next (s.updNode p (fun x => evalAuthority (x.updLink link (fun k => { k with live := false }))))

end Sys2Proof.Machine
end

