-- ==== Sys2Proof/Machine/Pair.lean ====
section
/-! DEFINITION. The pair: states, authority, hand-over and heartbeat loss (13_dual_unit_operation R334–R337, R346–R358). -/

namespace Sys2Proof.Machine

/-- The pair changed by `f`. -/
def State.updPair (s : State) (f : PairState → PairState) : State := { s with pair := f s.pair }

/-- The rest of the pair's state changed by `f`. -/
def State.updWork (s : State) (f : PairWork → PairWork) : State := { s with work := f s.work }

/-- An event of the pair (Table 13.10). -/
def pairEvent (code : Nat) (sev : Severity) (detail : Bytes) : Event := mkEvent (.block 9) code sev .peerLink 0 detail

/-- Whether the unit is in lockstep: ACTIVE or STANDBY (R341 step 6). -/
def inLockstep (s : Blocks) : Bool := s.pair.st == .active || s.pair.st == .standby

/-- Whether claims alone decide (0x2400 sub 0x01). DEDUCED: assumption 66. -/
def claimMode (s : Blocks) : Bool := s.objN 0x2400 0x01 == 1

/-- Whether this unit is the home unit (R334). -/
def isHome (s : Blocks) : Bool := s.objN 0x2400 0x02 == s.pair.unitId

/-- Whether this unit is HEALTHY (R359). -/
def isHealthy (s : Blocks) : Bool := (healthWord s &&& s.objN 0x2400 0x08) == 0

/-- Flag k of the peer's last valid wisp (Table 13.5). -/
def peerFlag (s : Blocks) (k : Nat) : Bool := (s.pair.wisp.map (fun w => bit w.flags k)).getD false

/-- The pair state in the peer's last valid wisp; 0xFF when none. -/
def peerState (s : Blocks) : Nat := (s.pair.wisp.map (fun w => w.pairState)).getD 0xFF

/-- The layer number of the last package in the store; 0xFFFFFFFF when none (Table 13.5). -/
def lastHeld (s : Blocks) : Nat := (s.job.store.getLast?.map (fun p => p.head.layer)).getD 0xFFFFFFFF

/-- The state that the coming boundary brings (R335); what was decided first in a tick stands. DESIGN CHOICE: assumption 57. -/
def toNext (s : State) (st : PairSt) (cause : Nat) : State :=
  s.updPair (fun p => { p with next := if p.next.isSome then p.next else some (st, cause) })

/-- Whether the unit that becomes active in SYNC is this one (R341 step 2): the unit in ALONE, otherwise the home unit. -/
def chosenActive (s : Blocks) : Bool :=
  if s.pair.st == .alone && peerState s != 5 then true
  else if s.pair.st != .alone && peerState s == 5 then false
  else isHome s

/-- The release of PEER_AUTH_N outside ACTIVE and ALONE; a line acquired in SYNC is kept (R341 step 2, R351). DEDUCED: assumption 66. -/
def lineAfter (old new : PairSt) (p : PairState) : PairState :=
  if new == .active || new == .alone || (old == .sync && new == .sync) then p
  else { p with drives := false, lineLow := p.lineLow && !p.drives }

/-- A value as a peer message carries it. -/
def copyOf (index sub : Nat) (v : Val) : ObjVal :=
  { index, sub, data := encodeVal (((rowFor index sub).map (fun r => r.type)).getD (.uint 1)) v }

/-- Whether an object has a value that STATE copies: writable, and neither a command nor a mark. -/
def isCopied (index sub : Nat) : Bool :=
  ((rowFor index sub).map (fun r => r.access == .rw || r.access == .rws)).getD false && !isMark index sub

/-- The objects whose values STATE copies, in increasing order (R341 step 4). -/
def copiedKeys : List (Nat × Nat) :=
  ((List.range 0x6040).filter indexExists).flatMap (fun i => ((List.range 256).filter (isCopied i)).map (fun k => (i, k)))

/-- What the device sends as STATE when it is the one that will be active (R341 step 4): every writable object's value in force, the pending
values, the replay cache, the session and the packages it holds. DESIGN CHOICE: assumption 69. -/
def sendState (s : State) : State :=
  let vals := copiedKeys.map (fun o => copyOf o.1 o.2 (objVal s.dict o.1 o.2))
  let pend := s.dict.pending.map (fun w => copyOf w.index w.sub w.val)
  let x := s.host.session
  let session : Option SessionCopy := if x.id = 0 then none else
    some { id := x.id, port := x.port, src := x.src, sequence := x.sequence, offset := x.offset }
  s.send (.stateCopy vals pend s.host.replay session (s.job.store.map (fun p => p.bytes)))

/-- Entry to SYNC (R341): what earlier exchanges have left is dropped, but for checks that DISCOVER has seen pass. DEDUCED: assumption 68. -/
def enterSync (s : State) (old : PairSt) (chosen : Bool) : State :=
  let s := s.updPair (fun p => { p with
    chosen, stepped := false, hellos := if old == .discover then p.hellos else 0
    roundTrips := if old == .discover then p.roundTrips else 0, passed := old == .discover && p.passed
    acquire := chosen && !claimMode s.toBlocks })
  let s := s.updWork (fun w => { w with imageValues := [], imagePending := [], imagePackages := [], stateSeen := false, stream := [] })
  if chosen then sendState s else s

/-- Entry to ACTIVE or STANDBY from SYNC (R341 step 6, event 0x0D01). -/
def enterLockstep (s : State) : State :=
  (s.updPair (fun p => { p with lockstep := s.tickCount, groups := 0, groupDues := [], missRun := 0 })).post (pairEvent 0x0D01 .note [])

/-- The role-change record and event 0x0D04 (Table 13.11, R361); a change without a cause of Table 13.11 leaves neither.
DEDUCED: assumption 65. -/
def noteRole (s : State) (was cause : Nat) : State :=
  if s.role != was && cause != 0 then
    (s.updPair (fun p => { p with handOvers := inc32 p.handOvers, roleTick := s.tickCount, roleCause := cause })).post
      (pairEvent 0x0D04 (if cause ≤ 3 then .note else .warn) (leBytes 1 cause))
  else s

/-- The pins that have one wire per machine, driven only in SINGLE, ACTIVE and ALONE once start-up has driven them (R347, R488). -/
def pairPins (s : State) : State :=
  { s with pins := { s.pins with outputs := if drivesOutputs s.toBlocks then .driven else .resetState } }

/-- A pair state entered at a boundary, with the cause of its role change (R335, R336, R347, R351, R361). DEDUCED: assumption 65.
DEDUCED: assumption 73. -/
def enterPair (s : State) (st : PairSt) (cause : Nat) : State :=
  let old := s.pair.st
  let was := s.role
  let chosen := chosenActive s.toBlocks
  let s := s.updPair (fun p => { lineAfter old st p with st, since := s.now, next := none, acquire := false, lanternDue := s.now })
  let s := s.updWork (fun w => { w with handOver := none, unhealthyRun := 0, healthySince := none, homeRun := 0 })
  let s := if st == .sync then enterSync s old chosen
    else if old == .sync && (st == .active || st == .standby) then enterLockstep s
    else if old == .standby && st == .active then s.updPair (fun p => { p with acquire := !claimMode s.toBlocks })
    else s
  let s := noteRole s was cause
  let s := if st == .detached then s.post (pairEvent 0x0D06 .warn []) else s
  pairPins s

/-- What Table 13.7 does on heartbeat loss, and in DISCOVER without a peer (R355). -/
def loseHeartbeat (s : State) : State :=
  if claimMode s.toBlocks || s.pair.drives then toNext s .alone 5
  else s.updPair (fun p => { p with acquire := true })

/-- N_w (0x2400 sub 0x03). DEDUCED: assumption 67. -/
def heartbeatCount (s : Blocks) : Nat := s.objN 0x2400 0x03

/-- Whether heartbeat loss is to be declared (R355). -/
def heartbeatDue (s : Blocks) : Bool :=
  inLockstep s && s.pair.next.isNone && !s.pair.acquire &&
    (decide (heartbeatCount s ≤ s.pair.missRun) || (!s.pair.linkUp && decide (heartbeatCount s ≤ s.pair.downRun))
      || (s.pair.wispTick == s.now && peerState s == 5))

/-- Heartbeat loss declared when it is due (R355, event 0x0D03). DEDUCED: assumption 67. -/
def checkHeartbeat (s : State) : State :=
  if heartbeatDue s.toBlocks then loseHeartbeat (s.post (pairEvent 0x0D03 .warn [])) else s

/-- The wisp of the tick found missing, once per tick (R348). -/
def checkWisp (s : State) : State :=
  if s.pair.st != .single && s.pair.wispTick != s.now && s.pair.missTick != s.now then
    s.updPair (fun p => { p with missTick := s.now, missRun := p.missRun + 1, missed := inc32 p.missed })
  else s

/-- DISCOVER has lasted 5,000 ticks since start-up phase 7 without a pair (Table 13.1, R337, event 0x0D02). DEDUCED: assumption 64. -/
def checkDiscover (s : State) : State :=
  if s.pair.st == .discover && s.pair.next.isNone && !s.pair.acquire && decide (s.start.phase = 0 ∨ 7 ≤ s.start.phase)
      && decide (s.pair.since + 5000 ≤ s.now) then
    loseHeartbeat (s.post (pairEvent 0x0D02 .warn []))
  else s

/-- The comparison of R349 against the wisp of the tick (Table 13.6). DEDUCED: assumption 67. -/
def compareWisp (s : State) (w : WispMsg) : State :=
  let standby := s.pair.st == .standby
  let own := s.work.localFault
  let peer := bit w.flags 0
  let activeFault := if standby then peer else own
  let standbyFault := if standby then own else peer
  let unequal := w.digest != s.pair.digest || w.groupsApplied != s.pair.groups
  let s := if unequal then s.updPair (fun p => { p with mismatches := inc32 p.mismatches }) else s
  if activeFault && !standbyFault then toNext s (if standby then .active else .detached) 4
  else if standbyFault && !activeFault then (if standby then toNext s .detached 4 else s)
  else if unequal then
    let s := s.post (pairEvent 0x0D05 .warn [])
    if standby then toNext s .detached 6 else s
  else s

/-- The cause of a hand-over that the standby has been asked for: the wisp does not name it, so it is free among the planned causes
(DESIGN CHOICE, assumption 2). DEDUCED: assumption 68. -/
def standbyCause (s : State) : Nat × State :=
  let r := s.free
  (1 + r.1 % 3, r.2)

/-- What a standby takes from the active unit's wisp of the tick: decision and hand-over (R346, R353). -/
def followWisp (s : State) (w : WispMsg) : State :=
  let s := s.updWork (fun x => { x with decision := w.decision })
  if bit w.flags 1 && decide (s.tickCount < w.handOverTick) then
    let c := standbyCause s
    c.2.updWork (fun x => { x with handOver := some (s.now + (w.handOverTick - s.tickCount), c.1) })
  else s

/-- The step of the standby's local time in SYNC (R341 step 3): at the coming boundary it has the local time of the active unit's boundary
that follows its wisp, the delay being made up by the boundaries that then coincide. DEDUCED: assumption 68. -/
def stepToPeer (s : State) (w : WispMsg) : State :=
  if !s.pair.chosen && decide (16 ≤ s.pair.hellos) && !s.pair.stepped then
    { s with pair := { s.pair with stepped := true }, time := { s.time with step := some ((w.localTime / 10000 + 1) * 10000 % 2 ^ 64) } }
  else s

/-- Whether the wisp is that of this unit's present tick; outside lockstep the units' ticks are not compared. DEDUCED: assumption 67. -/
def wispOnTime (s : Blocks) (w : WispMsg) : Bool := !inLockstep s || w.tick == s.tickCount

/-- A valid wisp noted (Tables 13.5, 13.9, 13.11): the offset of the peer's boundaries is measured, so it is free (DESIGN CHOICE, assumption 2).
DEDUCED: assumption 68. -/
def noteWisp (s : State) (w : WispMsg) : State :=
  let onNow := wispOnTime s.toBlocks w
  let s := s.updPair (fun p => { p with
    wisp := some w, wispTick := if onNow then s.now else p.wispTick, missRun := if onNow then 0 else p.missRun
    lineLow := p.drives || bit w.flags 4 })
  let s := s.updWork (fun x => { x with
    peerOffset := Config.freeInt s.freeCtr
    healthySince := if bit w.flags 2 then some (x.healthySince.getD s.now) else none })
  { s with freeCtr := s.freeCtr + 1 }

/-- A valid wisp received (R335, R341, R346, R348, R349, R353, R355). -/
def takeWisp (s : State) (w : WispMsg) : State :=
  let onNow := wispOnTime s.toBlocks w
  let s := noteWisp s w
  match s.pair.st with
  | .alone => if !s.jobRuns && !bit w.flags 3 then toNext s .sync 0 else s
  | .detached => if !s.jobRuns && !bit w.flags 3 then toNext s .sync 0 else s
  | .sync => if bit w.flags 3 then toNext s .detached 0 else stepToPeer s w
  | .active => if !onNow then s else if w.pairState == 5 then checkHeartbeat s else compareWisp s w
  | .standby => if !onNow then s else if w.pairState == 5 then checkHeartbeat s else followWisp (compareWisp s w) w
  | _ => s

/-- A peer message that fails its CRC or length (R339). -/
def noteLane (s : State) : State :=
  (s.updPair (fun p => { p with laneErrors := inc32 p.laneErrors })).updWork (fun w => { w with
    laneSince := inc32 w.laneSince, laneRecent := (s.now :: w.laneRecent).take 101 })

/-- The wait of R352 in ns: 200 for the incoming unit of a hand-over, otherwise 2,000 or 6,000 by the strap. DEDUCED: assumption 66. -/
def acquireWait (s : Blocks) : Nat := if s.pair.st == .active then 200 else if s.pair.unitId == 0 then 2000 else 6000

/-- The end of an acquisition of PEER_AUTH_N (R352, Table 13.7): `highNs` since the moment R352 counts from, `high` at the second
sample. In SYNC a lost arbitration leaves the unit waiting for the line that step 5 of R341 requires. DEDUCED: assumption 66. -/
def acquireLine (s : State) (highNs : Nat) (high : Bool) : State :=
  if !s.pair.acquire || highNs < acquireWait s.toBlocks then s
  else if high then
    let s := s.updPair (fun p => { p with acquire := false, drives := true, lineLow := true })
    if s.pair.st == .standby || s.pair.st == .discover then toNext s .alone 5 else s
  else if s.pair.st == .sync then s.updPair (fun p => { p with lineLow := true })
  else
    let s := s.updPair (fun p => { p with acquire := false, lineLow := true })
    if s.pair.st == .standby || s.pair.st == .discover then toNext s .detached 5 else s

/-- The conditions of a planned hand-over, looked at once the wisps of tick m = h − 2 are due (R353). DEDUCED: assumption 68. -/
def handOverHolds (s : Blocks) : Bool :=
  decide (s.now ≤ s.pair.wispTick + 1)
    && (if s.pair.st == .active then peerFlag s 2 else isHealthy s)
    && (s.pair.wisp.map (fun w => w.lastPackage)).getD 0xFFFFFFFF == lastHeld s

/-- Boundary h: the units exchange ACTIVE and STANDBY (R353). -/
def exchange (s : State) (cause : Nat) : State :=
  if s.pair.st == .active then enterPair s .standby cause else if s.pair.st == .standby then enterPair s .active cause else s

/-- A planned hand-over at a boundary: judged one tick before h, carried out at h. DEDUCED: assumption 68. -/
def planHandOver (s : State) : State :=
  match s.work.handOver with
  | none => s
  | some (h, cause) =>
    if h = s.now + 1 && !handOverHolds s.toBlocks then s.updWork (fun w => { w with handOver := none })
    else if h ≤ s.now then exchange s cause
    else s

/-- The responses of the groups forwarded and not acknowledged, sent when the pair is no longer in lockstep; the groups are not repeated
(R345). -/
def dropForwarded (s : State) : State :=
  let l := s.pair.forwarded
  l.foldl (fun s f => match f.response with
    | some r => sendResponse s r
    | none => s) (s.updPair (fun p => { p with forwarded := [] }))

/-- A forwarded group at or after its immediate boundary without an ACK (R345): its response goes, and WRITE is repeated. -/
def repeatForwarded (s : State) (f : Forwarded) : State :=
  if f.due ≤ s.now && f.sent < s.now then
    let s := match f.response with
      | some r => sendResponse s r
      | none => s
    let q := getI s.pair.sequences 4
    let s := sendPeer s 4 f.body
    s.updPair (fun p => { p with forwarded := p.forwarded.map (fun g =>
      if g.sequence == f.sequence then { g with sequence := q, sent := s.now, response := none } else g) })
  else s

/-- The groups forwarded and not acknowledged, at a boundary (R345). -/
def checkForwarded (s : State) : State :=
  if s.pair.st != .active || (s.pair.wispTick != 0 && peerState s.toBlocks != 4 && s.pair.lockstep + 1 < s.tickCount) then dropForwarded s
  else s.pair.forwarded.foldl repeatForwarded s

/-- Write groups whose boundary has come, counted (Table 13.5 offset 40). -/
def countGroups (s : State) : State :=
  s.updPair (fun p => { p with
    groups := (p.groups + (p.groupDues.filter (fun d => decide (d ≤ s.now))).length) % 2 ^ 32
    groupDues := p.groupDues.filter (fun d => decide (s.now < d)) })

/-- The pair at a tick boundary (R335, R349, R353, R354). -/
def pairBoundary (s : State) : State :=
  if s.pair.st == .single then s
  else
    let s := countGroups (s.updPair (fun p => { p with downRun := if p.linkUp then 0 else p.downRun + 1 }))
    let s := match s.pair.next with
      | some (st, cause) => enterPair s st cause
      | none =>
        if inLockstep s.toBlocks && s.work.localFault && s.pair.wispTick + 1 != s.now then enterPair s .detached 4
        else planHandOver s
    checkForwarded (s.updWork (fun w => { w with localFault := false }))

/-- Before a boundary: what the tick that ends has left to decide (R335, R348, R355). -/
def pairEnd (s : State) : State := checkDiscover (checkHeartbeat (checkWisp s))

/-- The wisp of the tick (Table 13.5). -/
def wispBody (s : Blocks) : Bytes :=
  let h := match s.work.handOver with
    | some (h, _) => if s.pair.st == .active then (s.tickCount + (h - s.now)) % 2 ^ 48 else 0
    | none => 0
  leBytes 1 s.pair.unitId ++ leBytes 1 (pairNum s.pair.st) ++ leBytes 1 (claimOf s)
    ++ leBytes 1 (b2n s.work.localFault + 2 * b2n (h != 0) + 4 * b2n (isHealthy s) + 8 * b2n s.jobRuns + 16 * b2n s.pair.drives)
    ++ leBytes 4 s.pair.digest ++ leBytes 8 ((s.time.boundary + 8600) % 2 ^ 64) ++ leBytes 4 (healthWord s)
    ++ leBytes 1 (if s.job.nextStart then 2 else if s.job.nextLayer then 1 else 0)
    ++ leBytes 1 (portsFollowing s s.pair.unitId)
    ++ leBytes 1 ((List.range 64).filter (fun p => (getI s.link.ports p).st == .up)).length
    ++ leBytes 1 ((List.range 20).filter (fun c => (getI s.cams.ports c).link == 3)).length
    ++ leBytes 4 (if inLockstep s then s.pair.groups else 0) ++ leBytes 4 (lastHeld s) ++ leBytes 8 h ++ leBytes 8 0

/-- Clock 8,600: the wisp leaves in every state but SINGLE (R348). -/
def sendWisp (s : State) : State := if s.pair.st == .single then s else sendPeer s 3 (wispBody s.toBlocks)

/-- Clocks 8,500 and 8,600, once in a tick: the decision point, then the wisp that carries the decision (R145, R346, R348). -/
def decisionPoint (s : State) : State := if s.job.decided then s else sendWisp ((decidePoint s).updJob (fun j => { j with decided := true }))

/-- DECISION_POINT (R145): clock 8,500. DESIGN CHOICE: assumption 7. -/
def execDecisionPoint (s : State) : Host.Outcome State Fault Refusal :=
  .next (if s.job.decided || !s.time.cutoff then s else decisionPoint (s.atClock 8500))

/-- DISCOVER_TIMEOUT (R335). -/
def execDiscoverTimeout (s : State) : Host.Outcome State Fault Refusal := .next (checkDiscover s)

/-- WISP (R348). -/
def execWisp (w : WispMsg) (s : State) : Host.Outcome State Fault Refusal :=
  .next (if !w.valid then noteLane s else if s.pair.st == .single then s else takeWisp s w)

/-- WISP_MISSING (R348). -/
def execWispMissing (s : State) : Host.Outcome State Fault Refusal := .next (checkWisp s)

/-- HEARTBEAT_LOSS (R355). -/
def execHeartbeatLoss (s : State) : Host.Outcome State Fault Refusal := .next (checkHeartbeat s)

/-- PEER_AUTH_ACQUIRE (R352). DEDUCED: assumption 66. -/
def execPeerAuthAcquire (highNs : Nat) (highAtSample : Bool) (s : State) : Host.Outcome State Fault Refusal :=
  .next (acquireLine s highNs highAtSample)

/-- HAND_OVER (R353): boundary h, the next one when the row comes before its tick. -/
def execHandOver (s : State) : Host.Outcome State Fault Refusal :=
  .next (match s.work.handOver with
    | some (h, cause) => if h ≤ s.now + 1 then exchange s cause else s
    | none => s)

/-- UNIT_LOCAL_FAULT (R354). -/
def execUnitLocalFault (s : State) : Host.Outcome State Fault Refusal := .next (localFault s)

/-- PEER_ACK_TIMEOUT (R345); requests that waited for the response are served (R101). -/
def execPeerAckTimeout (s : State) : Host.Outcome State Fault Refusal :=
  .next (serveRequests (s.pair.forwarded.foldl repeatForwarded s))

/-- PEER_LINK_DOWN (R338, Table 13.1). -/
def execPeerLinkDown (s : State) : Host.Outcome State Fault Refusal :=
  .next (if !s.pair.linkUp then s
    else
      let s := s.updPair (fun p => { p with linkUp := false, downRun := 0 })
      if s.pair.st == .single then s
      else
        let s := s.post (pairEvent 0x0D0B .warn [])
        if s.pair.st == .sync then toNext s .detached 0 else s)

/-- PEER_LINK_UP (R338). -/
def execPeerLinkUp (s : State) : Host.Outcome State Fault Refusal := .next (s.updPair (fun p => { p with linkUp := true, downRun := 0 }))

/-- PEER_AUTH_N_FAULT (R361): high while this unit drives the line, or low while neither unit does. -/
def execPeerAuthNFault (s : State) : Host.Outcome State Fault Refusal :=
  .next (if s.pair.st == .single || (!s.pair.drives && peerFlag s.toBlocks 4) then s
    else (s.updPair (fun p => { p with lineLow := !p.drives })).post (pairEvent 0x0D0C .warn []))

end Sys2Proof.Machine
end

