-- ==== Sys2Proof/Machine/PairLink.lean ====
section
/-! DEFINITION. What the units of a pair send each other: HELLO, STATE, lockstep entry, MIRROR, MEASURE, WRITE, ACK and STREAM
(13_dual_unit_operation R339–R346). -/

namespace Sys2Proof.Machine

/-- The DDR capacity of this unit (0x2300 subs 0x00 and 0x01). DEDUCED: assumption 71. -/
def ddrCapacity (s : Blocks) : Nat := getI s.mem.population 0 + getI s.mem.population 1

/-- The HELLO of this unit (R341 step 1). -/
def ownHello (s : Blocks) : HelloMsg :=
  { valid := true, unitId := s.pair.unitId, romVersion := Config.romVersion % 2 ^ 32, dictVersion := Config.dictVersion % 2 ^ 16
    authorityMode := s.objN 0x2400 0x01, homeUnit := s.objN 0x2400 0x02, ddrCapacity := ddrCapacity s, jobRunning := s.jobRuns
    roundTrip := 0 }

/-- The checks of R341: unit IDs differ, every other field is equal. -/
def helloPasses (s : Blocks) (m : HelloMsg) : Bool :=
  let o := ownHello s
  m.unitId != o.unitId && m.romVersion == o.romVersion && m.dictVersion == o.dictVersion && m.authorityMode == o.authorityMode
    && m.homeUnit == o.homeUnit && m.ddrCapacity == o.ddrCapacity

/-- Whether the unit forms a pair: DISCOVER from start-up phase 7 on, or SYNC (R337, R341). -/
def formsPair (s : Blocks) : Bool :=
  (s.pair.st == .discover && decide (s.start.phase = 0 ∨ 7 ≤ s.start.phase)) || s.pair.st == .sync

/-- A HELLO exchanged while no job runs at either unit (R341 steps 1 and 3; Table 13.1). DEDUCED: assumption 64. -/
def takeHello (s : State) (m : HelloMsg) : State :=
  if !formsPair s.toBlocks || s.jobRuns || m.jobRunning then s
  else if !helloPasses s.toBlocks m then
    let s := (s.updPair (fun p => { p with passed := false })).post (pairEvent 0x0D09 .warn [])
    if s.pair.st == .discover && s.pair.next.isNone && !s.pair.acquire then loseHeartbeat s else s
  else
    let s := s.updPair (fun p =>
      let n := if p.hellos < 16 then p.hellos + 1 else p.hellos
      let sum := if p.hellos < 16 then p.roundTrips + m.roundTrip else p.roundTrips
      { p with passed := true, hellos := n, roundTrips := sum, delay := if n = 16 then (rndDiv (sum : Int) 32).toNat else p.delay })
    if s.pair.st == .discover then toNext s .sync 0 else s

/-- HELLO once per 100 ticks while no job runs at either unit (R341 step 1). -/
def sendHello (s : State) : State :=
  if s.now % 100 == 0 && s.pair.st != .single && !s.jobRuns && !peerFlag s.toBlocks 3 && !inLockstep s.toBlocks then s.send (.hello (ownHello s.toBlocks)) else s

/-- A service message of the peer, by the length of its payload, in Q61, from which CC3 takes it at once (R26, R29, Table 1.4); 20 bytes
are header and CRC, and no message is longer than 2,068 (Table 13.3). DESIGN CHOICE: assumption 16. -/
def receiveService (s : State) (payload : Nat) : State :=
  let n := Nat.min 2068 (20 + payload)
  if roomIn s.toBlocks 61 n then s.fillQueue 61 n
  else { s with queues := updI s.queues 61 (fun x => { x with stalls := inc32 x.stalls }) }

/-- The length of objects in the payload of a message. DEDUCED: assumption 70. -/
def objectsLength (l : List ObjVal) : Nat := sumN (l.map (fun o => 7 + o.data.length))

/-- The length of a response in the payload of a message. -/
def repliesLength (l : List GdpResponse) : Nat := sumN (l.map (fun r => (gdpBytes r).length))

/-- HELLO (R341). -/
def execHello (m : HelloMsg) (s : State) : Host.Outcome State Fault Refusal :=
  .next (if !m.valid then noteLane s else takeHello (receiveService s 11) m)

/-- The value that a copied object carries. -/
def copiedVal (o : ObjVal) : Val := decodeVal (((rowFor o.index o.sub).map (fun r => r.type)).getD (.uint 1)) o.data

/-- A copied object as a pending write of this unit that is due at the coming boundary. -/
def copiedWrite (s : Blocks) (o : ObjVal) : PendingWrite := newPending s o.index o.sub (copiedVal o) false

/-- A STATE message in Q61. -/
def stateReceived (s : State) (values pending : List ObjVal) (replay : List GdpResponse) (packages : List Bytes) : State :=
  receiveService s (objectsLength values + objectsLength pending + repliesLength replay + sumN (packages.map List.length))

/-- STATE (R341 step 4): what the unit that will be active holds, kept until the image is loaded. -/
def execState (valid : Bool) (values pending : List ObjVal) (replay : List GdpResponse) (session : Option SessionCopy)
    (packages : List Bytes) (s : State) : Host.Outcome State Fault Refusal :=
  .next (if !valid then noteLane s
    else if s.pair.st != .sync || s.pair.chosen then stateReceived s values pending replay packages
    else
      let s := (stateReceived s values pending replay packages).updWork (fun w => { w with
        imageValues := w.imageValues ++ values, imagePending := w.imagePending ++ pending, imagePackages := w.imagePackages ++ packages
        stateSeen := true })
      let s := s.updHost (fun h =>
        let l := h.replay ++ replay
        { h with replay := l.drop (l.length - 256) })
      match session with
      | some c => s.updHost (fun h => { h with session := { (default : Session) with
          id := c.id, port := c.port, src := c.src, sequence := c.sequence, offset := c.offset, released := c.offset } })
      | none => s)

/-- A package that the standby checks under R150 (R345): a rejection is a unit-local fault (R354). DESIGN CHOICE: assumption 69. -/
def standbyPackage (s : State) (offset : Nat) (b : Bytes) : State :=
  match checkPackage s.job b with
  | .error e => localFault (s.post (rejectEvent (if e.reason ≤ 2 then 0xFFFFFFFF else fieldU b 12 4) offset e))
  | .ok (p, ends) => if p.first && !startGranted s.toBlocks p then localFault s else acceptPackage s p b ends

/-- The dictionary copy and the packages of SYNC taken over by the standby (R341 steps 4 and 5). DESIGN CHOICE: assumption 69. -/
def loadCopy (s : State) : State :=
  let w := s.work
  let s := (w.imageValues.filter (fun o => isCopied o.index o.sub)).foldl (fun s o => forceValue s (copiedWrite s.toBlocks o)) s
  let s := s.updDict (fun d => { d with pending := w.imagePending.map (copiedWrite s.toBlocks) })
  let s := w.imagePackages.foldl (fun s b => standbyPackage s 0 b) s
  s.updWork (fun w => { w with imageValues := [], imagePending := [], imagePackages := [] })

/-- The state image loaded in P4 of tick s (R341 step 5). DESIGN CHOICE: assumption 69. -/
def loadImage (s : State) (i : StateImage) : State :=
  { s with scan := { s.scan with chans := i.chans }, axes := i.axes, steps := i.steps, light := { s.light with strings := i.strings }
           melt := i.melt }

/-- Whether the unit may enter lockstep (R341): checks passed, delay measured, no job, and the line held or the copy received. -/
def lockstepReady (s : Blocks) : Bool :=
  s.pair.st == .sync && s.pair.next.isNone && s.pair.passed && decide (16 ≤ s.pair.hellos) && !s.jobRuns &&
    (if s.pair.chosen then claimMode s || s.pair.drives else s.work.stateSeen && s.pair.stepped)

/-- LOCKSTEP_ENTRY (R341 steps 5 and 6): both units are in lockstep from the coming boundary. -/
def execLockstepEntry (image : StateImage) (s : State) : Host.Outcome State Fault Refusal :=
  .next (if !lockstepReady s.toBlocks then s
    else if s.pair.chosen then toNext s .active 0
    else toNext (loadImage (loadCopy s) image) .standby 0)

/-- MIRROR (R343): the entries stand until clock 3,000 of the tick. -/
def execMirror (valid : Bool) (entries : List MirrorEntry) (s : State) : Host.Outcome State Fault Refusal :=
  .next (if !valid then noteLane s
    else if inLockstep s.toBlocks then s.updWork (fun w => { w with mirror := w.mirror ++ entries }) else s)

/-- A mirror entry that fills in for a response that the unit's own link has lost (R342, R343): it counts as received for R222 and R327;
what reports node measurements keeps its values. -/
def fillMirror (s : State) (e : MirrorEntry) : State :=
  match e with
  | .scanner n mask amp x y f =>
    if (getI s.link.ports (32 + n.val)).answered then s
    else
      let s := s.updLaser n (fun l => { l with amp := some amp })
      forI 3 s (fun s q =>
        if bit mask q && !(getI s.axes (3 * n.val + q)).fb.received then
          wordArrives s (3 * n.val + q) (if q == 0 then x else if q == 1 then y else f)
        else s)
  | .laser n b =>
    if (getI s.link.lasers n).status.isSome then s else s.updLaser n (fun l => { l with status := some b })

/-- Clock 3,000: the mirror entries received by then, where the unit is in lockstep (R342). -/
def fillMirrors (s : State) : State :=
  (if inLockstep s.toBlocks then s.work.mirror.foldl fillMirror s else s).updWork (fun w => { w with mirror := [] })

/-- MEASURE (R344). -/
def execMeasure (m : MeasureMsg) (s : State) : Host.Outcome State Fault Refusal :=
  .next (if !m.valid then noteLane s
    else if s.pair.st == .standby then s.updWork (fun w => { w with measure := some m }) else s)

/-- The measurements and decisions of the active unit taken over by the standby in the MEASURE of the tick (R342, R344): photodiode
averages, throttle requests, and the decisions of the stepper, LED and temperature blocks. DESIGN CHOICE: assumption 69. -/
def applyMeasure (s : State) : State :=
  match s.work.measure with
  | none => s
  | some m =>
    if s.pair.st != .standby || m.tick != s.tickCount then s
    else
      let s := { s with
        analog := { s.analog with channels := mapI s.analog.channels (fun n a => { a with pd := getI m.pd n }) }
        temp := { s.temp with channelThrottle := m.channelThrottle, axisThrottle := m.axisThrottle }
        steps := mapI s.steps (fun k ax => { ax with decision := {
          edges := (m.edges.filter (fun e => e.1.val == k)).map (fun e => (e.2.1.val, e.2.2)), stall := m.stalls.any (fun a => a.val == k) } }) }
      let s := m.readings.foldl (fun s r => s.updTemp r.1 (fun x => { x with reading := r.2.1, validity := r.2.2 })) s
      m.strings.foldl adoptString s

/-- What this unit reports of string l in MEASURE (R344, R404). -/
def ledReport (s : Blocks) (l : Fin 16) : LedReport :=
  let x := getI s.light.strings l
  { l, failed := x.failed, shorted := x.shorted, level := x.level, lampTime := x.lampTime, deficit := x.deficit, current := x.current
    changes := x.changes
    state := match x.st with
      | .off => 0
      | .on => 1
      | .locating => 2
      | .fault => 3 }

/-- The feature sets whose delivery point falls in the tick (R344). -/
def deliveredSets (s : Blocks) : List (Fin 128 × FeatureSet) :=
  s.melt.chans.toList.filterMap (fun m => m.delivery.bind (fun p => p.set.map (fun x => (Fin.ofNat 128 p.ctx, x))))

/-- The MEASURE of the tick sent by the active unit (R344). DESIGN CHOICE: assumption 69. -/
def sendMeasure (s : State) : State :=
  if s.pair.st != .active then s
  else
    s.send (.measure {
      valid := true, tick := s.tickCount, pd := mapI (Vector.replicate 32 0) (fun n _ => (getI s.analog.channels n).pd)
      features := deliveredSets s.toBlocks
      channelThrottle := s.temp.channelThrottle, axisThrottle := s.temp.axisThrottle
      edges := (List.range 8).flatMap (fun m => (getI s.steps m).decision.edges.map (fun e => (Fin.ofNat 8 m, Fin.ofNat 3 e.1, e.2)))
      stalls := ((List.range 8).filter (fun m => (getI s.steps m).decision.stall)).map (fun m => Fin.ofNat 8 m)
      strings := (List.range 16).map (fun l => ledReport s.toBlocks (Fin.ofNat 16 l))
      readings := (List.range 48).map (fun k =>
        let x := getI s.temp.inputs k
        (Fin.ofNat 48 k, x.reading, x.validity)) })

/-- One write of a forwarded group at the standby (R345): BOOT values are stored, the run-length job command is left to the active unit
(R419), the rest takes effect at the boundary that WRITE carries, `delta` boundaries ahead. DEDUCED: assumption 70. -/
def forwardedWrite (s : State) (delta commitTime : Nat) (o : ObjVal) : State :=
  let s := s.updDict (fun d => { d with commits := (d.commits + 1) % 2 ^ 32 })
  if isBoot o.index o.sub then appendBoot s o.index o.sub (copiedVal o)
  else if o.index == 0x4200 && o.sub == 0x00 then s
  else
    let w : PendingWrite := { copiedWrite s.toBlocks o with due := s.now + delta, commitTime }
    s.updDict (fun d => { d with pending := putPending s.now d.pending w })

/-- A WRITE in Q61: its group with the octets around it, and the response. -/
def writeReceived (s : State) (items : List ObjVal) (response : Option GdpResponse) : State :=
  receiveService s (18 + objectsLength items + repliesLength response.toList)

/-- PEER_WRITE (R345): acknowledged, and applied unless its boundary has gone by; the response enters the replay cache (R102).
DEDUCED: assumption 70. -/
def execPeerWrite (valid : Bool) (sequence : Nat) (items : List ObjVal) (commitTime boundary : Nat) (response : Option GdpResponse)
    (s : State) : Host.Outcome State Fault Refusal :=
  .next (if !valid then noteLane s
    else if s.pair.st != .standby then writeReceived s items response
    else
      let s := sendPeer (writeReceived s items response) 5 (leBytes 1 4 ++ leBytes 4 sequence)
      let delta := (2 ^ 48 + boundary - s.tickCount) % 2 ^ 48
      if delta = 0 || decide (2 ^ 47 ≤ delta) then s
      else
        let s := s.updDict (fun d => { d with lastCommit := commitTime })
        let s := items.foldl (fun s o => forwardedWrite s delta commitTime o) s
        let s := s.updPair (fun p => { p with groupDues := p.groupDues ++ [s.now + delta] })
        match response with
        | some r => s.updHost (fun h =>
            let l := h.replay ++ [r]
            { h with replay := l.drop (l.length - 256) })
        | none => s)

/-- ACK (R345): the standby's ACK of a WRITE releases the response that it held back, and the requests behind it (R101). -/
def execAck (valid : Bool) (type sequence : Nat) (s : State) : Host.Outcome State Fault Refusal :=
  .next (if !valid then noteLane s
    else if s.pair.st != .active || type != 4 then receiveService s 5
    else
      let s := receiveService s 5
      match s.pair.forwarded.find? (fun f => f.sequence == sequence) with
      | none => s
      | some f =>
        let s := s.updPair (fun p => { p with forwarded := p.forwarded.filter (fun g => g.sequence != sequence) })
        match f.response with
        | some r => serveRequests (sendResponse s r)
        | none => s)

/-- Package bytes assembled by the standby from STREAM (R345); what follows the last package held is where the session goes on (R357). -/
def takeStream (s : State) (offset sequence : Nat) (data : Bytes) : State :=
  let go := !s.work.stream.isEmpty && s.work.streamOffset + s.work.stream.length == offset
  let start := if go then s.work.streamOffset else offset
  let b := if go then s.work.stream ++ data else data
  let len := fieldU b 8 4
  if b.length < 64 || b.length < len then s.updWork (fun w => { w with stream := b, streamOffset := start })
  else
    let s := s.updWork (fun w => { w with stream := [], streamOffset := start })
    let s := standbyPackage s start (b.take len)
    s.updHost (fun h => { h with session := { h.session with
      offset := start + len, released := start + len, sequence := (sequence + 1) % 2 ^ 32, buffer := [] } })

/-- STREAM (R345). DESIGN CHOICE: assumption 69. -/
def execStream (valid : Bool) (offset sequence : Nat) (data : Bytes) (s : State) : Host.Outcome State Fault Refusal :=
  .next (if !valid then noteLane s
    else
      let s := receiveService s (12 + data.length)
      if s.pair.st == .standby then takeStream s offset sequence data else s)

end Sys2Proof.Machine
end

