-- ==== Sys2Proof/Machine/PairHealth.lean ====
section
/-! DEFINITION. The output digest, the self-test, the echo rule, reversion and the lantern report (13_dual_unit_operation R349, R353, R356,
R358–R361), and the close commands of start-up (07_scanner_servo R211; R337). -/

namespace Sys2Proof.Machine

/-- Bytes 1, 2 and 4 to 7, then 9 to 59, of a frame (R349). -/
def digestFrame (f : Bytes) : Bytes := slice f 1 2 ++ slice f 4 4 ++ slice f 9 51

/-- What the digest covers of port p: its slot 0 and slot 1 frames. -/
def digestPort (s : Blocks) (p : Nat) : Bytes :=
  let x := getI s.link.ports p
  if x.st == .up then digestFrame x.frame0 ++ digestFrame x.frame1 else []

/-- The values latched in P3 for LAO, LG, the stepper windings and the LSW gates. DEDUCED: assumption 71. -/
def digestLatches (s : Blocks) : Bytes :=
  (List.range 32).flatMap (fun n =>
      let k := (getI s.scan.chans n).cmdNext
      if laoFollows s n then
        leBytes 2 k.start ++ leBytes 1 (b2n (k.start != 0)) ++ k.events.flatMap (fun x => leBytes 2 x.offset ++ leBytes 2 x.power)
      else leBytes 3 0)
    ++ (List.range 8).flatMap (fun m => (List.range 2).flatMap (fun w =>
      let x := getI (getI s.steps m).windingsNext w
      leBytes 2 x.duty ++ leBytes 1 (b2n x.reverse + 2 * b2n x.coast)))
    ++ leBytes 2 (maskOf 16 (fun k =>
      let st := (getI s.power.switches k).st
      st == .on || st == .softStart))

/-- The output digest of the tick (R349). DEDUCED: assumption 71. -/
def outputDigest (s : Blocks) : Nat :=
  crc32c ((List.range 64).flatMap (digestPort s)
    ++ s.scan.grants.flatMap (fun g => leBytes 2 g.1 ++ leBytes 2 g.2.1 ++ leBytes 2 g.2.2) ++ digestLatches s)

/-- P4: the digest of the tick, in lockstep. -/
def takeDigest (s : State) : State :=
  if inLockstep s.toBlocks then s.updPair (fun p => { p with digest := outputDigest s.toBlocks }) else s

/-- ZL ports UP. -/
def portsUp (s : Blocks) : Nat := ((List.range 64).filter (fun p => (getI s.link.ports p).st == .up)).length

/-- Camera ports receiving. -/
def camerasUp (s : Blocks) : Nat := ((List.range 20).filter (fun c => (getI s.cams.ports c).link == 3)).length

/-- The condition of a bit of the health word (Table 13.8). Bits 0 and 1 test this silicon, which in this model works; those of bits 2
and 3 that come as commands set their bit themselves. DEDUCED: assumption 72. -/
def healthCondition (s : Blocks) (k : Nat) : Bool :=
  let peer := fun (f : WispMsg → Nat) (own : Nat) => (s.pair.wisp.map (fun w => decide (own < f w))).getD false
  match k with
  | 2 => decide (1000 < (s.mem.recentCorrected.filter (fun t => decide (s.now < t + 100000))).length)
  | 4 => anyI 6 (fun r => getI s.power.outside r)
  | 5 => decide (7360 < dieTemp s.temp)
  | 6 => peer (fun w => w.zlUp) (portsUp s)
  | 7 => peer (fun w => w.camerasReceiving) (camerasUp s)
  | 8 => decide (100 < (s.work.laneRecent.filter (fun t => decide (s.now < t + 100000))).length)
  | _ => false

/-- One bit of the health word in P4 (R359): its condition, and the 100,000 ticks after it; event 0x0D07 for the first time in a job. -/
def healthBit (s : State) (k : Nat) : State :=
  let h := getI s.work.health k
  let cond := healthCondition s.toBlocks k
  let until_ := if h.active && !cond then s.now + 100000 else h.until_
  let onNow := cond || decide (s.now < until_)
  let tell := onNow && !h.shown && !h.posted && s.pair.st != .single
  let s := s.updWork (fun w => { w with health := updI w.health k (fun h =>
    { h with active := cond, until_, shown := onNow, posted := h.posted || tell }) })
  if tell then s.post (pairEvent 0x0D07 .warn (leBytes 1 k)) else s

/-- P4: the tests of Table 13.8, with those completed in the tick counted (R359): an engine every 40 ticks, the ROM every 6,000,000.
DEDUCED: assumption 72. -/
def selfTest (s : State) : State :=
  let s := forI 9 s healthBit
  s.updWork (fun w => { w with passes := satU 32 (w.passes + b2n (s.now % 40 == 0) + b2n (s.now % 6000000 == 0)) })

/-- A job starts: every bit of the health word may post its event again (Table 13.10). -/
def clearHealthPosts (s : State) : State :=
  s.updWork (fun w => { w with health := w.health.map (fun (h : HealthBit) => { h with posted := false }) })

/-- An ACTIVE unit not HEALTHY for 1,000 ticks while its STANDBY is (R359). DEDUCED: assumption 72. -/
def checkHealth (s : State) : State :=
  if s.pair.st == .active && decide (1000 ≤ s.work.unhealthyRun) && peerState s.toBlocks == 4 && peerFlag s.toBlocks 2 then
    requestHandOver s 2
  else s

/-- The home unit has been HEALTHY for the reversion delay as STANDBY (R358). -/
def checkReversion (s : State) : State :=
  let healthy := match s.work.healthySince with
    | some t => decide (t + s.objN 0x2400 0x06 ≤ s.now)
    | none => false
  if s.pair.st == .active && !isHome s.toBlocks && s.objB 0x2400 0x05 && peerState s.toBlocks == 4 && healthy then requestHandOver s 3
  else s

/-- The echo rule (R356): the nodes follow the home unit. -/
def checkEcho (s : State) : State :=
  if s.pair.st == .alone && claimMode s.toBlocks && !isHome s.toBlocks && decide (s.objN 0x2400 0x04 ≤ s.work.homeRun) then
    toNext s .detached 7
  else s

/-- Whether the response of port p in this tick names unit `u` as authority. -/
def namesUnit (x : ZlPort) (u : Nat) : Bool := x.st == .up && x.answered && bit x.echoUnit 1 && x.echoUnit % 2 == u

/-- One port under the echo rule: consecutive responses that name the peer, or no authority, and event 0x0D0A (R356, R361). -/
def echoPort (s : State) (p : Nat) : State :=
  let x := getI s.link.ports p
  let other := x.st == .up && x.answered && !namesUnit x s.pair.unitId
  let run := if other then getI s.work.peerRuns p + 1 else 0
  let quiet := match getI s.work.echoPosted p with
    | some t => decide (t + 100000 ≤ s.now)
    | none => true
  let tell := decide (s.objN 0x2400 0x04 ≤ run) && quiet
  let s := s.updWork (fun w => { w with
    peerRuns := updI w.peerRuns p (fun _ => run), echoPosted := if tell then updI w.echoPosted p (fun _ => some s.now) else w.echoPosted })
  if tell then s.post (mkEvent (.block 9) 0x0D0A .warn .zlPort p []) else s

/-- P4: what the responses of the tick say of who is followed (R356). -/
def echoTick (s : State) : State :=
  let home := s.objN 0x2400 0x02
  let follows := s.pair.st == .alone && anyI 64 (fun p => namesUnit (getI s.link.ports p) home)
  let s := s.updWork (fun w => { w with homeRun := if follows then w.homeRun + 1 else 0 })
  if s.pair.st == .active || s.pair.st == .alone then forI 64 s echoPort
  else s.updWork (fun w => { w with peerRuns := Vector.replicate 64 0 })

/-- The lantern report (Table 13.9). -/
def lanternBody (s : Blocks) : Bytes :=
  let u := s.pair.unitId
  leBytes 1 1 ++ leBytes 1 u ++ leBytes 1 (pairNum s.pair.st) ++ leBytes 1 (claimOf s) ++ leBytes 4 (healthWord s)
    ++ leBytes 4 (peerHealth s) ++ leBytes 8 s.tickCount ++ leBytes 4 s.pair.lanternSequence ++ leBytes 4 s.pair.missed
    ++ leBytes 4 s.pair.mismatches ++ leBytes 4 s.pair.handOvers ++ leBytes 1 (portsUp s) ++ leBytes 1 (portsFollowing s u)
    ++ leBytes 1 (portsFollowing s (1 - u)) ++ leBytes 1 (camerasUp s) ++ leBytesI 4 (satS 32 s.work.peerOffset)
    ++ leBytesI 2 (dieTemp s.temp) ++ leBytes 2 0 ++ leBytes 4 s.work.corrected ++ leBytes 4 s.work.uncorrectable
    ++ leBytes 4 s.work.laneSince ++ leBytes 4 s.work.passes

/-- A lantern report sent when it is due (R360): what it counts since the last report starts again. -/
def checkLantern (s : State) : State :=
  if s.pair.st == .single || s.now < s.pair.lanternDue then s
  else
    let body := lanternBody s.toBlocks
    let s := s.updPair (fun p => { p with
      lantern := body, lanternSequence := (p.lanternSequence + 1) % 2 ^ 32, lanternDue := s.now + s.objN 0x2400 0x07 })
    let s := s.updWork (fun w => { w with corrected := 0, uncorrectable := 0, laneSince := 0, passes := 0 })
    eventToAll s 1 0x82 s.localTime body

/-- P4 of the pair (R349, R353, R356, R358–R360). -/
def pairTick (s : State) : State :=
  let s := selfTest (takeDigest s)
  let s := s.updWork (fun w => { w with unhealthyRun := if s.pair.st == .active && !isHealthy s.toBlocks then w.unhealthyRun + 1 else 0 })
  checkLantern (sendHello (checkReversion (checkHealth (checkEcho (echoTick s)))))

/-- Whether the close command of start-up may be issued for axis `a` (R211, R337, R491): node enumeration has begun its end, the axis is
enabled, trusted, and has not been commanded before. DEDUCED: assumption 74. -/
def closeDue (s : Blocks) (a : Nat) : Bool :=
  let ax := getI s.axes a
  axisEnabled s a && s.objB (0x3200 + a) 0x01 && ax.trusted && !ax.closeIssued
    && (s.pair.st == .single || s.pair.st == .active || s.pair.st == .alone)
    && decide (s.start.phase = 0 ∨ 5 ≤ s.start.phase)

/-- The close command of start-up (R211): staged for the immediate boundary when R209 accepts it, and forwarded in a pair (R337);
otherwise event 0x0708. DEDUCED: assumption 74. -/
def startUpClose (s : State) (a : Nat) : State :=
  if !closeDue s.toBlocks a then s
  else
    let s := s.updAxis a (fun ax => { ax with closeIssued := true })
    let c := axisCommandCode s.toBlocks (fun i k => pendingVal s.dict i k) a 1
    if c != 0 then s.post (mkEvent (.ve (a / 12)) 0x0708 .warn .servoAxis a (leBytes 4 c))
    else forwardGroup (stageValue s (0x3200 + a) 0x02 (.int 1)) [(0x3200 + a, 0x02, leBytes 1 1)] none

/-- START_UP_CLOSE (R211). -/
def execStartUpClose (a : Fin 96) (s : State) : Host.Outcome State Fault Refusal := .next (startUpClose s a)

/-- ECHO_RULE (R356). -/
def execEchoRule (s : State) : Host.Outcome State Fault Refusal := .next (checkEcho s)

/-- REVERSION (R358). -/
def execReversion (s : State) : Host.Outcome State Fault Refusal := .next (checkReversion s)

/-- HEALTH_RULE (R359). -/
def execHealthRule (s : State) : Host.Outcome State Fault Refusal := .next (checkHealth s)

/-- LANTERN_REPORT (R360). -/
def execLanternReport (s : State) : Host.Outcome State Fault Refusal := .next (checkLantern s)

/-- PLL_OUT_OF_LOCK (Table 13.8 bit 3): the bit is 1 from here for 100,000 ticks (R359). -/
def execPllOutOfLock (s : State) : Host.Outcome State Fault Refusal :=
  .next (s.updWork (fun w => { w with health := updI w.health 3 (fun h => { h with until_ := s.now + 100000 }) }))

end Sys2Proof.Machine
end

