-- ==== Sys2Proof/Machine/Startup.lean ====
section
/-! DEFINITION. Reset, start-up and test mode (20_startup_and_faults R489–R495; 21_package_and_electrical R525, R527), and rails that
leave their window (17_thermal_and_power R434). -/

namespace Sys2Proof.Machine

/-- Start-up changed by `f`. -/
def State.updStart (s : State) (f : StartState → StartState) : State := { s with start := f s.start }

/-- The device identification register (R525). -/
def idCode : Nat := ((Config.stepping + 256 - 0x41) % 16) * 2 ^ 28 + 0x5032 * 2 ^ 12 + 0x4D7 * 2 + 1

/-- The maximum of a phase in µs (Table 20.2). DEDUCED: assumption 75. -/
def phaseMaximum (k : Nat) : Nat := [25000, 40000, 310000, 20000, 30000, 150000, 50000].getD (k - 1) 0

/-- Whether a close command that was accepted has not ended (R491). -/
def closeOpen (s : Blocks) (a : Nat) : Bool :=
  let ax := getI s.axes a
  ax.closeIssued && ax.latched == 0 &&
    (ax.loop == .capture || s.dict.pending.any (fun w => w.index == 0x3200 + a && w.sub == 0x02))

/-- Whether the close command of axis `a` is still to be issued: the axis is not yet trusted (R211). DEDUCED: assumption 74. -/
def closeAwaited (s : Blocks) (a : Nat) : Bool :=
  axisEnabled s a && s.objB (0x3200 + a) 0x01 && !(getI s.axes a).closeIssued

/-- Whether the work of the phase in progress is complete (Table 20.2). -/
def phaseDone (s : Blocks) : Bool :=
  match s.start.phase with
  | 1 => s.power.st == .powered
  | 2 => true
  | 3 => allI 2 (fun c => !populationOk (getI s.mem.population c) || getI s.mem.state c != 0)
  | 4 => allI 64 (fun p => (getI s.link.ports p).st != .train)
  | 5 => allI 64 (fun p => (getI s.link.ports p).st != .enum)
      && (s.objB 0x2400 0x00 || allI 96 (fun a => !closeOpen s a && !closeAwaited s a))
  | 6 => allI 20 (fun c => !s.objB (0x3500 + c) 0x00 || (getI s.cams.ports c).link == 3 || (getI s.cams.ports c).link == 4)
  | _ => s.pair.st != .discover

/-- The end of phase 2: failed tests, and what phase 3 then finds (R462, R472, R475, R493). -/
def endSelfTest (s : State) (r : PhaseReport) : State :=
  let s := r.failedTests.foldl (fun s t => s.post (mkEvent (.core 0) 0x1401 .safe .device 0 (leBytes 1 t))) s
  let s := discoverFlash s r.flash
  forI 2 s (fun s c =>
    let p := getI s.mem.population c
    let absent := !headerOk s.flash.header || (p != 0 && !populationOk p)
    if absent then s.post (memEvent 0x1303 .warn c []) else s)

/-- The end of phase 3: the ring position, the active image and the persisted values in force (R71, R477, R479, R508); a unit whose pair
enable is TRUE is in DISCOVER from here on, and every other one drives its pins (R337, R488). DEDUCED: assumption 51. -/
def endFlashPhase (s : State) : State :=
  let s := chooseImage (locateRing s)
  let r := loadPersisted s.flash s.dict
  let late := r.2.map (fun e => { e with tick := (s.tickCount + 1) % 2 ^ 48 })
  let s := { s with faults := { s.faults with later := s.faults.later ++ late } }
  let s := s.updDict (fun _ => r.1)
  if s.objB 0x2400 0x00 then
    let s := s.updPair (fun p => { p with st := .discover, since := s.now, lanternDue := s.now })
    { s with pins := { s.pins with peerTx := .driven } }
  else { s with pins := { s.pins with outputs := .driven } }

/-- The start of phase 4: Ethernet ports under their objects, and training on every enabled ZL port (Table 20.2). -/
def startLinks (s : State) : State :=
  let s := startPorts { s with pins := { s.pins with ethTx := .driven, zlTx := .driven } }
  setAddress (setAddress s 0) 1

/-- The start of phase 6: the init script of every camera port that streams (R237). -/
def startCameras (s : State) : State := forI 20 s (fun s c => if s.objB (0x3500 + c) 0x00 then setStreaming s c true else s)

/-- The work that a phase begins with. -/
def beginPhase (s : State) (k : Nat) : State :=
  match k with
  | 4 => startLinks s
  | 6 => startCameras s
  | 7 => if s.pair.st == .discover then s.updPair (fun p => { p with since := s.now }) else s
  | _ => s

/-- The phase in progress over: its duration noted, the next phase begun, or start-up at an end, which START-UP leaves at the next
boundary (R491, R494, R496). -/
def nextPhase (s : State) (durationUs : Nat) : State :=
  let k := s.start.phase
  let s := { s with faults := { s.faults with durations := s.faults.durations.set (k - 1) (satU 16 durationUs) } }
  if k = 7 then s.updStart (fun x => { x with phase := 0 }) else beginPhase (s.updStart (fun x => { x with phase := k + 1 })) (k + 1)

/-- What a phase leaves behind at its end. -/
def finishPhase (s : State) (r : PhaseReport) : State :=
  match s.start.phase with
  | 2 => endSelfTest s r
  | 3 => endFlashPhase s
  | _ => s

/-- Whether start-up is in progress. -/
def startingUp (s : Blocks) : Bool := !s.start.inReset && s.start.phase != 0 && !s.start.phaseOver && !s.start.testMode

/-- STARTUP_PHASE_COMPLETE (R491). DESIGN CHOICE: assumption 9. -/
def execStartupPhaseComplete (r : PhaseReport) (s : State) : Host.Outcome State Fault Refusal :=
  .next (if startingUp s.toBlocks && phaseDone s.toBlocks then nextPhase (finishPhase s r) r.durationUs else s)

/-- STARTUP_PHASE_MAXIMUM (R493): phases 4 to 7. -/
def execStartupPhaseMaximum (s : State) : Host.Outcome State Fault Refusal :=
  let k := s.start.phase
  .next (if startingUp s.toBlocks && decide (4 ≤ k) then
    let s := { s with faults := { s.faults with overMaximum := setBit s.faults.overMaximum (k - 1) true } }
    nextPhase (s.post (mkEvent (.core 0) 0x1402 .warn .device 0 (leBytes 1 k))) (phaseMaximum k)
  else s)

/-- POWER_ON (R489): VAUX33 is applied; the flash and the nodes are as they were. DEDUCED: assumption 62. DESIGN CHOICE: assumption 76. -/
def execPowerOn (strap : Fin 2) (s : State) : Host.Outcome State Fault Refusal :=
  let s := endFlashOp s 0
  let t := State.restart 0 strap 0 { s.flash with status := 0 } s.link.nodes s.freeCtr s.pending
  .next { t with start := { t.start with strap } }

/-- RESET_N (R489): the device resets with cause 1. DESIGN CHOICE: assumption 76. -/
def execResetN (s : State) : Host.Outcome State Fault Refusal := .next (enterReset s 1)

/-- WATCHDOG_EXPIRY (R490): the device resets with cause 5. -/
def execWatchdogExpiry (_core : Fin 4) (s : State) : Host.Outcome State Fault Refusal := .next (enterReset s 5)

/-- TEST_EN_RISE (R524, R527): a reset with cause 1 into test mode. PRESUMED: assumption 77. -/
def execTestEnRise (s : State) : Host.Outcome State Fault Refusal :=
  let t := enterReset s 1
  .next { t with start := { t.start with testMode := true }, pins := { t.pins with jtagEnabled := true } }

/-- TEST_EN_FALL (R527): a reset with cause 1 out of test mode. -/
def execTestEnFall (s : State) : Host.Outcome State Fault Refusal :=
  let t := enterReset s 1
  .next { t with start := { t.start with testMode := false } }

/-- POWER_SEQUENCE_STEP (R432): the next step, or the end of the sequence: the timebase starts (R41), the BOOT values
come into force (R74), CTRIG is driven low and the nodes' pins stay high-impedance (Table 20.1); 0x110D after a failed attempt (R433). In test mode the rails are held after step 5
(R527). DESIGN CHOICE: assumption 9. -/
def execPowerSequenceStep (s : State) : Host.Outcome State Fault Refusal :=
  match s.power.st with
  | .step k =>
    if s.start.inReset then .next s
    else if k < 6 then .next (s.updPower (fun p => { p with st := .step (k + 1) }))
    else if s.start.testMode then .next s
    else
      let t := { s with
        power := { s.power with st := .powered, attempts := 0, retried := false }
        time := { s.time with running := true, boundary := 0, clock := 0, ticks := 0 }
        dict := bootInForce s.flash s.dict
        pins := { s.pins with triggers := .driven } }
      .next (if s.power.retried then t.post (powerEvent 0x110D .warn .device 0 []) else t)
  | _ => .next s

/-- A rail of the device's own supplies outside its window in a running device (R434, R354). -/
def railFault (s : State) (rail : Nat) : State :=
  let s := s.updPower (fun p => { p with
    outside := updI p.outside rail (fun _ => true), faultTick := updI p.faultTick rail (fun t => some (t.getD s.now)) })
  let s := abortAllCalibrations s
  if inLockstep s.toBlocks then localFault s
  else (stopAllSteppers (setJobGates s true)).post (powerEvent 0x1109 .safe .rail rail [])

/-- PF_N_ASSERTED (R436; R354 in lockstep). DEDUCED: assumption 79. -/
def execPfNAsserted (s : State) : Host.Outcome State Fault Refusal := .next (localFault (assertPf s))

/-- VIN below 10.0 V (R431, R434): the rail is outside its window, which acts as an assertion of PF_N. -/
def vinFault (s : State) : State :=
  localFault (beginHoldUp (s.updPower (fun p => { p with outside := updI p.outside 0 (fun _ => true) })))

/-- RAIL_OUTSIDE_WINDOW (R434), rails in the order of Table 17.9: VIN below 10.0 V acts as PF_N, VAUX33 as its loss. -/
def execRailOutsideWindow (rail : Fin 6) (s : State) : Host.Outcome State Fault Refusal :=
  .next (if rail.val = 0 then vinFault s
    else if rail.val = 1 then loseVaux s
    else if s.start.inReset then s
    else if s.start.testMode then enterReset s 0
    else railFault s rail)

end Sys2Proof.Machine
end

