-- ==== Sys2Proof/Machine/Tap.lean ====
section
/-! DEFINITION. The test access port and the boundary register (21_package_and_electrical R524–R527). -/

namespace Sys2Proof.Machine

/-- The controller's next state by the level of TMS (IEEE 1149.1; PRESUMED, assumption 77). -/
def nextCtl (c : TapCtl) (tms : Bool) : TapCtl :=
  match c with
  | .reset => if tms then .reset else .idle
  | .idle => if tms then .selectDr else .idle
  | .selectDr => if tms then .selectIr else .captureDr
  | .captureDr => if tms then .exit1Dr else .shiftDr
  | .shiftDr => if tms then .exit1Dr else .shiftDr
  | .exit1Dr => if tms then .updateDr else .pauseDr
  | .pauseDr => if tms then .exit2Dr else .pauseDr
  | .exit2Dr => if tms then .updateDr else .shiftDr
  | .updateDr => if tms then .selectDr else .idle
  | .selectIr => if tms then .reset else .captureIr
  | .captureIr => if tms then .exit1Ir else .shiftIr
  | .shiftIr => if tms then .exit1Ir else .shiftIr
  | .exit1Ir => if tms then .updateIr else .pauseIr
  | .pauseIr => if tms then .exit2Ir else .pauseIr
  | .exit2Ir => if tms then .updateIr else .shiftIr
  | .updateIr => if tms then .selectDr else .idle

/-- The instruction of an opcode: every other opcode acts as BYPASS (Table 21.12, R524). -/
def tapInstr (opcode : Nat) : TapInstr :=
  if opcode = 0x00 then .extest
  else if opcode = 0x01 then .sample
  else if opcode = 0x02 then .idcode
  else if opcode = 0x03 then .highz
  else if opcode = 0x04 then .clamp
  else .bypass

/-- The device identification register (R525). -/
def idcode : BitVec 32 := BitVec.ofNat 32 ((Config.stepping - 0x41) % 16 * 2 ^ 28 + 0x5032 * 2 ^ 12 + 0x4D7 * 2 + 1)

/-- Whether an instruction selects the boundary register (Table 21.12). -/
def selectsBoundary (i : TapInstr) : Bool := i == .extest || i == .sample

/-- A register shifted by one bit: TDI enters at the top, the lowest bit leaves for TDO. -/
def shiftIn {w : Nat} (x : BitVec w) (tdi : Bool) : BitVec w := (x >>> 1) ||| (BitVec.ofNat w (b2n tdi) <<< (w - 1))

/-- The data register of the instruction captures (IEEE 1149.1; PRESUMED, assumption 77). -/
def captureData (t : TapState) (levels : BitVec 1236) : TapState :=
  if selectsBoundary t.instr then { t with cells := levels }
  else if t.instr == .idcode then { t with idShift := idcode }
  else { t with bypassBit := false }

/-- The data register of the instruction shifts; answers the bit that leaves. -/
def shiftData (t : TapState) (tdi : Bool) : TapState × Bool :=
  if selectsBoundary t.instr then ({ t with cells := shiftIn t.cells tdi }, t.cells.getLsbD 0)
  else if t.instr == .idcode then ({ t with idShift := shiftIn t.idShift tdi }, t.idShift.getLsbD 0)
  else ({ t with bypassBit := tdi }, t.bypassBit)

/-- One clock of TCK (R524): what the controller's state does, then its next state. TRST_N low holds it in Test-Logic-Reset, in which IDCODE is
selected. TDO carries a bit only while shifting (Table 20.1). PRESUMED: assumption 77. -/
def tapClock (t : TapState) (e : TapEdge) : TapState × List Bool :=
  if !e.trstHigh then ({ t with ctl := .reset, instr := .idcode }, [])
  else
    let x : TapState × List Bool :=
      match t.ctl with
      | .reset => ({ t with instr := .idcode }, [])
      | .captureDr => (captureData t e.levels, [])
      | .shiftDr => let r := shiftData t e.tdi; (r.1, [r.2])
      | .updateDr => (if selectsBoundary t.instr then { t with latch := t.cells } else t, [])
      | .captureIr => ({ t with irShift := 1 }, [])
      | .shiftIr => ({ t with irShift := shiftIn t.irShift e.tdi }, [t.irShift.getLsbD 0])
      | .updateIr => ({ t with instr := tapInstr t.irShift.toNat }, [])
      | _ => (t, [])
    let c := nextCtl t.ctl e.tms
    ({ x.1 with ctl := c, instr := if c == .reset then .idcode else x.1.instr }, x.2)

/-- Several clocks of TCK, with the bits on TDO. -/
def tapClocks : TapState → List TapEdge → TapState × List Bool
  | t, [] => (t, [])
  | t, e :: l =>
    let x := tapClock t e
    let y := tapClocks x.1 l
    (y.1, x.2 ++ y.2)

/-- Test mode: the port follows its pins, while TEST_EN is high (R524). -/
def clockTap (s : State) (l : List TapEdge) : State :=
  if !s.pins.jtagEnabled || l.isEmpty then s
  else
    let x := tapClocks s.pins.tap l
    let s := { s with pins := { s.pins with tap := x.1 } }
    if x.2.isEmpty then s else s.send (.tdo x.2)

/-- The pins by what the boundary register has for them (R526); `test` are those of the port itself. -/
inductive PinGroup
  | lg
  | peerAuth
  | lswg
  | powerControl
  | analogPins
  | serial
  | ddr
  | test
  | other
deriving DecidableEq, Repr, Inhabited

/-- What the boundary register has for a pin. -/
inductive Coverage
  | full
  | observe
  | absent
deriving DecidableEq, Repr, Inhabited

/-- The coverage of R526: observe-only cells for LG and PEER_AUTH_N; no cells for LSWG, the power-control group, the analog pins, and the CML and
D-PHY pins, nor for the port's own pins (PRESUMED, assumption 77); every other 3.3 V, open-drain or DDR pin is covered. -/
def coverage (g : PinGroup) : Coverage :=
  match g with
  | .lg => .observe
  | .peerAuth => .observe
  | .lswg => .absent
  | .powerControl => .absent
  | .analogPins => .absent
  | .serial => .absent
  | .test => .absent
  | .ddr => .full
  | .other => .full

/-- What drives a pin in test mode. -/
inductive ScanDrive
  | resetState
  | level (high : Bool)
  | highImpedance
deriving DecidableEq, Repr, Inhabited

/-- What drives pin `k` of a group in test mode (R526, R527): EXTEST and CLAMP drive a covered pin from the latch of its cell, HIGHZ floats it, and
every pin that the boundary register does not drive keeps its reset state of Table 20.1. The cell of a pin is that of the BSDL description
(free, DESIGN CHOICE, assumption 2). PRESUMED: assumption 77. -/
def scanDrive (s : Blocks) (g : PinGroup) (k : Nat) : ScanDrive :=
  let t := s.pins.tap
  if !s.start.testMode || coverage g != .full then .resetState
  else
    match t.instr with
    | .extest => .level (t.latch.getLsbD (Config.scanCell g.ctorIdx k))
    | .clamp => .level (t.latch.getLsbD (Config.scanCell g.ctorIdx k))
    | .highz => .highImpedance
    | .sample => .resetState
    | .idcode => .resetState
    | .bypass => .resetState

end Sys2Proof.Machine
end

