-- ==== Sys2Proof/Machine/Tick.lean ====
section
/-! DEFINITION. The tick: what a boundary does, the phases P0 to P4, the arrival cut-off and the deadline monitors
(01_architecture R31–R39; 02_tick_and_timebase R41–R60). -/

namespace Sys2Proof.Machine

/-- Whether the tick-bound blocks work: from start-up phase 4 on (Table 20.2). -/
def tickWorks (s : Blocks) : Bool := s.time.running && !s.start.inReset && (s.start.phase == 0 || decide (4 ≤ s.start.phase))

/-- What converters, monitors, memories and LPERMIT_N give at a boundary (R431, R438, R445, R446, R449; Table 2.5). -/
def readInputs (s : State) (inp : TickInputs) : State :=
  let s := readPower (noteCorrections s inp.corrected) inp
  let s := { s with analog := { s.analog with
    channels := mapI s.analog.channels (fun n a => closePhotodiode (getI inp.pd n) { a with monitor := getI inp.laoMonitor n }) } }
  let s := s.updTime (fun t => { t with p2High := mapI t.p2High (fun k x => Nat.max x (Nat.min 4000 (getI inp.p2Clocks k))), pins := inp.switches })
  restorePermit (samplePermit s inp.lpermitHigh)

/-- The decision of the active unit's wisp taken by a standby (R346). -/
def takeDecision (s : State) : State :=
  if s.pair.st == .standby then
    (s.updJob (fun j => { j with nextLayer := s.work.decision == 1, nextStart := s.work.decision == 2 && j.granted })).updWork
      (fun w => { w with decision := 0 })
  else s

/-- The engines at a boundary: what was computed for the tick applies in it (R152, R153, R208, R210, R213, R365, R448). -/
def engineBoundary (s : State) (inp : TickInputs) : State :=
  let s := scanBoundary (axisBoundary s)
  let s := forI 8 s (fun s m => s.updStep m (fun ax => stepBoundary (stepEnv s.toBlocks m) ax (getI inp.emf m)))
  forI 32 s latchAnalog

/-- Job, dictionary and layer at a boundary, in the order of R39. -/
def jobAndValues (s : State) : State :=
  let was := s.job.dev
  let s := jobBoundary s
  let s := if was != .running && s.job.dev == .running then clearHealthPosts s else s
  let layer := s.job.nextLayer && s.job.dev == .running
  let s := dictBoundary layer s
  if layer then layerBoundary s else s.updJob (fun j => { j with nextLayer := false })

/-- The releases and deadlines of a boundary (R52, R80, R115, R216, R282, R318, R320, R329, R393, R426). DEDUCED: assumption 59. -/
def releases (s : State) : State :=
  let s := forI 64 (forI 64 (forI 64 (forI 32 (releaseFeedback s) releaseNode) raisePort) trainExpire) downExpire
  let s := holdoverExpire (syncTimeout s)
  let s := portDeadlines (forceMaps (startScan (dropUnregistered (lightBoundary (forI 20 (endDelays s) risePulse)))))
  forI 4 (forI 4 s hopTimeout) timeoutTransfer

/-- An accepted reset request whose ring entries are written or whose time is over (R490). -/
def dueReset (s : State) : State :=
  match s.start.resetDue with
  | some t => if s.faults.ringPending.isEmpty || decide (t ≤ s.now) then enterReset s 3 else s
  | none => s

/-- The device at a boundary before its values come into force, up to the job-level action and the start of a job (R39). -/
def beforeValues (s : State) (inp : TickInputs) : State :=
  let s := pairBoundary (takeDecision (readInputs (advanceTime s) inp))
  if tickWorks s.toBlocks then engineBoundary s inp else s

/-- The step of local time that the coming boundary makes (R53–R55, R529): the last committed time set whose boundary it is, if its
condition holds at the boundary, or a step toward the grandmaster, if no job runs from it. -/
def stepAtBoundary (s : State) (inp : TickInputs) : Option Nat :=
  let b := jobBoundary (beforeValues (s.updTime (fun t => { t with step := none })) inp)
  let due := dropReplaced b.now b.dict.pending
  let set := due.filter (fun w => w.index == 0x2000 && w.sub == 0x07 && decide (w.due ≤ b.now))
  let next := due.filter (fun w => w.index == 0x2000 && w.sub == 0x00 && decide (w.due ≤ b.now))
  let source := ((next.getLast?).map (fun w => valI w.val)).getD (b.objI 0x2000 0x00)
  match set.getLast? with
  | some w => if !b.jobRuns && source == 0 then some (valI w.val).toNat else none
  | none => if b.jobRuns then none else s.time.step

/-- The boundary of a tick (R39, R42). -/
def boundary (s : State) (inp : TickInputs) : State :=
  let s := s.updTime (fun t => { t with step := stepAtBoundary s inp })
  let s := beforeValues s inp
  dueReset (releases (jobAndValues s))

/-- The statistics snapshot of P4 (R65); a missed one leaves counters as they were (Table 2.4). -/
def sampleBlocks (s : State) : State := if s.time.staleSnapshot then s else { s with sampled := s.toBlocks }

/-- The device at a boundary, which reads return (R31, R65); after a missed snapshot Fill values stay, and `staleSnapshot` of what is read
marks them and the counters stale (Table 2.4). DESIGN CHOICE: assumption 17. DEDUCED: assumption 82. -/
def snapshotBlocks (s : State) : State :=
  let s := takeFills s
  let b := s.toBlocks
  let b := if s.time.staleSnapshot then { b with queues := s.seen.queues } else b
  { s with seen := b, time := { s.time with staleSnapshot := false } }

/-- Clock 3,000 (R46): delivery points and what the peer has sent for the tick, then missing words and frames, and what the nodes'
reports call for. DESIGN CHOICE: assumption 7. -/
def judgeArrivals (s : State) : State :=
  let s := fillMirrors (applyMeasure (deliverAll s))
  forI 64 (forI 32 (forI 96 s wordDeadline) nodeReports) missDeadline

/-- P2: servo engines, scan engines, mark ticks and stepper axes (R32, R194, R151, R282, R365). DEDUCED: assumption 60. -/
def phaseTwo (s : State) : State :=
  let before := s.toBlocks
  let s := scanTick (fun a => (getI before.axes a).e) (servoTick s)
  let s := checkAllStopped (markTicks before s)
  forI 8 s (fun s m => onStep s m (fun e ax => stepWork e ax (getI before.time.pins m)))

/-- P3: command frames and close commands of start-up; the layer decisions of CC3 (R33, R211, R287). -/
def phaseThree (s : State) : State := forI 64 (forI 96 (decideLayer s) startUpClose) slot1Frame

/-- P4: Layer Stream, validation, refill, CC3, completion and the pair (R37, R142, R271, R285). -/
def phaseFour (s : State) : State :=
  let s := validateDue false (releaseStream (s.host.session.buffer.length + 1) s)
  let s := readObservations (postObservations (feedMaps (takeBlocks (readMelt (refill s)))) (fun _ => true))
  let s := (stoppedMap (moveSteppers (checkComplete s))).updMeltState (forceHeat s.now false)
  let s := publishDue s
  (pairTick (streamAnswers s)).updWork (fun w => { w with measure := none })

/-- The boundary's ordered sets, then P0 (R32, R44, R299): subscriptions sampled, the slot 0 requests, and MEASURE with the delivery points of an active unit. -/
def startTick (s : State) : State :=
  if !tickWorks s.toBlocks then s
  else
    let s := forI 64 (sampleSubs (forI 64 s orderedSets) (List.range 64)) slot0Frame
    sendMeasure (if s.pair.st == .active then deliverAll s else s)

/-- The arrival cut-off of the tick with the phase work P2 to P4 that follows it, once in a tick (R32, R46); a tick that a step has
shortened has them all, at the clocks they have in any other tick (R54; DESIGN CHOICE, assumption 88). DESIGN CHOICE: assumption 7. -/
def finishTick (s : State) : State :=
  if s.time.cutoff || !s.time.running then s
  else
    let s := (s.atClock 3000).updTime (fun t => { t with cutoff := true })
    if !tickWorks s.toBlocks then readEvents (postEvents s)
    else phaseFour (readEvents (postEvents (phaseThree (phaseTwo (judgeArrivals s)))))

/-- What the tick that ends has left: its phase work, service frames, decision and wisp, pulses, grids, maps, the pair, patterns and the apply point.
Each acts only if no command has acted for it. DESIGN CHOICE: assumption 7. -/
def endTick (s : State) : State :=
  let s := finishTick s
  if !tickWorks s.toBlocks then bindPending s
  else
    let s := forI 20 (closeMaps (commitGrids (decisionPoint (forI 64 s slot2Frame)))) firePulse
    bindPending (fixPatterns (pairEnd s))

/-- A new tick: nothing has arrived in it, nothing is decided, and events that wait for the first tick after the one past stand with their
block (R71). DESIGN CHOICE: assumption 7. -/
def openTick (s : State) : State :=
  { s with
    time := { s.time with cutoff := false }
    faults := { s.faults with posted := s.faults.posted ++ s.faults.later, later := [], readNow := 0 }
    link := { s.link with ports := s.link.ports.map (fun x => { x with late := false }) }
    job := { s.job with decided := false }
    axes := s.axes.map (fun (ax : Axis) => { ax with fb := { ax.fb with received := false } }) }

/-- A tick boundary and P0 of its tick (R42); in test mode, in which no tick runs, the clocks of TCK since the last one (R524, R527); the message queues have drained, and the requests that waited for a response are served
(R29, R101). Nothing while the timebase does not run (R41). DESIGN CHOICE: assumption 7.
DESIGN CHOICE: assumption 11. -/
def tick (s : State) (inp : TickInputs) : State :=
  if s.start.testMode then clockTap { s with out := [] } inp.tap
  else if !s.time.running then s
  else
    let s := boundary (openTick (sampleBlocks (endTick { s with out := [] }))) inp
    if !s.time.running then s else startTick (sendPdelay (serveRequests (drainEgress (snapshotBlocks s))))

/-- A slot 1 frame rebuilt after an overrun in its tick: the frame that leaves carries what Table 2.4 puts into it.
DEDUCED: assumption 78. -/
def rebuildFrame (s : State) (p : Nat) : State :=
  let x := getI s.link.ports p
  if x.st != .up then s
  else
    let f := zlFrame s.toBlocks p (if p < 32 then 0x12 else 0x02) (zlSequence s.tickCount 1) (commandPayload s.toBlocks p)
    let s := s.updPort p (fun x => { x with frame1 := f })
    { s with out := s.out.map (fun o => if o == Output.zlFrame p x.frame1 then Output.zlFrame p f else o) }

/-- What a missed deadline does (R57, R59, Table 2.4; R354 in lockstep). DEDUCED: assumption 78. -/
def overrunAction (s : State) (m : Monitor) : State :=
  match m with
  | .se k =>
    let s := noteOverrun (overrunScan s k) k k (fun n => mkEvent (.se k) 0x0606 .stopJob .engine k (leBytes 4 n))
    localFault (takeDigest (forI 2 s (fun s i => rebuildFrame s (2 * k.val + i))))
  | .ve j =>
    let s := overrunGates (overrunAxes s j) j
    let s := noteOverrun s (16 + j.val) (16 + j.val) (fun n => mkEvent (.ve j) 0x0705 .stopJob .engine (16 + j.val) (leBytes 4 n))
    let s := forI 4 s (fun s i => rebuildFrame (rebuildFrame s (4 * j.val + i)) (32 + 4 * j.val + i))
    localFault (takeDigest s)
  | .zl p => overrunPort s p
  | .snapshot =>
    let s := noteOverrun s 88 25 (fun n => mkEvent (.core 0) (openCode 9) .warn .device 0 (leBytes 4 n))
    s.updTime (fun t => { t with staleSnapshot := true })

/-- A deadline missed in the present tick: every deadline lies behind the arrival cut-off, and the event of an engine or port enters Q63
in P3 of the tick (R34, R57). DEDUCED: assumption 78. -/
def overrun (s : State) (m : Monitor) : State :=
  let s := finishTick s
  if m == .snapshot then overrunAction s m
  else postInTick s.faults.posted (overrunAction { s with faults := { s.faults with posted := [] } } m)

/-- The stage that expected an uncorrectable word of the fabric or of tick-bound state, by the number that the command gives it (R20):
scan engines 0 to 15, servo engines 16 to 23, ZL ports 24 to 87; none for what has no deadline of its own. -/
def expects (item : Nat) : Option Monitor :=
  if h : item < 16 then some (.se ⟨item, h⟩)
  else if h : item - 16 < 8 then some (.ve ⟨item - 16, h⟩)
  else if h : item - 24 < 64 then some (.zl ⟨item - 24, h⟩)
  else none

/-- An uncorrectable word (R20, R470): one of the fabric or of tick-bound state has not arrived in time for the stage that expected it.
DESIGN CHOICE: assumption 61. -/
def uncorrectableWord (s : State) (location address region foundBy item : Nat) : State :=
  let s := noteUncorrectable s location address region foundBy item
  if (location = 3 || region = 1 || region = 2) && tickWorks s.toBlocks then
    match expects item with
    | some m => overrun s m
    | none => s
  else s

/-- UNCORRECTABLE_WORD (R470). -/
def execUncorrectableWord (location : Fin 4) (address region : Nat) (foundBy item : Nat) (s : State) :
    Host.Outcome State Fault Refusal := .next (uncorrectableWord s location address region foundBy item)

/-- TICK_BOUNDARY (R42). DESIGN CHOICE: assumption 7. DESIGN CHOICE: assumption 11. -/
def execTickBoundary (inp : TickInputs) (s : State) : Host.Outcome State Fault Refusal := .next (tick s inp)

/-- ARRIVAL_CUTOFF (R46): clock 3,000, and the phase work of the tick that follows it. DESIGN CHOICE: assumption 7. -/
def execArrivalCutoff (s : State) : Host.Outcome State Fault Refusal := .next (finishTick s)

/-- OVERRUN (R57). -/
def execOverrun (m : Monitor) (s : State) : Host.Outcome State Fault Refusal := .next (if tickWorks s.toBlocks then overrun s m else s)

end Sys2Proof.Machine
end

