-- ==== Sys2Proof/Machine/Dispatch.lean ====
section
/-! DEFINITION. One arm per command: its meaning, called once (rigid form). -/

namespace Sys2Proof.Machine

/-- The effect of a command on everything but the queue. -/
def exec (i : Instr) (s : State) : Host.Outcome State Fault Refusal :=
  match i with
  | .tickBoundary inp => Sys2Proof.Machine.execTickBoundary inp s
  | .arrivalCutoff => Sys2Proof.Machine.execArrivalCutoff s
  | .overrun m => Sys2Proof.Machine.execOverrun m s
  | .applyPoint => Sys2Proof.Machine.execApplyPoint s
  | .syncReceived port rxLocal gmTime => Sys2Proof.Machine.execSyncReceived port rxLocal gmTime s
  | .announceReceived a => Sys2Proof.Machine.execAnnounceReceived a s
  | .pdelayReqReceived port sequence => Sys2Proof.Machine.execPdelayReqReceived port sequence s
  | .syncReceiptTimeout => Sys2Proof.Machine.execSyncReceiptTimeout s
  | .holdoverLimitExpiry => Sys2Proof.Machine.execHoldoverLimitExpiry s
  | .localTimeSet value clk => Sys2Proof.Machine.execLocalTimeSet value clk s
  | .objectWrite index sub data clk => Sys2Proof.Machine.execObjectWrite index sub data clk s
  | .resetRequest value clk => Sys2Proof.Machine.execResetRequest value clk s
  | .ethernetFrameReceived f => Sys2Proof.Machine.execEthernetFrameReceived f s
  | .arpRequest port target sender senderMac => Sys2Proof.Machine.execArpRequest port target sender senderMac s
  | .arpCacheExpiry port addr => Sys2Proof.Machine.execArpCacheExpiry port addr s
  | .neighborSolicitation port target => Sys2Proof.Machine.execNeighborSolicitation port target s
  | .echoRequest port v6 dst dataLen => Sys2Proof.Machine.execEchoRequest port v6 dst dataLen s
  | .dhcpLeaseBound port addr maskLen gateway t1 t2 lease => Sys2Proof.Machine.execDhcpLeaseBound port addr maskLen gateway t1 t2 lease s
  | .dhcpRenew port => Sys2Proof.Machine.execDhcpRenew port s
  | .dhcpRebind port => Sys2Proof.Machine.execDhcpRebind port s
  | .dhcpLeaseExpiry port => Sys2Proof.Machine.execDhcpLeaseExpiry port s
  | .hostLinkDown port => Sys2Proof.Machine.execHostLinkDown port s
  | .read h items => Sys2Proof.Machine.execRead h items s
  | .write h items => Sys2Proof.Machine.execWrite h items s
  | .blockReadOpen h index sub => Sys2Proof.Machine.execBlockReadOpen h index sub s
  | .blockReadSegments h handle count first => Sys2Proof.Machine.execBlockReadSegments h handle count first s
  | .blockWriteOpen h index sub size crc => Sys2Proof.Machine.execBlockWriteOpen h index sub size crc s
  | .blockWriteSegment h handle segment data => Sys2Proof.Machine.execBlockWriteSegment h handle segment data s
  | .blockClose h handle => Sys2Proof.Machine.execBlockClose h handle s
  | .blockTransferTimeout handle => Sys2Proof.Machine.execBlockTransferTimeout handle s
  | .subscribe h index sub dest period => Sys2Proof.Machine.execSubscribe h index sub dest period s
  | .unsubscribe h id => Sys2Proof.Machine.execUnsubscribe h id s
  | .subscriptionSample id => Sys2Proof.Machine.execSubscriptionSample id s
  | .lsOpen h flags => Sys2Proof.Machine.execLsOpen h flags s
  | .lsData h payload => Sys2Proof.Machine.execLsData h payload s
  | .lsClose h => Sys2Proof.Machine.execLsClose h s
  | .creditPeriodic => Sys2Proof.Machine.execCreditPeriodic s
  | .nextHopTimeout dest => Sys2Proof.Machine.execNextHopTimeout dest s
  | .packageValidation => Sys2Proof.Machine.execPackageValidation s
  | .decisionPoint => Sys2Proof.Machine.execDecisionPoint s
  | .settleTimeout n => Sys2Proof.Machine.execSettleTimeout n s
  | .dwellEnd n => Sys2Proof.Machine.execDwellEnd n s
  | .throttleDwellEnd n => Sys2Proof.Machine.execThrottleDwellEnd n s
  | .hostLaserEnable n value clk => Sys2Proof.Machine.execHostLaserEnable n value clk s
  | .channelStop n clk => Sys2Proof.Machine.execChannelStop n clk s
  | .rejoin n clk => Sys2Proof.Machine.execRejoin n clk s
  | .axisClose a clk => Sys2Proof.Machine.execAxisClose a clk s
  | .axisOpen a clk => Sys2Proof.Machine.execAxisOpen a clk s
  | .axisClearFault a clk => Sys2Proof.Machine.execAxisClearFault a clk s
  | .startUpClose a => Sys2Proof.Machine.execStartUpClose a s
  | .captureComplete a => Sys2Proof.Machine.execCaptureComplete a s
  | .faultRampEnd a => Sys2Proof.Machine.execFaultRampEnd a s
  | .followingError a => Sys2Proof.Machine.execFollowingError a s
  | .currentSaturated a => Sys2Proof.Machine.execCurrentSaturated a s
  | .trustRestored a => Sys2Proof.Machine.execTrustRestored a s
  | .sensorResponse n h p => Sys2Proof.Machine.execSensorResponse n h p s
  | .clearAmplitudeMarks a value clk => Sys2Proof.Machine.execClearAmplitudeMarks a value clk s
  | .frameStart c vc h => Sys2Proof.Machine.execFrameStart c vc h s
  | .longPacket c vc h dataType payload crcOk => Sys2Proof.Machine.execLongPacket c vc h dataType payload crcOk s
  | .pipelineUnit c => Sys2Proof.Machine.execPipelineUnit c s
  | .frameEnd c vc h => Sys2Proof.Machine.execFrameEnd c vc h s
  | .frameTimeout k => Sys2Proof.Machine.execFrameTimeout k s
  | .missingFrame k => Sys2Proof.Machine.execMissingFrame k s
  | .triggerPulse c => Sys2Proof.Machine.execTriggerPulse c s
  | .manualTrigger c value clk => Sys2Proof.Machine.execManualTrigger c value clk s
  | .deliveryPoint k => Sys2Proof.Machine.execDeliveryPoint k s
  | .linkError c => Sys2Proof.Machine.execLinkError c s
  | .i2cRequest c data clk => Sys2Proof.Machine.execI2cRequest c data clk s
  | .i2cTransactionComplete c status readBytes => Sys2Proof.Machine.execI2cTransactionComplete c status readBytes s
  | .clockStretchTimeout c => Sys2Proof.Machine.execClockStretchTimeout c s
  | .streamingEnable c value clk => Sys2Proof.Machine.execStreamingEnable c value clk s
  | .initScriptEntryDone c status => Sys2Proof.Machine.execInitScriptEntryDone c status s
  | .snapshotArm k value clk => Sys2Proof.Machine.execSnapshotArm k value clk s
  | .layerImageStored k => Sys2Proof.Machine.execLayerImageStored k s
  | .signalLoss n => Sys2Proof.Machine.execSignalLoss n s
  | .cameraTermStarved n => Sys2Proof.Machine.execCameraTermStarved n s
  | .correctionAtLimit n => Sys2Proof.Machine.execCorrectionAtLimit n s
  | .heatGridUpdate => Sys2Proof.Machine.execHeatGridUpdate s
  | .qualityMapClose => Sys2Proof.Machine.execQualityMapClose s
  | .mapPlanesReplaced => Sys2Proof.Machine.execMapPlanesReplaced s
  | .observationRecord n => Sys2Proof.Machine.execObservationRecord n s
  | .fenSolve z => Sys2Proof.Machine.execFenSolve z s
  | .gridUpdateCommit => Sys2Proof.Machine.execGridUpdateCommit s
  | .laserStatus n h p => Sys2Proof.Machine.execLaserStatus n h p s
  | .enumerateResponse p h e => Sys2Proof.Machine.execEnumerateResponse p h e s
  | .echoResponse p h roundTrip turnaround => Sys2Proof.Machine.execEchoResponse p h roundTrip turnaround s
  | .configWriteResponse p h item status => Sys2Proof.Machine.execConfigWriteResponse p h item status s
  | .configReadResponse p h item status data => Sys2Proof.Machine.execConfigReadResponse p h item status data s
  | .serviceFrameTimeout p => Sys2Proof.Machine.execServiceFrameTimeout p s
  | .zlCredit p count => Sys2Proof.Machine.execZlCredit p count s
  | .creditStall p slot => Sys2Proof.Machine.execCreditStall p slot s
  | .ts2Received p echoed kind codeError => Sys2Proof.Machine.execTs2Received p echoed kind codeError s
  | .trainTimeout p => Sys2Proof.Machine.execTrainTimeout p s
  | .zlLinkDown p cause => Sys2Proof.Machine.execZlLinkDown p cause s
  | .downTimeout p => Sys2Proof.Machine.execDownTimeout p s
  | .portEnable p value clk => Sys2Proof.Machine.execPortEnable p value clk s
  | .portCommand p clk => Sys2Proof.Machine.execPortCommand p clk s
  | .nodeRequest p data clk => Sys2Proof.Machine.execNodeRequest p data clk s
  | .nodeGateRelease n => Sys2Proof.Machine.execNodeGateRelease n s
  | .nodeTs1Received p link idle => Sys2Proof.Machine.execNodeTs1Received p link idle s
  | .nodeTickReceived p link count complementOk arrival => Sys2Proof.Machine.execNodeTickReceived p link count complementOk arrival s
  | .nodeTickMissing p => Sys2Proof.Machine.execNodeTickMissing p s
  | .nodeFrameReceived p link f => Sys2Proof.Machine.execNodeFrameReceived p link f s
  | .nodeHoldDeadline p slot => Sys2Proof.Machine.execNodeHoldDeadline p slot s
  | .nodeServiceFrame p link f => Sys2Proof.Machine.execNodeServiceFrame p link f s
  | .nodeApplyCommand p => Sys2Proof.Machine.execNodeApplyCommand p s
  | .nodeCommandMissed p => Sys2Proof.Machine.execNodeCommandMissed p s
  | .nodeAuthorityLost p => Sys2Proof.Machine.execNodeAuthorityLost p s
  | .nodeGateReceived p link => Sys2Proof.Machine.execNodeGateReceived p link s
  | .hello m => Sys2Proof.Machine.execHello m s
  | .state valid values pending replay session packages => Sys2Proof.Machine.execState valid values pending replay session packages s
  | .lockstepEntry image => Sys2Proof.Machine.execLockstepEntry image s
  | .discoverTimeout => Sys2Proof.Machine.execDiscoverTimeout s
  | .wisp w => Sys2Proof.Machine.execWisp w s
  | .wispMissing => Sys2Proof.Machine.execWispMissing s
  | .mirror valid entries => Sys2Proof.Machine.execMirror valid entries s
  | .measure m => Sys2Proof.Machine.execMeasure m s
  | .peerWrite valid sequence items commitTime boundary response => Sys2Proof.Machine.execPeerWrite valid sequence items commitTime boundary response s
  | .ack valid type sequence => Sys2Proof.Machine.execAck valid type sequence s
  | .peerAckTimeout => Sys2Proof.Machine.execPeerAckTimeout s
  | .stream valid offset sequence data => Sys2Proof.Machine.execStream valid offset sequence data s
  | .heartbeatLoss => Sys2Proof.Machine.execHeartbeatLoss s
  | .peerAuthAcquire highNs highAtSample => Sys2Proof.Machine.execPeerAuthAcquire highNs highAtSample s
  | .handOver => Sys2Proof.Machine.execHandOver s
  | .pairCommand clk => Sys2Proof.Machine.execPairCommand clk s
  | .unitLocalFault => Sys2Proof.Machine.execUnitLocalFault s
  | .echoRule => Sys2Proof.Machine.execEchoRule s
  | .reversion => Sys2Proof.Machine.execReversion s
  | .healthRule => Sys2Proof.Machine.execHealthRule s
  | .lanternReport => Sys2Proof.Machine.execLanternReport s
  | .peerLinkDown => Sys2Proof.Machine.execPeerLinkDown s
  | .peerLinkUp => Sys2Proof.Machine.execPeerLinkUp s
  | .moveRequest m data clk => Sys2Proof.Machine.execMoveRequest m data clk s
  | .retarget m target clk => Sys2Proof.Machine.execRetarget m target clk s
  | .setPosition m value clk => Sys2Proof.Machine.execSetPosition m value clk s
  | .halt m clk => Sys2Proof.Machine.execHalt m clk s
  | .stop m clk => Sys2Proof.Machine.execStop m clk s
  | .home m clk => Sys2Proof.Machine.execHome m clk s
  | .stepperClearFault m clk => Sys2Proof.Machine.execStepperClearFault m clk s
  | .moveStart m => Sys2Proof.Machine.execMoveStart m s
  | .moveEnd m => Sys2Proof.Machine.execMoveEnd m s
  | .moveDwellEnd m => Sys2Proof.Machine.execMoveDwellEnd m s
  | .stableEdge m sw => Sys2Proof.Machine.execStableEdge m sw s
  | .stall m => Sys2Proof.Machine.execStall m s
  | .homingPhaseEnd m => Sys2Proof.Machine.execHomingPhaseEnd m s
  | .homingFailed m => Sys2Proof.Machine.execHomingFailed m s
  | .standstillDelay m => Sys2Proof.Machine.execStandstillDelay m s
  | .patternFix => Sys2Proof.Machine.execPatternFix s
  | .openDetected l window current => Sys2Proof.Machine.execOpenDetected l window current s
  | .locateTest l current => Sys2Proof.Machine.execLocateTest l current s
  | .probe l current voltage => Sys2Proof.Machine.execProbe l current voltage s
  | .probeNotPlaced l => Sys2Proof.Machine.execProbeNotPlaced l s
  | .stringEnable l value clk => Sys2Proof.Machine.execStringEnable l value clk s
  | .clearFailedLamps l value clk => Sys2Proof.Machine.execClearFailedLamps l value clk s
  | .mapBlockCompress mismatches => Sys2Proof.Machine.execMapBlockCompress mismatches s
  | .rleStart clk => Sys2Proof.Machine.execRleStart clk s
  | .rleResume clk => Sys2Proof.Machine.execRleResume clk s
  | .rleUnload clk => Sys2Proof.Machine.execRleUnload clk s
  | .rleBlock mismatches uncorrectable => Sys2Proof.Machine.execRleBlock mismatches uncorrectable s
  | .temperatureSlot k m die => Sys2Proof.Machine.execTemperatureSlot k m die s
  | .scanPublish => Sys2Proof.Machine.execScanPublish s
  | .dieWarning => Sys2Proof.Machine.execDieWarning s
  | .dieShutdown => Sys2Proof.Machine.execDieShutdown s
  | .railOutsideWindow rail => Sys2Proof.Machine.execRailOutsideWindow rail s
  | .railFaultPersists => Sys2Proof.Machine.execRailFaultPersists s
  | .vinWarning => Sys2Proof.Machine.execVinWarning s
  | .vaux33Loss => Sys2Proof.Machine.execVaux33Loss s
  | .powerSequenceStep => Sys2Proof.Machine.execPowerSequenceStep s
  | .powerSequenceStepTimeout rail => Sys2Proof.Machine.execPowerSequenceStepTimeout rail s
  | .powerSequenceRetry => Sys2Proof.Machine.execPowerSequenceRetry s
  | .pfNAsserted => Sys2Proof.Machine.execPfNAsserted s
  | .holdUpExpiry => Sys2Proof.Machine.execHoldUpExpiry s
  | .pfNRelease => Sys2Proof.Machine.execPfNRelease s
  | .lpermitNNegated => Sys2Proof.Machine.execLpermitNNegated s
  | .permitRestored => Sys2Proof.Machine.execPermitRestored s
  | .switchOff k clk => Sys2Proof.Machine.execSwitchOff k clk s
  | .switchOn k clk => Sys2Proof.Machine.execSwitchOn k clk s
  | .resetTrip k clk => Sys2Proof.Machine.execResetTrip k clk s
  | .powerGood k => Sys2Proof.Machine.execPowerGood k s
  | .softStartTimeout k => Sys2Proof.Machine.execSoftStartTimeout k s
  | .loadSwitchTrip k twice => Sys2Proof.Machine.execLoadSwitchTrip k twice s
  | .retryDelayExpiry k => Sys2Proof.Machine.execRetryDelayExpiry k s
  | .startUpGroup => Sys2Proof.Machine.execStartUpGroup s
  | .calibrationCommand j value clk => Sys2Proof.Machine.execCalibrationCommand j value clk s
  | .calibrationCommit j sum0 sumF => Sys2Proof.Machine.execCalibrationCommit j sum0 sumF s
  | .calibrationComplete j sum0 sumF => Sys2Proof.Machine.execCalibrationComplete j sum0 sumF s
  | .ddrTraining ch ok => Sys2Proof.Machine.execDdrTraining ch ok s
  | .backgroundInitComplete ch => Sys2Proof.Machine.execBackgroundInitComplete ch s
  | .scrub target address region word => Sys2Proof.Machine.execScrub target address region word s
  | .uncorrectableWord location address region foundBy item => Sys2Proof.Machine.execUncorrectableWord location address region foundBy item s
  | .errorInjection value clk => Sys2Proof.Machine.execErrorInjection value clk s
  | .imageUpload image crc clk => Sys2Proof.Machine.execImageUpload image crc clk s
  | .imageProgramComplete verified => Sys2Proof.Machine.execImageProgramComplete verified s
  | .activate value clk => Sys2Proof.Machine.execActivate value clk s
  | .save clk => Sys2Proof.Machine.execSave clk s
  | .saveComplete => Sys2Proof.Machine.execSaveComplete s
  | .clearObjectsAndTables clk => Sys2Proof.Machine.execClearObjectsAndTables clk s
  | .clearAll clk => Sys2Proof.Machine.execClearAll clk s
  | .flashOperationFailed => Sys2Proof.Machine.execFlashOperationFailed s
  | .powerOn strap => Sys2Proof.Machine.execPowerOn strap s
  | .resetN => Sys2Proof.Machine.execResetN s
  | .watchdogExpiry core => Sys2Proof.Machine.execWatchdogExpiry core s
  | .startupPhaseComplete r => Sys2Proof.Machine.execStartupPhaseComplete r s
  | .startupPhaseMaximum => Sys2Proof.Machine.execStartupPhaseMaximum s
  | .stoppingComplete => Sys2Proof.Machine.execStoppingComplete s
  | .acknowledge value clk => Sys2Proof.Machine.execAcknowledge value clk s
  | .ringWrite => Sys2Proof.Machine.execRingWrite s
  | .clearRing clk => Sys2Proof.Machine.execClearRing clk s
  | .testEnRise => Sys2Proof.Machine.execTestEnRise s
  | .testEnFall => Sys2Proof.Machine.execTestEnFall s
  | .pdelayRespReceived port t1 t2 t3 t4 => Sys2Proof.Machine.execPdelayRespReceived port t1 t2 t3 t4 s
  | .hostLinkUp port => Sys2Proof.Machine.execHostLinkUp port s
  | .nodeLinkUntrained p link => Sys2Proof.Machine.execNodeLinkUntrained p link s
  | .nodeLinkNotLive p link => Sys2Proof.Machine.execNodeLinkNotLive p link s
  | .peerAuthNFault => Sys2Proof.Machine.execPeerAuthNFault s
  | .dieShutdownRelease => Sys2Proof.Machine.execDieShutdownRelease s
  | .powerDownEnd => Sys2Proof.Machine.execPowerDownEnd s
  | .pllOutOfLock => Sys2Proof.Machine.execPllOutOfLock s

end Sys2Proof.Machine
end

