-- ==== Sys2Proof/Machine/Step.lean ====
section
/-! DEFINITION. One step of the block: the command at the front of the queue, carried out on the state with the queue's rest. -/

namespace Sys2Proof.Machine

/-- The state with the queue replaced. -/
def State.withPending (s : State) (q : List Instr) : State := { s with pending := q }

/-- Takes the command at the front of the queue; an empty queue idles (DESIGN CHOICE, assumption 1). DESIGN CHOICE: assumption 86. -/
def step (s : State) : Host.Outcome State Fault Refusal :=
  match s.pending with
  | [] => .next s
  | c :: rest => exec c (s.withPending rest)

/-- The state with the command that a table word spells put at the front of its queue. DESIGN CHOICE: assumption 86. -/
def State.withFetchWord (s : State) (nbits w : Nat) : State :=
  match decodeTableWord nbits w with
  | some c => s.withPending (c :: s.pending)
  | none => s

end Sys2Proof.Machine
end

