-- ==== Sys2Proof/Safety.lean ====
section
/-! DEFINITION. The terms in which statements speak of states: what a state holds by parts, agreement of two states on every part
but those named, the canonical form of the object dictionary, and laser commands that emit nothing. -/

namespace Sys2Proof.Machine

/-- The parts of a state: one per block of the device, the tick count and the object values in force apart from the rest of their
blocks, and the model's own snapshot, free-value counter, outputs and queue. -/
inductive Part
  | ticks | time | start | faults | values | dict | pins | queues | host | job | scan | axes | cams | melt | reg | link | pair | work
  | steps | light | temp | power | analog | mem | flash | seen | freeCtr | out | pending
deriving DecidableEq, Repr

/-- A state with the parts of `ps` blanked. -/
def State.hide (ps : List Part) (s : State) : State :=
  { time := { (if .time ∈ ps then default else s.time) with ticks := if .ticks ∈ ps then 0 else s.time.ticks }
    start := if .start ∈ ps then default else s.start
    faults := if .faults ∈ ps then default else s.faults
    dict := { (if .dict ∈ ps then default else s.dict) with vals := if .values ∈ ps then [] else s.dict.vals }
    pins := if .pins ∈ ps then pinReset else s.pins
    queues := if .queues ∈ ps then Vector.replicate 64 default else s.queues
    host := if .host ∈ ps then hostReset else s.host
    job := if .job ∈ ps then jobReset else s.job
    scan := if .scan ∈ ps then { chans := Vector.replicate 32 chanReset, bufs := [], grants := [] } else s.scan
    axes := if .axes ∈ ps then Vector.replicate 96 axisReset else s.axes
    cams := if .cams ∈ ps then
        { ports := Vector.replicate 20 camPortReset, ctxs := Vector.replicate 128 imageReset, turn := 0, posted := [] } else s.cams
    melt := if .melt ∈ ps then meltReset else s.melt
    reg := if .reg ∈ ps then regReset else s.reg
    link := if .link ∈ ps then linkReset (Vector.replicate 64 nodeReset) else s.link
    pair := if .pair ∈ ps then pairReset 0 else s.pair
    work := if .work ∈ ps then default else s.work
    steps := if .steps ∈ ps then Vector.replicate 8 stepReset else s.steps
    light := if .light ∈ ps then { (default : LightState) with strings := Vector.replicate 16 ledReset } else s.light
    temp := if .temp ∈ ps then { (default : TempState) with inputs := Vector.replicate 48 tempInputReset } else s.temp
    power := if .power ∈ ps then powerReset 0 else s.power
    analog := if .analog ∈ ps then default else s.analog
    mem := if .mem ∈ ps then memReset else s.mem
    flash := if .flash ∈ ps then flashBlank else s.flash
    seen := if .seen ∈ ps then blocksReset 0 0 0 flashBlank (Vector.replicate 64 nodeReset) else s.seen
    sampled := if .seen ∈ ps then blocksReset 0 0 0 flashBlank (Vector.replicate 64 nodeReset) else s.sampled
    freeCtr := if .freeCtr ∈ ps then 0 else s.freeCtr
    out := if .out ∈ ps then [] else s.out
    pending := if .pending ∈ ps then [] else s.pending }

/-- Two states agree on every part but those of `ps`. -/
def sameBut (ps : List Part) (s t : State) : Prop := t.hide ps = s.hide ps

/-- In state s the command c answers a next state that satisfies q and agrees with s on every part but those of ps. -/
def Does (c : Instr) (s : State) (ps : List Part) (q : State → Prop) : Prop :=
  ∃ t, exec c s = .next t ∧ sameBut ps s t ∧ q t

/-- In state s the command c answers a next state that satisfies q and agrees with b, the state on which the command does its own work,
on every part but those of ps. -/
def DoesFrom (c : Instr) (s b : State) (ps : List Part) (q : State → Prop) : Prop :=
  ∃ t, exec c s = .next t ∧ sameBut ps b t ∧ q t

/-- In state s the command c changes nothing. -/
def Idles (c : Instr) (s : State) : Prop := exec c s = .next s

/-- The fault manager of s with the events es posted, each stamped with the tick (R34, R501). -/
def posts (s : State) (es : List Event) : FaultState :=
  { s.faults with posted := s.faults.posted ++ es.map (fun e => { e with tick := s.tickCount }) }

/-- The engine clock reached in the tick once a command with a clock operand has come. -/
def reached (s : State) (clk : Nat) : Nat := if s.time.clock < clk then clk else s.time.clock

/-- A write of one object at a clock of the tick is accepted: the host is served, and no check of R69 fails. -/
def Accepted (s : State) (index sub : Nat) (data : Bytes) (clk : Nat) : Prop :=
  served s.toBlocks = true ∧ groupCode (s.atClock clk).toBlocks (isTableObj index sub) [(index, sub, data)] = none

/-- The pending write that a commit at a clock of the tick makes: before clock 9,000 its immediate boundary is the next one, from there on
the one after (R73). -/
def committed (s : State) (index sub : Nat) (apply : Apply) (v : Val) (clk : Nat) : PendingWrite :=
  { index, sub, val := v, apply, due := s.now + (if reached s clk < 9000 then 1 else 2)
    commitTime := (s.time.boundary + reached s clk) % 2 ^ 64, tickBound := false, staged := false, mark := s.faults.created }

/-- In state s the command c commits one value to an object: the value waits in the pending store under its apply class, one commit is
counted at its local time, and nothing else changes but the record of bad objects and, at an active unit, the group's forwarding. -/
def Commits (c : Instr) (s : State) (index sub : Nat) (apply : Apply) (v : Val) (clk : Nat) : Prop :=
  Does c s [.time, .dict, .mem, .pair, .out] (fun t =>
    t.time = { s.time with clock := reached s clk } ∧
    t.dict = { s.dict with
      pending := putPending s.now s.dict.pending (committed s index sub apply v clk)
      commits := (s.dict.commits + 1) % 2 ^ 32
      lastCommit := (s.time.boundary + reached s clk) % 2 ^ 64 } ∧
    (s.pair.st ≠ .active → t.pair = s.pair ∧ t.out = s.out))

/-- A GDP request reaches its service at once: it is heard, let through and placed, none of the checks of R95 fails, no response to it is
held, no request stands before it and no write group waits for its ACK (R91, R94–R96, R101, R102). -/
def Heard (s : State) (h : GdpHead) (min : Nat) (zero : Bool) : Prop :=
  hears s.toBlocks h.port h.src = true ∧ filterPasses s.toBlocks h.src = true ∧
  (getI s.host.ports h.port).otherFill + h.udpLen ≤ 32768 ∧ roomIn s.toBlocks (requestQueue h.port) h.udpLen = true ∧ 8 ≤ h.udpLen ∧
  prefixCode h.version h.length h.udpLen true min (zero && h.reserved == 0 && h.status == 0 && h.position == 0xFFFF) = 0 ∧
  heldResponses s.toBlocks h = [] ∧ getI s.host.requests 0 = [] ∧ getI s.host.requests 1 = [] ∧ writeWaits s.toBlocks = false

/-- The state in which a request that is heard is served: counted, the clock reached, the message placed, and the other port next. -/
def arrived (s : State) (h : GdpHead) : State :=
  ((placeOther ((countReceived s h.port).atClock h.clk) h.port h.udpLen).1.fillQueue (requestQueue h.port) h.udpLen).updHost
    (fun x => { x with turn := 1 - h.port })

/-- A message of `len` bytes from a queue leaves its port at once: the port can send to that family, the link address of the next hop is
known, nothing waits for space in the queue, and the message has space (R28, R29, R88, R115). -/
def Sendable (s : Blocks) (queue : Nat) (port : Fin 2) (dst : Src) (len : Nat) : Prop :=
  portReady s port = true ∧ familyInUse s port dst.v6 = true ∧ resolved s port (nextHop s port dst.v6 dst.addr) = true ∧
  (∀ e ∈ s.host.egress, e.queue = queue → e.hop.isSome = true) ∧ roomIn s queue len = true

/-- A response of `len` bytes to a request leaves at once (Table 1.4: Q49 and Q53). -/
def Answerable (s : State) (h : GdpHead) (len : Nat) : Prop := Sendable s.toBlocks (if h.port = 0 then 49 else 53) h.port h.src len

/-- The frame of the response to a request (R90, R98, Tables 4.2, 4.3). -/
def answerFrame (s : State) (h : GdpHead) (type status position : Nat) (body : Bytes) : Output :=
  .frame h.port (vlanTag s.toBlocks h.port) (.udp 47410 h.src (gdpBytes (response h type status position body)))

/-- A Layer Stream message reaches its own checks (R91, R95, R96). -/
def StreamHeard (s : State) (h : LsHead) (min : Nat) (zero : Bool) : Prop :=
  hears s.toBlocks h.port h.src = true ∧ filterPasses s.toBlocks h.src = true ∧ 8 ≤ h.udpLen ∧
  prefixCode h.version h.length h.udpLen true min (zero && h.status == 0) = 0

/-- Keys that rise strictly: each key stands once, in order. -/
def Rising {α : Type} (l : List (Nat × α)) : Prop := l.Pairwise (fun x y => x.1 < y.1)

/-- The canonical form of the dictionary: the values in force stand by rising key, none of them equal to its object's Default, and
the stored BOOT values by rising key. -/
def DictState.wf (d : DictState) : Prop :=
  Rising d.vals ∧ (∀ e ∈ d.vals, e.2 ≠ defaultVal (e.1 / 256) (e.1 % 256)) ∧ Rising d.boot

/-- A laser command that emits nothing: start power 0 and no events (R155). -/
def LaserCommand.dark (k : LaserCommand) : Bool := k.start == 0 && k.events.isEmpty

/-- Every part but the queue of waiting commands. -/
def everything : List Part :=
  [.ticks, .time, .start, .faults, .values, .dict, .pins, .queues, .host, .job, .scan, .axes, .cams, .melt, .reg, .link, .pair, .work, .steps,
    .light, .temp, .power, .analog, .mem, .flash, .seen, .freeCtr, .out]

/-- t is the device of s put into reset with a cause: every object at its Default, nothing running, and what outlives a reset kept; an upload that it breaks off spoils its slot (R483, R489). -/
def InReset (s : State) (cause : Nat) (t : State) : Prop :=
  t.start.inReset = true ∧ t.start.cause = cause ∧ t.time.running = false ∧ t.time.ticks = 0 ∧ t.dict.vals = [] ∧ t.dict.pending = [] ∧
  t.job.dev = .startUp ∧ t.job.store = [] ∧ t.host.session.id = 0 ∧ t.flash.sections = s.flash.sections ∧
  t.flash.append = s.flash.append ∧ t.flash.op = .none ∧ t.flash.ring = s.flash.ring ∧ t.link.nodes = s.link.nodes ∧
  ((∀ slot image, s.flash.op ≠ .upload slot image) → t.flash.slots = s.flash.slots ∧ t.freeCtr = s.freeCtr)

/-- The commands during which object values come into force (R73, R74), and those that start the device again. -/
def setsValues (c : Instr) : Bool :=
  match c with
  | .tickBoundary _ => true
  | .frameStart _ _ _ => true
  | .lockstepEntry _ => true
  | .startupPhaseComplete _ => true
  | .powerSequenceStep => true
  | .dieShutdown => true
  | .railOutsideWindow _ => true
  | .railFaultPersists => true
  | .vaux33Loss => true
  | .holdUpExpiry => true
  | .powerOn _ => true
  | .resetN => true
  | .watchdogExpiry _ => true
  | .testEnRise => true
  | .testEnFall => true
  | _ => false

/-- The commands that count ticks or start the count again. -/
def movesTicks (c : Instr) : Bool :=
  match c with
  | .tickBoundary _ => true
  | .powerSequenceStep => true
  | .dieShutdown => true
  | .railOutsideWindow _ => true
  | .railFaultPersists => true
  | .vaux33Loss => true
  | .holdUpExpiry => true
  | .powerOn _ => true
  | .resetN => true
  | .watchdogExpiry _ => true
  | .testEnRise => true
  | .testEnFall => true
  | _ => false

/-- A step that neither faults nor is refused. -/
def Completes (s : State) : Prop := ∃ t, step s = .next t

end Sys2Proof.Machine
end

