-- ==== Sys2Proof/Certificates/Slice0/Obligations.lean ====
section
/-! DEFINITION. The statements for the provers: what the step does, what each command does where it completes, what it leaves as it was,
and what holds of every state a step reaches. -/

open Sys2Proof Sys2Proof.Machine

/-! The machine -/

/-- A step takes the command at the front of the queue and carries it out on the state with the queue's rest. -/
def Obligations.StepRunsTheFrontCommand : Prop :=
  ∀ (c : Instr) (q : List Instr) (s : State), step (s.withPending (c :: q)) = exec c (s.withPending q)

/-- A step on an empty queue changes nothing (DESIGN CHOICE, assumption 1). -/
def Obligations.EmptyQueueIdles : Prop := ∀ s : State, s.pending = [] → step s = .next s

/-- Every command answers a next state: no event of the device stops the machine (R34). -/
def Obligations.EveryStepCompletes : Prop := ∀ s : State, Completes s

/-- No command drops, adds or reorders waiting commands. -/
def Obligations.CommandsLeaveTheQueueAlone : Prop :=
  ∀ (c : Instr) (s t : State), exec c s = .next t → t.pending = s.pending

/-- Values in force change only at tick boundaries, at a Frame Start for the values of frames, at the lockstep entry, at the end of a
start-up phase and in a reset: every other command leaves all of them as they are (R65, R73, R74). -/
def Obligations.ValuesChangeOnlyAtTheirMoments : Prop :=
  ∀ (c : Instr) (s t : State), setsValues c = false → exec c s = .next t → t.dict.vals = s.dict.vals

/-- Ticks are counted by tick boundaries alone, and start again in a reset: an overrun and every other command leave the count (R42, R60).
The model's choices in it: assumption 7. -/
def Obligations.OnlyBoundariesCountTicks : Prop :=
  ∀ (c : Instr) (s t : State), movesTicks c = false → exec c s = .next t → t.time.ticks = s.time.ticks

/-- The dictionary's canonical form outlives every step. -/
def Obligations.StepsKeepTheDictionaryCanonical : Prop :=
  ∀ s t : State, s.dict.wf → step s = .next t → t.dict.wf

/-- The dictionary is in canonical form at reset. -/
def Obligations.DictionaryIsCanonicalAtReset : Prop := State.reset.dict.wf

/-! Ticks and the timebase (chapter 2) -/

/-- A tick boundary counts one tick and takes local time to the next multiple of 10,000, which is 0 once local time wraps, or to the step
that the boundary makes (R41, R42, R54), unless a reset asked for has come due in it (R490); in test mode it clocks the test port (R527).
An arrival cut-off happens once in a tick. A missed deadline counts once, and darkens its channels, after the phase work of its tick (R57).
The apply point binds every committed value whose boundary is the next one (R73). The model's choices in it: assumptions 7, 11, 78, 88. -/
def Obligations.TickCommandsComplete : Prop :=
  (∀ (s : State) (inp : TickInputs), s.start.testMode = false → s.time.running = true →
    ∃ t, exec (.tickBoundary inp) s = .next t ∧
      (t.start.inReset = true ∨
        t.time.ticks = s.time.ticks + 1 ∧ t.time.running = true ∧
        match stepAtBoundary (openTick (sampleBlocks (endTick { s with out := [] }))) inp with
        | some x => t.time.boundary = x % 2 ^ 64
        | none => t.time.boundary =
            if (s.time.boundary / 10000 + 1) * 10000 < 2 ^ 64 then (s.time.boundary / 10000 + 1) * 10000 else 0)) ∧
  (∀ (s : State) (inp : TickInputs), s.start.testMode = true → s.pins.jtagEnabled = true →
    Does (.tickBoundary inp) s [.pins, .out] (fun t =>
      t.pins = { s.pins with tap := (tapClocks s.pins.tap inp.tap).1 } ∧
      t.out = if (tapClocks s.pins.tap inp.tap).2.isEmpty then [] else [.tdo (tapClocks s.pins.tap inp.tap).2])) ∧
  (∀ s : State, s.time.running = true → s.time.cutoff = false →
    Does .arrivalCutoff s [.time, .faults, .dict, .queues, .host, .job, .scan, .axes, .cams, .melt, .reg, .link, .pair, .work, .steps, .light,
      .temp, .analog, .out] (fun t => t.time.cutoff = true ∧ 3000 ≤ t.time.clock)) ∧
  (∀ s : State, s.time.cutoff = true → finishTick s = s) ∧
  (∀ (s : State) (k : Fin 16), tickWorks s.toBlocks = true →
    DoesFrom (.overrun (.se k)) s (finishTick s) [.time, .faults, .queues, .host, .scan, .melt, .link, .pair, .work, .out] (fun t =>
      getI t.time.overruns k = inc32 (getI (finishTick s).time.overruns k) ∧
      ∀ i < 2, (getI t.scan.chans (2 * k + i)).gates.overrun = true ∧ (getI t.scan.chans (2 * k + i)).cmdNext.dark = true)) ∧
  (∀ (s : State) (j : Fin 8), tickWorks s.toBlocks = true →
    DoesFrom (.overrun (.ve j)) s (finishTick s) [.time, .faults, .queues, .host, .scan, .axes, .melt, .link, .pair, .work, .out] (fun t =>
      getI t.time.overruns (16 + j) = inc32 (getI (finishTick s).time.overruns (16 + j)) ∧
      (∀ i < 4, (getI t.scan.chans (4 * j + i)).gates.overrun = true ∧ (getI t.scan.chans (4 * j + i)).cmdNext.dark = true) ∧
      ∀ i < 12, (getI t.axes (12 * j + i)).overrun = true ∧ (getI t.axes (12 * j + i)).latched ≠ 0)) ∧
  (∀ (s : State) (p : Fin 64), tickWorks s.toBlocks = true →
    DoesFrom (.overrun (.zl p)) s (finishTick s) [.time, .faults, .queues, .host, .link, .work, .out] (fun t =>
      getI t.time.overruns 24 = inc32 (getI (finishTick s).time.overruns 24) ∧ (getI t.link.ports p).late = true)) ∧
  (∀ s : State, tickWorks s.toBlocks = true →
    DoesFrom (.overrun .snapshot) s (finishTick s) [.time, .faults] (fun t =>
      getI t.time.overruns 25 = inc32 (getI (finishTick s).time.overruns 25) ∧ t.time.staleSnapshot = true)) ∧
  (∀ s : State, Does .applyPoint s [.time, .dict] (fun t =>
    t.time = { s.time with clock := reached s 9000 } ∧
    t.dict = { s.dict with pending := s.dict.pending.map (fun w => if w.due ≤ s.now + 1 then { w with tickBound := true } else w) }))

/-- Table 2.3 (R52): a Sync on the slave port takes FREE and HOLDOVER to ACQUIRE, ACQUIRE to LOCKED at the sixteenth offset in a row inside
the lock window, and LOCKED to ACQUIRE at the fourth in a row beyond four windows; without Syncs LOCKED goes to HOLDOVER and ACQUIRE to
FREE, and at the holdover limit HOLDOVER to FREE. The model's choices in it: assumptions 4, 5. -/
def Obligations.TimebaseStatesFollowTable23 : Prop :=
  (∀ (s : State) (port : Fin 2) (rx gm : Nat), gptpOn s.toBlocks port = true → s.time.slave = some port →
    Does (.syncReceived port rx gm) s [.time, .faults, .host, .freeCtr] (fun t =>
      let off : Int := (rx : Int) - ((gm + getI s.time.linkDelay port : Nat) : Int)
      let w := s.objN 0x2000 0x05
      t.time.offset = off ∧ t.time.syncTick = s.time.ticks ∧ t.time.ticks = s.time.ticks ∧
      (s.time.tb = .free → t.time.tb = .acquire ∧ t.faults = s.faults) ∧
      (s.time.tb = .holdover → t.time.tb = .acquire ∧ t.faults = posts s [timeEvent 3 .note []]) ∧
      (s.time.tb = .acquire → off.natAbs ≤ w → 15 ≤ s.time.inWindow → t.time.tb = .locked ∧ t.faults = posts s [timeEvent 0 .note []]) ∧
      (s.time.tb = .acquire → off.natAbs ≤ w → s.time.inWindow < 15 → t.time.tb = .acquire ∧ t.time.inWindow = s.time.inWindow + 1) ∧
      (s.time.tb = .acquire → w < off.natAbs → t.time.tb = .acquire ∧ t.time.inWindow = 0) ∧
      (s.time.tb = .locked → 4 * w < off.natAbs → 3 ≤ s.time.outWindow →
        t.time.tb = .acquire ∧ t.faults = posts s [timeEvent 1 .warn []]) ∧
      (s.time.tb = .locked → off.natAbs ≤ 4 * w → t.time.tb = .locked ∧ t.time.outWindow = 0))) ∧
  (∀ (s : State) (p : Fin 2), s.time.slave = some p → s.time.syncTick + 37500 ≤ s.now →
    Does .syncReceiptTimeout s [.time, .faults] (fun t =>
      getI t.time.announces p = none ∧
      (s.time.tb = .locked → t.time.tb = .holdover ∧ t.time.holdoverStart = s.time.ticks ∧ t.faults = posts s [timeEvent 2 .warn []]) ∧
      (s.time.tb = .acquire → t.time.tb = .free ∧ t.faults = s.faults))) ∧
  (∀ s : State, s.time.tb = .holdover → s.objN 0x2000 0x03 ≠ 0 → s.time.holdoverStart + s.objN 0x2000 0x03 ≤ s.now →
    Does .holdoverLimitExpiry s [.time, .faults] (fun t =>
      t.time = { s.time with tb := .free } ∧ t.faults = posts s [timeEvent 4 .warn []]))

/-- 802.1AS messages on a port where it is enabled (R50): an Announce of the domain is held and the slave port chosen again, a Pdelay_Req
is answered, a Pdelay_Resp gives the mean link delay. The model's choices in it: assumption 5. -/
def Obligations.GptpMessagesComplete : Prop :=
  (∀ (s : State) (a : Announce), gptpOn s.toBlocks a.port = true → a.domain = s.objN 0x2000 0x02 →
      (getI s.host.ports a.port).linkUp = true → a.stepsRemoved < 255 →
    Does (.announceReceived a) s [.time, .host] (fun t =>
      getI t.time.announces a.port = some a ∧ t.time.slave.isSome = true ∧ t.time.tb = s.time.tb ∧
      ∀ p, p ≠ a.port.val → getI t.time.announces p = getI s.time.announces p)) ∧
  (∀ (s : State) (port : Fin 2) (sequence : Nat), gptpOn s.toBlocks port = true →
    Does (.pdelayReqReceived port sequence) s [.host, .out] (fun t =>
      t.out = s.out ++ [.pdelayResponse port sequence, .pdelayFollowUp port sequence] ∧
      (getI t.host.ports port).sent = ((getI s.host.ports port).sent + 2) % 2 ^ 32)) ∧
  (∀ (s : State) (port : Fin 2) (t1 t2 t3 t4 : Nat), gptpOn s.toBlocks port = true →
    Does (.pdelayRespReceived port t1 t2 t3 t4) s [.time, .host] (fun t =>
      getI t.time.linkDelay port = ((t4 - t1) - (t3 - t2)) / 2 ∧
      ∀ p, p ≠ port.val → getI t.time.linkDelay p = getI s.time.linkDelay p))

/-! Writes of objects (chapter 3) -/

/-- A write that passes every check is committed whole: a value of a BOOT object is stored for the next reset, every other one waits for
its moment of effect. A write that fails a check changes no object, no pending value and no counter except the rejected-write count
(R69). The model's choices in it: assumption 23. -/
def Obligations.ObjectWritesAreAllOrNothing : Prop :=
  (∀ (s : State) (index sub : Nat) (data : Bytes) (clk : Nat), Accepted s index sub data clk → isBoot index sub = false →
    Commits (.objectWrite index sub data clk) s index sub (applyOf index sub) (writeVal (index, sub, data)).2.2 clk) ∧
  (∀ (s : State) (index sub : Nat) (data : Bytes) (clk : Nat), Accepted s index sub data clk → isBoot index sub = true →
    Does (.objectWrite index sub data clk) s [.time, .dict, .mem, .flash, .pair, .out] (fun t =>
      t.dict = { s.dict with
        boot := putKey (objKey index sub) (writeVal (index, sub, data)).2.2 s.dict.boot
        commits := (s.dict.commits + 1) % 2 ^ 32, lastCommit := (s.time.boundary + reached s clk) % 2 ^ 64 } ∧
      t.flash = { s.flash with append := s.flash.append ++ [some (objKey index sub, (writeVal (index, sub, data)).2.2)] } ∧
      (s.pair.st ≠ .active → t.pair = s.pair ∧ ∃ a, t.out = s.out ++ [.flashWrite a (appendSlotBytes index sub (writeVal (index, sub, data)).2.2)]))) ∧
  (∀ (s : State) (index sub : Nat) (data : Bytes) (clk : Nat), served s.toBlocks = true →
    groupCode (s.atClock clk).toBlocks (isTableObj index sub) [(index, sub, data)] ≠ none →
    Does (.objectWrite index sub data clk) s [.time, .dict] (fun t =>
      t.time = { s.time with clock := reached s clk } ∧ t.dict = { s.dict with rejected := satU 32 (s.dict.rejected + 1) }))

/-- The commands of the device as a whole are committed to their objects with their values (Tables 2.5, 3.6, 13.9, 19.10, 19.11, 20.8):
local time, reset, hand-over, error injection, image upload and activation, save and clears, acknowledgement and the ring. An image whose
check value is not the one stated is one rejected write (R104). The model's choices in it: assumptions 23, 25, 51. -/
def Obligations.DeviceCommandsCommit : Prop :=
  (∀ (s : State) (v clk : Nat), v < 2 ^ 64 → Accepted s 0x2000 0x07 (leBytes 8 v) clk →
    Commits (.localTimeSet v clk) s 0x2000 0x07 .stp (.int v) clk) ∧
  (∀ (s : State) (v clk : Nat), v < 2 ^ 32 → Accepted s 0x1002 0x00 (leBytes 4 v) clk →
    Commits (.resetRequest v clk) s 0x1002 0x00 .imm (.int v) clk) ∧
  (∀ (s : State) (clk : Nat), Accepted s 0x2400 0x09 [1] clk → Commits (.pairCommand clk) s 0x2400 0x09 .imm (.int 1) clk) ∧
  (∀ (s : State) (v clk : Nat), v < 2 ^ 8 → Accepted s 0x2300 0x19 (leBytes 1 v) clk →
    Commits (.errorInjection v clk) s 0x2300 0x19 .stp (.int v) clk) ∧
  (∀ (s : State) (image : Bytes) (clk : Nat), Accepted s 0x1202 0x06 image clk →
    Commits (.imageUpload image (crc32c image) clk) s 0x1202 0x06 .imm (.oct image) clk) ∧
  (∀ (s : State) (image : Bytes) (crc clk : Nat), served s.toBlocks = true → crc32c image ≠ crc →
    Does (.imageUpload image crc clk) s [.dict] (fun t => t.dict = { s.dict with rejected := satU 32 (s.dict.rejected + 1) })) ∧
  (∀ (s : State) (v clk : Nat), v < 2 ^ 8 → Accepted s 0x1202 0x08 (leBytes 1 v) clk →
    Commits (.activate v clk) s 0x1202 0x08 .imm (.int v) clk) ∧
  (∀ (s : State) (clk : Nat), Accepted s 0x1200 0x00 [1] clk → Commits (.save clk) s 0x1200 0x00 .imm (.int 1) clk) ∧
  (∀ (s : State) (clk : Nat), Accepted s 0x1200 0x00 [2] clk → Commits (.clearObjectsAndTables clk) s 0x1200 0x00 .imm (.int 2) clk) ∧
  (∀ (s : State) (clk : Nat), Accepted s 0x1200 0x00 [3] clk → Commits (.clearAll clk) s 0x1200 0x00 .imm (.int 3) clk) ∧
  (∀ (s : State) (v clk : Nat), v < 2 ^ 32 → Accepted s 0x1080 0x06 (leBytes 4 v) clk →
    Commits (.acknowledge v clk) s 0x1080 0x06 .imm (.int v) clk) ∧
  (∀ (s : State) (clk : Nat), Accepted s 0x1080 0x0C [1] clk → Commits (.clearRing clk) s 0x1080 0x0C .stp (.int 1) clk)

/-- The commands of channels, axes and feedback are committed to their objects with their values (Tables 6.7, 6.8, 7.4, 8.3).
The model's choices in it: assumptions 23, 25. -/
def Obligations.ScannerCommandsCommit : Prop :=
  (∀ (s : State) (n : Fin 32) (v clk : Nat), v < 2 → Accepted s (0x3000 + n) 0x00 (leBytes 1 v) clk →
    Commits (.hostLaserEnable n v clk) s (0x3000 + n) 0x00 .imm (.int v) clk) ∧
  (∀ (s : State) (n : Fin 32) (clk : Nat), Accepted s (0x3100 + n) 0x0C [1] clk →
    Commits (.channelStop n clk) s (0x3100 + n) 0x0C .imm (.int 1) clk) ∧
  (∀ (s : State) (n : Fin 32) (clk : Nat), Accepted s (0x3100 + n) 0x0C [2] clk →
    Commits (.rejoin n clk) s (0x3100 + n) 0x0C .imm (.int 2) clk) ∧
  (∀ (s : State) (a : Fin 96) (clk : Nat), Accepted s (0x3200 + a) 0x02 [1] clk →
    Commits (.axisClose a clk) s (0x3200 + a) 0x02 .imm (.int 1) clk) ∧
  (∀ (s : State) (a : Fin 96) (clk : Nat), Accepted s (0x3200 + a) 0x02 [2] clk →
    Commits (.axisOpen a clk) s (0x3200 + a) 0x02 .imm (.int 2) clk) ∧
  (∀ (s : State) (a : Fin 96) (clk : Nat), Accepted s (0x3200 + a) 0x02 [3] clk →
    Commits (.axisClearFault a clk) s (0x3200 + a) 0x02 .imm (.int 3) clk) ∧
  (∀ (s : State) (a : Fin 96) (v clk : Nat), v < 2 → Accepted s (0x3300 + a) 0x2C (leBytes 1 v) clk →
    Commits (.clearAmplitudeMarks a v clk) s (0x3300 + a) 0x2C .imm (.int v) clk)

/-- The commands of cameras and of Zhomon Link ports are committed to their objects with their values (Tables 9.9, 9.10, 12.15).
The model's choices in it: assumptions 23, 25. -/
def Obligations.CameraAndPortCommandsCommit : Prop :=
  (∀ (s : State) (c : Fin 20) (v clk : Nat), v < 2 → Accepted s (0x3500 + c) 0x0B (leBytes 1 v) clk →
    Commits (.manualTrigger c v clk) s (0x3500 + c) 0x0B .imm (.int v) clk) ∧
  (∀ (s : State) (c : Fin 20) (data : Bytes) (clk : Nat), Accepted s (0x3500 + c) 0x10 data clk →
    Commits (.i2cRequest c data clk) s (0x3500 + c) 0x10 .imm (.oct data) clk) ∧
  (∀ (s : State) (c : Fin 20) (v clk : Nat), v < 2 → Accepted s (0x3500 + c) 0x00 (leBytes 1 v) clk →
    Commits (.streamingEnable c v clk) s (0x3500 + c) 0x00 .imm (.int v) clk) ∧
  (∀ (s : State) (i : Fin 128) (v clk : Nat), v < 2 → Accepted s (0x3400 + i) 0x1D (leBytes 1 v) clk →
    Commits (.snapshotArm i v clk) s (0x3400 + i) 0x1D .imm (.int v) clk) ∧
  (∀ (s : State) (p : Fin 64) (v clk : Nat), v < 2 → Accepted s (0x5000 + p) 0x00 (leBytes 1 v) clk →
    Commits (.portEnable p v clk) s (0x5000 + p) 0x00 .stp (.int v) clk) ∧
  (∀ (s : State) (p : Fin 64) (clk : Nat), Accepted s (0x5000 + p) 0x03 [1] clk →
    Commits (.portCommand p clk) s (0x5000 + p) 0x03 .imm (.int 1) clk) ∧
  (∀ (s : State) (p : Fin 64) (data : Bytes) (clk : Nat), Accepted s (0x5000 + p) 0x04 data clk →
    Commits (.nodeRequest p data clk) s (0x5000 + p) 0x04 .imm (.oct data) clk)

/-- The commands of stepper axes are committed to their objects with their values (Table 14.6).
The model's choices in it: assumptions 23, 25, 55. -/
def Obligations.StepperCommandsCommit : Prop :=
  (∀ (s : State) (m : Fin 8) (data : Bytes) (clk : Nat), Accepted s (0x4000 + m) 0x41 data clk →
    Commits (.moveRequest m data clk) s (0x4000 + m) 0x41 .imm (.oct data) clk) ∧
  (∀ (s : State) (m : Fin 8) (x : Int) (clk : Nat), -2 ^ 31 ≤ x → x < 2 ^ 31 → Accepted s (0x4000 + m) 0x42 (leBytesI 4 x) clk →
    Commits (.retarget m x clk) s (0x4000 + m) 0x42 .imm (.int x) clk) ∧
  (∀ (s : State) (m : Fin 8) (x : Int) (clk : Nat), -2 ^ 31 ≤ x → x < 2 ^ 31 → Accepted s (0x4000 + m) 0x43 (leBytesI 4 x) clk →
    Commits (.setPosition m x clk) s (0x4000 + m) 0x43 .imm (.int x) clk) ∧
  (∀ (s : State) (m : Fin 8) (clk : Nat), Accepted s (0x4000 + m) 0x40 [1] clk →
    Commits (.halt m clk) s (0x4000 + m) 0x40 .imm (.int 1) clk) ∧
  (∀ (s : State) (m : Fin 8) (clk : Nat), Accepted s (0x4000 + m) 0x40 [2] clk →
    Commits (.stop m clk) s (0x4000 + m) 0x40 .imm (.int 2) clk) ∧
  (∀ (s : State) (m : Fin 8) (clk : Nat), Accepted s (0x4000 + m) 0x40 [3] clk →
    Commits (.home m clk) s (0x4000 + m) 0x40 .imm (.int 3) clk) ∧
  (∀ (s : State) (m : Fin 8) (clk : Nat), Accepted s (0x4000 + m) 0x40 [4] clk →
    Commits (.stepperClearFault m clk) s (0x4000 + m) 0x40 .imm (.int 4) clk)

/-- The commands of LED strings, the run-length engine, load switches and trims are committed to their objects with their values (Tables
15.6, 16.5, 17.10, 18.5). The model's choices in it: assumptions 23, 25, 50, 56. -/
def Obligations.LightAndPowerCommandsCommit : Prop :=
  (∀ (s : State) (l : Fin 16) (v clk : Nat), v < 2 → Accepted s (0x4100 + l) 0x00 (leBytes 1 v) clk →
    Commits (.stringEnable l v clk) s (0x4100 + l) 0x00 .imm (.int v) clk) ∧
  (∀ (s : State) (l : Fin 16) (v clk : Nat), v < 2 → Accepted s (0x4100 + l) 0x0C (leBytes 1 v) clk →
    Commits (.clearFailedLamps l v clk) s (0x4100 + l) 0x0C .imm (.int v) clk) ∧
  (∀ (s : State) (clk : Nat), Accepted s 0x4200 0x00 [1] clk → Commits (.rleStart clk) s 0x4200 0x00 .imm (.int 1) clk) ∧
  (∀ (s : State) (clk : Nat), Accepted s 0x4200 0x00 [2] clk → Commits (.rleResume clk) s 0x4200 0x00 .imm (.int 2) clk) ∧
  (∀ (s : State) (clk : Nat), Accepted s 0x4200 0x00 [3] clk → Commits (.rleUnload clk) s 0x4200 0x00 .imm (.int 3) clk) ∧
  (∀ (s : State) (k : Fin 16) (clk : Nat), Accepted s (0x2110 + k) 0x00 [0] clk →
    Commits (.switchOff k clk) s (0x2110 + k) 0x00 .imm (.int 0) clk) ∧
  (∀ (s : State) (k : Fin 16) (clk : Nat), Accepted s (0x2110 + k) 0x00 [1] clk →
    Commits (.switchOn k clk) s (0x2110 + k) 0x00 .imm (.int 1) clk) ∧
  (∀ (s : State) (k : Fin 16) (clk : Nat), Accepted s (0x2110 + k) 0x00 [2] clk →
    Commits (.resetTrip k clk) s (0x2110 + k) 0x00 .imm (.int 2) clk) ∧
  (∀ (s : State) (j : Fin 81) (v clk : Nat), v < 2 ^ 8 → Accepted s (0x4300 + j) 0x02 (leBytes 1 v) clk →
    Commits (.calibrationCommand j v clk) s (0x4300 + j) 0x02 .stp (.int v) clk)

/-! The host link (chapter 4) -/

/-- Frames, addresses and leases of a host port (R88, R92, R93, R96, R115): what is not supported is counted as discarded; neighbours are
learned and answered; a lease is bound, renewed, rebound and expires; a link that goes down posts its event.
The model's choices in it: assumptions 4, 15, 16, 32, 33. -/
def Obligations.HostPortCommandsComplete : Prop :=
  (∀ (s : State) (f : EthFrame), served s.toBlocks = true → portReady s.toBlocks f.port = true →
    (vlanPasses s.toBlocks f && frameSupported s.toBlocks f) = false →
    Does (.ethernetFrameReceived f) s [.host] (fun t =>
      t.host = { s.host with ports := updI s.host.ports f.port (fun e =>
        { e with received := (e.received + 1) % 2 ^ 32, discards := inc32 e.discards }) })) ∧
  (∀ (s : State) (f : EthFrame), served s.toBlocks = true → portReady s.toBlocks f.port = true → vlanPasses s.toBlocks f = true →
    frameSupported s.toBlocks f = true → f.kind = .udp4 47411 true false → fieldU f.payload 1 1 = 2 →
    exec (.ethernetFrameReceived f) s =
      exec (.lsData { port := f.port, src := f.src, udpLen := f.payload.length, version := fieldU f.payload 0 1
                      length := fieldU f.payload 2 2, session := fieldU f.payload 4 4, sequence := fieldU f.payload 8 4
                      status := fieldU f.payload 12 4, offset := fieldU f.payload 16 8 } (f.payload.drop 24)) s) ∧
  (∀ (s : State) (port : Fin 2) (target sender mac : Nat), served s.toBlocks = true → portReady s.toBlocks port = true →
    target ≠ 0 → target = ipv4InUse s.toBlocks port → (getI s.host.ports port).otherFill + 28 ≤ 32768 →
    Does (.arpRequest port target sender mac) s [.host, .out, .queues] (fun t =>
      (∃ rest, t.out = s.out ++ .frame port (vlanTag s.toBlocks port) (.arpReply sender mac target) :: rest) ∧
      (getI t.host.ports port).arp =
        ((sender, mac, s.now + 6000000) :: (getI s.host.ports port).arp.filter (fun x => x.1 != sender)).take 64)) ∧
  (∀ (s : State) (port : Fin 2) (addr : Nat),
    Does (.arpCacheExpiry port addr) s [.host] (fun t =>
      ∀ x, x ∈ (getI t.host.ports port).arp ↔ x ∈ (getI s.host.ports port).arp ∧ ¬(x.1 = addr ∧ x.2.2 ≤ s.now))) ∧
  (∀ (s : State) (port : Fin 2) (target : Nat), served s.toBlocks = true → portReady s.toBlocks port = true →
    ownV6 s.toBlocks port target = true → (getI s.host.ports port).otherFill + 32 ≤ 32768 →
    Does (.neighborSolicitation port target) s [.host, .out, .queues] (fun t =>
      t.out = s.out ++ [.frame port (vlanTag s.toBlocks port) (.neighbourAdvertisement target)])) ∧
  (∀ (s : State) (port : Fin 2) (v6 : Bool) (dst len : Nat), served s.toBlocks = true → portReady s.toBlocks port = true →
    (if v6 then ownV6 s.toBlocks port dst else dst != 0 && dst == ipv4InUse s.toBlocks port) = true → len ≤ 1472 →
    (getI s.host.ports port).echoCount < 100 → (getI s.host.ports port).otherFill + (8 + len) ≤ 32768 →
    Does (.echoRequest port v6 dst len) s [.host, .out, .queues] (fun t =>
      t.out = s.out ++ [.frame port (vlanTag s.toBlocks port) (.echoReply v6 len)])) ∧
  (∀ (s : State) (port : Fin 2) (addr maskLen gateway t1 t2 lease : Nat), served s.toBlocks = true → portReady s.toBlocks port = true →
    (getI s.host.ports port).dhcp ≠ .off →
    Does (.dhcpLeaseBound port addr maskLen gateway t1 t2 lease) s [.host, .out] (fun t =>
      let e := getI t.host.ports port
      e.dhcp = .bound ∧ e.ipv4 = addr ∧ e.prefixLen = maskLen ∧ e.gateway = gateway ∧ e.t1 = s.now + 100000 * t1 ∧
      e.t2 = s.now + 100000 * t2 ∧ e.leaseEnd = s.now + 100000 * lease)) ∧
  (∀ (s : State) (port : Fin 2), (getI s.host.ports port).dhcp = .bound → (getI s.host.ports port).t1 ≤ s.now →
    Does (.dhcpRenew port) s [.host, .out] (fun t =>
      (getI t.host.ports port).dhcp = .renewing ∧ t.out = s.out ++ [.frame port (vlanTag s.toBlocks port) (.dhcp .renew)])) ∧
  (∀ (s : State) (port : Fin 2), (getI s.host.ports port).dhcp = .renewing → (getI s.host.ports port).t2 ≤ s.now →
    Does (.dhcpRebind port) s [.host, .out] (fun t =>
      (getI t.host.ports port).dhcp = .rebinding ∧ t.out = s.out ++ [.frame port (vlanTag s.toBlocks port) (.dhcp .rebind)])) ∧
  (∀ (s : State) (port : Fin 2), (getI s.host.ports port).dhcp = .rebinding → (getI s.host.ports port).leaseEnd ≤ s.now →
    Does (.dhcpLeaseExpiry port) s [.host, .faults] (fun t =>
      (getI t.host.ports port).dhcp = .expired ∧ (getI t.host.ports port).ipv4 = 0 ∧
      t.faults = posts s (mkEvent (.block (7 + port)) (openCode 10) .warn .device 0 (leBytes 1 port) ::
        if familyInUse s.toBlocks port true then []
        else [mkEvent (.block (7 + port)) (openCode 11) .warn .device 0 (leBytes 1 port)]))) ∧
  (∀ (s : State) (port : Fin 2), (getI s.host.ports port).linkUp = true →
    Does (.hostLinkDown port) s [.time, .host, .faults] (fun t =>
      (getI t.host.ports port).linkUp = false ∧ getI t.time.announces port = none ∧
      (s.time.tb ≠ .locked → t.faults = posts s [mkEvent (.block (7 + port)) (openCode 11) .warn .device 0 (leBytes 1 port)]) ∧
      (s.time.tb = .locked → getI s.time.announces (1 - port.val) = none → t.time.tb = .holdover ∧
        t.faults = posts s [timeEvent 2 .warn [], mkEvent (.block (7 + port)) (openCode 11) .warn .device 0 (leBytes 1 port)]))) ∧
  (∀ (s : State) (port : Fin 2), (getI s.host.ports port).linkUp = false → served s.toBlocks = true →
    Does (.hostLinkUp port) s [.host, .out] (fun t => (getI t.host.ports port).linkUp = true)) ∧
  (∀ (s : State) (d : Fin 4) (since : Nat), (getI s.host.dests d).waiting = some since → since + 100000 ≤ s.now →
    Does (.nextHopTimeout d) s [.host] (fun t =>
      t.host = { s.host with dests := updI s.host.dests d (fun x =>
        { x with dropped := satU 16 (x.dropped + x.held.length), held := [], waiting := none }) }))

/-- READ and WRITE (R99, R100): a READ that is heard is answered from the snapshot of the last tick boundary; a WRITE whose group passes
commits every write of it, and one whose group fails at a position is refused there, with the object of that write, and every write counted
as rejected (R70, R87). The model's choices in it: assumptions 16, 30. -/
def Obligations.GdpReadAndWriteComplete : Prop :=
  (∀ (s : State) (h : GdpHead) (items : List ReadItem) (body : Bytes),
    Heard s h (20 + 4 * items.length) (items.all (fun x => x.reserved == 0)) → items ≠ [] → items.length ≤ 64 →
    body = leBytes 8 s.seen.tickCount ++ items.flatMap (readEntry (arrived s h)) → 16 + body.length ≤ 1452 →
    Answerable s h (16 + body.length) →
    Does (.read h items) s [.time, .host, .queues, .out] (fun t =>
      t.out = s.out ++ [answerFrame s h 1 0 0xFFFF body] ∧ t.host.served = (s.host.served + 1) % 2 ^ 32)) ∧
  (∀ (s : State) (h : GdpHead) (items : List WriteItem), Heard s h (writeMin items) (items.all (fun x => x.reserved == 0)) →
    items ≠ [] → items.length ≤ 64 → s.pair.st ≠ .active → Answerable s h 40 →
    groupCode (arrived s h).toBlocks false (items.map (fun x => (x.index, x.sub, x.data))) = none →
    Does (.write h items) s [.time, .host, .queues, .out, .dict, .mem, .flash] (fun t =>
      (∃ parts body, t.out = s.out ++ parts ++ [answerFrame s h 2 0 0xFFFF body] ∧
        ((∀ x ∈ items, isBoot x.index x.sub = false) → parts = [])) ∧
      t.dict.commits = (s.dict.commits + items.length) % 2 ^ 32 ∧ t.dict.rejected = s.dict.rejected)) ∧
  (∀ (s : State) (h : GdpHead) (items : List WriteItem) (k c : Nat), Heard s h (writeMin items) (items.all (fun x => x.reserved == 0)) →
    items ≠ [] → items.length ≤ 64 → Answerable s h 40 →
    groupCode (arrived s h).toBlocks false (items.map (fun x => (x.index, x.sub, x.data))) = some (k, c) →
    Does (.write h items) s [.time, .host, .queues, .out, .dict] (fun t =>
      t.out = s.out ++ [answerFrame s h 2 c k (refusalBody 2 (nth items k).index (nth items k).sub)] ∧
      t.dict = { s.dict with rejected := satU 32 (s.dict.rejected + items.length) }))

/-- Block transfers (R80, R87, R103–R105): an open takes a free handle, segments are read from the copy or gathered in order, a close frees
the handle, and a transfer without a segment for 100,000 ticks is closed with 0x0501_0003 and its table. The model's choices in it:
assumptions 16, 30, 90. -/
def Obligations.BlockTransfersComplete : Prop :=
  (∀ (s : State) (h : GdpHead) (index sub k : Nat) (b : Bytes), Heard s h 20 true → Answerable s h 28 →
    readObject (arrived s h) index sub true = .ok b → freeHandle s.toBlocks = some k →
    Does (.blockReadOpen h index sub) s [.time, .host, .queues, .out] (fun t =>
      getI t.host.transfers k = some
        { writing := false, src := h.src, index, sub, size := b.length, crc := crc32c b, next := 0, data := b, lastTick := s.now } ∧
      t.out = s.out ++ [answerFrame s h 3 0 0xFFFF (handleBytes k ++ leBytes 4 b.length ++ leBytes 4 (crc32c b))])) ∧
  (∀ (s : State) (h : GdpHead) (handle count first : Nat) (x : BlockTransfer), Heard s h 24 true → 1 ≤ count → count ≤ 32 →
    transferOf s.toBlocks handle false = some x → first + count ≤ (x.size + 1023) / 1024 →
    Sendable s.toBlocks (if h.port = 0 then 51 else 55) h.port h.src (1048 * count) →
    Does (.blockReadSegments h handle count first) s [.time, .host, .queues, .out] (fun t =>
      t.out = s.out ++ (List.range count).map (fun i => answerFrame s h 4 0 0xFFFF (segmentOf x handle (first + i))))) ∧
  (∀ (s : State) (h : GdpHead) (index sub size crc k : Nat), Heard s h 28 true → Answerable s h 20 →
    writeOpenCode (arrived s h).toBlocks index sub size = 0 → freeHandle s.toBlocks = some k →
    Does (.blockWriteOpen h index sub size crc) s [.time, .host, .queues, .out] (fun t =>
      getI t.host.transfers k = some
        { writing := true, src := h.src, index, sub, size, crc, next := 0, data := [], lastTick := s.now } ∧
      t.out = s.out ++ [answerFrame s h 5 0 0xFFFF (handleBytes k)])) ∧
  (∀ (s : State) (h : GdpHead) (handle segment : Nat) (data : Bytes) (x : BlockTransfer), Heard s h 24 true → Answerable s h 40 →
    transferOf s.toBlocks handle true = some x → segment = x.next → data.length = Nat.min 1024 (x.size - 1024 * segment) →
    1024 * (segment + 1) < x.size →
    Does (.blockWriteSegment h handle segment data) s [.time, .host, .queues, .out] (fun t =>
      getI t.host.transfers handle = some { x with next := segment + 1, data := x.data ++ data, lastTick := s.now } ∧
      t.out = s.out ++ [answerFrame s h 6 0 0xFFFF (segmentBody handle (segment + 1) 0 0)])) ∧
  (∀ (s : State) (h : GdpHead) (handle segment : Nat) (data : Bytes) (x : BlockTransfer), Heard s h 24 true → Answerable s h 44 →
    transferOf s.toBlocks handle true = some x → segment ≠ x.next →
    Does (.blockWriteSegment h handle segment data) s [.time, .host, .queues, .out] (fun t =>
      getI t.host.transfers handle = some { x with lastTick := s.now } ∧
      t.out = s.out ++
        [answerFrame s h 6 0x05010001 0xFFFF (segmentBody handle x.next 0 0 ++ leBytes 2 x.index ++ leBytes 1 x.sub ++ [0])])) ∧
  (∀ (s : State) (h : GdpHead) (handle : Nat), Heard s h 20 true → Answerable s h 20 → handle < 4 →
    (getI s.host.transfers handle).isSome = true →
    Does (.blockClose h handle) s [.time, .host, .queues, .out] (fun t =>
      getI t.host.transfers handle = none ∧ t.out = s.out ++ [answerFrame s h 7 0 0xFFFF (handleBytes handle)])) ∧
  (∀ (s : State) (k : Fin 4) (x : BlockTransfer), getI s.host.transfers k = some x → x.lastTick + 100000 ≤ s.now →
    Does (.blockTransferTimeout k) s [.host, .dict] (fun t =>
      getI t.host.transfers k = none ∧ getI t.host.closed k = { code := 0x05010003, index := x.index, sub := x.sub } ∧
      t.dict.rejected = if x.writing then satU 32 (s.dict.rejected + 1) else s.dict.rejected))

/-- Subscriptions (R106, R107): SUBSCRIBE takes the lowest free one, UNSUBSCRIBE ends one or all of a source, and a sample that is due is
held as reported. The model's choices in it: assumptions 16, 30. -/
def Obligations.SubscriptionsComplete : Prop :=
  (∀ (s : State) (h : GdpHead) (index sub dest period : Nat), Heard s h 24 true → Answerable s h 20 →
    subscribeCode (arrived s h).toBlocks index sub dest period = 0 →
    Does (.subscribe h index sub dest period) s [.time, .host, .queues, .out] (fun t =>
      ∃ k < 64, getI s.host.subs k = none ∧ (∀ i < k, getI s.host.subs i ≠ none) ∧
        getI t.host.subs k = some { src := h.src, index, sub, dest, period, reported := none, sampled := none } ∧
        t.out = s.out ++ [answerFrame s h 8 0 0xFFFF (leBytes 1 k ++ [0, 0, 0])])) ∧
  (∀ (s : State) (h : GdpHead) (id : Nat), Heard s h 20 true → Answerable s h 20 → id < 64 → (getI s.host.subs id).isSome = true →
    Does (.unsubscribe h id) s [.time, .host, .queues, .out] (fun t =>
      getI t.host.subs id = none ∧ (∀ k, k ≠ id → getI t.host.subs k = getI s.host.subs k) ∧
      t.out = s.out ++ [answerFrame s h 9 0 0xFFFF (leBytes 1 id ++ [0, 0, 0])])) ∧
  (∀ (s : State) (h : GdpHead), Heard s h 20 true →
    Does (.unsubscribe h 0xFF) s [.time, .host, .queues, .out] (fun t =>
      ∀ k x, getI t.host.subs k = some x ↔ getI s.host.subs k = some x ∧ ¬(x.src.v6 = h.src.v6 ∧ x.src.addr = h.src.addr))) ∧
  (∀ (s : State) (id : Fin 64) (b : Bytes), sampleDue s id = some b →
    Does (.subscriptionSample id) s [.host, .queues, .out] (fun t =>
      getI t.host.subs id = (getI s.host.subs id).map (fun y => { y with reported := some b, sampled := some s.now }) ∧
      ∀ k, k ≠ id.val → getI t.host.subs k = getI s.host.subs k))

/-- Layer Stream (R109–R111, R113): OPEN and CLOSE wait for the next P4; DATA in sequence and within the credit is taken into the buffer,
DATA behind the expected sequence is counted as a duplicate, and DATA ahead of it as a gap; CREDIT goes out at the latest after 1,000
ticks. The model's choices in it: assumptions 16, 31. -/
def Obligations.LayerStreamComplete : Prop :=
  (∀ (s : State) (h : LsHead) (flags : Nat),
    StreamHeard s h 28 (h.sequence == 0 && h.offset == 0 && decide (flags < 2) && h.session != 0) →
    (getI s.host.ports h.port).otherFill + h.udpLen ≤ 32768 →
    Does (.lsOpen h flags) s [.host] (fun t =>
      t.host.control = s.host.control ++ [({ port := h.port, src := h.src, session := h.session, close := false, resume := flags == 1, beforeNak := s.host.nak.isNone } : LsControl)] ∧
      t.host.session = s.host.session)) ∧
  (∀ (s : State) (h : LsHead) (payload : Bytes), StreamHeard s h 25 true → acceptsWrites s.toBlocks = true →
    inSession s.toBlocks h = true → s.host.session.closing = none → h.sequence = s.host.session.sequence → h.offset = s.host.session.offset →
    h.offset + payload.length ≤ creditLimit s.host.session →
    Does (.lsData h payload) s [.host] (fun t =>
      t.host.session = { s.host.session with
        sequence := (s.host.session.sequence + 1) % 2 ^ 32, offset := s.host.session.offset + payload.length
        buffer := s.host.session.buffer ++ [(h.offset, payload)], changed := true })) ∧
  (∀ (s : State) (h : LsHead) (payload : Bytes), StreamHeard s h 25 true → acceptsWrites s.toBlocks = true →
    inSession s.toBlocks h = true → s.host.session.closing = none → h.sequence < s.host.session.sequence → s.host.session.sequence ≤ h.sequence + 2 ^ 31 →
    Does (.lsData h payload) s [.host] (fun t =>
      t.host = { s.host with
        ports := updI s.host.ports h.port (fun e => { e with received := (e.received + 1) % 2 ^ 32 })
        session := { s.host.session with duplicates := inc32 s.host.session.duplicates } })) ∧
  (∀ (s : State) (h : LsHead) (payload : Bytes), StreamHeard s h 25 true → acceptsWrites s.toBlocks = true →
    inSession s.toBlocks h = true → s.host.session.closing = none → s.host.session.sequence < h.sequence → h.sequence < s.host.session.sequence + 2 ^ 31 →
    Does (.lsData h payload) s [.host] (fun t =>
      t.host.session = { s.host.session with gaps := inc32 s.host.session.gaps } ∧
      (s.host.nak = none → t.host.nak = some { port := h.port, src := h.src, session := h.session, status := 0x09010003 }))) ∧
  (∀ (s : State) (h : LsHead), StreamHeard s h 24 (h.sequence == 0 && h.offset == 0) → inSession s.toBlocks h = true →
    (getI s.host.ports h.port).otherFill + h.udpLen ≤ 32768 →
    Does (.lsClose h) s [.host] (fun t =>
      t.host.control = s.host.control ++ [({ port := h.port, src := h.src, session := h.session, close := true, resume := false, beforeNak := s.host.nak.isNone } : LsControl)] ∧
      t.host.session = s.host.session)) ∧
  (∀ s : State, s.host.session.id ≠ 0 → s.host.session.lastCredit + 1000 ≤ s.now →
    Sendable s.toBlocks (if s.host.session.port = 0 then 48 else 52) s.host.session.port s.host.session.src 40 →
    Does .creditPeriodic s [.host, .queues, .out] (fun t =>
      let x := s.host.session
      t.out = s.out ++ [.frame x.port (vlanTag s.toBlocks x.port) (.udp 47411 x.src (streamBytes 0x81 x.id x.sequence 0 x.offset
        (leBytes 8 (creditLimit x) ++ leBytes 4 x.accepted ++ leBytes 4 x.rejected)))] ∧
      t.host.session = { x with changed := false, lastCredit := s.now }))

/-! Jobs, channels and axes (chapters 5 to 8) -/

/-- Packages and the job (R125, R145, R496): a package that passes every check is stored, one that fails is rejected with event 0x0501; the
decision point decides once whether the layer starts and the next one is due; STOPPING ends in READY or HELD when everything is at rest.
The model's choices in it: assumptions 7, 8, 36. -/
def Obligations.JobCommandsComplete : Prop :=
  (∀ (s : State) (a : Arrived) (rest : List Arrived) (p : Package) (ends : Vector (Option Pt) 32), s.job.arrived = a :: rest →
    checkPackage s.job a.bytes = .ok (p, ends) → (p.first = true → startGranted s.toBlocks p = true) →
    Does .packageValidation s [.faults, .queues, .host, .job, .out, .pair] (fun t =>
      t.job = { s.job with
        arrived := rest, store := s.job.store ++ [newStored p a.bytes], last := some { job := p.job, layer := p.layer, last := p.last }, ends
        granted := s.job.granted || p.first
        stopped := if p.first then s.job.stopped.filter (fun x => x.1 != p.job) else s.job.stopped } ∧
      t.host.session.accepted = (s.host.session.accepted + 1) % 2 ^ 32 ∧ t.faults = s.faults)) ∧
  (∀ (s : State) (a : Arrived) (rest : List Arrived) (e : PkgError), s.job.arrived = a :: rest →
    checkPackage s.job a.bytes = .error e → checkSequence s.job a.bytes ≠ .stopped →
    Does .packageValidation s [.faults, .queues, .host, .job, .out, .pair] (fun t =>
      t.job = { s.job with arrived := rest } ∧ t.host.session.rejected = (s.host.session.rejected + 1) % 2 ^ 32 ∧
      t.faults = posts s [mkEvent (.core 2) 0x0501 .warn .layerPackage 0
        (leBytes 4 (if e.reason ≤ 2 then 0xFFFFFFFF else fieldU a.bytes 12 4) ++ leBytes 8 a.offset ++ leBytes 2 e.reason ++ leBytes 2 e.dir ++
          leBytes 4 e.record)])) ∧
  (∀ s : State, s.time.cutoff = true → s.job.decided = false → s.pair.st ≠ .standby →
    Does .decisionPoint s [.time, .job, .scan, .out, .pair, .queues] (fun t =>
      t.job.decided = true ∧ t.job.nextLayer = layerDue s.toBlocks ∧
      t.job.nextStart = (s.job.granted && s.job.dev == .ready && decide (sevInForce s.faults < 4) &&
        !s.dict.pending.any (fun w => w.apply == .stp && decide (s.now + 1 < w.due)) &&
        (s.job.store.head?.map (fun p => standbyHolds s.toBlocks p.head)).getD false))) ∧
  (∀ s : State, s.job.dev = .stopping → allAtRest s.toBlocks = true →
    Does .stoppingComplete s [.job, .scan] (fun t =>
      t.job.dev = (if safeOpen s.faults then .held else .ready) ∧ t.job.layer = none ∧
      ∀ n < 32, (getI t.scan.chans n).state = .idle ∧ (getI t.scan.chans n).queue = []))

/-- Timers of the channels (R160, R161, R185, R329): a settle wait that times out stops the channel with cause 3 and event 0x0602; a dwell ends
its record, a throttle dwell frees the channel, each at its tick; the node gate is released after the clean ticks. Other channels are left
alone. The model's choices in it: assumption 8. -/
def Obligations.ChannelTimersComplete : Prop :=
  (∀ (s : State) (n : Fin 32) (since run : Nat), (getI s.scan.chans n).act = .settle since run →
    since + s.objN (0x3100 + n) 0x08 ≤ s.now → run < s.objN (0x3100 + n) 0x07 →
    ((getI s.scan.chans n).state = .run ∨ (getI s.scan.chans n).state = .waitEnd ∨ (getI s.scan.chans n).state = .waitMark) →
    Does (.settleTimeout n) s [.faults, .scan] (fun t =>
      let c := getI t.scan.chans n
      c.state = .stopping ∧ c.stopCause = 3 ∧ c.gates = { (getI s.scan.chans n).gates with stop := true } ∧ c.edges = [] ∧
      c.queue = (getI s.scan.chans n).queue ∧
      (∀ m, m ≠ n.val → getI t.scan.chans m = getI s.scan.chans m) ∧
      ((getI s.scan.chans n).item = none → t.faults = posts s [chanEvent n 0x0602 .stopChannel []]) ∧
      (∀ it, (getI s.scan.chans n).item = some it →
        t.faults = posts s [chanEvent n 0x0602 .stopChannel [], chanEvent n 0x0609 .warn (leBytes 1 it.fen ++ leBytes 4 it.item)]))) ∧
  (∀ (s : State) (n : Fin 32) (u : Nat), (getI s.scan.chans n).act = .dwell u → u ≤ s.now →
    Does (.dwellEnd n) s [.faults, .scan] (fun t =>
      let c := getI s.scan.chans n
      t.faults = s.faults ∧ (∀ m, m ≠ n.val → getI t.scan.chans m = getI s.scan.chans m) ∧
      (getI t.scan.chans n).act = .ready ∧ (getI t.scan.chans n).active = none ∧
      ∀ r, c.active = some r → c.item = none → getI t.scan.chans n = { c with
        active := none, act := .ready, backlog := c.backlog - r.nominal
        counts := { c.counts with completed := satU 32 (c.counts.completed + 1) } })) ∧
  (∀ (s : State) (n : Fin 32) (u : Nat), (getI s.scan.chans n).act = .throttle u → u ≤ s.now →
    Does (.throttleDwellEnd n) s [.faults, .scan] (fun t =>
      t.faults = s.faults ∧ t.scan = { s.scan with chans := updI s.scan.chans n (fun c => { c with act := .ready }) })) ∧
  (∀ (s : State) (n : Fin 32), (getI s.scan.chans n).gates.node = true → s.objN (0x3000 + n) 0x06 ≤ (getI s.link.lasers n).clean →
    Does (.nodeGateRelease n) s [.scan] (fun t =>
      t.scan = { s.scan with chans := updI s.scan.chans n (fun c => { c with gates := { c.gates with node := false } }) }))

/-- Events of the axes (R207, R208, R210, R211, R213, R215, Table 7.2): the start-up close commits a close command, the capture closes the
loop, the fault ramp opens it, a following error starts the ramp and stops the job, a long saturation warns once, and trust comes back
after its run of valid words. Other axes are left alone. The model's choices in it: assumptions 8, 40, 74. -/
def Obligations.AxisEventsComplete : Prop :=
  (∀ (s : State) (a : Fin 96), closeDue s.toBlocks a = true →
    axisCommandCode s.toBlocks (fun i k => pendingVal s.dict i k) a 1 = 0 → s.pair.st ≠ .active →
    Does (.startUpClose a) s [.axes, .dict, .faults, .out, .pair] (fun t =>
      t.axes = updI s.axes a (fun x => { x with closeIssued := true }) ∧ t.faults = s.faults ∧ t.out = s.out ∧ t.pair = s.pair ∧
      t.dict = { s.dict with pending := putPending s.now s.dict.pending (newPending s.toBlocks (0x3200 + a) 0x02 (.int 1) true) })) ∧
  (∀ (s : State) (a : Fin 96) (c : Nat), closeDue s.toBlocks a = true →
    axisCommandCode s.toBlocks (fun i k => pendingVal s.dict i k) a 1 = c → c ≠ 0 →
    Does (.startUpClose a) s [.axes, .faults] (fun t =>
      t.axes = updI s.axes a (fun x => { x with closeIssued := true }) ∧
      t.faults = posts s [axisEvent a 0x0708 .warn (leBytes 4 c)])) ∧
  (∀ (s : State) (a : Fin 96), (getI s.axes a).loop = .capture → (getI s.axes a).captured = true →
    Does (.captureComplete a) s [.axes] (fun t =>
      t.axes = updI s.axes a (fun x => { x with loop := .closed, capture := none, captured := false, captures := inc32 x.captures }))) ∧
  (∀ (s : State) (a : Fin 96), (getI s.axes a).loop = .ramp → (getI s.axes a).rampLen ≤ (getI s.axes a).rampStep →
    Does (.faultRampEnd a) s [.axes] (fun t => t.axes = updI s.axes a (fun x => { x with loop := .opened, u := 0, rampStep := 0 }))) ∧
  (∀ (s : State) (a : Fin 96), ((getI s.axes a).loop = .capture ∨ (getI s.axes a).loop = .closed) →
    0 < s.objN (0x3200 + a) 0x0C → s.objN (0x3200 + a) 0x0C ≤ (getI s.axes a).followRun →
    Does (.followingError a) s [.axes, .faults] (fun t =>
      let x := getI t.axes a
      x.loop = .ramp ∧ x.fault = true ∧ x.rampFrom = (getI s.axes a).uNow ∧ x.rampStep = 0 ∧ x.rampLen = s.objN (0x3200 + a) 0x0E ∧
      x.latched = (if (getI s.axes a).latched = 0 then 0x0702 else (getI s.axes a).latched) ∧
      x.followFaults = inc32 (getI s.axes a).followFaults ∧ (∀ b, b ≠ a.val → getI t.axes b = getI s.axes b) ∧
      t.faults = posts s [axisEvent a 0x0702 .stopJob []])) ∧
  (∀ (s : State) (a : Fin 96), 0 < s.objN (0x3200 + a) 0x13 → s.objN (0x3200 + a) 0x13 ≤ (getI s.axes a).satRun →
    (getI s.axes a).satPosted = false →
    Does (.currentSaturated a) s [.axes, .faults] (fun t =>
      t.axes = updI s.axes a (fun x => { x with satPosted := true }) ∧ t.faults = posts s [axisEvent a 0x0704 .warn []])) ∧
  (∀ (s : State) (a : Fin 96), s.objN (0x3200 + a) 0x00 ≠ 0 → (getI s.axes a).trusted = false → (getI s.axes a).latched = 0 →
    s.objN (0x3200 + a) 0x0F ≤ (getI s.axes a).trustRun →
    Does (.trustRestored a) s [.axes, .faults] (fun t =>
      t.axes = updI s.axes a (fun x => { x with trusted := true, trustedOnce := true, sensorFaulted := false }) ∧
      t.faults = posts s (if (getI s.axes a).sensorFaulted && (getI s.axes a).trustedOnce then [axisEvent a 0x0707 .note []] else [])))

/-- Responses of the field nodes (R302, R312, R314, R333, R343): a valid response is counted, ends the wait for slot 0 and leaves its values;
a word that passes the checks of R224 gives its axis the position it holds; a response that fails a check is counted as its fault and
leaves nothing else. The model's choices in it: assumption 53. -/
def Obligations.NodeResponsesComplete : Prop :=
  (∀ (s : State) (n : Fin 32) (h : NodeHead) (p : SensorPayload), frameFault (32 + n) (requestSequences s.toBlocks (32 + n)) h = 0 →
    Does (.sensorResponse n h p) s [.axes, .faults, .link, .out, .pair, .scan] (fun t =>
      let x := getI t.link.ports (32 + n)
      x.counts.valid = ((getI s.link.ports (32 + n)).counts.valid + 1) % 2 ^ 32 ∧ x.slot0 = none ∧ x.answered = true ∧
      x.temperature = p.temperature ∧ x.missedCount = p.missed ∧ (getI t.link.lasers n).amp = some p.ampStatus ∧
      (∀ a, a / 3 ≠ n.val → getI t.axes a = getI s.axes a) ∧
      ∀ q < 3, let w := if q = 0 then p.wordX else if q = 1 then p.wordY else p.wordF
        (bit p.wordMask q = false → getI t.axes (3 * n + q) = getI s.axes (3 * n + q)) ∧
        (bit p.wordMask q = true → axisEnabled s.toBlocks (3 * n + q) = true →
          wordReason (servoEnv s.toBlocks (3 * n + q)) (getI s.axes (3 * n + q)).fb w = 0 →
          (getI t.axes (3 * n + q)).y = ofBits 24 (swPosition w) ∧ (getI t.axes (3 * n + q)).fb.valid = true))) ∧
  (∀ (s : State) (n : Fin 32) (h : NodeHead) (p : SensorPayload), h.codeError = false → h.crcOk = false →
    Does (.sensorResponse n h p) s [.link, .out] (fun t =>
      t.out = s.out ++ [.zlCredit (32 + n) (((getI s.link.ports (32 + n)).freed + 1) % 256)] ∧
      t.link = { s.link with ports := updI s.link.ports (32 + n) (fun x =>
        { x with freed := (x.freed + 1) % 256, counts := { x.counts with crc := inc32 x.counts.crc } }) })) ∧
  (∀ (s : State) (n : Fin 32) (h : NodeHead) (p : LaserPayload), frameFault n (requestSequences s.toBlocks n) h = 0 →
    Does (.laserStatus n h p) s [.faults, .link, .out, .pair] (fun t =>
      let x := getI t.link.ports n
      let y := getI t.link.lasers n
      x.counts.valid = ((getI s.link.ports n).counts.valid + 1) % 2 ^ 32 ∧ x.slot0 = none ∧ x.answered = true ∧
      x.temperature = p.temperature ∧ x.missedCount = p.missed ∧ y.power = p.power ∧ y.backReflection = p.backReflection ∧
      y.status = some p.status ∧
      y.alarms = if bit p.status 1 then inc32 (getI s.link.lasers n).alarms else (getI s.link.lasers n).alarms)) ∧
  (∀ (s : State) (n : Fin 32) (h : NodeHead) (p : LaserPayload), h.codeError = true →
    Does (.laserStatus n h p) s [.link, .out] (fun t =>
      t.out = s.out ++ [.zlCredit n (((getI s.link.ports n).freed + 1) % 256)] ∧
      t.link = { s.link with ports := updI s.link.ports n (fun x =>
        { x with freed := (x.freed + 1) % 256, counts := { x.counts with code := inc32 x.counts.code } }) }))

/-! Cameras (chapter 9) -/

/-- Packets of the camera streams (R233, R243–R245, R247, R248): a Frame Start opens a frame in every enabled context of its stream, or counts
a duplicate; a line of the stream's data type is stored; a Frame End closes the stream; the image pipelines serve one port at a time;
frames without end are closed and missing frames counted at their timeouts. The model's choices in it: assumptions 8, 42. -/
def Obligations.FrameCommandsComplete : Prop :=
  (∀ (s : State) (c : Fin 20) (vc : Fin 4) (h : CsiHeader), portAccepts s.toBlocks c = true → h.bad = false → h.vcx = false →
    vcAccepted c vc = true →
    Does (.frameStart c vc h) s [.cams, .dict, .values, .faults, .freeCtr, .melt, .reg, .time] (fun t =>
      let x := getI (getI t.cams.ports c).streams vc
      let y := getI (getI s.cams.ports c).streams vc
      let index := (frameIndexOf (s.atClock h.clk).toBlocks c).1
      t.time = { s.time with clock := reached s h.clk } ∧
      (getI t.cams.ports c).link = 3 ∧ x.isOpen = true ∧ x.lines = 0 ∧ x.index = index ∧ x.serial = y.serial + 1 ∧
      (x.duplicate = true ↔ y.lastIndex = some index) ∧
      (∀ i < 128, i ∈ streamCtxs t.toBlocks c vc → y.lastIndex = some index →
        (getI t.cams.ctxs i).duplicates = inc32 (getI s.cams.ctxs i).duplicates) ∧
      (∀ i < 128, i ∈ streamCtxs t.toBlocks c vc → y.lastIndex ≠ some index →
        index ∉ (getI t.cams.ctxs i).expected ∧
        ∃ f ∈ (getI t.cams.ctxs i).frames, f.index = index ∧ f.serial = y.serial + 1 ∧ f.ended = false))) ∧
  (∀ (s : State) (c : Fin 20) (vc : Fin 4) (h : CsiHeader), portAccepts s.toBlocks c = true → h.bad = true →
    Does (.frameStart c vc h) s [.cams, .time] (fun t =>
      (getI t.cams.ports c).link = 3 ∧ (getI t.cams.ports c).headers = inc32 (getI s.cams.ports c).headers)) ∧
  (∀ (s : State) (c : Fin 20) (vc : Fin 4) (h : CsiHeader), portAccepts s.toBlocks c = true → h.bad = false →
    (h.vcx = true ∨ vcAccepted c vc = false) →
    Does (.frameStart c vc h) s [.cams, .time] (fun t => t.cams = { s.cams with ports := updI s.cams.ports c (fun p =>
      { p with link := 3, ecc := if h.corrected then inc32 p.ecc else p.ecc, ignored := inc32 p.ignored }) })) ∧
  (∀ (s : State) (c : Fin 20) (vc : Fin 4) (h : CsiHeader) (dataType : Nat) (payload : Bytes) (crcOk : Bool) (i : Nat) (rest : List Nat),
    portAccepts s.toBlocks c = true → h.bad = false → h.vcx = false → vcAccepted c vc = true → boundCtxs s.toBlocks c vc = i :: rest →
    dataType = ctxN s.toBlocks i 0x03 → (getI (getI s.cams.ports c).streams vc).isOpen = true →
    (getI (getI s.cams.ports c).streams vc).duplicate = false → (getI (getI s.cams.ports c).streams vc).dropping = false →
    (getI (getI s.cams.ports c).streams vc).lines < ctxN s.toBlocks i 0x05 → (getI s.cams.ports c).lines.length < 8 →
    streamCtxs s.toBlocks c vc ≠ [] →
    Does (.longPacket c vc h dataType payload crcOk) s [.cams, .faults] (fun t =>
      let x := getI (getI s.cams.ports c).streams vc
      (getI t.cams.ports c).lines = (getI s.cams.ports c).lines ++
        [{ vc := vc, serial := x.serial, number := x.lines
           codes := fitLine (ctxN s.toBlocks i 0x04) (unpackRaw (dataTypeBits dataType) payload), done := 0 }] ∧
      (getI t.cams.ports c).streams = updI (getI s.cams.ports c).streams vc (fun y => { y with lines := y.lines + 1 }) ∧
      (getI t.cams.ports c).crc = (if crcOk then (getI s.cams.ports c).crc else inc32 (getI s.cams.ports c).crc) ∧ t.faults = s.faults)) ∧
  (∀ (s : State) (c : Fin 20) (l : CamLine) (rest : List CamLine), turnPort s.toBlocks = some c.val → (getI s.cams.ports c).lines = l :: rest →
    Does (.pipelineUnit c) s [.cams, .faults, .freeCtr, .melt, .reg] (fun t =>
      t.cams.turn = (c.val + 1) % 20 ∧
      (getI t.cams.ports c).lines = if c.val < 16 ∨ l.codes.length ≤ l.done + 256 then rest else { l with done := l.done + 256 } :: rest)) ∧
  (∀ (s : State) (c : Fin 20) (vc : Fin 4) (h : CsiHeader), portAccepts s.toBlocks c = true → h.bad = false → h.vcx = false →
    vcAccepted c vc = true → (getI (getI s.cams.ports c).streams vc).isOpen = true →
    Does (.frameEnd c vc h) s [.cams, .faults, .freeCtr, .melt, .reg] (fun t =>
      (getI t.cams.ports c).link = 3 ∧
      (getI t.cams.ports c).streams = updI (getI s.cams.ports c).streams vc (fun y => { y with isOpen := false }))) ∧
  (∀ (s : State) (i : Fin 128) (f : FrameAcc), f ∈ (getI s.cams.ctxs i).frames → f.ended = false → f.start + ctxN s.toBlocks i 0x0B ≤ s.now →
    Does (.frameTimeout i) s [.cams, .faults, .freeCtr, .melt, .reg] (fun t =>
      f ∉ (getI t.cams.ctxs i).frames ∧
      ((getI s.cams.ctxs i).frames = [f] →
        (getI t.cams.ctxs i).received = inc32 (getI s.cams.ctxs i).received ∧
        (getI t.cams.ctxs i).truncated = inc32 (getI s.cams.ctxs i).truncated))) ∧
  (∀ (s : State) (i : Fin 128) (f : Nat), (getI s.cams.ctxs i).expected = [f] →
    ctxN s.toBlocks i 0x0B ≤ (2 ^ 48 + s.tickCount - 4 * f) % 2 ^ 48 →
    Does (.missingFrame i) s [.cams, .faults] (fun t =>
      (getI t.cams.ctxs i).expected = [] ∧ (getI t.cams.ctxs i).missing = inc32 (getI s.cams.ctxs i).missing))

/-- Pulses, deliveries, errors and control transactions of the cameras (R235–R238, R255, R256, Tables 9.8, 9.9).
The model's choices in it: assumptions 7, 8, 42, 43. -/
def Obligations.CameraControlCompletes : Prop :=
  (∀ (s : State) (c : Fin 20), firesNow s.toBlocks c = true →
    Does (.triggerPulse c) s [.cams, .out] (fun t =>
      let rise := s.now * 1024 + s.objN (0x3500 + c) 0x09
      let width := s.objN (0x3500 + c) 0x0A
      (s.objN (0x3500 + c) 0x09 < 1024 → t.out = s.out ++ [.trigger c (s.objN (0x3500 + c) 0x09) width] ∧
        (getI t.cams.ports c).pulse = some (s.frameIndex, rise, rise + width)) ∧
      (1024 ≤ s.objN (0x3500 + c) 0x09 → t.out = s.out ∧ (getI t.cams.ports c).pulse = some (s.frameIndex, rise, 0)) ∧
      (getI t.cams.ports c).manual = (getI s.cams.ports c).manual.filter (fun k => decide (s.now < k)) ∧
      (getI t.cams.ports c).layerDue = (getI s.cams.ports c).layerDue.filter (fun k => decide (s.now < k)) ∧ ∀ d, d ≠ c.val → getI t.cams.ports d = getI s.cams.ports d)) ∧
  (∀ (s : State) (i : Fin 128) (f n : Nat), deliveryFrame s.toBlocks i s.tickCount = some (f, n) →
    (getI s.melt.chans n).delivery = none →
    Does (.deliveryPoint i) s [.cams, .faults, .melt] (fun t =>
      t.melt = { s.melt with chans := updI s.melt.chans n (fun m =>
        { m with delivery := some { ctx := i, frame := f, latency := ctxN s.toBlocks i 0x19, set := deliveredSet s.toBlocks i f } }) } ∧
      (deliveredSet s.toBlocks i f = none → (getI t.cams.ctxs i).lateSets = inc32 (getI s.cams.ctxs i).lateSets) ∧
      (deliveredSet s.toBlocks i f ≠ none → t.faults = s.faults ∧ ∀ r ∈ (getI t.cams.ctxs i).ready, f < r.2.frame))) ∧
  (∀ (s : State) (c : Fin 20), (getI s.cams.ports c).link ≠ 0 →
    Does (.linkError c) s [.cams, .faults, .freeCtr, .melt, .reg] (fun t =>
      (getI t.cams.ports c).linkErrors = inc32 (getI s.cams.ports c).linkErrors ∧
      (getI t.cams.ports c).lines = (getI s.cams.ports c).lines ∧
      ∀ v < 4, (getI (getI t.cams.ports c).streams v).isOpen = false)) ∧
  (∀ (s : State) (c : Fin 20) (status : Nat) (bytes data : Bytes), (getI s.cams.ports c).use = .request data → 2 ≤ status → status ≤ 6 →
    (getI s.cams.ports c).link ≠ 1 →
    Does (.i2cTransactionComplete c status bytes) s [.cams] (fun t => t.cams = { s.cams with ports := updI s.cams.ports c (fun p =>
      { p with status, use := .none, response := if status = 2 then padTo 32 (bytes.take (fieldU data 2 1)) else p.response }) })) ∧
  (∀ (s : State) (c : Fin 20) (data : Bytes), (getI s.cams.ports c).use = .request data → (getI s.cams.ports c).link ≠ 1 →
    Does (.clockStretchTimeout c) s [.cams] (fun t =>
      t.cams = { s.cams with ports := updI s.cams.ports c (fun p => { p with status := 5, use := .none }) })) ∧
  (∀ (s : State) (c : Fin 20) (k u : Nat), (getI s.cams.ports c).use = .script k u → isDelay s.toBlocks c k = false →
    Does (.clockStretchTimeout c) s [.cams, .faults] (fun t =>
      t.cams = { s.cams with ports := updI s.cams.ports c (fun p => { p with link := 4, use := .none }) } ∧
      t.faults = posts s [mkEvent (.block 0) 0x0908 .warn .cameraPort c (leBytes 8 s.frameIndex)])) ∧
  (∀ (s : State) (c : Fin 20) (k u status : Nat), (getI s.cams.ports c).use = .script k u →
    (isDelay s.toBlocks c k = false ∧ status = 2 ∨ isDelay s.toBlocks c k = true ∧ u < microTime s.toBlocks + 10) →
    scriptLength s.toBlocks c ≤ k + 1 →
    Does (.initScriptEntryDone c status) s [.cams] (fun t =>
      t.cams = { s.cams with ports := updI s.cams.ports c (fun p => { p with link := 2, use := .none }) })) ∧
  (∀ (s : State) (c : Fin 20) (k u status : Nat), (getI s.cams.ports c).use = .script k u →
    (isDelay s.toBlocks c k = false ∧ status = 2 ∨ isDelay s.toBlocks c k = true ∧ u < microTime s.toBlocks + 10) →
    k + 1 < scriptLength s.toBlocks c →
    Does (.initScriptEntryDone c status) s [.cams, .out] (fun t =>
      let e := scriptBytes s.toBlocks c (k + 1)
      (isDelay s.toBlocks c (k + 1) = true → t.out = s.out ∧
        t.cams = { s.cams with ports := updI s.cams.ports c (fun p =>
          { p with use := .script (k + 1) (microTime s.toBlocks + fieldU e 4 4) }) }) ∧
      (isDelay s.toBlocks c (k + 1) = false →
        t.cams = { s.cams with ports := updI s.cams.ports c (fun p => { p with use := .script (k + 1) 0 }) } ∧
        t.out = s.out ++ [.i2c c (s.objN (0x3500 + c) 0x0E) (s.objN (0x3500 + c) 0x0F)
          [.free, .start (fieldU e 0 1) false, .write (slice e 2 (fieldU e 1 1)), .stop]]))) ∧
  (∀ (s : State) (c : Fin 20) (k u status : Nat), (getI s.cams.ports c).use = .script k u → isDelay s.toBlocks c k = false → status ≠ 2 →
    Does (.initScriptEntryDone c status) s [.cams, .faults] (fun t =>
      t.cams = { s.cams with ports := updI s.cams.ports c (fun p => { p with link := 4, use := .none }) } ∧
      t.faults = posts s [mkEvent (.block 0) 0x0908 .warn .cameraPort c (leBytes 8 s.frameIndex)])) ∧
  (∀ (s : State) (i : Fin 128) (m : LayerImage) (rest : List LayerImage), (getI s.cams.ctxs i).images = m :: rest →
    Does (.layerImageStored i) s [.cams] (fun t => t.cams = { s.cams with ctxs := updI s.cams.ctxs i (fun x =>
      { x with images := rest, image := m.data, imageIndex := m.index, geometry := m.geometry }) }))

/-! Melt pool, maps and registration (chapters 10 and 11) -/

/-- Decisions of the melt pool law and its maps (R268, R272, R277, R280, Table 10.2): each of the three conditions posts its event once, the
heat grid of the oldest layer without one is computed, and quality maps close and are replaced in order.
The model's choices in it: assumptions 8, 45, 46. -/
def Obligations.MeltPoolCommandsComplete : Prop :=
  (∀ (s : State) (n : Fin 32), s.objN (0x3600 + n) 0x09 ≤ (getI s.melt.chans n).lowRun → (getI s.melt.chans n).lost = false →
    Does (.signalLoss n) s [.faults, .melt] (fun t =>
      t.melt = { s.melt with chans := updI s.melt.chans n (fun m => { m with lost := true, lostPosted := true }) } ∧
      t.faults = posts s (if (getI s.melt.chans n).lostPosted then [] else [chanEvent n 0x0A02 .warn []]))) ∧
  (∀ (s : State) (n : Fin 32), s.objN (0x3600 + n) 0x0F ≤ (getI s.melt.chans n).absentRun → (getI s.melt.chans n).starvedPosted = false →
    Does (.cameraTermStarved n) s [.faults, .melt] (fun t =>
      t.melt = { s.melt with chans := updI s.melt.chans n (fun m => { m with starvedPosted := true }) } ∧
      t.faults = posts s [chanEvent n 0x0A04 .warn []])) ∧
  (∀ (s : State) (n : Fin 32), s.objN (0x3600 + n) 0x10 ≤ (getI s.melt.chans n).limitRun → (getI s.melt.chans n).limitPosted = false →
    Does (.correctionAtLimit n) s [.faults, .melt] (fun t =>
      t.melt = { s.melt with chans := updI s.melt.chans n (fun m => { m with limitPosted := true }) } ∧
      t.faults = posts s [chanEvent n 0x0A01 .warn []])) ∧
  (∀ (s : State) (pre post : List HeatDue) (d : HeatDue), s.melt.heatDue = pre ++ d :: post → (∀ x ∈ pre, x.grid.isSome = true) → d.grid = none →
    recordsRead s.toBlocks (d.c + 9) = true →
    Does .heatGridUpdate s [.melt] (fun t => t.melt = { s.melt with
      heatDue := pre ++ { d with grid := some (heatUpdate (lastGrid s.melt) d.decay d.ref d.layer d.energy) } :: post })) ∧
  (∀ s : State, Does .qualityMapClose s [.faults, .melt, .queues] (fun t =>
      let ready := s.melt.maps.filter (mapReady s.toBlocks)
      let told := fun (c : MapClosing) => (c.serial, c.since, c.map, c.left, c.planes)
      t.melt.maps = s.melt.maps.filter (fun m => !mapReady s.toBlocks m) ∧
      t.melt.closing.map told =
        (s.melt.closing ++ ready.mapIdx (fun k m => startClosing (s.melt.held.closed + k) s.now m)).map told ∧
      t.melt.held = { s.melt.held with closed := (s.melt.held.closed + ready.length) % 2 ^ 32 } ∧ t.melt.q47 = s.melt.q47 ∧
      t.faults = posts s ((ready.filter (fun m => decide (m.outside ≠ 0))).map (fun m => layerEvent 0x0A06 .note m.layer (leBytes 4 m.outside))))) ∧
  (∀ (s : State) (c : MapClosing) (rest : List MapClosing), s.melt.q47.foldl placeBlock s.melt.closing = c :: rest →
    Does .mapPlanesReplaced s [.melt] (fun t =>
      (c.left = 0 → t.melt = { s.melt with
        closing := rest, q47 := []
        held := { s.melt.held with
          layer := c.map.layer, job := c.map.job, completion := c.map.completion.getD 0, planes := planeObjects c } }) ∧
      (c.left ≠ 0 → t.melt = { s.melt with closing := c :: rest, q47 := [] })))

/-- Registration (R282, R286, R290): the observations of an exposer whose sides are known are recorded, a fen's solution joins the oldest
undecided layer, and the grids of a decided layer are committed at clock 8,800 for the next boundary.
The model's choices in it: assumptions 8, 45, 47. -/
def Obligations.RegistrationCommandsComplete : Prop :=
  (∀ (s : State) (n : Fin 32), Does (.observationRecord n) s [.reg] (fun t =>
      t.reg = { s.reg with
        waiting := s.reg.waiting.filter (fun x => !(x.exposer == n.val && markKnown s.toBlocks x))
        q45 := s.reg.q45 ++ (s.reg.waiting.filter (fun x => x.exposer == n.val && markKnown s.toBlocks x)).map (observe s.toBlocks) })) ∧
  (∀ (s : State) (z : Fin 256) (pre post : List LayerSolve) (l : LayerSolve) (c : FenCfg), (∀ x ∈ s.reg.waiting, x.fen ≠ z.val) →
    s.reg.layers = pre ++ l :: post → (∀ x ∈ pre, x.decided = true) → l.decided = false → (∀ r ∈ l.solved, r.fen ≠ z.val) →
    l.fens.find? (fun x => x.fen == z.val) = some c → layerObs s.reg l z ≠ [] →
    Does (.fenSolve z) s [.reg] (fun t => t.reg = { s.reg with
      layers := pre ++ { l with solved := l.solved ++ [solveFen c l.mats (layerObs s.reg l z)] } :: post })) ∧
  (∀ (s : State) (l : LayerSolve) (rest : List LayerSolve), s.reg.layers = l :: rest → l.decided = true →
    Does .gridUpdateCommit s [.dict, .faults, .reg, .time] (fun t =>
      t.time = { s.time with clock := reached s 8800 } ∧ t.reg.layers = rest ∧ t.dict.vals = s.dict.vals ∧
      ∀ k < 32, correctors s.toBlocks l k ≠ [] → (∀ r ∈ l.refused, r.1 ≠ k) → refusal s.toBlocks l k = none →
        ∃ w ∈ t.dict.pending, w.index = 0x3800 + k ∧ w.sub = 3 ∧ w.due = s.now + 1))

/-! Zhomon Link (chapter 12) -/

/-- Bring-up of a port (R318, R320, Table 12.14): TS2 ends training, ENUMERATE checks the node, 16 ECHO exchanges give the delay, the
configuration items are written in order and after the last acknowledgement the boundary's operation raises the port to UP; a check that fails
makes it MISMATCH, a training that times out DOWN. The model's choices in it: assumption 53. -/
def Obligations.PortBringUpCompletes : Prop :=
  (∀ (s : State) (p : Fin 64) (kind : Nat), (getI s.link.ports p).st = .train → kind = 1 ∨ kind = 2 →
    Does (.ts2Received p p.val kind false) s [.link] (fun t =>
      (getI t.link.ports p).st = .enum ∧ (getI t.link.ports p).step = .enumerate ∧ (getI t.link.ports p).since = s.now ∧
      ∀ q, q ≠ p.val → getI t.link.ports q = getI s.link.ports q)) ∧
  (∀ (s : State) (p : Fin 64) (h : NodeHead) (e : EnumPayload), (getI s.link.ports p).st = .enum → (getI s.link.ports p).step = .enumerate →
    frameFault p (serviceSequences s.toBlocks p) h = 0 →
    Does (.enumerateResponse p h e) s [.link, .faults, .out] (fun t =>
      let x := getI t.link.ports p
      x.info.kind = e.kind ∧ x.info.serial = e.serial ∧ x.info.links = e.links ∧ x.svc = none ∧
      (enumOk s.toBlocks p e = true → x.st = .enum ∧ x.step = .echo 0 0 ∧ t.faults = s.faults) ∧
      (enumOk s.toBlocks p e = false → x.st = .mismatch))) ∧
  (∀ (s : State) (p : Fin 64) (h : NodeHead) (roundTrip turnaround k : Nat) (sum : Int), (getI s.link.ports p).step = .echo k sum →
    frameFault p (serviceSequences s.toBlocks p) h = 0 →
    Does (.echoResponse p h roundTrip turnaround) s [.link, .faults, .out] (fun t =>
      let x := getI t.link.ports p
      let d := rndDiv (sum + ((roundTrip : Int) - turnaround)) 32
      (k < 15 → x.step = .echo (k + 1) (sum + ((roundTrip : Int) - turnaround)) ∧ x.svc = none) ∧
      (15 ≤ k → 0 ≤ d → d ≤ 1920 → x.step = .config 2 ∧ x.info.delay = d.toNat) ∧
      (15 ≤ k → (d < 0 ∨ 1920 < d) → x.st = .mismatch))) ∧
  (∀ (s : State) (p : Fin 64) (h : NodeHead) (item status : Nat), (getI s.link.ports p).step = .config item →
    frameFault p (serviceSequences s.toBlocks p) h = 0 → item = 1 ∨ item = 2 ∨ item = 3 ∨ item = 4 →
    Does (.configWriteResponse p h item status) s [.link, .faults, .out] (fun t =>
      let x := getI t.link.ports p
      x.svc = none ∧ (status ≠ 0 → x.st = .mismatch) ∧
      (status = 0 → item = 2 → x.step = .config (if p.val < 32 then 1 else 3)) ∧ (status = 0 → item = 3 → x.step = .config 4) ∧
      (status = 0 → item = 4 → x.step = .config 1) ∧
      (status = 0 → item = 1 → x.st = (getI s.link.ports p).st ∧ x.step = .acknowledged ∧ t.faults = s.faults))) ∧
  (∀ (s : State) (p : Fin 64), (getI s.link.ports p).st = .enum → (getI s.link.ports p).step = .acknowledged →
    let x := getI (raisePort s p).link.ports p
    x = { getI s.link.ports p with st := .up, since := s.now, step := .none, posted := x.posted }) ∧
  (∀ (s : State) (p : Fin 64), (getI s.link.ports p).st = .train → (getI s.link.ports p).since + 1500 ≤ s.now →
    Does (.trainTimeout p) s [.link, .faults] (fun t => (getI t.link.ports p).st = .down ∧ (getI t.link.ports p).since = s.now)) ∧
  (∀ (s : State) (p : Fin 64), (getI s.link.ports p).st = .down → (getI s.link.ports p).since + 1000 ≤ s.now →
    Does (.downTimeout p) s [.link] (fun t =>
      (getI t.link.ports p).st = .train ∧ (getI t.link.ports p).since = s.now ∧ (getI t.link.ports p).counts = (getI s.link.ports p).counts))

/-- Service requests, credit and link loss (R307, R308, R316, R318, R332): an answered request shows status 2 and its data, one without a
response is sent three times and then given up, CREDIT sets the freed count, a stall is counted and marks its slot, and a link that is lost
goes DOWN and is counted. The model's choices in it: assumption 53. -/
def Obligations.PortServiceCompletes : Prop :=
  (∀ (s : State) (p : Fin 64) (h : NodeHead) (item status : Nat) (data : Bytes), (getI s.link.ports p).step = .request →
    fieldU (getI s.link.ports p).reqData 0 1 = 0x23 → frameFault p (serviceSequences s.toBlocks p) h = 0 →
    Does (.configReadResponse p h item status data) s [.link, .out] (fun t =>
      let x := getI t.link.ports p
      x.reqStatus = 2 ∧ x.step = .none ∧ x.svc = none ∧
      x.response = leBytes 2 item ++ leBytes 1 status ++ leBytes 1 data.length ++ padTo 32 data ∧
      x.counts.valid = ((getI s.link.ports p).counts.valid + 1) % 2 ^ 32)) ∧
  (∀ (s : State) (p : Fin 64) (h : NodeHead) (item status : Nat), (getI s.link.ports p).step = .request →
    fieldU (getI s.link.ports p).reqData 0 1 = 0x22 → frameFault p (serviceSequences s.toBlocks p) h = 0 →
    Does (.configWriteResponse p h item status) s [.link, .out] (fun t =>
      (getI t.link.ports p).reqStatus = 2 ∧ (getI t.link.ports p).step = .none ∧ (getI t.link.ports p).svc = none)) ∧
  (∀ (s : State) (p : Fin 64) (r : ServiceReq), (getI s.link.ports p).svc = some r → r.sentTick + 10 ≤ s.now → r.sends < 3 →
    Does (.serviceFrameTimeout p) s [.link] (fun t =>
      t.link = { s.link with ports := updI s.link.ports p (fun x => { x with svc := some { r with due := true } }) })) ∧
  (∀ (s : State) (p : Fin 64) (r : ServiceReq), (getI s.link.ports p).svc = some r → r.due = true →
    (getI s.link.ports p).late = false → ((getI s.link.ports p).st = .enum ∨ (getI s.link.ports p).st = .up) →
    (servicePayload s.toBlocks p).isSome = true → hasCredit (getI s.link.ports p) = true →
    let t := slot2Frame s p
    sameBut [.link, .out] s t ∧
    (getI t.link.ports p).svc = some
      { sequences := zlSequence s.tickCount 2 :: r.sequences, sentTick := s.now, sends := r.sends + 1, due := false } ∧
    (getI t.link.ports p).counts.sent = ((getI s.link.ports p).counts.sent + 1) % 2 ^ 32 ∧ ∃ b, t.out = s.out ++ [.zlFrame p b]) ∧
  (∀ (s : State) (p : Fin 64) (r : ServiceReq), (getI s.link.ports p).svc = some r → r.sentTick + 10 ≤ s.now → 3 ≤ r.sends →
    Does (.serviceFrameTimeout p) s [.link, .faults] (fun t =>
      ((getI s.link.ports p).st = .enum → (getI t.link.ports p).st = .down) ∧
      ((getI s.link.ports p).st ≠ .enum → t.faults = s.faults ∧
        (getI t.link.ports p) = { getI s.link.ports p with reqStatus := 3, step := .none, svc := none }))) ∧
  (∀ (s : State) (p : Fin 64) (count : Nat), ((getI s.link.ports p).st = .enum ∨ (getI s.link.ports p).st = .up) →
    Does (.zlCredit p count) s [.link] (fun t =>
      t.link = { s.link with ports := updI s.link.ports p (fun x => { x with freedMod := count % 256 }) })) ∧
  (∀ (s : State) (p : Fin 64) (slot : Fin 2), (getI s.link.ports p).st = .up →
    16 ≤ ((getI s.link.ports p).sentMod + 256 - (getI s.link.ports p).freedMod) % 256 → bit (getI s.link.ports p).stalled slot = false →
    Does (.creditStall p slot) s [.link, .faults, .time, .work] (fun t =>
      (getI t.link.ports p).counts.stalls = inc32 (getI s.link.ports p).counts.stalls ∧
      (getI t.link.ports p).stalled = setBit (getI s.link.ports p).stalled slot true ∧
      ∀ q, q ≠ p.val → getI t.link.ports q = getI s.link.ports q)) ∧
  (∀ (s : State) (p : Fin 64) (cause : LinkCause), (getI s.link.ports p).st = .up →
    (cause = .noResponse → 100 ≤ (getI s.link.ports p).missRun) →
    Does (.zlLinkDown p cause) s [.link, .faults] (fun t =>
      (getI t.link.ports p).st = .down ∧ (getI t.link.ports p).since = s.now ∧
      (getI t.link.ports p).counts.downs = inc32 (getI s.link.ports p).counts.downs ∧
      ∀ q, q ≠ p.val → getI t.link.ports q = getI s.link.ports q))

/-- Links of a field node (R309, R319, R321, R324): training, TICK, loss of a TICK, of a link and of the authority. Without authority a laser
node emits nothing and a scanner node runs its ramp. The model's choices in it: assumptions 54, 80. -/
def Obligations.NodeLinksComplete : Prop :=
  (∀ (s : State) (p : Fin 64) (link : Fin 2), Does (.nodeTs1Received p link false) s [.link] (fun t =>
      t.link = { s.link with nodes := updI s.link.nodes p (fun x => { x with links := updI x.links link (fun k => { k with ts1 := 8 }) }) })) ∧
  (∀ (s : State) (p : Fin 64) (link : Fin 2), (getI (getI s.link.nodes p).links link).ts1 = 8 →
    Does (.nodeTs1Received p link true) s [.link] (fun t =>
      (getI t.link.nodes p).links = updI (getI s.link.nodes p).links link (fun k =>
        { k with trained := true, ts1 := 0, address := 0xFF, run := false, live := false, count := none }))) ∧
  (∀ (s : State) (p : Fin 64) (link : Fin 2) (count arrival : Nat) (ok : Bool), nodeTickOk (getI s.link.nodes p) link count ok = true →
    Does (.nodeTickReceived p link count ok arrival) s [.link] (fun t =>
      let x := getI s.link.nodes p
      let y := x.updLink link (fun k => { k with count := some count, live := k.run })
      (getI t.link.nodes p).links = y.links ∧ (getI t.link.nodes p).authority = authorityOf y ∧
      (authorityOf y = some link →
        (getI t.link.nodes p).reference = arrival - (getI x.links link).delay ∧ (getI t.link.nodes p).tickCount = some count))) ∧
  (∀ (s : State) (p : Fin 64), (getI s.link.nodes p).authority ≠ none →
    Does (.nodeTickMissing p) s [.link] (fun t => t.link = { s.link with nodes := updI s.link.nodes p (fun x =>
      endGate { x with reference := x.reference + 160000, tickCount := x.tickCount.map (fun k => (k + 1) % 65536) }) })) ∧
  (∀ (s : State) (p : Fin 64), (getI s.link.nodes p).authority = none →
    Does (.nodeAuthorityLost p) s [.link] (fun t =>
      let x := getI s.link.nodes p
      (getI t.link.nodes p).power.dark = true ∧ (getI t.link.nodes p).cmds = [] ∧ (getI t.link.nodes p).ramp = some (x.ramp.getD 0) ∧
      (x.ramp = none → (getI t.link.nodes p).rampFrom = x.currents) ∧ (getI t.link.nodes p).currents = x.currents)) ∧
  (∀ (s : State) (p : Fin 64) (link : Fin 2), Does (.nodeLinkUntrained p link) s [.link] (fun t =>
      let x := getI s.link.nodes p
      let y := x.updLink link (fun k => { k with trained := false, run := false, live := false, ts1 := 0, count := none })
      (getI t.link.nodes p).links = y.links ∧ (getI t.link.nodes p).authority = authorityOf y ∧
      (x.authority ≠ none → authorityOf y = none → (getI t.link.nodes p).power.dark = true ∧ (getI t.link.nodes p).cmds = []))) ∧
  (∀ (s : State) (p : Fin 64) (link : Fin 2), Does (.nodeLinkNotLive p link) s [.link] (fun t =>
      let x := getI s.link.nodes p
      let y := x.updLink link (fun k => { k with live := false })
      (getI t.link.nodes p).links = y.links ∧ (getI t.link.nodes p).authority = authorityOf y ∧
      (x.authority ≠ none → authorityOf y = none → (getI t.link.nodes p).power.dark = true ∧ (getI t.link.nodes p).cmds = [])))

/-- Frames and commands at a field node (R303, R310, R316, R321, R322, R325): a frame of the authority is accepted once by its sequence, a
repeated one counted; service frames are answered; a command is applied at its target tick, a missing one is counted and leaves a laser node
dark; GATE makes a laser node dark at once. The model's choices in it: assumption 54. -/
def Obligations.NodeFramesComplete : Prop :=
  (∀ (s : State) (p : Fin 64) (link : Fin 2) (f : DeviceFrame), nodeFrameOk (getI s.link.nodes p) link f = true → tickBody p f.body = true →
    fresher (getI s.link.nodes p) f.sequence = true → (frameSeen (getI s.link.nodes p) link f).authority = some link →
    Does (.nodeFrameReceived p link f) s [.link, .out, .freeCtr] (fun t =>
      (getI t.link.nodes p).accepted = some f.sequence ∧
      (∀ k st ev, f.body = .laserCommand k st ev → (getI t.link.nodes p).cmds =
        if gated (getI s.link.nodes p) k then (getI s.link.nodes p).cmds
        else (getI s.link.nodes p).cmds ++ [.laser k { start := st, events := ev }]) ∧
      (∀ k c m, f.body = .currentCommand k c m → (getI t.link.nodes p).cmds = (getI s.link.nodes p).cmds ++ [.currents k c m]))) ∧
  (∀ (s : State) (p : Fin 64) (link : Fin 2) (f : DeviceFrame), nodeFrameOk (getI s.link.nodes p) link f = true → tickBody p f.body = true →
    fresher (getI s.link.nodes p) f.sequence = false →
    Does (.nodeFrameReceived p link f) s [.link] (fun t =>
      (getI t.link.nodes p).duplicates = (getI s.link.nodes p).duplicates + 1 ∧
      (getI t.link.nodes p).accepted = (getI s.link.nodes p).accepted)) ∧
  (∀ (s : State) (p : Fin 64) (slot : Fin 2) (h : HeldFrame), getI (getI s.link.nodes p).held slot = some h →
    Does (.nodeHoldDeadline p slot) s [.link, .out, .freeCtr] (fun t =>
      getI (getI t.link.nodes p).held slot = none ∧ (getI t.link.nodes p).accepted =
        if fresher (getI s.link.nodes p) h.frame.sequence then some h.frame.sequence else (getI s.link.nodes p).accepted)) ∧
  (∀ (s : State) (p : Fin 64) (link : Fin 2) (f : DeviceFrame), nodeFrameOk (getI s.link.nodes p) link f = true → f.body = .echo →
    Does (.nodeServiceFrame p link f) s [.link, .out, .freeCtr] (fun t =>
      ∃ v, t.out = s.out ++ [.nodeFrame p link (nodeBytes (getI t.link.nodes p) link 0xA5 f.sequence (leBytes 4 v))])) ∧
  (∀ (s : State) (p : Fin 64) (link : Fin 2) (f : DeviceFrame) (address version : Nat),
    nodeFrameOk (getI s.link.nodes p) link f = true → f.body = .enumerate address version →
    (getI (getI s.link.nodes p).links (1 - link.val)).trained = false →
    Does (.nodeServiceFrame p link f) s [.link, .out, .freeCtr] (fun t =>
      (getI (getI t.link.nodes p).links link).address = address ∧
      ∃ b, t.out = s.out ++ [.nodeFrame p link (nodeBytes (getI t.link.nodes p) link 0xA1 f.sequence b)] ∧ b.getD 3 1 = 0)) ∧
  (∀ (s : State) (p : Fin 64) (link : Fin 2) (f : DeviceFrame) (v : Nat), nodeFrameOk (getI s.link.nodes p) link f = true →
    v < 2 ^ 32 → f.body = .configWrite 0x0002 (leBytes 4 v) →
    Does (.nodeServiceFrame p link f) s [.link, .out] (fun t =>
      t.out = s.out ++ [.nodeFrame p link (nodeBytes (getI t.link.nodes p) link 0xA2 f.sequence (leBytes 2 2 ++ [0]))] ∧
      (getI (getI t.link.nodes p).links link).delay = v)) ∧
  (∀ (s : State) (p : Fin 64) (link : Fin 2) (f : DeviceFrame) (item : Nat), nodeFrameOk (getI s.link.nodes p) link f = true →
    f.body = .configRead item → item = 1 ∨ item = 2 →
    Does (.nodeServiceFrame p link f) s [.link, .out] (fun t => ∃ b, t.out = s.out ++
      [.nodeFrame p link (nodeBytes (getI t.link.nodes p) link 0xA3 f.sequence (leBytes 2 item ++ [0] ++ b))])) ∧
  (∀ (s : State) (p : Fin 64) (k : Nat) (c : NodeCommand), (getI s.link.nodes p).authority ≠ none → (getI s.link.nodes p).tickCount = some k →
    ((getI s.link.nodes p).cmds.filter (fun x => x.target == k)).getLast? = some c →
    Does (.nodeApplyCommand p) s [.link] (fun t =>
      let x := getI t.link.nodes p
      x.missRun = 0 ∧ x.ramp = none ∧ (∀ y ∈ x.cmds, y.target ≠ k) ∧ (∀ v, c = .laser k v → x.power = v) ∧
      (∀ v m, c = .currents k v m → ∀ q : Fin 3,
        x.currents[q] = if bit (getI s.link.nodes p).axisMask q && bit m q then v[q] else 0))) ∧
  (∀ (s : State) (p : Fin 64), (getI s.link.nodes p).authority ≠ none → commandDue (getI s.link.nodes p) = false →
    Does (.nodeCommandMissed p) s [.link] (fun t =>
      let x := getI s.link.nodes p
      (getI t.link.nodes p).missed = (x.missed + 1) % 65536 ∧
      (p.val < 32 → (getI t.link.nodes p).power.dark = true ∧ (getI t.link.nodes p).commandMissed = true) ∧
      (32 ≤ p.val → (getI t.link.nodes p).missRun = x.missRun + 1 ∧
        (x.missRun < 2 → (getI t.link.nodes p).currents = x.currents) ∧ (2 ≤ x.missRun → (getI t.link.nodes p).ramp.isSome = true)))) ∧
  (∀ (s : State) (p : Fin 64) (link : Fin 2), p.val < 32 →
    Does (.nodeGateReceived p link) s [.link] (fun t =>
      (getI t.link.nodes p).power.dark = true ∧ (getI t.link.nodes p).gateSeen = true ∧
      (getI t.link.nodes p).currents = (getI s.link.nodes p).currents))

/-! The pair of units (chapter 13) -/

/-- Messages of the peer link (R341, R343–R345, R348): a HELLO that passes counts towards the sixteen and forms the pair, one that fails
posts 0x0D09; STATE, MIRROR, MEASURE, forwarded writes and the package stream are taken by the unit they are for; ACK releases the response
held back; a message that fails its check counts as a lane error and does nothing else.
The model's choices in it: assumptions 64, 69, 70, 71. -/
def Obligations.PeerMessagesComplete : Prop :=
  (∀ (s : State) (m : HelloMsg), m.valid = true → formsPair s.toBlocks = true → s.jobRuns = false → m.jobRunning = false →
    helloPasses s.toBlocks m = true →
    Does (.hello m) s [.pair, .queues] (fun t =>
      t.pair.passed = true ∧ (s.pair.hellos < 16 → t.pair.hellos = s.pair.hellos + 1 ∧ t.pair.roundTrips = s.pair.roundTrips + m.roundTrip) ∧
      (s.pair.hellos = 15 → t.pair.delay = (rndDiv ((s.pair.roundTrips + m.roundTrip : Nat) : Int) 32).toNat) ∧
      (s.pair.st = .discover → s.pair.next = none → t.pair.next = some (.sync, 0)))) ∧
  (∀ (s : State) (m : HelloMsg), m.valid = true → formsPair s.toBlocks = true → s.jobRuns = false → m.jobRunning = false →
    helloPasses s.toBlocks m = false → s.pair.st = .sync →
    Does (.hello m) s [.faults, .pair, .queues] (fun t =>
      t.pair = { s.pair with passed := false } ∧ t.faults = posts s [pairEvent 0x0D09 .warn []])) ∧
  (∀ (s : State) (m : HelloMsg), m.valid = false →
    Does (.hello m) s [.pair, .work] (fun t => t.pair = { s.pair with laneErrors := inc32 s.pair.laneErrors })) ∧
  (∀ (s : State) (values pending : List ObjVal) (replay : List GdpResponse) (c : SessionCopy) (packages : List Bytes),
    s.pair.st = .sync → s.pair.chosen = false →
    Does (.state true values pending replay (some c) packages) s [.host, .pair, .queues, .work] (fun t =>
      t.work.stateSeen = true ∧ t.work.imageValues = s.work.imageValues ++ values ∧
      t.work.imagePending = s.work.imagePending ++ pending ∧ t.work.imagePackages = s.work.imagePackages ++ packages ∧
      t.host.replay.length ≤ 256 ∧ t.host.session.id = c.id ∧ t.host.session.sequence = c.sequence ∧ t.host.session.offset = c.offset)) ∧
  (∀ (s : State) (entries : List MirrorEntry), inLockstep s.toBlocks = true →
    Does (.mirror true entries) s [.work] (fun t => t.work = { s.work with mirror := s.work.mirror ++ entries })) ∧
  (∀ (s : State) (m : MeasureMsg), m.valid = true → s.pair.st = .standby →
    Does (.measure m) s [.work] (fun t => t.work = { s.work with measure := some m })) ∧
  (∀ (s : State) (sequence commitTime boundary : Nat) (o : ObjVal), s.pair.st = .standby → isBoot o.index o.sub = false → o.index ≠ 0x4200 →
    0 < (boundary + 2 ^ 48 - s.tickCount) % 2 ^ 48 → (boundary + 2 ^ 48 - s.tickCount) % 2 ^ 48 < 2 ^ 47 →
    Does (.peerWrite true sequence [o] commitTime boundary none) s [.dict, .out, .pair, .queues] (fun t =>
      let due := s.now + (boundary + 2 ^ 48 - s.tickCount) % 2 ^ 48
      t.out = s.out ++ [.peer (peerBytes 5 (getI s.pair.sequences 5) s.tickCount (leBytes 1 4 ++ leBytes 4 sequence))] ∧
      t.pair.groupDues = s.pair.groupDues ++ [due] ∧
      t.dict = { s.dict with
        commits := (s.dict.commits + 1) % 2 ^ 32, lastCommit := commitTime
        pending := putPending s.now s.dict.pending
          { newPending s.toBlocks o.index o.sub (copiedVal o) false with due, commitTime } })) ∧
  (∀ (s : State) (sequence commitTime boundary : Nat) (items : List ObjVal) (r : Option GdpResponse), s.pair.st = .standby →
    (boundary + 2 ^ 48 - s.tickCount) % 2 ^ 48 = 0 →
    Does (.peerWrite true sequence items commitTime boundary r) s [.out, .pair, .queues] (fun t =>
      t.out = s.out ++ [.peer (peerBytes 5 (getI s.pair.sequences 5) s.tickCount (leBytes 1 4 ++ leBytes 4 sequence))])) ∧
  (∀ (s : State) (sequence : Nat) (f : Forwarded) (r : GdpResponse), s.pair.st = .active →
    s.pair.forwarded.find? (fun x => x.sequence == sequence) = some f → f.response = some r →
    Sendable s.toBlocks (if r.port = 0 then 49 else 53) r.port r.src (gdpBytes r).length →
    getI s.host.requests 0 = [] → getI s.host.requests 1 = [] →
    Does (.ack true 4 sequence) s [.host, .out, .pair, .queues] (fun t =>
      t.pair = { s.pair with forwarded := s.pair.forwarded.filter (fun x => x.sequence != sequence) } ∧
      t.out = s.out ++ [.frame r.port (vlanTag s.toBlocks r.port) (.udp 47410 r.src (gdpBytes r))])) ∧
  (∀ (s : State) (f : Forwarded) (r : GdpResponse), s.pair.forwarded = [f] → f.due ≤ s.now → f.sent < s.now → f.response = some r →
    Sendable s.toBlocks (if r.port = 0 then 49 else 53) r.port r.src (gdpBytes r).length →
    getI s.host.requests 0 = [] → getI s.host.requests 1 = [] →
    Does .peerAckTimeout s [.host, .out, .pair, .queues] (fun t =>
      t.pair.forwarded = [{ f with sequence := getI s.pair.sequences 4, sent := s.now, response := none }] ∧
      t.out = s.out ++ [.frame r.port (vlanTag s.toBlocks r.port) (.udp 47410 r.src (gdpBytes r)),
        .peer (peerBytes 4 (getI s.pair.sequences 4) s.tickCount f.body)])) ∧
  (∀ (s : State) (f : Forwarded), s.pair.forwarded = [f] → f.due ≤ s.now → f.sent < s.now → f.response = none →
    getI s.host.requests 0 = [] → getI s.host.requests 1 = [] →
    Does .peerAckTimeout s [.host, .out, .pair] (fun t =>
      t.pair.forwarded = [{ f with sequence := getI s.pair.sequences 4, sent := s.now }] ∧
      t.out = s.out ++ [.peer (peerBytes 4 (getI s.pair.sequences 4) s.tickCount f.body)])) ∧
  (∀ (s : State) (offset sequence : Nat) (data : Bytes), s.pair.st = .standby → s.work.stream = [] → data.length < 64 →
    Does (.stream true offset sequence data) s [.queues, .work] (fun t =>
      t.work = { s.work with stream := data, streamOffset := offset })) ∧
  (∀ (s : State) (offset sequence : Nat) (data : Bytes) (p : Package) (ends : Vector (Option Pt) 32), s.pair.st = .standby →
    s.work.stream = [] → 64 ≤ data.length → fieldU data 8 4 = data.length → checkPackage s.job data = .ok (p, ends) → p.first = false →
    Does (.stream true offset sequence data) s [.faults, .host, .job, .queues, .work] (fun t =>
      t.job.store = s.job.store ++ [newStored p data] ∧ t.host.session.sequence = (sequence + 1) % 2 ^ 32 ∧
      t.host.session.offset = offset + data.length ∧ t.work.stream = []))

/-- States of the pair (R335, R338, R348, R352, R353, R355, R361, Tables 13.3, 13.11): what each event makes the unit do at the next tick
boundary. The model's choices in it: assumptions 2, 8, 57, 64, 65, 66, 68. -/
def Obligations.PairStateCommandsComplete : Prop :=
  (∀ (s : State) (image : StateImage), lockstepReady s.toBlocks = true → s.pair.chosen = true →
    Does (.lockstepEntry image) s [.pair] (fun t => t.pair = { s.pair with next := some (.active, 0) })) ∧
  (∀ (s : State) (image : StateImage), lockstepReady s.toBlocks = true → s.pair.chosen = false →
    Does (.lockstepEntry image) s [.axes, .cams, .dict, .values, .faults, .host, .job, .light, .link, .melt, .out, .pair, .power, .queues, .scan,
      .steps, .temp, .time, .work] (fun t =>
      t.pair.next = some (.standby, 0) ∧ t.axes = image.axes ∧ t.steps = image.steps ∧ t.melt = image.melt ∧ t.scan.chans = image.chans)) ∧
  (∀ s : State, s.pair.st = .discover → s.pair.next = none → s.pair.acquire = false → s.start.phase = 0 → s.pair.since + 5000 ≤ s.now →
    Does .discoverTimeout s [.faults, .pair] (fun t =>
      t.faults = posts s [pairEvent 0x0D02 .warn []] ∧
      t.pair = if claimMode s.toBlocks || s.pair.drives then { s.pair with next := some (.alone, 5) } else { s.pair with acquire := true })) ∧
  (∀ s : State, heartbeatDue s.toBlocks = true →
    Does .heartbeatLoss s [.faults, .pair] (fun t =>
      t.faults = posts s [pairEvent 0x0D03 .warn []] ∧
      t.pair = if claimMode s.toBlocks || s.pair.drives then { s.pair with next := some (.alone, 5) } else { s.pair with acquire := true })) ∧
  (∀ (s : State) (ns : Nat), s.pair.acquire = true → acquireWait s.toBlocks ≤ ns → s.pair.next = none →
    Does (.peerAuthAcquire ns true) s [.pair] (fun t =>
      t.pair.drives = true ∧ t.pair.lineLow = true ∧ t.pair.acquire = false ∧
      t.pair.next = if s.pair.st = .standby ∨ s.pair.st = .discover then some (.alone, 5) else none)) ∧
  (∀ (s : State) (ns : Nat), s.pair.acquire = true → acquireWait s.toBlocks ≤ ns → s.pair.next = none →
    s.pair.st = .standby ∨ s.pair.st = .discover →
    Does (.peerAuthAcquire ns false) s [.pair] (fun t =>
      t.pair = { s.pair with acquire := false, lineLow := true, next := some (.detached, 5) })) ∧
  (∀ (s : State) (h cause : Nat), s.work.handOver = some (h, cause) → h ≤ s.now + 1 → (s.pair.st = .active ∨ s.pair.st = .standby) →
    Does .handOver s [.faults, .out, .pair, .pins, .work] (fun t =>
      t.pair.st = (if s.pair.st = .active then .standby else .active) ∧ t.pair.since = s.now ∧ t.work.handOver = none)) ∧
  (∀ s : State, s.pair.linkUp = true → s.pair.st ≠ .single →
    Does .peerLinkDown s [.faults, .pair] (fun t =>
      t.pair.linkUp = false ∧ t.faults = posts s [pairEvent 0x0D0B .warn []] ∧
      (s.pair.st = .sync → s.pair.next = none → t.pair.next = some (.detached, 0)))) ∧
  (∀ s : State, Does .peerLinkUp s [.pair] (fun t => t.pair = { s.pair with linkUp := true, downRun := 0 })) ∧
  (∀ s : State, s.pair.st ≠ .single → (s.pair.drives = true ∨ peerFlag s.toBlocks 4 = false) →
    Does .peerAuthNFault s [.faults, .pair] (fun t =>
      t.pair = { s.pair with lineLow := !s.pair.drives } ∧ t.faults = posts s [pairEvent 0x0D0C .warn []]))

/-- Wisps and health (R348, R354, R356, R358–R360, Tables 13.5, 13.8): a wisp is kept and compared, a missing one counted; the echo,
reversion and health rules ask for their changes; the lantern report goes out at its time.
The model's choices in it: assumptions 2, 8, 67, 72. -/
def Obligations.PairHealthCommandsComplete : Prop :=
  (∀ (s : State) (w : WispMsg), w.valid = true → s.pair.st ≠ .single →
    Does (.wisp w) s [.faults, .freeCtr, .pair, .time, .work] (fun t =>
      t.pair.wisp = some w ∧ t.freeCtr = s.freeCtr + 1 ∧
      (wispOnTime s.toBlocks w = true → t.pair.wispTick = s.now ∧ t.pair.missRun = 0) ∧
      (s.pair.st = .alone ∨ s.pair.st = .detached → s.jobRuns = false → bit w.flags 3 = false → s.pair.next = none →
        t.pair.next = some (.sync, 0)) ∧
      (s.pair.st = .active → w.tick = s.tickCount → w.pairState ≠ 5 → w.digest ≠ s.pair.digest → s.work.localFault = false →
        bit w.flags 0 = false → t.pair.mismatches = inc32 s.pair.mismatches ∧ t.faults = posts s [pairEvent 0x0D05 .warn []]))) ∧
  (∀ s : State, s.pair.st ≠ .single → s.pair.wispTick ≠ s.now → s.pair.missTick ≠ s.now →
    Does .wispMissing s [.pair] (fun t =>
      t.pair = { s.pair with missTick := s.now, missRun := s.pair.missRun + 1, missed := inc32 s.pair.missed })) ∧
  (∀ s : State, (s.pair.st = .active ∨ s.pair.st = .standby) →
    Does .unitLocalFault s [.work] (fun t => t.work = { s.work with localFault := true })) ∧
  (∀ s : State, s.pair.st = .alone → claimMode s.toBlocks = true → isHome s.toBlocks = false → s.objN 0x2400 0x04 ≤ s.work.homeRun →
    s.pair.next = none → Does .echoRule s [.pair] (fun t => t.pair = { s.pair with next := some (.detached, 7) })) ∧
  (∀ (s : State) (k : Nat), s.pair.st = .active → isHome s.toBlocks = false → s.objB 0x2400 0x05 = true → peerState s.toBlocks = 4 →
    s.work.healthySince = some k → k + s.objN 0x2400 0x06 ≤ s.now → s.work.handOver = none →
    Does .reversion s [.work] (fun t =>
      t.work = { s.work with handOver := some (s.now + (if s.job.decided then 3 else 2), 3) })) ∧
  (∀ s : State, s.pair.st = .active → 1000 ≤ s.work.unhealthyRun → peerState s.toBlocks = 4 → peerFlag s.toBlocks 2 = true →
    s.work.handOver = none →
    Does .healthRule s [.work] (fun t =>
      t.work = { s.work with handOver := some (s.now + (if s.job.decided then 3 else 2), 2) })) ∧
  (∀ s : State, s.pair.st ≠ .single → s.pair.lanternDue ≤ s.now →
    Does .lanternReport s [.host, .out, .pair, .queues, .work] (fun t =>
      t.pair = { s.pair with
        lantern := lanternBody s.toBlocks, lanternSequence := (s.pair.lanternSequence + 1) % 2 ^ 32
        lanternDue := s.now + s.objN 0x2400 0x07 } ∧
      t.work = { s.work with corrected := 0, uncorrectable := 0, laneSince := 0, passes := 0 })) ∧
  (∀ s : State, Does .pllOutOfLock s [.work] (fun t =>
      t.work = { s.work with health := updI s.work.health 3 (fun h => { h with until_ := s.now + 100000 }) }))

/-! Steppers, LED strings, run-length coding and temperatures (chapters 14 to 17) -/

/-- Decisions of a stepper axis (R369, R370, R375–R377, R382–R385, Tables 14.3, 14.4): moves start and end, dwells end, limit switches and
stalls stop the axis, homing goes through its phases, a failed phase stops it, and a resting axis takes its hold current.
The model's choices in it: assumptions 8, 55. -/
def Obligations.StepperDecisionsComplete : Prop :=
  (∀ (s : State) (m : Fin 8) (v : StepMove) (q : List StepMove),
    ((getI s.steps m).st = .idle ∧ s.objB (0x4000 + m) 0x00 = true ∨ (getI s.steps m).st = .dwell ∧ (getI s.steps m).dwellEnd ≤ s.now) →
    (getI s.steps m).queue = v :: q →
    moveRefusal (stepEnv s.toBlocks m) (getI s.steps m) v (getI s.steps m).pos (v.target (getI s.steps m).pos) = 0 →
    Does (.moveStart m) s [.faults, .steps] (fun t =>
      let x := getI t.steps m
      x.st = .moving ∧ x.queue = q ∧ x.move = some v ∧ x.pos = (getI s.steps m).pos ∧ x.holding = false ∧ x.released = false ∧
      t.faults = s.faults ∧ ∀ k, k ≠ m.val → getI t.steps k = getI s.steps k)) ∧
  (∀ (s : State) (m : Fin 8) (v : StepMove) (q : List StepMove) (c : Nat), (getI s.steps m).st = .idle → s.objB (0x4000 + m) 0x00 = true →
    (getI s.steps m).queue = v :: q →
    moveRefusal (stepEnv s.toBlocks m) (getI s.steps m) v (getI s.steps m).pos (v.target (getI s.steps m).pos) = c → c ≠ 0 →
    Does (.moveStart m) s [.faults, .steps] (fun t =>
      (getI t.steps m).st = .idle ∧ (getI t.steps m).queue = [] ∧ (getI t.steps m).move = none ∧
      t.faults = posts s [stepEvent m 0x0E07 (if s.jobRuns then .stopJob else .warn) (leBytes 1 c)])) ∧
  (∀ (s : State) (m : Fin 8) (v : StepMove), (getI s.steps m).st = .moving → moveArrived (getI s.steps m) = true →
    (getI s.steps m).move = some v → 0 < v.dwell + (if bit s.temp.axisThrottle m then s.objN (0x4000 + m) 0x0B else 0) →
    Does (.moveEnd m) s [.faults, .steps] (fun t =>
      let x := getI t.steps m
      x.st = .dwell ∧ x.dwellEnd = s.now + (v.dwell + (if bit s.temp.axisThrottle m then s.objN (0x4000 + m) 0x0B else 0)) ∧
      x.moves = inc32 (getI s.steps m).moves ∧ x.move = none ∧ t.faults = s.faults)) ∧
  (∀ (s : State) (m : Fin 8), (getI s.steps m).st = .dwell → (getI s.steps m).dwellEnd ≤ s.now → (getI s.steps m).queue = [] →
    Does (.moveDwellEnd m) s [.faults, .steps] (fun t =>
      (getI t.steps m).st = .idle ∧ (getI t.steps m).move = none ∧ t.faults = s.faults)) ∧
  (∀ (s : State) (m : Fin 8), (getI s.steps m).st = .moving → 0 < (getI s.steps m).vel → (2, true) ∈ (getI s.steps m).decision.edges →
    (switchOn (getI s.steps m) 1 && switchOn (getI s.steps m) 2) = false →
    Does (.stableEdge m 2) s [.faults, .steps] (fun t =>
      let x := getI t.steps m
      x.st = .stopped ∧ x.latched = 0x0E02 ∧ x.trusted = false ∧ x.queue = [] ∧ x.velNext = 0 ∧
      x.limitStops = inc32 (getI s.steps m).limitStops ∧ t.faults = posts s [stepEvent m 0x0E02 .stopJob []])) ∧
  (∀ (s : State) (m : Fin 8), (getI s.steps m).decision.stall = true → (getI s.steps m).st ≠ .stopped →
    Does (.stall m) s [.faults, .steps] (fun t =>
      let x := getI t.steps m
      x.st = .stopped ∧ x.latched = 0x0E01 ∧ x.trusted = false ∧ x.queue = [] ∧ x.stalls = inc32 (getI s.steps m).stalls ∧
      t.faults = posts s [stepEvent m 0x0E01 .stopJob []])) ∧
  (∀ (s : State) (m : Fin 8), (getI s.steps m).st = .homing → homingPhaseOver (stepEnv s.toBlocks m) (getI s.steps m) = true →
    Does (.homingPhaseEnd m) s [.faults, .steps] (fun t =>
      let x := getI t.steps m
      let y := getI s.steps m
      (y.phase = 1 → x.st = .homing ∧ x.phase = 2 ∧ x.trusted = y.trusted ∧ t.faults = s.faults) ∧
      (y.phase = 2 → x.st = .homing ∧ x.phase = 3 ∧ x.trusted = y.trusted ∧ t.faults = s.faults) ∧
      (y.phase = 3 → x.st = .idle ∧ x.trusted = true ∧
        x.pos = y.pos + (s.objI (0x4000 + m) 0x38 * 65536 - (getI y.switches (s.objN (0x4000 + m) 0x30)).edgePos) ∧
        t.faults = posts s [stepEvent m 0x0E05 .note []]))) ∧
  (∀ (s : State) (m : Fin 8) (code reason : Nat), (getI s.steps m).st = .homing →
    homingFailure (stepEnv s.toBlocks m) (getI s.steps m) = some (code, reason) →
    Does (.homingFailed m) s [.faults, .steps] (fun t =>
      (getI t.steps m).st = .stopped ∧ (getI t.steps m).trusted = false ∧ (getI t.steps m).latched = code ∧
      t.faults = posts s [stepEvent m code (if code = 0x0E02 then .stopJob else .warn) (if code = 0x0E03 then leBytes 1 reason else [])])) ∧
  (∀ (s : State) (m : Fin 8), (getI s.steps m).motion = .rest → (getI s.steps m).restSince + s.objN (0x4000 + m) 0x13 ≤ s.now →
    Does (.standstillDelay m) s [.steps] (fun t => t.steps = updI s.steps m (fun x => { x with holding := true })))

/-- LED strings (R393, R394, R399–R402): patterns are fixed once for the coming frame, an open is noticed in a current window and located lamp
by lamp, a probe stores the voltage and judges the lamp, and probes that found no place are counted.
The model's choices in it: assumptions 8, 49. -/
def Obligations.LedCommandsComplete : Prop :=
  (∀ s : State, s.tickCount % 4 = 3 → s.time.running = true → drivesOutputs s.toBlocks = true → s.light.fixed ≠ s.now + 1 →
    Does .patternFix s [.faults, .light, .time] (fun t =>
      t.time = { s.time with clock := reached s 9500 } ∧ t.light.fixed = s.now + 1 ∧ t.light.rle = s.light.rle ∧
      ∀ l < 16, ((getI s.light.strings l).st = .off → s.objB (0x4100 + l) 0x00 = true → (getI t.light.strings l).st = .on) ∧
        ((getI s.light.strings l).st = .off → s.objB (0x4100 + l) 0x00 = false → getI t.light.strings l = getI s.light.strings l) ∧
        ((getI s.light.strings l).st = .fault → getI t.light.strings l = getI s.light.strings l))) ∧
  (∀ (s : State) (l : Fin 16) (w current : Nat), (getI s.light.strings l).st = .on → drivesOutputs s.toBlocks = true →
    windowCounts s.toBlocks (getI s.light.strings l) (s.objN (0x4100 + l) 0x01) w = true → inSpan (getI s.light.strings l) w = false →
    Does (.openDetected l w current) s [.light] (fun t =>
      (s.objN (0x4100 + l) 0x0A ≤ current →
        t.light = { s.light with strings := updI s.light.strings l (fun x => { x with current }) }) ∧
      (current < s.objN (0x4100 + l) 0x0A →
        (getI t.light.strings l).st = .locating ∧ (getI t.light.strings l).current = current ∧
        (getI t.light.strings l).changes = [(0, allClosed)] ∧
        (getI t.light.strings l).candidates = (List.range (s.objN (0x4100 + l) 0x01)).filter (fun k =>
          !bit (patternAt (getI s.light.strings l).changes (205 * w)) k)))) ∧
  (∀ (s : State) (l : Fin 16) (k p current : Nat), (getI s.light.strings l).st = .locating → (getI s.light.strings l).test = some (k, p) →
    Does (.locateTest l current) s [.light, .faults] (fun t =>
      let x := getI t.light.strings l
      let rest := (getI s.light.strings l).candidates.filter (fun c => c != k)
      (current < s.objN (0x4100 + l) 0x0A →
        bit x.failed k = true ∧ x.opens = inc32 (getI s.light.strings l).opens ∧ x.candidates = [] ∧
        t.faults = posts s [ledEvent l 0x0F01 .warn (leBytes 1 k)]) ∧
      (s.objN (0x4100 + l) 0x0A ≤ current → rest ≠ [] → x.st = .locating ∧ x.candidates = rest ∧ t.faults = s.faults) ∧
      (s.objN (0x4100 + l) 0x0A ≤ current → rest = [] → x.st = .fault ∧ t.faults = posts s [ledEvent l 0x0F03 .warn []]))) ∧
  (∀ (s : State) (l : Fin 16) (k p current voltage : Nat), (getI s.light.strings l).st = .on → (getI s.light.strings l).test = some (k, p) →
    Does (.probe l current voltage) s [.light, .faults] (fun t =>
      let x := getI t.light.strings l
      let y := getI s.light.strings l
      x.voltages = y.voltages.set k voltage ∧ x.test = none ∧
      (current < s.objN (0x4100 + l) 0x0A → bit x.failed k = true ∧ x.opens = inc32 y.opens ∧
        t.faults = posts s [ledEvent l 0x0F01 .warn (leBytes 1 k)]) ∧
      (s.objN (0x4100 + l) 0x0A ≤ current → voltage < s.objN (0x4100 + l) 0x0B → bit x.failed k = true ∧ bit x.shorted k = true ∧
        t.faults = posts s [ledEvent l 0x0F02 .warn (leBytes 1 k)]) ∧
      (s.objN (0x4100 + l) 0x0A ≤ current → s.objN (0x4100 + l) 0x0B ≤ voltage → x.failed = y.failed ∧ t.faults = s.faults))) ∧
  (∀ (s : State) (l : Fin 16), missedProbes s.toBlocks l ≠ [] →
    Does (.probeNotPlaced l) s [.light, .faults] (fun t =>
      let y := getI s.light.strings l
      (getI t.light.strings l).notPlaced =
        satU 32 (y.notPlaced + sumN ((missedProbes s.toBlocks l).map (fun k => (s.now - nth y.probed k) / 100000))) ∧
      t.faults = if ledDue s.now y.notPlacedPosted then posts s [ledEvent l 0x0F06 .note []] else s.faults))

/-- The run-length engine (R413, R416, R417): blocks of a closing map come first, each mismatch is counted, two of them drop the map; a host
job goes on block by block until its input ends, its output is full or a block is bad. The model's choices in it: assumptions 8, 50. -/
def Obligations.RunLengthCommandsComplete : Prop :=
  (∀ (s : State) (e : MapCells) (rest : List MapCells), s.melt.q46 = e :: rest →
    blockBytes s.melt.q47 + (blockOf (compressCells e.cells.length e.cells)).length ≤ 524288 →
    Does (.mapBlockCompress 0) s [.faults, .light, .melt, .queues] (fun t =>
      t.melt = { s.melt with
        q46 := rest
        q47 := s.melt.q47 ++ [{ serial := e.serial, plane := e.plane, data := blockOf (compressCells e.cells.length e.cells) }] } ∧
      t.faults = s.faults ∧
      t.light = { s.light with rle := { s.light.rle with mapBlocks := inc32 s.light.rle.mapBlocks } })) ∧
  (∀ (s : State) (e : MapCells) (rest : List MapCells), s.melt.q46 = e :: rest →
    blockBytes s.melt.q47 + (blockOf (compressCells e.cells.length e.cells)).length ≤ 524288 →
    Does (.mapBlockCompress 2) s [.faults, .light, .melt, .queues] (fun t =>
      t.melt = { s.melt with
        closing := s.melt.closing.filter (fun c => c.serial != e.serial), q46 := rest.filter (fun d => d.serial != e.serial) } ∧
      t.light.rle.mismatches = satU 32 (s.light.rle.mismatches + 2) ∧
      t.faults = posts s (rleEvent 0x1001 .note [] :: (s.melt.closing.filter (fun c => c.serial == e.serial)).map
        (fun c => mkEvent (.block 1) 0x1002 .warn .layerPackage 0 (leBytes 4 c.map.layer))))) ∧
  (∀ (s : State) (mismatches : Nat) (e : MapCells) (rest : List MapCells), s.melt.q46 = e :: rest →
    524288 < blockBytes s.melt.q47 + (blockOf (compressCells e.cells.length e.cells)).length →
    Does (.mapBlockCompress mismatches) s [.queues] (fun t => (getI t.queues 47).waiting = true)) ∧
  (∀ (s : State) (mismatches : Nat), s.light.rle.st = .running → mapWork s.toBlocks = false →
    Does (.rleBlock mismatches true) s [.faults, .light] (fun t =>
      t.light.rle = { s.light.rle with st := .error, errorCode := 11, errorOffset := s.light.rle.consumed } ∧
      t.faults = posts s [rleEvent 0x1003 .note []])) ∧
  (∀ (s : State) (n : Nat) (cells : List Nat), s.light.rle.st = .running → mapWork s.toBlocks = false → s.objN 0x4200 0x01 ≠ 0 →
    decodeBlock ((s.objT 0x4200 0x02).drop s.light.rle.consumed) = .ok (n, cells) →
    Does (.rleBlock 0 false) s [.faults, .light] (fun t =>
      let r := s.light.rle
      (r.output.length + 2 * cells.length ≤ s.objN 0x4200 0x03 →
        t.light.rle = { r with
          output := r.output ++ (cells.map (leBytes 2)).flatten, consumed := r.consumed + n, blocksRun := inc32 r.blocksRun
          hostBlocks := inc32 r.hostBlocks
          st := if (s.objT 0x4200 0x02).length ≤ r.consumed + n then .done else .running }) ∧
      (s.objN 0x4200 0x03 < r.output.length + 2 * cells.length → t.light.rle = { r with st := .full }) ∧ t.faults = s.faults))

/-- Temperatures (R426, R430): a slot's result is kept for its scan, a scan is published once in its tick, and the die warning is posted on
the rise and at most once per 100,000 ticks. The model's choices in it: assumptions 8, 58, 83. -/
def Obligations.TemperatureCommandsComplete : Prop :=
  (∀ (s : State) (k : Fin 48) (m : SlotMeasure) (die : Vector Int 8), s.objN (0x2210 + k) 0x00 ≠ 0 →
    Does (.temperatureSlot k m die) s [.temp] (fun t =>
      t.temp.inputs = updI s.temp.inputs k (fun x => { x with slot := some (slotResult s.toBlocks k m) }) ∧ t.temp.die = die ∧
      t.temp.peak = max s.temp.peak (dieTemp { s.temp with die }) ∧ t.temp.scans = s.temp.scans ∧ t.temp.published = s.temp.published)) ∧
  (∀ s : State, scanDue s.toBlocks = true → scanCalibrated s.toBlocks = false →
    Does .scanPublish s [.temp, .faults] (fun t =>
      t.temp.scans = (s.temp.scans + 1) % 2 ^ 32 ∧ t.temp.published = some (s.tickCount / 1000, s.now) ∧ t.temp.die = s.temp.die ∧
      ∀ k < 48, s.objN (0x2210 + k) 0x00 = 0 →
        (getI t.temp.inputs k).reading = -32768 ∧ (getI t.temp.inputs k).validity = 5)) ∧
  (∀ s : State, s.objI 0x2200 0x02 < dieTemp s.temp → s.temp.dieAbove = false → (∀ k, s.temp.diePosted = some k → k + 100000 ≤ s.now) →
    Does .dieWarning s [.temp, .faults] (fun t =>
      t.temp = { s.temp with dieAbove := true, diePosted := some s.now } ∧
      t.faults = posts s [mkEvent (.block 4) 0x1108 .warn .device 0 []]))

/-! Power, analog, memory, flash and start-up (chapters 17 to 20) -/

/-- The power sequence and its supervision (R41, R432–R434, R436–R438): steps in order, three attempts, the timebase from the last step on; PF_N
and a negated LPERMIT_N do what they must at once and are released after their times. The model's choices in it: assumptions 8, 62, 63. -/
def Obligations.PowerCommandsComplete : Prop :=
  (∀ (s : State) (k : Nat), s.power.st = .step k → s.start.inReset = false → k < 6 →
    Does .powerSequenceStep s [.power] (fun t => t.power = { s.power with st := .step (k + 1) })) ∧
  (∀ (s : State) (k : Nat), s.power.st = .step k → s.start.inReset = false → 6 ≤ k → s.start.testMode = false →
    Does .powerSequenceStep s [.power, .time, .ticks, .values, .dict, .pins, .faults] (fun t =>
      t.dict = bootInForce s.flash s.dict ∧
      t.power = { s.power with st := .powered, attempts := 0, retried := false } ∧ t.time.running = true ∧ t.time.boundary = 0 ∧
      t.time.ticks = 0 ∧ t.pins = { s.pins with triggers := .driven } ∧
      (s.power.retried = false → t.faults = s.faults) ∧ (s.power.retried = true → t.faults.posted.length = s.faults.posted.length + 1))) ∧
  (∀ (s : State) (rail : Fin 6) (k : Nat), s.power.st = .step k →
    Does (.powerSequenceStepTimeout rail) s [.power] (fun t => t.power = { s.power with
      st := if s.power.attempts < 2 then .retryWait else .off, attempts := s.power.attempts + 1, retried := true
      record := k + 256 * rail.val + 65536 * (s.power.attempts + 1) })) ∧
  (∀ s : State, s.power.st = .retryWait → Does .powerSequenceRetry s [.power] (fun t => t.power = { s.power with st := .step 1 })) ∧
  (∀ s : State, (∀ k, s.power.vinPosted = some k → k + 100000 ≤ s.now) →
    Does .vinWarning s [.power, .faults] (fun t =>
      t.power = { s.power with vinPosted := some s.now } ∧ t.faults = posts s [powerEvent 0x110A .warn .rail 0 []])) ∧
  (∀ s : State, s.time.running = true → s.power.pfDetected = none →
    Does .pfNAsserted s [.analog, .faults, .flash, .freeCtr, .power, .queues, .scan, .start, .steps, .work] (fun t =>
      t.power = { s.power with pfLow := true, pfDetected := some s.now } ∧ t.flash.op = .none ∧
      (∀ n < 32, (getI t.scan.chans n).gates.job = true) ∧ (∀ m < 8, (getI t.steps m).st = .stopped) ∧
      { powerEvent 0x1102 .safe .device 0 [] with tick := s.tickCount } ∈ t.faults.posted)) ∧
  (∀ s : State, s.start.inReset = true → s.start.cause = 2 →
    Does .pfNRelease s [.power, .start] (fun t =>
      t.start = { s.start with inReset := false, phase := 1 } ∧ t.power = { s.power with pfLow := false, st := .step 1 })) ∧
  (∀ s : State, Does .lpermitNNegated s [.analog, .faults, .out, .power] (fun t =>
      t.power = { s.power with permitLow := false, permitSince := none, gate5 := true, negations := inc32 s.power.negations } ∧
      t.out = s.out ++ (List.range 32).map Output.gate ∧
      (∀ n < 32, (getI t.analog.channels n).lao = 0 ∧ (getI t.analog.channels n).lg = false) ∧
      { powerEvent 0x1103 (if s.jobRuns then .stopJob else .warn) .device 0 [] with tick := s.tickCount } ∈ t.faults.posted)) ∧
  (∀ s : State, s.power.gate5 = true → s.power.permitLow = true → (∀ k, s.power.permitSince = some k → k + s.objN 0x2100 0x0D ≤ s.now) →
    Does .permitRestored s [.faults, .power] (fun t =>
      t.power = { s.power with permitSince := none, gate5 := false } ∧
      t.faults = posts s [powerEvent 0x1104 .note .device 0 []]))

/-- Load switches (R439, R440, R442, Table 17.5): a switch comes on at power good, trips by its reason while retries last, tries again after its
delay, and the groups start one after another. The model's choices in it: assumptions 8, 56. -/
def Obligations.LoadSwitchesComplete : Prop :=
  (∀ (s : State) (k : Fin 16), (getI s.power.switches k).st = .softStart →
    Does (.powerGood k) s [.power] (fun t =>
      t.power.switches = updI s.power.switches k (fun x => { x with st := .on, since := s.now }) ∧ t.power.group = s.power.group)) ∧
  (∀ (s : State) (k : Fin 16), (getI s.power.switches k).st = .softStart →
    (getI s.power.switches k).since + s.objN (0x2110 + k) 0x05 ≤ s.now →
    Does (.softStartTimeout k) s [.power, .faults] (fun t => t.power.switches = updI s.power.switches k (fun x =>
      { x with st := if x.retries = 0 then .tripped else .retry, since := s.now, reason := 3, trips := inc32 x.trips
               retries := x.retries - 1 }))) ∧
  (∀ (s : State) (k : Fin 16) (twice : Bool), ((getI s.power.switches k).st = .softStart ∨ (getI s.power.switches k).st = .on) →
    Does (.loadSwitchTrip k twice) s [.power, .faults] (fun t =>
      t.power.switches = updI s.power.switches k (fun x =>
        { x with st := if x.retries = 0 then .tripped else .retry, since := s.now, reason := if twice then 2 else 1, trips := inc32 x.trips
                 retries := x.retries - 1 }) ∧
      (0 < (getI s.power.switches k).retries →
        t.faults = posts s [powerEvent 0x1106 (sevOfNum (s.objN (0x2110 + k) 0x09)) .loadSwitch k []]))) ∧
  (∀ (s : State) (k : Fin 16), (getI s.power.switches k).st = .retry → (getI s.power.switches k).since + s.objN (0x2110 + k) 0x08 ≤ s.now →
    Does (.retryDelayExpiry k) s [.power] (fun t => t.power = { s.power with
      switches := updI s.power.switches k (fun x => { x with st := .softStart, since := s.now }) })) ∧
  (∀ (s : State) (d : Nat), s.power.groupDue = some d → d ≤ s.now → s.power.groupHalted = false →
    Does .startUpGroup s [.power] (fun t =>
      t.power.group = s.power.group + 1 ∧
      ∀ k < 16, (s.objN (0x2110 + k) 0x0B = s.power.group + 1 ∧ switchAccepted s.toBlocks k 1 = true →
          (getI t.power.switches k).st = .softStart ∧ (getI t.power.switches k).retries = s.objN (0x2110 + k) 0x07) ∧
        (s.objN (0x2110 + k) 0x0B ≠ s.power.group + 1 → getI t.power.switches k = getI s.power.switches k)))

/-- Calibrations of the trims (R452, R454, R456): the codes of both points are staged for the next boundary; the second measurement gives
residuals, status and event. The model's choices in it: assumption 8. -/
def Obligations.CalibrationsComplete : Prop :=
  (∀ (s : State) (j : Fin 81) (sum0 sumF : Int), (getI s.analog.trims j).phase = 1 →
    Does (.calibrationCommit j sum0 sumF) s [.analog, .dict] (fun t =>
      let c := calCodes (trimKind j) (s.objI (0x4300 + j) 0x00) (s.objI (0x4300 + j) 0x01) sum0 sumF
      (∃ w ∈ t.dict.pending, w.index = 0x4300 + j.val ∧ w.sub = 0x00 ∧ w.val = .int c.1) ∧
      (∃ w ∈ t.dict.pending, w.index = 0x4300 + j.val ∧ w.sub = 0x01 ∧ w.val = .int c.2) ∧ (getI t.analog.trims j).phase = 2 ∧
      ((getI t.analog.trims j).limited = true ↔ c.1 = -512 ∨ c.1 = 511 ∨ c.2 = -512 ∨ c.2 = 511))) ∧
  (∀ (s : State) (j : Fin 81) (sum0 sumF : Int), (getI s.analog.trims j).phase = 2 →
    Does (.calibrationComplete j sum0 sumF) s [.analog, .faults] (fun t =>
      let r := calResiduals (trimKind j) sum0 sumF
      let x := getI t.analog.trims j
      x.phase = 0 ∧ x.r0 = r.1 ∧ x.rF = r.2 ∧ x.tick = s.tickCount ∧ x.count = inc32 (getI s.analog.trims j).count ∧
      ((getI s.analog.trims j).limited = true → x.status = 3 ∧ t.faults = posts s [trimEvent j 0x1202 .warn]) ∧
      ((getI s.analog.trims j).limited = false → r.1.natAbs ≤ s.objN 0x4351 (trimKind j) → r.2.natAbs ≤ s.objN 0x4351 (trimKind j) →
        x.status = 2 ∧ t.faults = posts s [trimEvent j 0x1201 .note]) ∧
      ((getI s.analog.trims j).limited = false → s.objN 0x4351 (trimKind j) < r.1.natAbs →
        x.status = 4 ∧ t.faults = posts s [trimEvent j 0x1203 .warn])))

/-- The memories (R463, R469, R470): training, background initialization, scrubbing and uncorrectable words.
The model's choices in it: assumptions 8, 61. -/
def Obligations.MemoryCommandsComplete : Prop :=
  (∀ (s : State) (c : Fin 2) (ok : Bool), s.start.phase = 3 → populationOk (getI s.mem.population c) = true →
    Does (.ddrTraining c ok) s [.mem, .faults] (fun t =>
      t.mem = { s.mem with state := updI s.mem.state c (fun _ => if ok then 1 else 2) } ∧
      t.faults = if ok then s.faults else posts s [memEvent 0x1303 .warn c []])) ∧
  (∀ (s : State) (c : Fin 2), getI s.mem.state c = 1 →
    Does (.backgroundInitComplete c) s [.mem] (fun t =>
      t.mem = { s.mem with initDone := updI s.mem.initDone c (fun _ => true) })) ∧
  (∀ (s : State) (target : Fin 3) (address region : Nat) (word : StoredWord) (p : Nat), scrubs s.toBlocks target = true →
    s.mem.injection = none → decodeWord (loadWord word) = .corrected p →
    Does (.scrub target address region word) s [.mem, .faults, .work, .out] (fun t =>
      t.mem.corrected = updI s.mem.corrected target inc32 ∧ t.mem.uncorrectable = s.mem.uncorrectable ∧
      t.mem.record = errorRecord s.toBlocks address target 1 p 1 0 ∧
      t.out = s.out ++ [.writeBack target address (storeWord target
        ((loadWord word).mapIdx (fun i x => if i = p then x ^^^ syndrome (loadWord word) 0 else x)))])) ∧
  (∀ (s : State) (target : Fin 3) (address region : Nat) (word : StoredWord), scrubs s.toBlocks target = true →
    s.mem.injection = none → decodeWord (loadWord word) = .good →
    Does (.scrub target address region word) s [.mem] (fun t =>
      t.mem.corrected = s.mem.corrected ∧ t.mem.uncorrectable = s.mem.uncorrectable ∧
      t.mem.passesDdr = (if address = lastWord s.toBlocks target ∧ target ≠ 2 then inc32 s.mem.passesDdr else s.mem.passesDdr) ∧
      t.mem.passesSram = (if address = lastWord s.toBlocks target ∧ target = 2 then inc32 s.mem.passesSram else s.mem.passesSram))) ∧
  (∀ (s : State) (target : Fin 3) (address region : Nat) (word : StoredWord), scrubs s.toBlocks target = true →
    s.mem.injection = none → decodeWord (loadWord word) = .bad →
    Does (.scrub target address region word) s [.dict, .faults, .host, .job, .melt, .mem, .queues, .work] (fun t =>
      t.mem.corrected = s.mem.corrected ∧ t.mem.uncorrectable = updI s.mem.uncorrectable target inc32 ∧
      t.mem.record = errorRecord s.toBlocks address target 2 0xFF 1 region)) ∧
  (∀ (s : State) (location : Fin 4) (address region foundBy item : Nat),
    (location.val ≠ 3 ∧ region ≠ 1 ∧ region ≠ 2 ∨ tickWorks s.toBlocks = false ∨ expects item = none) →
    Does (.uncorrectableWord location address region foundBy item) s [.dict, .faults, .host, .job, .melt, .mem, .queues, .work] (fun t =>
      t.mem.uncorrectable = updI s.mem.uncorrectable location inc32 ∧
      t.mem.record = errorRecord s.toBlocks address location 2 0xFF foundBy region ∧
      { memEvent 0x1301 (regionSeverity region) region [] with tick := s.tickCount } ∈ t.faults.posted ∧
      (getI t.work.health 2).until_ = s.now + 100000)) ∧
  (∀ (s : State) (location : Fin 4) (address region foundBy : Nat) (k : Fin 16),
    (location.val = 3 ∨ region = 1 ∨ region = 2) → tickWorks s.toBlocks = true →
    ∃ t, exec (.uncorrectableWord location address region foundBy k) s = .next t ∧
      t.mem.uncorrectable = updI s.mem.uncorrectable location inc32 ∧
      ∀ i < 2, (getI t.scan.chans (2 * k + i)).gates.overrun = true ∧ (getI t.scan.chans (2 * k + i)).cmdNext.dark = true)

/-- Flash operations and the ring (R478, R481–R483, R507): a verified image fills its slot, a save renews the sections from its snapshot, a failed
operation keeps them, and the oldest waiting record is written at the ring's next position. The model's choices in it: assumptions 8, 51. -/
def Obligations.FlashCommandsComplete : Prop :=
  (∀ (s : State) (slot : Nat) (image : Bytes), s.flash.op = .upload slot image →
    Does (.imageProgramComplete true) s [.flash, .out] (fun t =>
      t.flash = { s.flash with
        op := .none, progress := image.length
        slots := updI s.flash.slots slot (fun _ => { bytes := image, status := 1, version := fieldU image 8 4 }) } ∧
      t.out = s.out ++ [.flashWrite (slotAddress s.flash slot) image])) ∧
  (∀ (s : State) (slot : Nat) (image : Bytes), slot < 2 → s.flash.op = .upload slot image →
    Does (.imageProgramComplete false) s [.flash, .freeCtr, .out] (fun t =>
      t.flash.op = .none ∧ (getI t.flash.slots slot).status ≠ 1 ∧ (∀ k, k ≠ slot → getI t.flash.slots k = getI s.flash.slots k) ∧
      t.freeCtr = s.freeCtr + 1)) ∧
  (∀ (s : State) (l : List (Nat × Val)) (k : Nat), s.flash.op = .save l k →
    Does .saveComplete s [.faults, .flash, .out] (fun t =>
      (∀ i < 3, (getI t.flash.sections i).saved = true ∧ (getI t.flash.sections i).place = 1 - (getI s.flash.sections i).place ∧
        (getI t.flash.sections i).generation = ((getI s.flash.sections i).generation + 1) % 2 ^ 32) ∧
      t.flash.op = .none ∧ t.flash.status = 3 ∧ t.flash.lastSave = k ∧ t.flash.append = [] ∧ t.flash.slots = s.flash.slots ∧
      t.flash.ring = s.flash.ring ∧ t.faults = posts s [flashEvent 0x1307 .note 0 []])) ∧
  (∀ (s : State) (all : Bool), s.flash.op = .clear all →
    Does .saveComplete s [.faults, .flash, .out] (fun t =>
      (∀ i < 3, (i = 1 → all = true) → (getI t.flash.sections i).saved = false ∧ (getI t.flash.sections i).entries = []) ∧
      (all = false → getI t.flash.sections 1 = getI s.flash.sections 1) ∧
      t.flash.op = .none ∧ t.flash.status = 3 ∧ t.flash.append = [] ∧ t.flash.slots = s.flash.slots ∧ t.flash.ring = s.flash.ring ∧
      t.faults = posts s [flashEvent 0x1307 .note 0 []])) ∧
  (∀ s : State, s.flash.op ≠ .none →
    Does .flashOperationFailed s [.faults, .flash, .freeCtr] (fun t =>
      t.flash.op = .none ∧ t.flash.status = 4 ∧ t.flash.failures = inc32 s.flash.failures ∧ t.flash.sections = s.flash.sections ∧
      t.flash.append = s.flash.append ∧ t.faults = posts s [flashEvent 0x1308 .warn 0 []])) ∧
  (∀ s : State, s.flash.op = .none →
    Does .flashOperationFailed s [.faults, .flash] (fun t =>
      t.flash = { s.flash with failTick := some s.now, failures := inc32 s.flash.failures } ∧
      t.faults = posts s [flashEvent 0x1308 .warn 0 []])) ∧
  (∀ (s : State) (r : Record) (rest : List Record), s.faults.ringPending = r :: rest → s.flash.present = true → s.faults.ringKnown = true →
    Does .ringWrite s [.faults, .flash, .out, .queues] (fun t =>
      .flashWrite (0x10000 + 256 * s.flash.ringNext) (ringSlotBytes s.pair.unitId r ((s.flash.ringSequence + 1) % 2 ^ 32)) ∈ t.out ∧
      t.faults = { s.faults with ringPending := rest } ∧
      t.flash.ring.getLast? = some { record := r, sequence := (s.flash.ringSequence + 1) % 2 ^ 32, position := s.flash.ringNext } ∧
      t.flash.ringNext = (s.flash.ringNext + 1) % 4096 ∧ t.flash.sections = s.flash.sections ∧
      (s.flash.ringNext % 16 ≠ 0 → ∀ x ∈ s.flash.ring, x ∈ t.flash.ring)))

/-- Resets (R430, R434, R436, R489, R490, R524, R527): each puts the device into reset with its cause, every object at its Default and nothing
running; what outlives a reset stays; the release conditions start it again in phase 1. The model's choices in it: assumptions 10, 76. -/
def Obligations.ResetsRestartTheDevice : Prop :=
  (∀ s : State, Does .resetN s everything (InReset s 1)) ∧
  (∀ (s : State) (core : Fin 4), Does (.watchdogExpiry core) s everything (InReset s 5)) ∧
  (∀ s : State, Does .dieShutdown s everything (fun t => InReset s 4 t ∧ t.temp.peakKept = s.temp.peak)) ∧
  (∀ s : State, Does .testEnRise s everything (fun t => InReset s 1 t ∧ t.start.testMode = true ∧ t.pins.jtagEnabled = true)) ∧
  (∀ s : State, Does .testEnFall s everything (fun t => InReset s 1 t ∧ t.start.testMode = false ∧ t.pins.jtagEnabled = false)) ∧
  (∀ (s : State) (k : Fin 6) (d : Nat), getI s.power.outside k = true → getI s.power.faultTick k = some d → d + 100 ≤ s.now →
    Does .railFaultPersists s everything (InReset s 0)) ∧
  (∀ (s : State) (d : Nat), s.power.pfDetected = some d → d + s.objN 0x2100 0x0A ≤ s.now → Does .holdUpExpiry s everything (InReset s 2)) ∧
  (∀ s : State, Does .vaux33Loss s everything (fun t =>
      InReset s 0 t ∧ t.power.st = .reset ∧ t.pins.outputs = .unpowered ∧ t.power.record = 0)) ∧
  (∀ s : State, Does (.railOutsideWindow 1) s everything (fun t => InReset s 0 t ∧ t.power.st = .reset)) ∧
  (∀ s : State, s.time.running = true → s.power.pfDetected = none →
    Does (.railOutsideWindow 0) s [.analog, .faults, .flash, .freeCtr, .power, .queues, .scan, .start, .steps, .work] (fun t =>
      getI t.power.outside 0 = true ∧ t.power.pfDetected = some s.now ∧ t.power.pfLow = s.power.pfLow ∧
      (∀ n < 32, (getI t.scan.chans n).gates.job = true) ∧ (∀ m < 8, (getI t.steps m).st = .stopped) ∧
      { powerEvent 0x1102 .safe .device 0 [] with tick := s.tickCount } ∈ t.faults.posted)) ∧
  (∀ (s : State) (k : Fin 6), 2 ≤ k.val → s.start.inReset = false → s.start.testMode = false → inLockstep s.toBlocks = false →
    Does (.railOutsideWindow k) s [.analog, .faults, .power, .scan, .steps, .work] (fun t =>
      getI t.power.outside k = true ∧ (∀ n < 32, (getI t.scan.chans n).gates.job = true) ∧ (∀ m < 8, (getI t.steps m).st = .stopped) ∧
      { powerEvent 0x1109 .safe .rail k [] with tick := s.tickCount } ∈ t.faults.posted)) ∧
  (∀ (s : State) (strap : Fin 2), Does (.powerOn strap) s everything (fun t =>
      t.start.inReset = false ∧ t.start.phase = 1 ∧ t.start.cause = 0 ∧ t.start.strap = strap ∧ t.power.st = .step 1 ∧
      t.pair.unitId = strap ∧ t.dict.vals = [] ∧ t.flash.sections = s.flash.sections ∧ t.flash.ring = s.flash.ring)) ∧
  (∀ s : State, s.start.inReset = true → s.start.cause = 4 →
    Does .dieShutdownRelease s [.faults, .power, .start] (fun t =>
      t.start = { s.start with inReset := false, phase := 1 } ∧ t.power = { s.power with st := .step 1 } ∧
      t.faults = posts s [mkEvent (.block 4) 0x1107 .warn .device 0 (leBytesI 2 s.temp.peakKept)])) ∧
  (∀ s : State, s.power.st = .down → s.start.inReset = true → s.start.cause ∈ [0, 1, 3, 5] →
    Does .powerDownEnd s [.faults, .power, .start] (fun t =>
      t.start = { s.start with inReset := false, phase := 1 } ∧ t.power = { s.power with st := .step 1 } ∧
      t.faults = posts s (if s.start.cause = 5 then [mkEvent (.core 0) 0x1406 .warn .device 0 []] else []))) ∧
  (∀ s : State, s.power.st = .down → s.start.inReset = true → s.start.cause = 2 ∨ s.start.cause = 4 →
    Does .powerDownEnd s [.power] (fun t => t.power = { s.power with st := .reset }))

/-- Start-up (R491–R493, Table 20.3): a phase that is done, or one of phases 4 to 7 at its maximum, gives way to the next one; after phase 7 the
device is READY, or HELD with a SAFE record. The model's choices in it: assumptions 8, 10, 75. -/
def Obligations.StartUpPhasesComplete : Prop :=
  (∀ (s : State) (r : PhaseReport), startingUp s.toBlocks = true → phaseDone s.toBlocks = true → 1 ≤ s.start.phase → s.start.phase ≤ 6 →
    Does (.startupPhaseComplete r) s [.cams, .dict, .values, .faults, .flash, .host, .link, .mem, .out, .pair, .pins, .start] (fun t =>
      t.start.phase = s.start.phase + 1 ∧ t.start.cause = s.start.cause ∧ t.start.inReset = false)) ∧
  (∀ (s : State) (r : PhaseReport), startingUp s.toBlocks = true → s.start.phase = 7 → s.pair.st ≠ .discover →
    Does (.startupPhaseComplete r) s [.faults, .start] (fun t =>
      t.start = { s.start with phase := 0 } ∧
      t.faults = { s.faults with durations := s.faults.durations.set 6 (satU 16 r.durationUs) })) ∧
  (∀ s : State, s.job.dev = .startUp → s.start.phase = 0 →
    let t := leaveStartUp s
    t.job.dev = (if safeOpen s.faults then .held else .ready) ∧ (∀ n < 32, (getI t.scan.chans n).gates.job = safeOpen s.faults) ∧
    t.power.group = 1 ∧
    { mkEvent (.core 0) 0x1403 .note .device 0 (s.faults.durations.flatMap (leBytes 2)) with tick := s.tickCount } ∈ t.faults.posted) ∧
  (∀ s : State, startingUp s.toBlocks = true → 4 ≤ s.start.phase → s.start.phase ≤ 7 →
    Does .startupPhaseMaximum s [.cams, .faults, .host, .link, .out, .pair, .pins, .start] (fun t =>
      t.start.phase = (if s.start.phase = 7 then 0 else s.start.phase + 1) ∧
      bit t.faults.overMaximum (s.start.phase - 1) = true ∧
      { mkEvent (.core 0) 0x1402 .warn .device 0 (leBytes 1 s.start.phase) with tick := s.tickCount } ∈ t.faults.posted))

/-! Numbers, codes and values -/

/-- A conversion to a narrower format rounds to the nearest value with ties away from zero, and saturates to the format's range (R11). -/
def Obligations.ConversionsRoundAndSaturate : Prop :=
  (∀ (n : Int) (d : Nat), 0 < d →
    2 * (n - d * rndDiv n d).natAbs ≤ d ∧ (2 * (n - d * rndDiv n d).natAbs = d → n.natAbs < (d * rndDiv n d).natAbs)) ∧
  (∀ (w : Nat) (x : Int), 0 < w →
    -2 ^ (w - 1) ≤ satS w x ∧ satS w x ≤ 2 ^ (w - 1) - 1 ∧ (-2 ^ (w - 1) ≤ x → x ≤ 2 ^ (w - 1) - 1 → satS w x = x) ∧
    (x < -2 ^ (w - 1) → satS w x = -2 ^ (w - 1)) ∧ (2 ^ (w - 1) - 1 < x → satS w x = 2 ^ (w - 1) - 1)) ∧
  (∀ w x : Nat, satU w x ≤ 2 ^ w - 1 ∧ (x ≤ 2 ^ w - 1 → satU w x = x) ∧ (2 ^ w - 1 < x → satU w x = 2 ^ w - 1))

/-- CRC-32C (R12): the reflected Castagnoli polynomial, the register preset to ones and the result inverted, with its check value. -/
def Obligations.CheckSumIsCastagnoli : Prop :=
  (∀ b : Bytes, crc32c b = 0xFFFFFFFF ^^^ (b.foldl (fun c x => (List.range 8).foldl (fun c _ =>
    if c % 2 = 1 then c / 2 ^^^ ((List.range 32).foldl (fun a k => 2 * a + 0x1EDC6F41 / 2 ^ k % 2) 0) else c / 2) (c ^^^ x.toNat))
    0xFFFFFFFF)) ∧
  crc32c [0x31, 0x32, 0x33, 0x34, 0x35, 0x36, 0x37, 0x38, 0x39] = 0xE3069283

/-- Multi-byte fields are little-endian and signed integers two's complement (R9, R10): writing a number and reading it back gives the number,
with the least significant byte first. -/
def Obligations.FieldsRoundTrip : Prop :=
  (∀ n v : Nat, v < 256 ^ n → leNat (leBytes n v) = v ∧ (leBytes n v).length = n) ∧
  (∀ (n v k : Nat), k < n → ((leBytes n v).getD k 0).toNat = v / 256 ^ k % 256) ∧
  (∀ (n : Nat) (x : Int), 0 < n → -2 ^ (8 * n - 1) ≤ x → x < 2 ^ (8 * n - 1) → leInt (leBytesI n x) = x)

/-- Object values survive their encoding (R66, Table 3.1): BOOL, unsigned and signed integers of 1 to 8 bytes, float values that are no
denormals, and octets decode to what was encoded. -/
def Obligations.ObjectValuesRoundTrip : Prop :=
  (∀ x : Int, x = 0 ∨ x = 1 → decodeVal .bool (encodeVal .bool (.int x)) = .int x) ∧
  (∀ (k : Nat) (x : Int), 1 ≤ k → k ≤ 8 → 0 ≤ x → x < 256 ^ k → decodeVal (.uint k) (encodeVal (.uint k) (.int x)) = .int x) ∧
  (∀ (k : Nat) (x : Int), 1 ≤ k → k ≤ 8 → -2 ^ (8 * k - 1) ≤ x → x < 2 ^ (8 * k - 1) →
    decodeVal (.sint k) (encodeVal (.sint k) (.int x)) = .int x) ∧
  (∀ x : Nat, x < 2 ^ 32 → x / 2 ^ 23 % 256 ≠ 0 → decodeVal .f32 (encodeVal .f32 (.int x)) = .int x) ∧
  (∀ (k : Nat) (b : Bytes), decodeVal (.octets k) (encodeVal (.octets k) (.oct b)) = .oct b)

/-- A value put in force is what the object reads afterwards, and every other object reads as before (R65, R74). -/
def Obligations.ValuesInForceReadBack : Prop :=
  ∀ (d : DictState) (index sub : Nat) (v : Val), d.wf → sub < 256 →
    objVal (setVal d index sub v) index sub = v ∧
    ∀ i k, k < 256 → (i, k) ≠ (index, sub) → objVal (setVal d index sub v) i k = objVal d i k

/-- Of two pending values for one object with one moment of effect the one entered last stands, and the earlier one is gone (R77). No
other pending value is touched. The model's choices in it: assumption 26. -/
def Obligations.LatestCommitGoverns : Prop :=
  ∀ (now : Nat) (l : List PendingWrite) (w : PendingWrite),
    (putPending now l w).getLast? = some w ∧
    (∀ x ∈ putPending now l w, x.index = w.index → x.sub = w.sub → sameMoment now x w = true → x = w) ∧
    (∀ x ∈ l, ¬(x.index = w.index ∧ x.sub = w.sub ∧ sameMoment now x w = true) → x ∈ putPending now l w)

/-- While any gate source of a channel is set its laser command emits nothing, and the channel moves exactly as with light (R36, R155). -/
def Obligations.GatedChannelsStayDark : Prop :=
  (∀ (s : Blocks) (err : Nat → Int) (n : Nat), (scanEnv s err n).gated = true ↔
    (s.objB (0x3000 + n) 0x00 = false ∨ (getI s.scan.chans n).gates.feedback = true ∨ (getI s.scan.chans n).gates.overrun = true ∨
      (getI s.scan.chans n).gates.stop = true ∨ (getI s.scan.chans n).gates.node = true ∨ s.power.gate5 = true ∨
      (getI s.scan.chans n).gates.job = true)) ∧
  (∀ (e : ScanEnv) (c : Chan), e.gated = true →
    (laserCommand e c).cmdNext.dark = true ∧
    laserCommand e c = { laserCommand { e with gated := false } c with
      cmdNext := { start := 0, events := [] }
      counts := { (laserCommand { e with gated := false } c).counts with merged := c.counts.merged } })

/-- A temperature slot reads the eight die sensors, and the die temperature is the highest of them (R430).
The model's choices in it: assumption 8. -/
def Obligations.DieTemperatureIsTheHighest : Prop :=
  ∀ (s : State) (k : Fin 48) (m : SlotMeasure) (die : Vector Int 8),
    Does (.temperatureSlot k m die) s [.temp] (fun t =>
      t.temp.die = die ∧ (∀ i : Fin 8, die[i] ≤ dieTemp t.temp) ∧ ∃ i : Fin 8, dieTemp t.temp = die[i])

/-- Events of one tick are admitted in the order of their posters, and those of one poster in the order in which it posted them (R28, R34, R501). -/
def Obligations.EventsAreAdmittedInPosterOrder : Prop :=
  ∀ l : List Event, (orderEvents l).Perm l ∧ (orderEvents l).Pairwise (fun x y => x.poster.rank ≤ y.poster.rank) ∧
    ∀ k, (orderEvents l).filter (fun e => e.poster.rank == k) = l.filter (fun e => e.poster.rank == k)

/-- The memory code (R465, R467): 32 data bytes with their check bytes decode as good, and with any one of the 36 bytes changed as that byte
corrected. -/
def Obligations.OneBadByteIsCorrected : Prop :=
  ∀ data : List Nat, data.length = 32 → (∀ x ∈ data, x < 256) →
    decodeWord (data ++ checkBytes data) = .good ∧
    ∀ p e, p < 36 → 0 < e → e < 256 →
      decodeWord ((data ++ checkBytes data).set p (nth (data ++ checkBytes data) p ^^^ e)) = .corrected p

/-- The machine right after power-on (R31, R52, R337, R487, R489, R491, R496, Tables 6.4, 7.1, 12.12, 14.3, 15.2, 20.1): phase 1 with cause 0,
every object at its Default, every block in the state its table gives for reset, and no command waiting.
The model's choices in it: assumptions 3, 10. -/
def Obligations.ResetStateIsTheTables : Prop :=
  let s := State.reset
  s.start.phase = 1 ∧ s.start.cause = 0 ∧ s.time.running = false ∧ s.time.tb = .free ∧ s.dict.vals = [] ∧ s.dict.pending = [] ∧
  s.job.dev = .startUp ∧ s.job.store = [] ∧ s.host.session.id = 0 ∧ s.pair.st = .single ∧ s.power.st = .step 1 ∧ s.pins = pinReset ∧
  s.faults.log = [] ∧ s.faults.q63 = [] ∧ s.pending = [] ∧
  (∀ n : Fin 32, (getI s.scan.chans n).state = .idle ∧ (getI s.scan.chans n).queue = [] ∧ (getI s.scan.chans n).cmdNow.dark = true) ∧
  (∀ a : Fin 96, (getI s.axes a).loop = .opened ∧ (getI s.axes a).trusted = false) ∧
  (∀ p : Fin 64, (getI s.link.ports p).st = .disabled) ∧ (∀ m : Fin 8, (getI s.steps m).st = .idle ∧ (getI s.steps m).trusted = false) ∧
  (∀ l : Fin 16, (getI s.light.strings l).st = .off) ∧ (∀ c : Fin 20, (getI s.cams.ports c).link = 0)

/-! Every command -/

/-- Every one of the commands completes, in every state and with every operand: it answers a next state whose queue is the one the command
left waiting. -/
def Obligations.EveryCommandCompletes : Prop :=
  ∀ (c : Instr) (s : State), ∃ t, exec c s = .next t ∧ t.pending = s.pending
end

