-- ==== Sys2Proof/Laws/Frame.lean ====
section
/-! SUPPORT. How a frame is shown: blanking parts of a state passes over branches, folds and updates of a blanked part. -/

namespace Sys2Proof.Machine

@[simp] theorem ite_hide (c : Prop) [Decidable c] (s t : State) (ps : List Part) :
    (if c then s else t).hide ps = if c then s.hide ps else t.hide ps := by
  split <;> rfl

@[simp] theorem foldl_hide {α : Type} (l : List α) (s : State) (ps : List Part) (f : State → α → State)
    (h : ∀ s x, (f s x).hide ps = s.hide ps) : (l.foldl f s).hide ps = s.hide ps := by
  induction l generalizing s with
  | nil => rfl
  | cons x l ih => simp [ih, h]

@[simp] theorem forI_hide (n : Nat) (s : State) (ps : List Part) (f : State → Nat → State)
    (h : ∀ s k, (f s k).hide ps = s.hide ps) : (forI n s f).hide ps = s.hide ps := foldl_hide _ _ _ _ h

@[simp] theorem set_start_hide (s : State) (v : StartState) (ps : List Part) (h : .start ∈ ps) :
    State.hide ps { s with start := v } = s.hide ps := by simp [State.hide, h]

@[simp] theorem set_faults_hide (s : State) (v : FaultState) (ps : List Part) (h : .faults ∈ ps) :
    State.hide ps { s with faults := v } = s.hide ps := by simp [State.hide, h]

@[simp] theorem set_pins_hide (s : State) (v : PinState) (ps : List Part) (h : .pins ∈ ps) :
    State.hide ps { s with pins := v } = s.hide ps := by simp [State.hide, h]

@[simp] theorem set_queues_hide (s : State) (v : Vector QueueStat 64) (ps : List Part) (h : .queues ∈ ps) :
    State.hide ps { s with queues := v } = s.hide ps := by simp [State.hide, h]

@[simp] theorem set_host_hide (s : State) (v : HostState) (ps : List Part) (h : .host ∈ ps) :
    State.hide ps { s with host := v } = s.hide ps := by simp [State.hide, h]

@[simp] theorem set_job_hide (s : State) (v : JobState) (ps : List Part) (h : .job ∈ ps) :
    State.hide ps { s with job := v } = s.hide ps := by simp [State.hide, h]

@[simp] theorem set_scan_hide (s : State) (v : ScanState) (ps : List Part) (h : .scan ∈ ps) :
    State.hide ps { s with scan := v } = s.hide ps := by simp [State.hide, h]

@[simp] theorem set_axes_hide (s : State) (v : Vector Axis 96) (ps : List Part) (h : .axes ∈ ps) :
    State.hide ps { s with axes := v } = s.hide ps := by simp [State.hide, h]

@[simp] theorem set_cams_hide (s : State) (v : CamState) (ps : List Part) (h : .cams ∈ ps) :
    State.hide ps { s with cams := v } = s.hide ps := by simp [State.hide, h]

@[simp] theorem set_melt_hide (s : State) (v : MeltState) (ps : List Part) (h : .melt ∈ ps) :
    State.hide ps { s with melt := v } = s.hide ps := by simp [State.hide, h]

@[simp] theorem set_reg_hide (s : State) (v : FenState) (ps : List Part) (h : .reg ∈ ps) :
    State.hide ps { s with reg := v } = s.hide ps := by simp [State.hide, h]

@[simp] theorem set_link_hide (s : State) (v : LinkState) (ps : List Part) (h : .link ∈ ps) :
    State.hide ps { s with link := v } = s.hide ps := by simp [State.hide, h]

@[simp] theorem set_pair_hide (s : State) (v : PairState) (ps : List Part) (h : .pair ∈ ps) :
    State.hide ps { s with pair := v } = s.hide ps := by simp [State.hide, h]

@[simp] theorem set_work_hide (s : State) (v : PairWork) (ps : List Part) (h : .work ∈ ps) :
    State.hide ps { s with work := v } = s.hide ps := by simp [State.hide, h]

@[simp] theorem set_steps_hide (s : State) (v : Vector StepAxis 8) (ps : List Part) (h : .steps ∈ ps) :
    State.hide ps { s with steps := v } = s.hide ps := by simp [State.hide, h]

@[simp] theorem set_light_hide (s : State) (v : LightState) (ps : List Part) (h : .light ∈ ps) :
    State.hide ps { s with light := v } = s.hide ps := by simp [State.hide, h]

@[simp] theorem set_temp_hide (s : State) (v : TempState) (ps : List Part) (h : .temp ∈ ps) :
    State.hide ps { s with temp := v } = s.hide ps := by simp [State.hide, h]

@[simp] theorem set_power_hide (s : State) (v : PowerState) (ps : List Part) (h : .power ∈ ps) :
    State.hide ps { s with power := v } = s.hide ps := by simp [State.hide, h]

@[simp] theorem set_analog_hide (s : State) (v : AnalogState) (ps : List Part) (h : .analog ∈ ps) :
    State.hide ps { s with analog := v } = s.hide ps := by simp [State.hide, h]

@[simp] theorem set_mem_hide (s : State) (v : MemState) (ps : List Part) (h : .mem ∈ ps) :
    State.hide ps { s with mem := v } = s.hide ps := by simp [State.hide, h]

@[simp] theorem set_flash_hide (s : State) (v : FlashState) (ps : List Part) (h : .flash ∈ ps) :
    State.hide ps { s with flash := v } = s.hide ps := by simp [State.hide, h]

@[simp] theorem set_seen_hide (s : State) (v : Blocks) (ps : List Part) (h : .seen ∈ ps) :
    State.hide ps { s with seen := v } = s.hide ps := by simp [State.hide, h]

@[simp] theorem set_freeCtr_hide (s : State) (v : Nat) (ps : List Part) (h : .freeCtr ∈ ps) :
    State.hide ps { s with freeCtr := v } = s.hide ps := by simp [State.hide, h]

@[simp] theorem set_out_hide (s : State) (v : List Output) (ps : List Part) (h : .out ∈ ps) :
    State.hide ps { s with out := v } = s.hide ps := by simp [State.hide, h]

@[simp] theorem set_time_hide (s : State) (v : TimeState) (ps : List Part) (h : .time ∈ ps) (hv : .ticks ∈ ps ∨ v.ticks = s.time.ticks) :
    State.hide ps { s with time := v } = s.hide ps := by rcases hv with hv | hv <;> simp [State.hide, h, hv]

@[simp] theorem set_dict_hide (s : State) (v : DictState) (ps : List Part) (h : .dict ∈ ps) (hv : .values ∈ ps ∨ v.vals = s.dict.vals) :
    State.hide ps { s with dict := v } = s.hide ps := by rcases hv with hv | hv <;> simp [State.hide, h, hv]

@[simp] theorem set_sampled_hide (s : State) (v : Blocks) (ps : List Part) (h : .seen ∈ ps) :
    State.hide ps { s with sampled := v } = s.hide ps := by simp [State.hide, h]

end Sys2Proof.Machine
end

