-- ==== Sys2Proof/Laws/FrameObjects.lean ====
section
/-! SUPPORT. Frames of Machine/Objects.lean: which parts of a state each operation may change. -/

namespace Sys2Proof.Machine

@[simp] theorem State_post_hide (s : State) (e : Event)  (ps : List Part) (hfaults : .faults ∈ ps) : (State.post s e).hide ps = s.hide ps
    := by
  simp [State.post, hfaults]

@[simp] theorem State_postAll_hide (s : State) (es : List Event)  (ps : List Part) (hfaults : .faults ∈ ps) : (State.postAll s es).hide ps
    = s.hide ps := by
  simp [State.postAll, hfaults]

@[simp] theorem State_send_hide (s : State) (o : Output)  (ps : List Part) (hout : .out ∈ ps) : (State.send s o).hide ps = s.hide ps := by
  simp [State.send, hout]

@[simp] theorem State_atClock_hide (s : State) (clk : Nat)  (ps : List Part) (htime : .time ∈ ps) : (State.atClock s clk).hide ps = s.hide
    ps := by
  simp [State.atClock, htime]

@[simp] theorem State_free_hide (s : State)  (ps : List Part) (hfreeCtr : .freeCtr ∈ ps) : (State.free s).2.hide ps = s.hide ps := by
  simp [State.free, hfreeCtr]

@[simp] theorem State_frees_hide (x0 : Nat) (x1 : State)  (ps : List Part) (hfreeCtr : .freeCtr ∈ ps) : (State.frees x0 x1).2.hide ps =
    x1.hide ps := by
  induction x0 generalizing x1 with
  | zero => rfl
  | succ f ih =>
    unfold State.frees
    simp [ih, hfreeCtr]

end Sys2Proof.Machine
end

