-- ==== Sys2Proof/Laws/FrameEventLink.lean ====
section
/-! SUPPORT. Frames of Machine/EventLink.lean: which parts of a state each operation may change. -/

namespace Sys2Proof.Machine

@[simp] theorem State_updDest_hide (s : State) (d : Nat) (f : Destination → Destination)  (ps : List Part) (hhost : .host ∈ ps) :
    (State.updDest s d f).hide ps = s.hide ps := by
  simp [State.updDest, hhost]

@[simp] theorem State_fillQueue_hide (s : State) (q : Nat) (bytes : Nat)  (ps : List Part) (hqueues : .queues ∈ ps) : (State.fillQueue s q
    bytes).hide ps = s.hide ps := by
  simp [State.fillQueue, hqueues]

@[simp] theorem State_updEth_hide (s : State) (p : Nat) (f : EthPort → EthPort)  (ps : List Part) (hhost : .host ∈ ps) : (State.updEth s p
    f).hide ps = s.hide ps := by
  simp [State.updEth, hhost]

@[simp] theorem State_updHost_hide (s : State) (f : HostState → HostState)  (ps : List Part) (hhost : .host ∈ ps) : (State.updHost s
    f).hide ps = s.hide ps := by
  simp [State.updHost, hhost]

@[simp] theorem countSent_hide (s : State) (p : Nat)  (ps : List Part) (hhost : .host ∈ ps) : (countSent s p).hide ps = s.hide ps := by
  simp [countSent, hhost]

@[simp] theorem countReceived_hide (s : State) (p : Nat)  (ps : List Part) (hhost : .host ∈ ps) : (countReceived s p).hide ps = s.hide ps
    := by
  simp [countReceived, hhost]

@[simp] theorem sendFrame_hide (s : State) (p : Nat) (f : HostFrame)  (ps : List Part) (hhost : .host ∈ ps) (hout : .out ∈ ps) :
    (sendFrame s p f).hide ps = s.hide ps := by
  simp [sendFrame, hhost, hout]

@[simp] theorem announceAddress_hide (s : State) (p : Nat)  (ps : List Part) (hhost : .host ∈ ps) (hout : .out ∈ ps) : (announceAddress s
    p).hide ps = s.hide ps := by
  simp [announceAddress, hhost, hout]

@[simp] theorem seekLease_hide (s : State) (p : Nat)  (ps : List Part) (hhost : .host ∈ ps) (hout : .out ∈ ps) : (seekLease s p).hide ps =
    s.hide ps := by
  simp [seekLease, hhost, hout]

@[simp] theorem placeMessage_hide (s : State) (e : Egress)  (ps : List Part) (hqueues : .queues ∈ ps) (hhost : .host ∈ ps) (hout : .out ∈
    ps) : (placeMessage s e).hide ps = s.hide ps := by
  simp [placeMessage, hqueues, hhost, hout]

@[simp] theorem askHop_hide (s : State) (p : Nat) (v6 : Bool) (hop : Nat)  (ps : List Part) (hhost : .host ∈ ps) (hout : .out ∈ ps) :
    (askHop s p v6 hop).hide ps = s.hide ps := by
  simp [askHop, hhost, hout]

@[simp] theorem sendUdp_hide (s : State) (queue : Nat) (port : Fin 2) (localPort : Nat) (dst : Src) (payload : Bytes)  (ps : List Part)
    (hqueues : .queues ∈ ps) (hhost : .host ∈ ps) (hout : .out ∈ ps) : (sendUdp s queue port localPort dst payload).hide ps = s.hide ps :=
    by
  simp [sendUdp, hqueues, hhost, hout]

@[simp] theorem drainEgress_hide (s : State)  (ps : List Part) (hqueues : .queues ∈ ps) (hhost : .host ∈ ps) (hout : .out ∈ ps) :
    (drainEgress s).hide ps = s.hide ps := by
  simp [drainEgress, hqueues, hhost, hout]

@[simp] theorem releaseEgress_hide (s : State) (p : Nat) (hop : Nat)  (ps : List Part) (hqueues : .queues ∈ ps) (hhost : .host ∈ ps) (hout
    : .out ∈ ps) : (releaseEgress s p hop).hide ps = s.hide ps := by
  simp [releaseEgress, hqueues, hhost, hout]

@[simp] theorem sendStream_hide (s : State) (port : Fin 2) (src : Src) (type : Nat) (session : Nat) (sequence : Nat) (status : Nat)
    (offset : Nat) (body : Bytes)  (ps : List Part) (hqueues : .queues ∈ ps) (hhost : .host ∈ ps) (hout : .out ∈ ps) : (sendStream s port
    src type session sequence status offset body).hide ps = s.hide ps := by
  simp [sendStream, hqueues, hhost, hout]

@[simp] theorem emitEvent_hide (s : State) (d : Nat) (type : Nat) (time : Nat) (body : Bytes)  (ps : List Part) (hqueues : .queues ∈ ps)
    (hhost : .host ∈ ps) (hout : .out ∈ ps) : (emitEvent s d type time body).hide ps = s.hide ps := by
  simp [emitEvent, hqueues, hhost, hout]

@[simp] theorem dropEvent_hide (s : State) (d : Nat)  (ps : List Part) (hhost : .host ∈ ps) : (dropEvent s d).hide ps = s.hide ps := by
  simp [dropEvent, hhost]

@[simp] theorem eventTo_hide (s : State) (d : Nat) (cls : Nat) (type : Nat) (time : Nat) (body : Bytes)  (ps : List Part) (hqueues :
    .queues ∈ ps) (hhost : .host ∈ ps) (hout : .out ∈ ps) : (eventTo s d cls type time body).hide ps = s.hide ps := by
  simp [eventTo, hqueues, hhost, hout]

@[simp] theorem eventToAll_hide (s : State) (cls : Nat) (type : Nat) (time : Nat) (body : Bytes)  (ps : List Part) (hqueues : .queues ∈
    ps) (hhost : .host ∈ ps) (hout : .out ∈ ps) : (eventToAll s cls type time body).hide ps = s.hide ps := by
  simp [eventToAll, hqueues, hhost, hout]

@[simp] theorem releaseHeld_hide (s : State) (d : Nat)  (ps : List Part) (hqueues : .queues ∈ ps) (hhost : .host ∈ ps) (hout : .out ∈ ps)
    : (releaseHeld s d).hide ps = s.hide ps := by
  simp [releaseHeld, hqueues, hhost, hout]

@[simp] theorem hopResolved_hide (s : State) (p : Nat) (hop : Nat)  (ps : List Part) (hqueues : .queues ∈ ps) (hhost : .host ∈ ps) (hout :
    .out ∈ ps) : (hopResolved s p hop).hide ps = s.hide ps := by
  simp [hopResolved, hqueues, hhost, hout]

@[simp] theorem learn_hide (s : State) (p : Nat) (addr : Nat) (mac : Nat)  (ps : List Part) (hqueues : .queues ∈ ps) (hhost : .host ∈ ps)
    (hout : .out ∈ ps) : (learn s p addr mac).hide ps = s.hide ps := by
  simp [learn, hqueues, hhost, hout]

@[simp] theorem sendPeer_hide (s : State) (type : Nat) (body : Bytes)  (ps : List Part) (hpair : .pair ∈ ps) (hout : .out ∈ ps) :
    (sendPeer s type body).hide ps = s.hide ps := by
  simp [sendPeer, hpair, hout]

end Sys2Proof.Machine
end

