-- ==== Sys2Proof/Laws/FrameFaults.lean ====
section
/-! SUPPORT. Frames of Machine/Faults.lean: which parts of a state each operation may change. -/

namespace Sys2Proof.Machine

@[simp] theorem noteOverflow_hide (s : State)  (ps : List Part) (hfaults : .faults ∈ ps) : (noteOverflow s).hide ps = s.hide ps := by
  simp [noteOverflow, hfaults]

@[simp] theorem admitEvent_hide (s : State) (e : Event)  (ps : List Part) (hfaults : .faults ∈ ps) : (admitEvent s e).hide ps = s.hide ps
    := by
  simp [admitEvent, hfaults]

@[simp] theorem postEvents_hide (s : State)  (ps : List Part) (hfaults : .faults ∈ ps) : (postEvents s).hide ps = s.hide ps := by
  simp [postEvents, hfaults]

@[simp] theorem noteRingStall_hide (s : State)  (ps : List Part) (hqueues : .queues ∈ ps) : (noteRingStall s).hide ps = s.hide ps := by
  simp [noteRingStall, hqueues]

@[simp] theorem queueRing_hide (s : State) (r : Record)  (ps : List Part) (hfaults : .faults ∈ ps) (hqueues : .queues ∈ ps) : (queueRing s
    r).hide ps = s.hide ps := by
  simp [queueRing, hfaults, hqueues]

@[simp] theorem takeRing_hide (s : State)  (ps : List Part) (hfaults : .faults ∈ ps) (hqueues : .queues ∈ ps) : (takeRing s).hide ps =
    s.hide ps := by
  simp [takeRing, hfaults, hqueues]

@[simp] theorem sendFault_hide (s : State) (r : Record)  (ps : List Part) (hqueues : .queues ∈ ps) (hhost : .host ∈ ps) (hout : .out ∈ ps)
    : (sendFault s r).hide ps = s.hide ps := by
  simp [sendFault, hqueues, hhost, hout]

@[simp] theorem createRecord_hide (s : State) (st : Stamped)  (ps : List Part) (hfaults : .faults ∈ ps) (hqueues : .queues ∈ ps) (hhost :
    .host ∈ ps) (hout : .out ∈ ps) : (createRecord s st).hide ps = s.hide ps := by
  simp [createRecord, hfaults, hqueues, hhost, hout]

@[simp] theorem readEvents_hide (s : State)  (ps : List Part) (hfaults : .faults ∈ ps) (hqueues : .queues ∈ ps) (hhost : .host ∈ ps) (hout
    : .out ∈ ps) : (readEvents s).hide ps = s.hide ps := by
  simp [readEvents, hfaults, hqueues, hhost, hout]

@[simp] theorem postInTick_hide (held : List Event) (s : State)  (ps : List Part) (hfaults : .faults ∈ ps) (hqueues : .queues ∈ ps) (hhost
    : .host ∈ ps) (hout : .out ∈ ps) : (postInTick held s).hide ps = s.hide ps := by
  simp [postInTick, hfaults, hqueues, hhost, hout]

@[simp] theorem closeRecord_hide (s : State) (number : Nat)  (ps : List Part) (hfaults : .faults ∈ ps) (hqueues : .queues ∈ ps) :
    (closeRecord s number).hide ps = s.hide ps := by
  unfold closeRecord
  (repeat' split) <;> simp [hfaults, hqueues]

@[simp] theorem closeUnstored_hide (s : State)  (ps : List Part) (hfaults : .faults ∈ ps) (hqueues : .queues ∈ ps) : (closeUnstored
    s).hide ps = s.hide ps := by
  simp [closeUnstored, hfaults, hqueues]

@[simp] theorem setJobGates_hide (s : State) (b : Bool)  (ps : List Part) (hscan : .scan ∈ ps) : (setJobGates s b).hide ps = s.hide ps :=
    by
  simp [setJobGates, hscan]

@[simp] theorem releaseHold_hide (s : State)  (ps : List Part) (hfaults : .faults ∈ ps) (hjob : .job ∈ ps) (hscan : .scan ∈ ps) :
    (releaseHold s).hide ps = s.hide ps := by
  simp [releaseHold, hfaults, hjob, hscan]

@[simp] theorem acknowledgeAt_hide (s : State) (v : Nat) (upTo : Nat)  (ps : List Part) (hfaults : .faults ∈ ps) (hqueues : .queues ∈ ps)
    (hjob : .job ∈ ps) (hscan : .scan ∈ ps) : (acknowledgeAt s v upTo).hide ps = s.hide ps := by
  simp [acknowledgeAt, hfaults, hqueues, hjob, hscan]

@[simp] theorem noteStall_hide (s : State) (q : Nat) (waits : Bool) (fresh : Bool)  (ps : List Part) (hqueues : .queues ∈ ps) : (noteStall
    s q waits fresh).hide ps = s.hide ps := by
  simp [noteStall, hqueues]

end Sys2Proof.Machine
end

