-- ==== Sys2Proof/Laws/FrameDictCore.lean ====
section
/-! SUPPORT. Frames of Machine/DictCore.lean: which parts of a state each operation may change. -/

namespace Sys2Proof.Machine

@[simp] theorem State_updDict_hide (s : State) (f : DictState → DictState) (ps : List Part) (h : .dict ∈ ps)
    (hv : .values ∈ ps ∨ (f s.dict).vals = s.dict.vals) : (s.updDict f).hide ps = s.hide ps := by
  rcases hv with hv | hv <;> simp [State.updDict, State.hide, h, hv]

@[simp] theorem stageValue_hide (s : State) (index : Nat) (sub : Nat) (v : Val)  (ps : List Part) (hdict : .dict ∈ ps) : (stageValue s
    index sub v).hide ps = s.hide ps := by
  simp [stageValue, hdict]

@[simp] theorem bindPending_hide (s : State)  (ps : List Part) (hdict : .dict ∈ ps) : (bindPending s).hide ps = s.hide ps := by
  simp [bindPending, hdict]

end Sys2Proof.Machine
end

