-- ==== Sys2Proof/Laws/FrameServoTick.lean ====
section
/-! SUPPORT. Frames of Machine/ServoTick.lean: which parts of a state each operation may change. -/

namespace Sys2Proof.Machine

@[simp] theorem State_updAxis_hide (s : State) (a : Nat) (f : Axis → Axis)  (ps : List Part) (haxes : .axes ∈ ps) : (State.updAxis s a
    f).hide ps = s.hide ps := by
  simp [State.updAxis, haxes]

@[simp] theorem onAxis_hide (s : State) (a : Nat) (f : ServoEnv → Axis → Axis × List Event)  (ps : List Part) (hfaults : .faults ∈ ps)
    (haxes : .axes ∈ ps) : (onAxis s a f).hide ps = s.hide ps := by
  simp [onAxis, hfaults, haxes]

@[simp] theorem firstPosition_hide (s : State) (a : Nat)  (ps : List Part) (hscan : .scan ∈ ps) : (firstPosition s a).hide ps = s.hide ps
    := by
  simp [firstPosition, hscan]

@[simp] theorem wordArrives_hide (s : State) (a : Nat) (w : SensorWord)  (ps : List Part) (hfaults : .faults ∈ ps) (hscan : .scan ∈ ps)
    (haxes : .axes ∈ ps) : (wordArrives s a w).hide ps = s.hide ps := by
  simp [wordArrives, hfaults, hscan, haxes]

@[simp] theorem wordDeadline_hide (s : State) (a : Nat)  (ps : List Part) (hfaults : .faults ∈ ps) (haxes : .axes ∈ ps) : (wordDeadline s
    a).hide ps = s.hide ps := by
  simp [wordDeadline, hfaults, haxes]

@[simp] theorem axisCommand_hide (s : State) (a : Nat) (v : Nat)  (ps : List Part) (haxes : .axes ∈ ps) : (axisCommand s a v).hide ps =
    s.hide ps := by
  simp [axisCommand, haxes]

@[simp] theorem overrunAxes_hide (s : State) (j : Nat)  (ps : List Part) (haxes : .axes ∈ ps) : (overrunAxes s j).hide ps = s.hide ps :=
    by
  simp [overrunAxes, haxes]

@[simp] theorem servoTick_hide (s : State)  (ps : List Part) (hfaults : .faults ∈ ps) (haxes : .axes ∈ ps) : (servoTick s).hide ps =
    s.hide ps := by
  simp [servoTick, hfaults, haxes]

@[simp] theorem axisBoundary_hide (s : State)  (ps : List Part) (haxes : .axes ∈ ps) : (axisBoundary s).hide ps = s.hide ps := by
  simp [axisBoundary, haxes]

end Sys2Proof.Machine
end

