-- ==== Sys2Proof/Laws/FrameScanEngine.lean ====
section
/-! SUPPORT. Frames of Machine/ScanEngine.lean: which parts of a state each operation may change. -/

namespace Sys2Proof.Machine

@[simp] theorem State_updChan_hide (s : State) (n : Nat) (f : Chan → Chan)  (ps : List Part) (hscan : .scan ∈ ps) : (State.updChan s n
    f).hide ps = s.hide ps := by
  simp [State.updChan, hscan]

@[simp] theorem State_updMelt_hide (s : State) (n : Nat) (f : Melt → Melt)  (ps : List Part) (hmelt : .melt ∈ ps) : (State.updMelt s n
    f).hide ps = s.hide ps := by
  simp [State.updMelt, hmelt]

@[simp] theorem onChan_hide (s : State) (err : Nat → Int) (n : Nat) (f : ScanEnv → Chan → Chan × List Event)  (ps : List Part) (hfaults :
    .faults ∈ ps) (hscan : .scan ∈ ps) : (onChan s err n f).hide ps = s.hide ps := by
  simp [onChan, hfaults, hscan]

@[simp] theorem stopChan_hide (s : State) (n : Nat) (cause : Nat) (holdNow : Bool)  (ps : List Part) (hfaults : .faults ∈ ps) (hscan :
    .scan ∈ ps) : (stopChan s n cause holdNow).hide ps = s.hide ps := by
  simp [stopChan, hfaults, hscan]

@[simp] theorem State_updGates_hide (s : State) (n : Nat) (f : Gates → Gates)  (ps : List Part) (hscan : .scan ∈ ps) : (State.updGates s n
    f).hide ps = s.hide ps := by
  simp [State.updGates, hscan]

@[simp] theorem feedbackStop_hide (s : State) (n : Nat)  (ps : List Part) (hfaults : .faults ∈ ps) (hscan : .scan ∈ ps) (haxes : .axes ∈
    ps) : (feedbackStop s n).hide ps = s.hide ps := by
  simp [feedbackStop, hfaults, hscan, haxes]

@[simp] theorem nodeStop_hide (s : State) (n : Nat)  (ps : List Part) (hfaults : .faults ∈ ps) (hscan : .scan ∈ ps) (hlink : .link ∈ ps) :
    (nodeStop s n).hide ps = s.hide ps := by
  simp [nodeStop, hfaults, hscan, hlink]

@[simp] theorem scanFirst_hide (err : Nat → Int) (s : State) (n : Nat)  (ps : List Part) (hfaults : .faults ∈ ps) (hqueues : .queues ∈ ps)
    (hscan : .scan ∈ ps) (haxes : .axes ∈ ps) (hlink : .link ∈ ps) : (scanFirst err s n).hide ps = s.hide ps := by
  simp [scanFirst, hfaults, hqueues, hscan, haxes, hlink]

@[simp] theorem grantItem_hide (s : State) (z : Nat) (n : Nat) (it : FenItem)  (ps : List Part) (hfaults : .faults ∈ ps) (hscan : .scan ∈
    ps) : (grantItem s z n it).hide ps = s.hide ps := by
  simp [grantItem, hfaults, hscan]

@[simp] theorem resolveClaims_hide (s : State) (z : Nat) (requesters : List Nat)  (ps : List Part) (hfaults : .faults ∈ ps) (hscan : .scan
    ∈ ps) : (resolveClaims s z requesters).hide ps = s.hide ps := by
  unfold resolveClaims
  (repeat' (first | refine forI_hide _ _ _ _ (fun _ _ => ?_) | refine foldl_hide _ _ _ _ (fun _ _ => ?_) | split))
  all_goals simp [hfaults, hscan]

@[simp] theorem scanClaims_hide (s : State)  (ps : List Part) (hfaults : .faults ∈ ps) (hscan : .scan ∈ ps) : (scanClaims s).hide ps =
    s.hide ps := by
  simp [scanClaims, hfaults, hscan]

@[simp] theorem meetMark_hide (s : State) (n : Nat)  (ps : List Part) (hscan : .scan ∈ ps) : (meetMark s n).hide ps = s.hide ps := by
  unfold meetMark
  (repeat' split) <;> simp [hscan]

@[simp] theorem scanMeet_hide (s : State)  (ps : List Part) (hscan : .scan ∈ ps) : (scanMeet s).hide ps = s.hide ps := by
  simp [scanMeet, hscan]

@[simp] theorem noteUnderrun_hide (s : State) (n : Nat)  (ps : List Part) (hfaults : .faults ∈ ps) (hqueues : .queues ∈ ps) (hscan : .scan
    ∈ ps) : (noteUnderrun s n).hide ps = s.hide ps := by
  simp [noteUnderrun, hfaults, hqueues, hscan]

@[simp] theorem scanSecond_hide (err : Nat → Int) (s : State) (n : Nat)  (ps : List Part) (hfaults : .faults ∈ ps) (hqueues : .queues ∈
    ps) (hscan : .scan ∈ ps) (hmelt : .melt ∈ ps) : (scanSecond err s n).hide ps = s.hide ps := by
  simp [scanSecond, hfaults, hqueues, hscan, hmelt]

@[simp] theorem scanTick_hide (err : Nat → Int) (s : State)  (ps : List Part) (hfaults : .faults ∈ ps) (hqueues : .queues ∈ ps) (hscan :
    .scan ∈ ps) (haxes : .axes ∈ ps) (hmelt : .melt ∈ ps) (hlink : .link ∈ ps) : (scanTick err s).hide ps = s.hide ps := by
  simp [scanTick, hfaults, hqueues, hscan, haxes, hmelt, hlink]

@[simp] theorem scanBoundary_hide (s : State)  (ps : List Part) (hscan : .scan ∈ ps) : (scanBoundary s).hide ps = s.hide ps := by
  simp [scanBoundary, hscan]

@[simp] theorem overrunScan_hide (s : State) (k : Nat)  (ps : List Part) (hfaults : .faults ∈ ps) (hscan : .scan ∈ ps) (hmelt : .melt ∈
    ps) : (overrunScan s k).hide ps = s.hide ps := by
  simp [overrunScan, hfaults, hscan, hmelt]

@[simp] theorem overrunGates_hide (s : State) (j : Nat)  (ps : List Part) (hscan : .scan ∈ ps) (hmelt : .melt ∈ ps) : (overrunGates s
    j).hide ps = s.hide ps := by
  simp [overrunGates, hscan, hmelt]

@[simp] theorem releaseFeedback_hide (s : State)  (ps : List Part) (hscan : .scan ∈ ps) : (releaseFeedback s).hide ps = s.hide ps := by
  simp [releaseFeedback, hscan]

end Sys2Proof.Machine
end

