-- ==== Sys2Proof/Laws/FrameTimebase.lean ====
section
/-! SUPPORT. Frames of Machine/Timebase.lean: which parts of a state each operation may change. -/

namespace Sys2Proof.Machine

@[simp] theorem State_updTime_hide (s : State) (f : TimeState → TimeState) (ps : List Part) (h : .time ∈ ps)
    (hv : .ticks ∈ ps ∨ (f s.time).ticks = s.time.ticks) : (s.updTime f).hide ps = s.hide ps := by
  rcases hv with hv | hv <;> simp [State.updTime, State.hide, h, hv]

@[simp] theorem loseSync_hide (s : State)  (ps : List Part) (htime : .time ∈ ps) (hfaults : .faults ∈ ps) : (loseSync s).hide ps = s.hide
    ps := by
  unfold loseSync
  (repeat' split) <;> simp [htime, hfaults]

@[simp] theorem setAnnounce_hide (s : State) (p : Nat) (a : Option Announce)  (ps : List Part) (htime : .time ∈ ps) (hfaults : .faults ∈
    ps) : (setAnnounce s p a).hide ps = s.hide ps := by
  have h : ∀ t : TimeState, (selectMaster t).ticks = t.ticks := by
    intro t
    unfold selectMaster
    split <;> rfl
  unfold setAnnounce
  dsimp only
  split <;> simp [htime, hfaults, h]

@[simp] theorem syncState_hide (s : State) (inside : Bool) (far : Bool)  (ps : List Part) (htime : .time ∈ ps) (hfaults : .faults ∈ ps) :
    (syncState s inside far).hide ps = s.hide ps := by
  unfold syncState
  (repeat' split) <;> simp [htime, hfaults]

@[simp] theorem steer_hide (s : State)  (ps : List Part) (htime : .time ∈ ps) (hfreeCtr : .freeCtr ∈ ps) : (steer s).hide ps = s.hide ps
    := by
  simp [steer, htime, hfreeCtr]

@[simp] theorem syncOffset_hide (s : State) (port : Nat) (rxLocal : Nat) (gmTime : Nat)  (ps : List Part) (htime : .time ∈ ps) (hfaults :
    .faults ∈ ps) (hfreeCtr : .freeCtr ∈ ps) : (syncOffset s port rxLocal gmTime).hide ps = s.hide ps := by
  simp [syncOffset, htime, hfaults, hfreeCtr]

@[simp] theorem advanceTime_hide (s : State)  (ps : List Part) (hticks : .ticks ∈ ps) (htime : .time ∈ ps) (hfaults : .faults ∈ ps) :
    (advanceTime s).hide ps = s.hide ps := by
  unfold advanceTime
  (repeat' split) <;> simp [hticks, htime, hfaults]

@[simp] theorem noteOverrun_hide (s : State) (src : Nat) (cnt : Nat) (e : Nat → Event)  (ps : List Part) (htime : .time ∈ ps) (hfaults :
    .faults ∈ ps) : (noteOverrun s src cnt e).hide ps = s.hide ps := by
  simp [noteOverrun, htime, hfaults]

@[simp] theorem settleSource_hide (s : State)  (ps : List Part) (htime : .time ∈ ps) (hfaults : .faults ∈ ps) : (settleSource s).hide ps =
    s.hide ps := by
  unfold settleSource
  (repeat' (first | refine forI_hide _ _ _ _ (fun _ _ => ?_) | refine foldl_hide _ _ _ _ (fun _ _ => ?_) | split))
  all_goals simp [htime, hfaults]

@[simp] theorem sendPdelay_hide (s : State)  (ps : List Part) (htime : .time ∈ ps) (hhost : .host ∈ ps) (hout : .out ∈ ps) : (sendPdelay
    s).hide ps = s.hide ps := by
  simp [sendPdelay, htime, hhost, hout]

@[simp] theorem syncTimeout_hide (s : State)  (ps : List Part) (htime : .time ∈ ps) (hfaults : .faults ∈ ps) : (syncTimeout s).hide ps =
    s.hide ps := by
  unfold syncTimeout
  (repeat' split) <;> simp [htime, hfaults]

@[simp] theorem holdoverExpire_hide (s : State)  (ps : List Part) (htime : .time ∈ ps) (hfaults : .faults ∈ ps) : (holdoverExpire s).hide
    ps = s.hide ps := by
  simp [holdoverExpire, htime, hfaults]

@[simp] theorem gptpFrame_hide (ps : List Part) (s : State) (p : Nat) (run : State → State) (hrun : ∀ x0, (run x0).hide ps = x0.hide ps)
    (hhost : .host ∈ ps) : (gptpFrame s p run).hide ps = s.hide ps := by
  simp [gptpFrame, hhost, hrun]

end Sys2Proof.Machine
end

