-- ==== Sys2Proof/Laws/FrameZl.lean ====
section
/-! SUPPORT. Frames of Machine/Zl.lean: which parts of a state each operation may change. -/

namespace Sys2Proof.Machine

@[simp] theorem State_updPort_hide (s : State) (p : Nat) (f : ZlPort → ZlPort)  (ps : List Part) (hlink : .link ∈ ps) : (State.updPort s p
    f).hide ps = s.hide ps := by
  simp [State.updPort, hlink]

@[simp] theorem State_updLaser_hide (s : State) (n : Nat) (f : LaserNode → LaserNode)  (ps : List Part) (hlink : .link ∈ ps) :
    (State.updLaser s n f).hide ps = s.hide ps := by
  simp [State.updLaser, hlink]

@[simp] theorem portPost_hide (s : State) (p : Nat) (code : Nat) (sev : Severity)  (ps : List Part) (hfaults : .faults ∈ ps) (hlink :
    .link ∈ ps) : (portPost s p code sev).hide ps = s.hide ps := by
  simp [portPost, hfaults, hlink]

@[simp] theorem sendZl_hide (s : State) (p : Nat) (frame : Bytes)  (ps : List Part) (hlink : .link ∈ ps) (hout : .out ∈ ps) : (sendZl s p
    frame).hide ps = s.hide ps := by
  simp [sendZl, hlink, hout]

@[simp] theorem localFault_hide (s : State)  (ps : List Part) (hwork : .work ∈ ps) : (localFault s).hide ps = s.hide ps := by
  simp [localFault, hwork]

@[simp] theorem overrunPort_hide (s : State) (p : Nat)  (ps : List Part) (htime : .time ∈ ps) (hfaults : .faults ∈ ps) (hlink : .link ∈
    ps) (hwork : .work ∈ ps) : (overrunPort s p).hide ps = s.hide ps := by
  simp [overrunPort, htime, hfaults, hlink, hwork]

@[simp] theorem creditStall_hide (s : State) (p : Nat) (slot : Nat)  (ps : List Part) (htime : .time ∈ ps) (hfaults : .faults ∈ ps) (hlink
    : .link ∈ ps) (hwork : .work ∈ ps) : (creditStall s p slot).hide ps = s.hide ps := by
  simp [creditStall, htime, hfaults, hlink, hwork]

@[simp] theorem toPort_hide (s : State) (p : Nat) (st : PortState)  (ps : List Part) (hlink : .link ∈ ps) : (toPort s p st).hide ps =
    s.hide ps := by
  simp [toPort, hlink]

@[simp] theorem linkDown_hide (s : State) (p : Nat)  (ps : List Part) (hfaults : .faults ∈ ps) (hlink : .link ∈ ps) : (linkDown s p).hide
    ps = s.hide ps := by
  simp [linkDown, hfaults, hlink]

@[simp] theorem bringUpFailed_hide (s : State) (p : Nat)  (ps : List Part) (hfaults : .faults ∈ ps) (hlink : .link ∈ ps) : (bringUpFailed
    s p).hide ps = s.hide ps := by
  simp [bringUpFailed, hfaults, hlink]

@[simp] theorem nodeMismatch_hide (s : State) (p : Nat)  (ps : List Part) (hfaults : .faults ∈ ps) (hlink : .link ∈ ps) : (nodeMismatch s
    p).hide ps = s.hide ps := by
  simp [nodeMismatch, hfaults, hlink]

@[simp] theorem orderedSets_hide (s : State) (p : Nat)  (ps : List Part) (hout : .out ∈ ps) : (orderedSets s p).hide ps = s.hide ps := by
  simp [orderedSets, hout]

@[simp] theorem slot0Frame_hide (s : State) (p : Nat)  (ps : List Part) (htime : .time ∈ ps) (hfaults : .faults ∈ ps) (hlink : .link ∈ ps)
    (hwork : .work ∈ ps) (hout : .out ∈ ps) : (slot0Frame s p).hide ps = s.hide ps := by
  simp [slot0Frame, htime, hfaults, hlink, hwork, hout]

@[simp] theorem slot1Frame_hide (s : State) (p : Nat)  (ps : List Part) (htime : .time ∈ ps) (hfaults : .faults ∈ ps) (hlink : .link ∈ ps)
    (hwork : .work ∈ ps) (hout : .out ∈ ps) : (slot1Frame s p).hide ps = s.hide ps := by
  simp [slot1Frame, htime, hfaults, hlink, hwork, hout]

@[simp] theorem sendService_hide (s : State) (p : Nat) (sends : Nat) (sent : List Nat)  (ps : List Part) (hlink : .link ∈ ps) (hout : .out
    ∈ ps) : (sendService s p sends sent).hide ps = s.hide ps := by
  unfold sendService
  (repeat' split) <;> simp [hlink, hout]

@[simp] theorem slot2Frame_hide (s : State) (p : Nat)  (ps : List Part) (hlink : .link ∈ ps) (hout : .out ∈ ps) : (slot2Frame s p).hide ps
    = s.hide ps := by
  unfold slot2Frame
  dsimp only
  (repeat' split) <;> simp [hlink, hout]

@[simp] theorem countFrame_hide (s : State) (p : Nat) (fault : Nat) (h : NodeHead)  (ps : List Part) (hlink : .link ∈ ps) (hout : .out ∈
    ps) : (countFrame s p fault h).hide ps = s.hide ps := by
  simp [countFrame, hlink, hout]

@[simp] theorem noteNode_hide (s : State) (p : Nat) (temperature : Int) (missed : Nat)  (ps : List Part) (hfaults : .faults ∈ ps) (hlink :
    .link ∈ ps) : (noteNode s p temperature missed).hide ps = s.hide ps := by
  simp [noteNode, hfaults, hlink]

@[simp] theorem nodeReports_hide (s : State) (n : Nat)  (ps : List Part) (hfaults : .faults ∈ ps) (hscan : .scan ∈ ps) (hlink : .link ∈
    ps) : (nodeReports s n).hide ps = s.hide ps := by
  simp [nodeReports, hfaults, hscan, hlink]

@[simp] theorem missDeadline_hide (s : State) (p : Nat)  (ps : List Part) (hfaults : .faults ∈ ps) (hlink : .link ∈ ps) : (missDeadline s
    p).hide ps = s.hide ps := by
  simp [missDeadline, hfaults, hlink]

@[simp] theorem releaseNode_hide (s : State) (n : Nat)  (ps : List Part) (hscan : .scan ∈ ps) : (releaseNode s n).hide ps = s.hide ps :=
    by
  simp [releaseNode, hscan]

@[simp] theorem setPortEnable_hide (s : State) (p : Nat) (on : Bool)  (ps : List Part) (hlink : .link ∈ ps) : (setPortEnable s p on).hide
    ps = s.hide ps := by
  simp [setPortEnable, hlink]

@[simp] theorem retrainPort_hide (s : State) (p : Nat)  (ps : List Part) (hlink : .link ∈ ps) : (retrainPort s p).hide ps = s.hide ps :=
    by
  simp [retrainPort, hlink]

@[simp] theorem startPorts_hide (s : State)  (ps : List Part) (hlink : .link ∈ ps) : (startPorts s).hide ps = s.hide ps := by
  simp [startPorts, hlink]

@[simp] theorem nodeRequestEffect_hide (s : State) (p : Nat) (b : Bytes)  (ps : List Part) (hlink : .link ∈ ps) : (nodeRequestEffect s p
    b).hide ps = s.hide ps := by
  simp [nodeRequestEffect, hlink]

@[simp] theorem requestAnswered_hide (s : State) (p : Nat) (item : Nat) (status : Nat) (data : Bytes)  (ps : List Part) (hlink : .link ∈
    ps) : (requestAnswered s p item status data).hide ps = s.hide ps := by
  simp [requestAnswered, hlink]

@[simp] theorem nextConfig_hide (s : State) (p : Nat) (item : Nat)  (ps : List Part) (hlink : .link ∈ ps) : (nextConfig s p item).hide ps
    = s.hide ps := by
  simp [nextConfig, hlink]

@[simp] theorem raisePort_hide (s : State) (p : Nat)  (ps : List Part) (hfaults : .faults ∈ ps) (hlink : .link ∈ ps) : (raisePort s
    p).hide ps = s.hide ps := by
  simp [raisePort, hfaults, hlink]

@[simp] theorem trainExpire_hide (s : State) (p : Nat)  (ps : List Part) (hfaults : .faults ∈ ps) (hlink : .link ∈ ps) : (trainExpire s
    p).hide ps = s.hide ps := by
  simp [trainExpire, hfaults, hlink]

@[simp] theorem downExpire_hide (s : State) (p : Nat)  (ps : List Part) (hlink : .link ∈ ps) : (downExpire s p).hide ps = s.hide ps := by
  simp [downExpire, hlink]

@[simp] theorem onService_hide (ps : List Part) (s : State) (p : Nat) (h : NodeHead) (f : State → State) (hf : ∀ x0, (f x0).hide ps =
    x0.hide ps) (hlink : .link ∈ ps) (hout : .out ∈ ps) : (onService s p h f).hide ps = s.hide ps := by
  simp [onService, hlink, hout, hf]

@[simp] theorem mirrorOut_hide (s : State) (e : MirrorEntry)  (ps : List Part) (hpair : .pair ∈ ps) (hout : .out ∈ ps) : (mirrorOut s
    e).hide ps = s.hide ps := by
  simp [mirrorOut, hpair, hout]

end Sys2Proof.Machine
end

