-- ==== Sys2Proof/Laws/FrameNodes.lean ====
section
/-! SUPPORT. Frames of Machine/Nodes.lean: which parts of a state each operation may change. -/

namespace Sys2Proof.Machine

@[simp] theorem State_updNode_hide (s : State) (p : Nat) (f : FieldNode → FieldNode)  (ps : List Part) (hlink : .link ∈ ps) :
    (State.updNode s p f).hide ps = s.hide ps := by
  simp [State.updNode, hlink]

@[simp] theorem answerRequest_hide (s : State) (p : Nat) (type : Nat) (sequence : Nat) (payload : Bytes)  (ps : List Part) (hout : .out ∈
    ps) : (answerRequest s p type sequence payload).hide ps = s.hide ps := by
  simp [answerRequest, hout]

@[simp] theorem sensorPayload_hide (s : State) (p : Nat) (tick : Nat) (mask : Nat)  (ps : List Part) (hfreeCtr : .freeCtr ∈ ps) :
    (sensorPayload s p tick mask).2.hide ps = s.hide ps := by
  simp [sensorPayload, hfreeCtr]

@[simp] theorem laserPayload_hide (s : State) (p : Nat) (tick : Nat)  (ps : List Part) (hfreeCtr : .freeCtr ∈ ps) : (laserPayload s p
    tick).2.hide ps = s.hide ps := by
  simp [laserPayload, hfreeCtr]

@[simp] theorem enumPayload_hide (s : State) (p : Nat) (status : Nat)  (ps : List Part) (hfreeCtr : .freeCtr ∈ ps) : (enumPayload s p
    status).2.hide ps = s.hide ps := by
  simp [enumPayload, hfreeCtr]

@[simp] theorem acceptFrame_hide (s : State) (p : Nat) (f : DeviceFrame)  (ps : List Part) (hlink : .link ∈ ps) (hfreeCtr : .freeCtr ∈ ps)
    (hout : .out ∈ ps) : (acceptFrame s p f).hide ps = s.hide ps := by
  unfold acceptFrame
  (repeat' split) <;> simp [hlink, hfreeCtr, hout]

@[simp] theorem takeFrame_hide (s : State) (p : Nat) (l : Fin 2) (f : DeviceFrame)  (ps : List Part) (hlink : .link ∈ ps) (hfreeCtr :
    .freeCtr ∈ ps) (hout : .out ∈ ps) : (takeFrame s p l f).hide ps = s.hide ps := by
  simp [takeFrame, hlink, hfreeCtr, hout]

@[simp] theorem serveNode_hide (s : State) (p : Nat) (l : Fin 2) (f : DeviceFrame)  (ps : List Part) (hlink : .link ∈ ps) (hfreeCtr :
    .freeCtr ∈ ps) (hout : .out ∈ ps) : (serveNode s p l f).hide ps = s.hide ps := by
  unfold serveNode
  dsimp only
  (repeat' split) <;> simp [hlink, hfreeCtr, hout]

end Sys2Proof.Machine
end

