-- ==== Sys2Proof/Laws/FrameMeltTick.lean ====
section
/-! SUPPORT. Frames of Machine/MeltTick.lean: which parts of a state each operation may change. -/

namespace Sys2Proof.Machine

@[simp] theorem State_updMeltState_hide (s : State) (f : MeltState → MeltState)  (ps : List Part) (hmelt : .melt ∈ ps) :
    (State.updMeltState s f).hide ps = s.hide ps := by
  simp [State.updMeltState, hmelt]

@[simp] theorem readMelt_hide (s : State)  (ps : List Part) (hmelt : .melt ∈ ps) : (readMelt s).hide ps = s.hide ps := by
  simp [readMelt, hmelt]

@[simp] theorem meltJobStart_hide (s : State)  (ps : List Part) (hmelt : .melt ∈ ps) : (meltJobStart s).hide ps = s.hide ps := by
  simp [meltJobStart, hmelt]

@[simp] theorem meltLayerBoundary_hide (s : State) (layer : Nat)  (ps : List Part) (hfaults : .faults ∈ ps) (hmelt : .melt ∈ ps) :
    (meltLayerBoundary s layer).hide ps = s.hide ps := by
  simp [meltLayerBoundary, hfaults, hmelt]

@[simp] theorem resetHeat_hide (s : State)  (ps : List Part) (hmelt : .melt ∈ ps) : (resetHeat s).hide ps = s.hide ps := by
  simp [resetHeat, hmelt]

@[simp] theorem completeMap_hide (s : State) (stopped : Bool)  (ps : List Part) (hmelt : .melt ∈ ps) : (completeMap s stopped).hide ps =
    s.hide ps := by
  simp [completeMap, hmelt]

@[simp] theorem meltLayerComplete_hide (s : State) (layer : Nat)  (ps : List Part) (hmelt : .melt ∈ ps) : (meltLayerComplete s layer).hide
    ps = s.hide ps := by
  simp [meltLayerComplete, hmelt]

@[simp] theorem feedMaps_hide (s : State)  (ps : List Part) (hqueues : .queues ∈ ps) (hmelt : .melt ∈ ps) : (feedMaps s).hide ps = s.hide
    ps := by
  simp [feedMaps, hqueues, hmelt]

@[simp] theorem takeBlocks_hide (s : State)  (ps : List Part) (hmelt : .melt ∈ ps) : (takeBlocks s).hide ps = s.hide ps := by
  simp [takeBlocks, hmelt]

@[simp] theorem closeMaps_hide (s : State)  (ps : List Part) (hfaults : .faults ∈ ps) (hqueues : .queues ∈ ps) (hmelt : .melt ∈ ps) :
    (closeMaps s).hide ps = s.hide ps := by
  simp [closeMaps, hfaults, hqueues, hmelt]

@[simp] theorem replacePlanes_hide (s : State)  (ps : List Part) (hmelt : .melt ∈ ps) : (replacePlanes s).hide ps = s.hide ps := by
  unfold replacePlanes
  (repeat' split) <;> simp [hmelt]

@[simp] theorem updateHeat_hide (s : State)  (ps : List Part) (hmelt : .melt ∈ ps) : (updateHeat s).hide ps = s.hide ps := by
  unfold updateHeat
  (repeat' split) <;> simp [hmelt]

end Sys2Proof.Machine
end

