-- ==== Sys2Proof/Laws/FrameFensTick.lean ====
section
/-! SUPPORT. Frames of Machine/FensTick.lean: which parts of a state each operation may change. -/

namespace Sys2Proof.Machine

@[simp] theorem State_updReg_hide (s : State) (f : FenState → FenState)  (ps : List Part) (hreg : .reg ∈ ps) : (State.updReg s f).hide ps
    = s.hide ps := by
  simp [State.updReg, hreg]

@[simp] theorem State_updFen_hide (s : State) (z : Nat) (f : FenStatus → FenStatus)  (ps : List Part) (hreg : .reg ∈ ps) : (State.updFen s
    z f).hide ps = s.hide ps := by
  simp [State.updFen, hreg]

@[simp] theorem State_updGrid_hide (s : State) (k : Nat) (f : GridStatus → GridStatus)  (ps : List Part) (hreg : .reg ∈ ps) :
    (State.updGrid s k f).hide ps = s.hide ps := by
  simp [State.updGrid, hreg]

@[simp] theorem markTick_hide (before : Blocks) (s : State) (n : Nat)  (ps : List Part) (hreg : .reg ∈ ps) : (markTick before s n).hide ps
    = s.hide ps := by
  unfold markTick
  dsimp only
  (repeat' split) <;> simp [hreg]

@[simp] theorem markTicks_hide (before : Blocks) (s : State)  (ps : List Part) (hreg : .reg ∈ ps) : (markTicks before s).hide ps = s.hide
    ps := by
  simp [markTicks, hreg]

@[simp] theorem dropUnregistered_hide (s : State)  (ps : List Part) (hreg : .reg ∈ ps) : (dropUnregistered s).hide ps = s.hide ps := by
  simp [dropUnregistered, hreg]

@[simp] theorem fillMarks_hide (s : State) (n : Nat) (f : Nat) (got : Side)  (ps : List Part) (hreg : .reg ∈ ps) : (fillMarks s n f
    got).hide ps = s.hide ps := by
  simp [fillMarks, hreg]

@[simp] theorem postObservations_hide (s : State) (f : MarkTick → Bool)  (ps : List Part) (hreg : .reg ∈ ps) : (postObservations s f).hide
    ps = s.hide ps := by
  simp [postObservations, hreg]

@[simp] theorem readObservations_hide (s : State)  (ps : List Part) (hreg : .reg ∈ ps) : (readObservations s).hide ps = s.hide ps := by
  simp [readObservations, hreg]

@[simp] theorem fenLayerComplete_hide (s : State) (layer : Nat) (boundary : Nat)  (ps : List Part) (hreg : .reg ∈ ps) : (fenLayerComplete
    s layer boundary).hide ps = s.hide ps := by
  simp [fenLayerComplete, hreg]

@[simp] theorem fenJobStopped_hide (s : State)  (ps : List Part) (hreg : .reg ∈ ps) : (fenJobStopped s).hide ps = s.hide ps := by
  simp [fenJobStopped, hreg]

@[simp] theorem fenJobStart_hide (s : State)  (ps : List Part) (hreg : .reg ∈ ps) : (fenJobStart s).hide ps = s.hide ps := by
  simp [fenJobStart, hreg]

@[simp] theorem decideFen_hide (l : LayerSolve) (s : State) (c : FenCfg)  (ps : List Part) (hfaults : .faults ∈ ps) (hreg : .reg ∈ ps) :
    (decideFen l s c).hide ps = s.hide ps := by
  unfold decideFen
  (repeat' split) <;> simp [hfaults, hreg]

@[simp] theorem refuseGrid_hide (l : LayerSolve) (s : State) (k : Nat) (status : Nat)  (ps : List Part) (hfaults : .faults ∈ ps) (hreg :
    .reg ∈ ps) : (refuseGrid l s k status).hide ps = s.hide ps := by
  simp [refuseGrid, hfaults, hreg]

@[simp] theorem refuseGrids_hide (s : State) (l : LayerSolve)  (ps : List Part) (hfaults : .faults ∈ ps) (hreg : .reg ∈ ps) : (refuseGrids
    s l).1.hide ps = s.hide ps := by
  have key : ∀ (l' : List Nat) (x : State × LayerSolve), ((l'.foldl (fun (x : State × LayerSolve) k =>
      if (correctors x.1.toBlocks l k).isEmpty || x.2.refused.any (fun r => r.1 == k) then x
      else
        match refusal x.1.toBlocks l k with
        | some st => (refuseGrid l x.1 k st, { x.2 with refused := x.2.refused ++ [(k, st)] })
        | none => x) x).1).hide ps = x.1.hide ps := by
    intro l'
    induction l' with
    | nil => intro x; rfl
    | cons k l' ih =>
      intro x
      rw [List.foldl_cons, ih]
      (repeat' split) <;> simp [hfaults, hreg]
  exact key _ _

@[simp] theorem State_updFirstLayer_hide (s : State) (f : LayerSolve → LayerSolve)  (ps : List Part) (hreg : .reg ∈ ps) :
    (State.updFirstLayer s f).hide ps = s.hide ps := by
  simp [State.updFirstLayer, hreg]

@[simp] theorem decideLayer_hide (s : State)  (ps : List Part) (hfaults : .faults ∈ ps) (hreg : .reg ∈ ps) : (decideLayer s).hide ps =
    s.hide ps := by
  unfold decideLayer
  dsimp only
  (repeat' split) <;> simp [hfaults, hreg]

@[simp] theorem stageGrid_hide (l : LayerSolve) (s : State) (k : Nat)  (ps : List Part) (hdict : .dict ∈ ps) (hreg : .reg ∈ ps) :
    (stageGrid l s k).hide ps = s.hide ps := by
  simp [stageGrid, hdict, hreg]

@[simp] theorem commitGrids_hide (s : State)  (ps : List Part) (hfaults : .faults ∈ ps) (hdict : .dict ∈ ps) (hreg : .reg ∈ ps) :
    (commitGrids s).hide ps = s.hide ps := by
  unfold commitGrids
  (repeat' split) <;> simp [hfaults, hdict, hreg]

@[simp] theorem gridsInForce_hide (before : DictState) (device : Nat → Bool) (s : State)  (ps : List Part) (hreg : .reg ∈ ps) :
    (gridsInForce before device s).hide ps = s.hide ps := by
  simp [gridsInForce, hreg]

end Sys2Proof.Machine
end

