-- ==== Sys2Proof/Laws/FrameCameras.lean ====
section
/-! SUPPORT. Frames of Machine/Cameras.lean: which parts of a state each operation may change. -/

namespace Sys2Proof.Machine

@[simp] theorem State_updPortC_hide (s : State) (c : Nat) (f : CamPort → CamPort)  (ps : List Part) (hcams : .cams ∈ ps) : (State.updPortC
    s c f).hide ps = s.hide ps := by
  simp [State.updPortC, hcams]

@[simp] theorem State_updCtx_hide (s : State) (i : Nat) (f : ImageCtx → ImageCtx)  (ps : List Part) (hcams : .cams ∈ ps) : (State.updCtx s
    i f).hide ps = s.hide ps := by
  simp [State.updCtx, hcams]

@[simp] theorem State_updStream_hide (s : State) (c : Nat) (v : Nat) (f : CamStream → CamStream)  (ps : List Part) (hcams : .cams ∈ ps) :
    (State.updStream s c v f).hide ps = s.hide ps := by
  simp [State.updStream, hcams]

@[simp] theorem camPost_hide (s : State) (code : Nat) (sev : Severity) (kind : SourceKind) (inst : Nat) (frame : Nat)  (ps : List Part)
    (hfaults : .faults ∈ ps) (hcams : .cams ∈ ps) : (camPost s code sev kind inst frame).hide ps = s.hide ps := by
  simp [camPost, hfaults, hcams]

@[simp] theorem frameValues_hide (s : State) (i : Nat)  (ps : List Part) (hvalues : .values ∈ ps) (hdict : .dict ∈ ps) : (frameValues s
    i).hide ps = s.hide ps := by
  simp [frameValues, hvalues, hdict]

@[simp] theorem takeFeatures_hide (s : State) (i : Nat) (f : FrameAcc) (flags : Nat)  (ps : List Part) (hcams : .cams ∈ ps) (hmelt : .melt
    ∈ ps) (hreg : .reg ∈ ps) (hfreeCtr : .freeCtr ∈ ps) : (takeFeatures s i f flags).hide ps = s.hide ps := by
  simp [takeFeatures, hcams, hmelt, hreg, hfreeCtr]

@[simp] theorem closeFrame_hide (s : State) (i : Nat) (f : FrameAcc)  (ps : List Part) (hfaults : .faults ∈ ps) (hcams : .cams ∈ ps)
    (hmelt : .melt ∈ ps) (hreg : .reg ∈ ps) (hfreeCtr : .freeCtr ∈ ps) : (closeFrame s i f).hide ps = s.hide ps := by
  simp [closeFrame, hfaults, hcams, hmelt, hreg, hfreeCtr]

@[simp] theorem closeEnded_hide (s : State) (c : Nat) (v : Nat) (i : Nat)  (ps : List Part) (hfaults : .faults ∈ ps) (hcams : .cams ∈ ps)
    (hmelt : .melt ∈ ps) (hreg : .reg ∈ ps) (hfreeCtr : .freeCtr ∈ ps) : (closeEnded s c v i).hide ps = s.hide ps := by
  simp [closeEnded, hfaults, hcams, hmelt, hreg, hfreeCtr]

@[simp] theorem closeStream_hide (s : State) (c : Nat) (v : Nat)  (ps : List Part) (hfaults : .faults ∈ ps) (hcams : .cams ∈ ps) (hmelt :
    .melt ∈ ps) (hreg : .reg ∈ ps) (hfreeCtr : .freeCtr ∈ ps) : (closeStream s c v).hide ps = s.hide ps := by
  simp [closeStream, hfaults, hcams, hmelt, hreg, hfreeCtr]

@[simp] theorem flagFrames_hide (s : State) (c : Nat) (v : Nat) (k : Nat)  (ps : List Part) (hcams : .cams ∈ ps) : (flagFrames s c v
    k).hide ps = s.hide ps := by
  simp [flagFrames, hcams]

@[simp] theorem endFrames_hide (s : State) (c : Nat) (v : Nat)  (ps : List Part) (hcams : .cams ∈ ps) : (endFrames s c v).hide ps = s.hide
    ps := by
  simp [endFrames, hcams]

@[simp] theorem truncateOpen_hide (s : State) (c : Nat) (v : Nat)  (ps : List Part) (hfaults : .faults ∈ ps) (hcams : .cams ∈ ps) (hmelt :
    .melt ∈ ps) (hreg : .reg ∈ ps) (hfreeCtr : .freeCtr ∈ ps) : (truncateOpen s c v).hide ps = s.hide ps := by
  simp [truncateOpen, hfaults, hcams, hmelt, hreg, hfreeCtr]

@[simp] theorem dropRest_hide (s : State) (c : Nat) (v : Nat) (k : Nat)  (ps : List Part) (hcams : .cams ∈ ps) : (dropRest s c v k).hide
    ps = s.hide ps := by
  simp [dropRest, hcams]

@[simp] theorem checkHeader_hide (s : State) (c : Nat) (v : Nat) (h : CsiHeader)  (ps : List Part) (hcams : .cams ∈ ps) : (checkHeader s c
    v h).1.hide ps = s.hide ps := by
  unfold checkHeader
  (repeat' split) <;> simp [hcams]

@[simp] theorem beginFrame_hide (s : State) (i : Nat) (serial : Nat) (index : Nat) (start : Nat) (untriggered : Bool)  (ps : List Part)
    (hcams : .cams ∈ ps) : (beginFrame s i serial index start untriggered).hide ps = s.hide ps := by
  simp [beginFrame, hcams]

@[simp] theorem frameStarts_hide (s : State) (c : Nat) (v : Nat)  (ps : List Part) (hfaults : .faults ∈ ps) (hvalues : .values ∈ ps)
    (hdict : .dict ∈ ps) (hcams : .cams ∈ ps) (hmelt : .melt ∈ ps) (hreg : .reg ∈ ps) (hfreeCtr : .freeCtr ∈ ps) : (frameStarts s c
    v).hide ps = s.hide ps := by
  simp [frameStarts, hfaults, hvalues, hdict, hcams, hmelt, hreg, hfreeCtr]

@[simp] theorem frameEnds_hide (s : State) (c : Nat) (v : Nat)  (ps : List Part) (hfaults : .faults ∈ ps) (hcams : .cams ∈ ps) (hmelt :
    .melt ∈ ps) (hreg : .reg ∈ ps) (hfreeCtr : .freeCtr ∈ ps) : (frameEnds s c v).hide ps = s.hide ps := by
  simp [frameEnds, hfaults, hcams, hmelt, hreg, hfreeCtr]

@[simp] theorem ignorePacket_hide (s : State) (c : Nat)  (ps : List Part) (hcams : .cams ∈ ps) : (ignorePacket s c).hide ps = s.hide ps :=
    by
  simp [ignorePacket, hcams]

@[simp] theorem storeLine_hide (s : State) (c : Nat) (v : Nat) (i : Nat) (payload : Bytes) (crcOk : Bool)  (ps : List Part) (hcams : .cams
    ∈ ps) : (storeLine s c v i payload crcOk).hide ps = s.hide ps := by
  simp [storeLine, hcams]

@[simp] theorem overflowLine_hide (s : State) (c : Nat) (v : Nat)  (ps : List Part) (hfaults : .faults ∈ ps) (hcams : .cams ∈ ps) :
    (overflowLine s c v).hide ps = s.hide ps := by
  simp [overflowLine, hfaults, hcams]

@[simp] theorem linePacket_hide (s : State) (c : Nat) (v : Nat) (dataType : Nat) (payload : Bytes) (crcOk : Bool)  (ps : List Part)
    (hfaults : .faults ∈ ps) (hcams : .cams ∈ ps) : (linePacket s c v dataType payload crcOk).hide ps = s.hide ps := by
  unfold linePacket
  (repeat' split) <;> simp [hfaults, hcams]

@[simp] theorem processLine_hide (s : State) (c : Nat) (l : CamLine)  (ps : List Part) (hfaults : .faults ∈ ps) (hcams : .cams ∈ ps)
    (hmelt : .melt ∈ ps) (hreg : .reg ∈ ps) (hfreeCtr : .freeCtr ∈ ps) : (processLine s c l).hide ps = s.hide ps := by
  simp [processLine, hfaults, hcams, hmelt, hreg, hfreeCtr]

@[simp] theorem pipelineUnit_hide (s : State) (c : Nat)  (ps : List Part) (hfaults : .faults ∈ ps) (hcams : .cams ∈ ps) (hmelt : .melt ∈
    ps) (hreg : .reg ∈ ps) (hfreeCtr : .freeCtr ∈ ps) : (pipelineUnit s c).hide ps = s.hide ps := by
  unfold pipelineUnit
  dsimp only
  (repeat' split) <;> simp [hfaults, hcams, hmelt, hreg, hfreeCtr]

@[simp] theorem frameTimeout_hide (s : State) (i : Nat)  (ps : List Part) (hfaults : .faults ∈ ps) (hcams : .cams ∈ ps) (hmelt : .melt ∈
    ps) (hreg : .reg ∈ ps) (hfreeCtr : .freeCtr ∈ ps) : (frameTimeout s i).hide ps = s.hide ps := by
  simp [frameTimeout, hfaults, hcams, hmelt, hreg, hfreeCtr]

@[simp] theorem missingFrames_hide (s : State) (i : Nat)  (ps : List Part) (hfaults : .faults ∈ ps) (hcams : .cams ∈ ps) : (missingFrames
    s i).hide ps = s.hide ps := by
  simp [missingFrames, hfaults, hcams]

@[simp] theorem risePulse_hide (s : State) (c : Nat)  (ps : List Part) (hcams : .cams ∈ ps) (hout : .out ∈ ps) : (risePulse s c).hide ps =
    s.hide ps := by
  unfold risePulse
  (repeat' split) <;> simp [hcams, hout]

@[simp] theorem spendReasons_hide (s : State) (c : Nat)  (ps : List Part) (hcams : .cams ∈ ps) : (spendReasons s c).hide ps = s.hide ps :=
    by
  simp [spendReasons, hcams]

@[simp] theorem firePulse_hide (s : State) (c : Nat)  (ps : List Part) (hcams : .cams ∈ ps) (hout : .out ∈ ps) : (firePulse s c).hide ps =
    s.hide ps := by
  simp [firePulse, hcams, hout]

@[simp] theorem deliverFrame_hide (s : State) (i : Nat) (f : Nat) (n : Nat)  (ps : List Part) (hfaults : .faults ∈ ps) (hcams : .cams ∈
    ps) (hmelt : .melt ∈ ps) : (deliverFrame s i f n).hide ps = s.hide ps := by
  simp [deliverFrame, hfaults, hcams, hmelt]

@[simp] theorem deliver_hide (s : State) (i : Nat)  (ps : List Part) (hfaults : .faults ∈ ps) (hcams : .cams ∈ ps) (hmelt : .melt ∈ ps) :
    (deliver s i).hide ps = s.hide ps := by
  unfold deliver
  (repeat' split) <;> simp [hfaults, hcams, hmelt]

@[simp] theorem deliverAll_hide (s : State)  (ps : List Part) (hfaults : .faults ∈ ps) (hcams : .cams ∈ ps) (hmelt : .melt ∈ ps) :
    (deliverAll s).hide ps = s.hide ps := by
  simp [deliverAll, hfaults, hcams, hmelt]

@[simp] theorem ctxDisabled_hide (s : State) (i : Nat)  (ps : List Part) (hcams : .cams ∈ ps) : (ctxDisabled s i).hide ps = s.hide ps :=
    by
  simp [ctxDisabled, hcams]

@[simp] theorem busTransaction_hide (s : State) (c : Nat) (steps : List I2cStep)  (ps : List Part) (hout : .out ∈ ps) : (busTransaction s
    c steps).hide ps = s.hide ps := by
  simp [busTransaction, hout]

@[simp] theorem runEntry_hide (s : State) (c : Nat) (k : Nat)  (ps : List Part) (hcams : .cams ∈ ps) (hout : .out ∈ ps) : (runEntry s c
    k).hide ps = s.hide ps := by
  simp [runEntry, hcams, hout]

@[simp] theorem startScript_hide (s : State) (c : Nat)  (ps : List Part) (hcams : .cams ∈ ps) (hout : .out ∈ ps) : (startScript s c).hide
    ps = s.hide ps := by
  simp [startScript, hcams, hout]

@[simp] theorem setStreaming_hide (s : State) (c : Nat) (on : Bool)  (ps : List Part) (hcams : .cams ∈ ps) (hout : .out ∈ ps) :
    (setStreaming s c on).hide ps = s.hide ps := by
  simp [setStreaming, hcams, hout]

@[simp] theorem scriptFailed_hide (s : State) (c : Nat)  (ps : List Part) (hfaults : .faults ∈ ps) (hcams : .cams ∈ ps) : (scriptFailed s
    c).hide ps = s.hide ps := by
  simp [scriptFailed, hfaults, hcams]

@[simp] theorem endRequest_hide (s : State) (c : Nat) (status : Nat) (count : Nat) (data : Bytes)  (ps : List Part) (hcams : .cams ∈ ps)
    (hout : .out ∈ ps) : (endRequest s c status count data).hide ps = s.hide ps := by
  simp [endRequest, hcams, hout]

@[simp] theorem scriptEntry_hide (s : State) (c : Nat) (k : Nat) (status : Nat)  (ps : List Part) (hfaults : .faults ∈ ps) (hcams : .cams
    ∈ ps) (hout : .out ∈ ps) : (scriptEntry s c k status).hide ps = s.hide ps := by
  simp [scriptEntry, hfaults, hcams, hout]

@[simp] theorem endDelays_hide (s : State)  (ps : List Part) (hfaults : .faults ∈ ps) (hcams : .cams ∈ ps) (hout : .out ∈ ps) : (endDelays
    s).hide ps = s.hide ps := by
  unfold endDelays
  (repeat' (first | refine forI_hide _ _ _ _ (fun _ _ => ?_) | refine foldl_hide _ _ _ _ (fun _ _ => ?_) | split))
  all_goals simp [hfaults, hcams, hout]

@[simp] theorem i2cStart_hide (s : State) (c : Nat) (data : Bytes)  (ps : List Part) (hcams : .cams ∈ ps) (hout : .out ∈ ps) : (i2cStart s
    c data).hide ps = s.hide ps := by
  simp [i2cStart, hcams, hout]

@[simp] theorem layerTrigger_hide (s : State) (k : Nat) (due : Nat)  (ps : List Part) (hcams : .cams ∈ ps) : (layerTrigger s k due).hide
    ps = s.hide ps := by
  simp [layerTrigger, hcams]

@[simp] theorem linkError_hide (s : State) (c : Nat)  (ps : List Part) (hfaults : .faults ∈ ps) (hcams : .cams ∈ ps) (hmelt : .melt ∈ ps)
    (hreg : .reg ∈ ps) (hfreeCtr : .freeCtr ∈ ps) : (linkError s c).hide ps = s.hide ps := by
  simp [linkError, hfaults, hcams, hmelt, hreg, hfreeCtr]

end Sys2Proof.Machine
end

