-- ==== Sys2Proof/Laws/FrameLed.lean ====
section
/-! SUPPORT. Frames of Machine/Led.lean: which parts of a state each operation may change. -/

namespace Sys2Proof.Machine

@[simp] theorem State_updLed_hide (s : State) (l : Nat) (f : LedString → LedString)  (ps : List Part) (hlight : .light ∈ ps) :
    (State.updLed s l f).hide ps = s.hide ps := by
  simp [State.updLed, hlight]

@[simp] theorem postDeficit_hide (s : State) (l : Nat) (was : Bool) (beyond : Bool)  (ps : List Part) (hfaults : .faults ∈ ps) (hlight :
    .light ∈ ps) : (postDeficit s l was beyond).hide ps = s.hide ps := by
  simp [postDeficit, hfaults, hlight]

@[simp] theorem fixOn_hide (s : State) (l : Nat)  (ps : List Part) (hfaults : .faults ∈ ps) (hlight : .light ∈ ps) : (fixOn s l).hide ps =
    s.hide ps := by
  simp [fixOn, hfaults, hlight]

@[simp] theorem fixLocating_hide (s : State) (l : Nat) (lamp : Nat)  (ps : List Part) (hlight : .light ∈ ps) : (fixLocating s l lamp).hide
    ps = s.hide ps := by
  unfold fixLocating
  dsimp only
  (repeat' split) <;> simp [hlight]

@[simp] theorem fixString_hide (s : State) (l : Nat)  (ps : List Part) (hfaults : .faults ∈ ps) (hlight : .light ∈ ps) : (fixString s
    l).hide ps = s.hide ps := by
  unfold fixString
  dsimp only
  (repeat' split) <;> simp [hfaults, hlight]

@[simp] theorem postGroups_hide (s : State)  (ps : List Part) (hfaults : .faults ∈ ps) (hlight : .light ∈ ps) : (postGroups s).hide ps =
    s.hide ps := by
  simp [postGroups, hfaults, hlight]

@[simp] theorem fixPatterns_hide (s : State)  (ps : List Part) (hfaults : .faults ∈ ps) (hlight : .light ∈ ps) : (fixPatterns s).hide ps =
    s.hide ps := by
  simp [fixPatterns, hfaults, hlight]

@[simp] theorem lightBoundary_hide (s : State)  (ps : List Part) (hlight : .light ∈ ps) : (lightBoundary s).hide ps = s.hide ps := by
  simp [lightBoundary, hlight]

@[simp] theorem lampOpen_hide (s : State) (l : Nat) (k : Nat)  (ps : List Part) (hfaults : .faults ∈ ps) (hlight : .light ∈ ps) :
    (lampOpen s l k).hide ps = s.hide ps := by
  simp [lampOpen, hfaults, hlight]

@[simp] theorem windowCurrent_hide (s : State) (l : Nat) (w : Nat) (current : Nat)  (ps : List Part) (hlight : .light ∈ ps) :
    (windowCurrent s l w current).hide ps = s.hide ps := by
  simp [windowCurrent, hlight]

@[simp] theorem locateResult_hide (s : State) (l : Nat) (current : Nat)  (ps : List Part) (hfaults : .faults ∈ ps) (hlight : .light ∈ ps)
    : (locateResult s l current).hide ps = s.hide ps := by
  unfold locateResult
  dsimp only
  (repeat' split) <;> simp [hfaults, hlight]

@[simp] theorem probeResult_hide (s : State) (l : Nat) (current : Nat) (voltage : Nat)  (ps : List Part) (hfaults : .faults ∈ ps) (hlight
    : .light ∈ ps) : (probeResult s l current voltage).hide ps = s.hide ps := by
  unfold probeResult
  dsimp only
  (repeat' split) <;> simp [hfaults, hlight]

@[simp] theorem probesMissed_hide (s : State) (l : Nat)  (ps : List Part) (hfaults : .faults ∈ ps) (hlight : .light ∈ ps) : (probesMissed
    s l).hide ps = s.hide ps := by
  simp [probesMissed, hfaults, hlight]

@[simp] theorem clearFailed_hide (s : State) (l : Nat)  (ps : List Part) (hlight : .light ∈ ps) : (clearFailed s l).hide ps = s.hide ps :=
    by
  simp [clearFailed, hlight]

@[simp] theorem adoptString_hide (s : State) (r : LedReport)  (ps : List Part) (hlight : .light ∈ ps) : (adoptString s r).hide ps = s.hide
    ps := by
  simp [adoptString, hlight]

end Sys2Proof.Machine
end

