-- ==== Sys2Proof/Laws/FrameThermal.lean ====
section
/-! SUPPORT. Frames of Machine/Thermal.lean: which parts of a state each operation may change. -/

namespace Sys2Proof.Machine

@[simp] theorem State_updTemp_hide (s : State) (k : Nat) (f : TempInput → TempInput)  (ps : List Part) (htemp : .temp ∈ ps) :
    (State.updTemp s k f).hide ps = s.hide ps := by
  simp [State.updTemp, htemp]

@[simp] theorem publishScan_hide (s : State)  (ps : List Part) (hfaults : .faults ∈ ps) (htemp : .temp ∈ ps) : (publishScan s).hide ps =
    s.hide ps := by
  simp [publishScan, hfaults, htemp]

@[simp] theorem discardScan_hide (s : State)  (ps : List Part) (htemp : .temp ∈ ps) : (discardScan s).hide ps = s.hide ps := by
  simp [discardScan, htemp]

@[simp] theorem startScan_hide (s : State)  (ps : List Part) (htemp : .temp ∈ ps) : (startScan s).hide ps = s.hide ps := by
  simp [startScan, htemp]

@[simp] theorem emptyHistory_hide (s : State) (k : Nat)  (ps : List Part) (htemp : .temp ∈ ps) : (emptyHistory s k).hide ps = s.hide ps :=
    by
  simp [emptyHistory, htemp]

end Sys2Proof.Machine
end

