-- ==== Sys2Proof/Laws/FrameAnalog.lean ====
section
/-! SUPPORT. Frames of Machine/Analog.lean: which parts of a state each operation may change. -/

namespace Sys2Proof.Machine

@[simp] theorem State_updTrim_hide (s : State) (j : Nat) (f : Trim → Trim)  (ps : List Part) (hanalog : .analog ∈ ps) : (State.updTrim s j
    f).hide ps = s.hide ps := by
  simp [State.updTrim, hanalog]

@[simp] theorem State_updAnalog_hide (s : State) (n : Nat) (f : Analog → Analog)  (ps : List Part) (hanalog : .analog ∈ ps) :
    (State.updAnalog s n f).hide ps = s.hide ps := by
  simp [State.updAnalog, hanalog]

@[simp] theorem startCalibration_hide (s : State) (j : Nat)  (ps : List Part) (hanalog : .analog ∈ ps) : (startCalibration s j).hide ps =
    s.hide ps := by
  simp [startCalibration, hanalog]

@[simp] theorem abortCalibration_hide (s : State) (j : Nat)  (ps : List Part) (hfaults : .faults ∈ ps) (hanalog : .analog ∈ ps) :
    (abortCalibration s j).hide ps = s.hide ps := by
  simp [abortCalibration, hfaults, hanalog]

@[simp] theorem abortAllCalibrations_hide (s : State)  (ps : List Part) (hfaults : .faults ∈ ps) (hanalog : .analog ∈ ps) :
    (abortAllCalibrations s).hide ps = s.hide ps := by
  simp [abortAllCalibrations, hfaults, hanalog]

@[simp] theorem abortLaoCalibrations_hide (s : State)  (ps : List Part) (hfaults : .faults ∈ ps) (hanalog : .analog ∈ ps) :
    (abortLaoCalibrations s).hide ps = s.hide ps := by
  simp [abortLaoCalibrations, hfaults, hanalog]

@[simp] theorem publishDue_hide (s : State)  (ps : List Part) (hfaults : .faults ∈ ps) (htemp : .temp ∈ ps) : (publishDue s).hide ps =
    s.hide ps := by
  simp [publishDue, hfaults, htemp]

@[simp] theorem latchAnalog_hide (s : State) (n : Nat)  (ps : List Part) (hanalog : .analog ∈ ps) : (latchAnalog s n).hide ps = s.hide ps
    := by
  simp [latchAnalog, hanalog]

@[simp] theorem analogOff_hide (s : State)  (ps : List Part) (hanalog : .analog ∈ ps) : (analogOff s).hide ps = s.hide ps := by
  simp [analogOff, hanalog]

end Sys2Proof.Machine
end

