-- ==== Sys2Proof/Laws/FrameStepper.lean ====
section
/-! SUPPORT. Frames of Machine/Stepper.lean: which parts of a state each operation may change. -/

namespace Sys2Proof.Machine

@[simp] theorem State_updStep_hide (s : State) (m : Nat) (f : StepAxis → StepAxis)  (ps : List Part) (hsteps : .steps ∈ ps) :
    (State.updStep s m f).hide ps = s.hide ps := by
  simp [State.updStep, hsteps]

@[simp] theorem onStep_hide (s : State) (m : Nat) (f : StepEnv → StepAxis → StepAxis × List Event)  (ps : List Part) (hfaults : .faults ∈
    ps) (hsteps : .steps ∈ ps) : (onStep s m f).hide ps = s.hide ps := by
  simp [onStep, hfaults, hsteps]

@[simp] theorem stopAllSteppers_hide (s : State)  (ps : List Part) (hsteps : .steps ∈ ps) : (stopAllSteppers s).hide ps = s.hide ps := by
  simp [stopAllSteppers, hsteps]

@[simp] theorem haltAllSteppers_hide (s : State)  (ps : List Part) (hsteps : .steps ∈ ps) : (haltAllSteppers s).hide ps = s.hide ps := by
  simp [haltAllSteppers, hsteps]

@[simp] theorem stepCommand_hide (s : State) (m : Nat) (v : Nat)  (ps : List Part) (hfaults : .faults ∈ ps) (hsteps : .steps ∈ ps) :
    (stepCommand s m v).hide ps = s.hide ps := by
  simp [stepCommand, hfaults, hsteps]

@[simp] theorem stepEnqueue_hide (s : State) (m : Nat) (raw : Bytes)  (ps : List Part) (hsteps : .steps ∈ ps) : (stepEnqueue s m raw).hide
    ps = s.hide ps := by
  simp [stepEnqueue, hsteps]

end Sys2Proof.Machine
end

