-- ==== Sys2Proof/Laws/FramePower.lean ====
section
/-! SUPPORT. Frames of Machine/Power.lean: which parts of a state each operation may change. -/

namespace Sys2Proof.Machine

@[simp] theorem State_updPower_hide (s : State) (f : PowerState → PowerState)  (ps : List Part) (hpower : .power ∈ ps) : (State.updPower s
    f).hide ps = s.hide ps := by
  simp [State.updPower, hpower]

@[simp] theorem spoilSlot_hide (s : State) (slot : Nat)  (ps : List Part) (hflash : .flash ∈ ps) (hfreeCtr : .freeCtr ∈ ps) : (spoilSlot s
    slot).hide ps = s.hide ps := by
  simp [spoilSlot, hflash, hfreeCtr]

@[simp] theorem endFlashOp_hide (s : State) (status : Nat)  (ps : List Part) (hflash : .flash ∈ ps) (hfreeCtr : .freeCtr ∈ ps) :
    (endFlashOp s status).hide ps = s.hide ps := by
  unfold endFlashOp
  (repeat' split) <;> simp [hflash, hfreeCtr]

@[simp] theorem enterReset_hide (s : State) (cause : Nat)  (ps : List Part) (hticks : .ticks ∈ ps) (htime : .time ∈ ps) (hstart : .start ∈
    ps) (hfaults : .faults ∈ ps) (hvalues : .values ∈ ps) (hdict : .dict ∈ ps) (hpins : .pins ∈ ps) (hqueues : .queues ∈ ps) (hhost :
    .host ∈ ps) (hjob : .job ∈ ps) (hscan : .scan ∈ ps) (haxes : .axes ∈ ps) (hcams : .cams ∈ ps) (hmelt : .melt ∈ ps) (hreg : .reg ∈ ps)
    (hlink : .link ∈ ps) (hpair : .pair ∈ ps) (hwork : .work ∈ ps) (hsteps : .steps ∈ ps) (hlight : .light ∈ ps) (htemp : .temp ∈ ps)
    (hpower : .power ∈ ps) (hanalog : .analog ∈ ps) (hmem : .mem ∈ ps) (hflash : .flash ∈ ps) (hseen : .seen ∈ ps) (hfreeCtr : .freeCtr ∈
    ps) (hout : .out ∈ ps) (hpending : .pending ∈ ps) : (enterReset s cause).hide ps = s.hide ps := by
  simp [State.hide, hticks, htime, hstart, hfaults, hvalues, hdict, hpins, hqueues, hhost, hjob, hscan, haxes, hcams, hmelt, hreg, hlink, hpair, hwork, hsteps, hlight, htemp, hpower, hanalog, hmem, hflash, hseen, hfreeCtr, hout, hpending]

@[simp] theorem leaveReset_hide (s : State)  (ps : List Part) (hstart : .start ∈ ps) (hpower : .power ∈ ps) : (leaveReset s).hide ps =
    s.hide ps := by
  simp [leaveReset, State.hide, hstart, hpower]

@[simp] theorem State_updSwitch_hide (s : State) (k : Nat) (f : LoadSwitch → LoadSwitch)  (ps : List Part) (hpower : .power ∈ ps) :
    (State.updSwitch s k f).hide ps = s.hide ps := by
  simp [State.updSwitch, hpower]

@[simp] theorem switchTo_hide (s : State) (k : Nat) (st : SwitchState)  (ps : List Part) (hpower : .power ∈ ps) : (switchTo s k st).hide
    ps = s.hide ps := by
  simp [switchTo, hpower]

@[simp] theorem switchCommand_hide (s : State) (k : Nat) (v : Nat)  (ps : List Part) (hpower : .power ∈ ps) : (switchCommand s k v).hide
    ps = s.hide ps := by
  unfold switchCommand
  (repeat' split) <;> simp [hpower]

@[simp] theorem tripSwitch_hide (s : State) (k : Nat) (reason : Nat)  (ps : List Part) (hfaults : .faults ∈ ps) (hpower : .power ∈ ps) :
    (tripSwitch s k reason).hide ps = s.hide ps := by
  simp [tripSwitch, hfaults, hpower]

@[simp] theorem safeOffSwitches_hide (s : State)  (ps : List Part) (hpower : .power ∈ ps) : (safeOffSwitches s).hide ps = s.hide ps := by
  simp [safeOffSwitches, hpower]

@[simp] theorem noteGroup_hide (s : State)  (ps : List Part) (hpower : .power ∈ ps) : (noteGroup s).hide ps = s.hide ps := by
  simp [noteGroup, hpower]

@[simp] theorem startGroup_hide (s : State) (g : Nat)  (ps : List Part) (hpower : .power ∈ ps) : (startGroup s g).hide ps = s.hide ps :=
    by
  simp [startGroup, hpower]

@[simp] theorem queueOpenRecords_hide (s : State)  (ps : List Part) (hfaults : .faults ∈ ps) (hqueues : .queues ∈ ps) : (queueOpenRecords
    s).hide ps = s.hide ps := by
  simp [queueOpenRecords, hfaults, hqueues]

@[simp] theorem beginHoldUp_hide (s : State)  (ps : List Part) (hstart : .start ∈ ps) (hfaults : .faults ∈ ps) (hqueues : .queues ∈ ps)
    (hscan : .scan ∈ ps) (hsteps : .steps ∈ ps) (hpower : .power ∈ ps) (hanalog : .analog ∈ ps) (hflash : .flash ∈ ps) (hfreeCtr :
    .freeCtr ∈ ps) : (beginHoldUp s).hide ps = s.hide ps := by
  simp [beginHoldUp, hstart, hfaults, hqueues, hscan, hsteps, hpower, hanalog, hflash, hfreeCtr]

@[simp] theorem assertPf_hide (s : State)  (ps : List Part) (hstart : .start ∈ ps) (hfaults : .faults ∈ ps) (hqueues : .queues ∈ ps)
    (hscan : .scan ∈ ps) (hsteps : .steps ∈ ps) (hpower : .power ∈ ps) (hanalog : .analog ∈ ps) (hflash : .flash ∈ ps) (hfreeCtr :
    .freeCtr ∈ ps) : (assertPf s).hide ps = s.hide ps := by
  simp [assertPf, hstart, hfaults, hqueues, hscan, hsteps, hpower, hanalog, hflash, hfreeCtr]

@[simp] theorem loseVaux_hide (s : State)  (ps : List Part) (hticks : .ticks ∈ ps) (htime : .time ∈ ps) (hstart : .start ∈ ps) (hfaults :
    .faults ∈ ps) (hvalues : .values ∈ ps) (hdict : .dict ∈ ps) (hpins : .pins ∈ ps) (hqueues : .queues ∈ ps) (hhost : .host ∈ ps) (hjob :
    .job ∈ ps) (hscan : .scan ∈ ps) (haxes : .axes ∈ ps) (hcams : .cams ∈ ps) (hmelt : .melt ∈ ps) (hreg : .reg ∈ ps) (hlink : .link ∈ ps)
    (hpair : .pair ∈ ps) (hwork : .work ∈ ps) (hsteps : .steps ∈ ps) (hlight : .light ∈ ps) (htemp : .temp ∈ ps) (hpower : .power ∈ ps)
    (hanalog : .analog ∈ ps) (hmem : .mem ∈ ps) (hflash : .flash ∈ ps) (hseen : .seen ∈ ps) (hfreeCtr : .freeCtr ∈ ps) (hout : .out ∈ ps)
    (hpending : .pending ∈ ps) : (loseVaux s).hide ps = s.hide ps := by
  simp [State.hide, hticks, htime, hstart, hfaults, hvalues, hdict, hpins, hqueues, hhost, hjob, hscan, haxes, hcams, hmelt, hreg, hlink, hpair, hwork, hsteps, hlight, htemp, hpower, hanalog, hmem, hflash, hseen, hfreeCtr, hout, hpending]

@[simp] theorem negatePermit_hide (s : State)  (ps : List Part) (hfaults : .faults ∈ ps) (hpower : .power ∈ ps) (hanalog : .analog ∈ ps)
    (hout : .out ∈ ps) : (negatePermit s).hide ps = s.hide ps := by
  simp [negatePermit, hfaults, hpower, hanalog, hout]

@[simp] theorem samplePermit_hide (s : State) (high : Bool)  (ps : List Part) (hfaults : .faults ∈ ps) (hpower : .power ∈ ps) (hanalog :
    .analog ∈ ps) (hout : .out ∈ ps) : (samplePermit s high).hide ps = s.hide ps := by
  simp [samplePermit, hfaults, hpower, hanalog, hout]

@[simp] theorem restorePermit_hide (s : State)  (ps : List Part) (hfaults : .faults ∈ ps) (hpower : .power ∈ ps) : (restorePermit s).hide
    ps = s.hide ps := by
  simp [restorePermit, hfaults, hpower]

@[simp] theorem readPower_hide (s : State) (inp : TickInputs)  (ps : List Part) (hpower : .power ∈ ps) : (readPower s inp).hide ps =
    s.hide ps := by
  simp [readPower, hpower]

end Sys2Proof.Machine
end

