-- ==== Sys2Proof/Laws/FrameRle.lean ====
section
/-! SUPPORT. Frames of Machine/Rle.lean: which parts of a state each operation may change. -/

namespace Sys2Proof.Machine

@[simp] theorem State_updRle_hide (s : State) (f : RleEngine → RleEngine)  (ps : List Part) (hlight : .light ∈ ps) : (State.updRle s
    f).hide ps = s.hide ps := by
  simp [State.updRle, hlight]

@[simp] theorem noteMismatch_hide (s : State) (mismatches : Nat)  (ps : List Part) (hfaults : .faults ∈ ps) (hlight : .light ∈ ps) :
    (noteMismatch s mismatches).hide ps = s.hide ps := by
  simp [noteMismatch, hfaults, hlight]

@[simp] theorem compressMap_hide (s : State) (mismatches : Nat)  (ps : List Part) (hfaults : .faults ∈ ps) (hqueues : .queues ∈ ps) (hmelt
    : .melt ∈ ps) (hlight : .light ∈ ps) : (compressMap s mismatches).hide ps = s.hide ps := by
  unfold compressMap
  dsimp only
  (repeat' split) <;> simp [hfaults, hqueues, hmelt, hlight]

@[simp] theorem drainMap_hide (x0 : Nat) (x1 : State)  (ps : List Part) (hfaults : .faults ∈ ps) (hqueues : .queues ∈ ps) (hmelt : .melt ∈
    ps) (hlight : .light ∈ ps) : (drainMap x0 x1).hide ps = x1.hide ps := by
  induction x0 generalizing x1 with
  | zero => rfl
  | succ f ih =>
    unfold drainMap
    simp [ih, hfaults, hqueues, hmelt, hlight]

@[simp] theorem forceMaps_hide (s : State)  (ps : List Part) (hfaults : .faults ∈ ps) (hqueues : .queues ∈ ps) (hmelt : .melt ∈ ps)
    (hlight : .light ∈ ps) : (forceMaps s).hide ps = s.hide ps := by
  unfold forceMaps
  (repeat' split) <;> simp [hfaults, hqueues, hmelt, hlight]

@[simp] theorem jobError_hide (s : State) (code : Nat) (offset : Nat)  (ps : List Part) (hfaults : .faults ∈ ps) (hlight : .light ∈ ps) :
    (jobError s code offset).hide ps = s.hide ps := by
  simp [jobError, hfaults, hlight]

@[simp] theorem compressHost_hide (s : State) (mismatches : Nat)  (ps : List Part) (hfaults : .faults ∈ ps) (hlight : .light ∈ ps) :
    (compressHost s mismatches).hide ps = s.hide ps := by
  simp [compressHost, hfaults, hlight]

@[simp] theorem decompressHost_hide (s : State)  (ps : List Part) (hfaults : .faults ∈ ps) (hlight : .light ∈ ps) : (decompressHost
    s).hide ps = s.hide ps := by
  unfold decompressHost
  dsimp only
  (repeat' split) <;> simp [hfaults, hlight]

@[simp] theorem rleStep_hide (s : State) (mismatches : Nat) (uncorrectable : Bool)  (ps : List Part) (hfaults : .faults ∈ ps) (hlight :
    .light ∈ ps) : (rleStep s mismatches uncorrectable).hide ps = s.hide ps := by
  simp [rleStep, hfaults, hlight]

@[simp] theorem rleCommand_hide (s : State) (v : Nat)  (ps : List Part) (hlight : .light ∈ ps) : (rleCommand s v).hide ps = s.hide ps :=
    by
  simp [rleCommand, hlight]

end Sys2Proof.Machine
end

