-- ==== Sys2Proof/Laws/FrameFlash.lean ====
section
/-! SUPPORT. Frames of Machine/Flash.lean: which parts of a state each operation may change. -/

namespace Sys2Proof.Machine

@[simp] theorem State_updFlash_hide (s : State) (f : FlashState → FlashState)  (ps : List Part) (hflash : .flash ∈ ps) : (State.updFlash s
    f).hide ps = s.hide ps := by
  simp [State.updFlash, hflash]

@[simp] theorem flashWrite_hide (s : State) (address : Nat) (b : Bytes)  (ps : List Part) (hout : .out ∈ ps) : (flashWrite s address
    b).hide ps = s.hide ps := by
  simp [flashWrite, hout]

@[simp] theorem flashErase_hide (s : State) (address : Nat) (length : Nat)  (ps : List Part) (hout : .out ∈ ps) : (flashErase s address
    length).hide ps = s.hide ps := by
  simp [flashErase, hout]

@[simp] theorem writeSection_hide (s : State) (k : Nat) (tick : Nat)  (ps : List Part) (hout : .out ∈ ps) : (writeSection s k tick).hide
    ps = s.hide ps := by
  simp [writeSection, hout]

@[simp] theorem eraseOlder_hide (s : State) (k : Nat)  (ps : List Part) (hflash : .flash ∈ ps) (hout : .out ∈ ps) : (eraseOlder s k).hide
    ps = s.hide ps := by
  simp [eraseOlder, hflash, hout]

@[simp] theorem startUpload_hide (s : State) (image : Bytes)  (ps : List Part) (hflash : .flash ∈ ps) (hout : .out ∈ ps) : (startUpload s
    image).hide ps = s.hide ps := by
  simp [startUpload, hflash, hout]

@[simp] theorem activateSlot_hide (s : State) (slot : Nat)  (ps : List Part) (hflash : .flash ∈ ps) (hout : .out ∈ ps) : (activateSlot s
    slot).hide ps = s.hide ps := by
  simp [activateSlot, hflash, hout]

@[simp] theorem startPersistence_hide (s : State) (v : Nat)  (ps : List Part) (hflash : .flash ∈ ps) (hout : .out ∈ ps) :
    (startPersistence s v).hide ps = s.hide ps := by
  simp [startPersistence, hflash, hout]

@[simp] theorem finishPersistence_hide (s : State)  (ps : List Part) (hfaults : .faults ∈ ps) (hflash : .flash ∈ ps) (hout : .out ∈ ps) :
    (finishPersistence s).hide ps = s.hide ps := by
  unfold finishPersistence
  (repeat' split) <;> simp [hfaults, hflash, hout]

@[simp] theorem appendBoot_hide (s : State) (index : Nat) (sub : Nat) (v : Val)  (ps : List Part) (hdict : .dict ∈ ps) (hflash : .flash ∈
    ps) (hout : .out ∈ ps) : (appendBoot s index sub v).hide ps = s.hide ps := by
  simp [appendBoot, hdict, hflash, hout]

@[simp] theorem clearRing_hide (s : State)  (ps : List Part) (hflash : .flash ∈ ps) (hout : .out ∈ ps) : (clearRing s).hide ps = s.hide ps
    := by
  simp [clearRing, hflash, hout]

@[simp] theorem ringWrite_hide (s : State)  (ps : List Part) (hfaults : .faults ∈ ps) (hqueues : .queues ∈ ps) (hflash : .flash ∈ ps)
    (hout : .out ∈ ps) : (ringWrite s).hide ps = s.hide ps := by
  unfold ringWrite
  (repeat' split) <;> simp [hfaults, hqueues, hflash, hout]

@[simp] theorem locateRing_hide (s : State)  (ps : List Part) (hfaults : .faults ∈ ps) (hflash : .flash ∈ ps) : (locateRing s).hide ps =
    s.hide ps := by
  simp [locateRing, hfaults, hflash]

@[simp] theorem loseCopy_hide (s : State) (k : Fin 3) (place : Nat)  (ps : List Part) (hfaults : .faults ∈ ps) (hflash : .flash ∈ ps) :
    (loseCopy s k place).hide ps = s.hide ps := by
  unfold loseCopy
  (repeat' split) <;> simp [hfaults, hflash]

@[simp] theorem losePart_hide (s : State) (p : FlashPart)  (ps : List Part) (hfaults : .faults ∈ ps) (hflash : .flash ∈ ps) : (losePart s
    p).hide ps = s.hide ps := by
  unfold losePart
  (repeat' split) <;> simp [hfaults, hflash]

@[simp] theorem discoverFlash_hide (s : State) (r : FlashReport)  (ps : List Part) (hfaults : .faults ∈ ps) (hmem : .mem ∈ ps) (hflash :
    .flash ∈ ps) (hout : .out ∈ ps) : (discoverFlash s r).hide ps = s.hide ps := by
  simp [discoverFlash, hfaults, hmem, hflash, hout]

@[simp] theorem chooseImage_hide (s : State)  (ps : List Part) (hfaults : .faults ∈ ps) (hflash : .flash ∈ ps) : (chooseImage s).hide ps =
    s.hide ps := by
  simp [chooseImage, hfaults, hflash]

end Sys2Proof.Machine
end

