-- ==== Sys2Proof/Laws/FrameMemory.lean ====
section
/-! SUPPORT. Frames of Machine/Memory.lean: which parts of a state each operation may change. -/

namespace Sys2Proof.Machine

@[simp] theorem State_updMem_hide (s : State) (f : MemState → MemState)  (ps : List Part) (hmem : .mem ∈ ps) : (State.updMem s f).hide ps
    = s.hide ps := by
  simp [State.updMem, hmem]

@[simp] theorem noteCorrected_hide (s : State) (location : Nat) (address : Nat) (position : Nat) (foundBy : Nat)  (ps : List Part)
    (hfaults : .faults ∈ ps) (hwork : .work ∈ ps) (hmem : .mem ∈ ps) : (noteCorrected s location address position foundBy).hide ps =
    s.hide ps := by
  simp [noteCorrected, hfaults, hwork, hmem]

@[simp] theorem closeTransfer_hide (s : State) (h : Nat) (code : Nat)  (ps : List Part) (hdict : .dict ∈ ps) (hhost : .host ∈ ps) :
    (closeTransfer s h code).hide ps = s.hide ps := by
  unfold closeTransfer
  (repeat' split) <;> simp [hdict, hhost]

@[simp] theorem dropPackage_hide (s : State) (layer : Nat)  (ps : List Part) (hjob : .job ∈ ps) : (dropPackage s layer).hide ps = s.hide
    ps := by
  simp [dropPackage, hjob]

@[simp] theorem dropDatagram_hide (s : State) (p : Nat)  (ps : List Part) (hhost : .host ∈ ps) : (dropDatagram s p).hide ps = s.hide ps :=
    by
  unfold dropDatagram
  dsimp only
  (repeat' split) <;> simp [hhost]

@[simp] theorem dropEntry_hide (s : State) (q : Nat)  (ps : List Part) (hfaults : .faults ∈ ps) (hqueues : .queues ∈ ps) (hhost : .host ∈
    ps) : (dropEntry s q).hide ps = s.hide ps := by
  simp [dropEntry, hfaults, hqueues, hhost]

@[simp] theorem regionResult_hide (s : State) (region : Nat) (item : Nat)  (ps : List Part) (hfaults : .faults ∈ ps) (hdict : .dict ∈ ps)
    (hqueues : .queues ∈ ps) (hhost : .host ∈ ps) (hjob : .job ∈ ps) (hmelt : .melt ∈ ps) (hwork : .work ∈ ps) (hmem : .mem ∈ ps) :
    (regionResult s region item).hide ps = s.hide ps := by
  unfold regionResult
  (repeat' split) <;> simp [hfaults, hdict, hqueues, hhost, hjob, hmelt, hwork, hmem]

@[simp] theorem noteUncorrectable_hide (s : State) (location : Nat) (address : Nat) (region : Nat) (foundBy : Nat) (item : Nat)  (ps :
    List Part) (hfaults : .faults ∈ ps) (hdict : .dict ∈ ps) (hqueues : .queues ∈ ps) (hhost : .host ∈ ps) (hjob : .job ∈ ps) (hmelt :
    .melt ∈ ps) (hwork : .work ∈ ps) (hmem : .mem ∈ ps) : (noteUncorrectable s location address region foundBy item).hide ps = s.hide ps
    := by
  simp [noteUncorrectable, hfaults, hdict, hqueues, hhost, hjob, hmelt, hwork, hmem]

@[simp] theorem scrubWord_hide (s : State) (target : Nat) (address : Nat) (region : Nat) (word : List Nat)  (ps : List Part) (hfaults :
    .faults ∈ ps) (hdict : .dict ∈ ps) (hqueues : .queues ∈ ps) (hhost : .host ∈ ps) (hjob : .job ∈ ps) (hmelt : .melt ∈ ps) (hwork :
    .work ∈ ps) (hmem : .mem ∈ ps) (hout : .out ∈ ps) : (scrubWord s target address region word).hide ps = s.hide ps := by
  unfold scrubWord
  dsimp only
  (repeat' split) <;> simp [hfaults, hdict, hqueues, hhost, hjob, hmelt, hwork, hmem, hout]

@[simp] theorem noteCorrections_hide (s : State) (l : List CorrectedWord)  (ps : List Part) (hfaults : .faults ∈ ps) (hwork : .work ∈ ps)
    (hmem : .mem ∈ ps) : (noteCorrections s l).hide ps = s.hide ps := by
  simp [noteCorrections, hfaults, hwork, hmem]

end Sys2Proof.Machine
end

