-- ==== Sys2Proof/Laws/FrameDict.lean ====
section
/-! SUPPORT. Frames of Machine/Dict.lean: which parts of a state each operation may change. -/

namespace Sys2Proof.Machine

@[simp] theorem commitOne_hide (s : State) (x : GroupWrite)  (ps : List Part) (hdict : .dict ∈ ps) (hmem : .mem ∈ ps) (hflash : .flash ∈
    ps) (hout : .out ∈ ps) : (commitOne s x).hide ps = s.hide ps := by
  simp [commitOne, hdict, hmem, hflash, hout]

@[simp] theorem forwardGroup_hide (s : State) (l : List GroupWrite) (response : Option GdpResponse)  (ps : List Part) (hpair : .pair ∈ ps)
    (hout : .out ∈ ps) : (forwardGroup s l response).hide ps = s.hide ps := by
  simp [forwardGroup, hpair, hout]

@[simp] theorem commitGroup_hide (s : State) (l : List GroupWrite) (response : Option GdpResponse)  (ps : List Part) (hdict : .dict ∈ ps)
    (hpair : .pair ∈ ps) (hmem : .mem ∈ ps) (hflash : .flash ∈ ps) (hout : .out ∈ ps) : (commitGroup s l response).hide ps = s.hide ps :=
    by
  simp [commitGroup, hdict, hpair, hmem, hflash, hout]

@[simp] theorem countRefused_hide (s : State) (n : Nat)  (ps : List Part) (hdict : .dict ∈ ps) : (countRefused s n).hide ps = s.hide ps :=
    by
  simp [countRefused, hdict]

@[simp] theorem writeGroup_hide (s : State) (block : Bool) (l : List GroupWrite)  (ps : List Part) (hdict : .dict ∈ ps) (hpair : .pair ∈
    ps) (hmem : .mem ∈ ps) (hflash : .flash ∈ ps) (hout : .out ∈ ps) : (writeGroup s block l).hide ps = s.hide ps := by
  unfold writeGroup
  (repeat' split) <;> simp [hdict, hpair, hmem, hflash, hout]

@[simp] theorem hostWrite_hide (s : State) (index : Nat) (sub : Nat) (data : Bytes) (clk : Nat)  (ps : List Part) (htime : .time ∈ ps)
    (hdict : .dict ∈ ps) (hpair : .pair ∈ ps) (hmem : .mem ∈ ps) (hflash : .flash ∈ ps) (hout : .out ∈ ps) : (hostWrite s index sub data
    clk).hide ps = s.hide ps := by
  simp [hostWrite, htime, hdict, hpair, hmem, hflash, hout]

@[simp] theorem setAddress_hide (s : State) (p : Fin 2)  (ps : List Part) (hhost : .host ∈ ps) (hout : .out ∈ ps) : (setAddress s p).hide
    ps = s.hide ps := by
  simp [setAddress, hhost, hout]

@[simp] theorem portSwitched_hide (s : State) (p : Nat)  (ps : List Part) (htime : .time ∈ ps) (hfaults : .faults ∈ ps) (hhost : .host ∈
    ps) (hout : .out ∈ ps) : (portSwitched s p).hide ps = s.hide ps := by
  simp [portSwitched, htime, hfaults, hhost, hout]

@[simp] theorem noteUnreachable_hide (s : State) (p : Nat) (was : Bool)  (ps : List Part) (hfaults : .faults ∈ ps) : (noteUnreachable s p
    was).hide ps = s.hide ps := by
  simp [noteUnreachable, hfaults]

@[simp] theorem clearMark_hide (s : State) (index : Nat) (sub : Nat)  (ps : List Part) (htime : .time ∈ ps) (hqueues : .queues ∈ ps)
    (hhost : .host ∈ ps) (haxes : .axes ∈ ps) (hcams : .cams ∈ ps) (hsteps : .steps ∈ ps) (hpower : .power ∈ ps) : (clearMark s index
    sub).hide ps = s.hide ps := by
  simp [clearMark, htime, hqueues, hhost, haxes, hcams, hsteps, hpower]

@[simp] theorem valueHook_hide (s : State) (index : Nat) (sub : Nat) (old : Val)  (ps : List Part) (htime : .time ∈ ps) (hfaults : .faults
    ∈ ps) (hhost : .host ∈ ps) (haxes : .axes ∈ ps) (hcams : .cams ∈ ps) (hmelt : .melt ∈ ps) (hlink : .link ∈ ps) (htemp : .temp ∈ ps)
    (hpower : .power ∈ ps) (hout : .out ∈ ps) : (valueHook s index sub old).hide ps = s.hide ps := by
  simp [valueHook, htime, hfaults, hhost, haxes, hcams, hmelt, hlink, htemp, hpower, hout]

@[simp] theorem forceValue_hide (s : State) (w : PendingWrite)  (ps : List Part) (htime : .time ∈ ps) (hfaults : .faults ∈ ps) (hvalues :
    .values ∈ ps) (hdict : .dict ∈ ps) (hqueues : .queues ∈ ps) (hhost : .host ∈ ps) (haxes : .axes ∈ ps) (hcams : .cams ∈ ps) (hmelt :
    .melt ∈ ps) (hlink : .link ∈ ps) (hsteps : .steps ∈ ps) (htemp : .temp ∈ ps) (hpower : .power ∈ ps) (hout : .out ∈ ps) : (forceValue s
    w).hide ps = s.hide ps := by
  simp [forceValue, htime, hfaults, hvalues, hdict, hqueues, hhost, haxes, hcams, hmelt, hlink, hsteps, htemp, hpower, hout]

@[simp] theorem requestReset_hide (s : State)  (ps : List Part) (hticks : .ticks ∈ ps) (htime : .time ∈ ps) (hstart : .start ∈ ps)
    (hfaults : .faults ∈ ps) (hvalues : .values ∈ ps) (hdict : .dict ∈ ps) (hpins : .pins ∈ ps) (hqueues : .queues ∈ ps) (hhost : .host ∈
    ps) (hjob : .job ∈ ps) (hscan : .scan ∈ ps) (haxes : .axes ∈ ps) (hcams : .cams ∈ ps) (hmelt : .melt ∈ ps) (hreg : .reg ∈ ps) (hlink :
    .link ∈ ps) (hpair : .pair ∈ ps) (hwork : .work ∈ ps) (hsteps : .steps ∈ ps) (hlight : .light ∈ ps) (htemp : .temp ∈ ps) (hpower :
    .power ∈ ps) (hanalog : .analog ∈ ps) (hmem : .mem ∈ ps) (hflash : .flash ∈ ps) (hseen : .seen ∈ ps) (hfreeCtr : .freeCtr ∈ ps) (hout
    : .out ∈ ps) (hpending : .pending ∈ ps) : (requestReset s).hide ps = s.hide ps := by
  simp [requestReset, hticks, htime, hstart, hfaults, hvalues, hdict, hpins, hqueues, hhost, hjob, hscan, haxes, hcams, hmelt, hreg, hlink, hpair, hwork, hsteps, hlight, htemp, hpower, hanalog, hmem, hflash, hseen, hfreeCtr, hout, hpending]

@[simp] theorem requestHandOver_hide (s : State) (cause : Nat)  (ps : List Part) (hwork : .work ∈ ps) : (requestHandOver s cause).hide ps
    = s.hide ps := by
  simp [requestHandOver, hwork]

@[simp] theorem runCommand_hide (s : State) (w : PendingWrite)  (ps : List Part) (hticks : .ticks ∈ ps) (htime : .time ∈ ps) (hstart :
    .start ∈ ps) (hfaults : .faults ∈ ps) (hvalues : .values ∈ ps) (hdict : .dict ∈ ps) (hpins : .pins ∈ ps) (hqueues : .queues ∈ ps)
    (hhost : .host ∈ ps) (hjob : .job ∈ ps) (hscan : .scan ∈ ps) (haxes : .axes ∈ ps) (hcams : .cams ∈ ps) (hmelt : .melt ∈ ps) (hreg :
    .reg ∈ ps) (hlink : .link ∈ ps) (hpair : .pair ∈ ps) (hwork : .work ∈ ps) (hsteps : .steps ∈ ps) (hlight : .light ∈ ps) (htemp : .temp
    ∈ ps) (hpower : .power ∈ ps) (hanalog : .analog ∈ ps) (hmem : .mem ∈ ps) (hflash : .flash ∈ ps) (hseen : .seen ∈ ps) (hfreeCtr :
    .freeCtr ∈ ps) (hout : .out ∈ ps) (hpending : .pending ∈ ps) : (runCommand s w).hide ps = s.hide ps := by
  simp [State.hide, hticks, htime, hstart, hfaults, hvalues, hdict, hpins, hqueues, hhost, hjob, hscan, haxes, hcams, hmelt, hreg, hlink, hpair, hwork, hsteps, hlight, htemp, hpower, hanalog, hmem, hflash, hseen, hfreeCtr, hout, hpending]

@[simp] theorem takeEffect_hide (s : State) (w : PendingWrite)  (ps : List Part) (hticks : .ticks ∈ ps) (htime : .time ∈ ps) (hstart :
    .start ∈ ps) (hfaults : .faults ∈ ps) (hvalues : .values ∈ ps) (hdict : .dict ∈ ps) (hpins : .pins ∈ ps) (hqueues : .queues ∈ ps)
    (hhost : .host ∈ ps) (hjob : .job ∈ ps) (hscan : .scan ∈ ps) (haxes : .axes ∈ ps) (hcams : .cams ∈ ps) (hmelt : .melt ∈ ps) (hreg :
    .reg ∈ ps) (hlink : .link ∈ ps) (hpair : .pair ∈ ps) (hwork : .work ∈ ps) (hsteps : .steps ∈ ps) (hlight : .light ∈ ps) (htemp : .temp
    ∈ ps) (hpower : .power ∈ ps) (hanalog : .analog ∈ ps) (hmem : .mem ∈ ps) (hflash : .flash ∈ ps) (hseen : .seen ∈ ps) (hfreeCtr :
    .freeCtr ∈ ps) (hout : .out ∈ ps) (hpending : .pending ∈ ps) : (takeEffect s w).hide ps = s.hide ps := by
  simp [takeEffect, hticks, htime, hstart, hfaults, hvalues, hdict, hpins, hqueues, hhost, hjob, hscan, haxes, hcams, hmelt, hreg, hlink, hpair, hwork, hsteps, hlight, htemp, hpower, hanalog, hmem, hflash, hseen, hfreeCtr, hout, hpending]

@[simp] theorem idleFrames_hide (s : State)  (ps : List Part) (hvalues : .values ∈ ps) (hdict : .dict ∈ ps) : (idleFrames s).hide ps =
    s.hide ps := by
  simp [idleFrames, hvalues, hdict]

@[simp] theorem dictBoundary_hide (layer : Bool) (s : State)  (ps : List Part) (hticks : .ticks ∈ ps) (htime : .time ∈ ps) (hstart :
    .start ∈ ps) (hfaults : .faults ∈ ps) (hvalues : .values ∈ ps) (hdict : .dict ∈ ps) (hpins : .pins ∈ ps) (hqueues : .queues ∈ ps)
    (hhost : .host ∈ ps) (hjob : .job ∈ ps) (hscan : .scan ∈ ps) (haxes : .axes ∈ ps) (hcams : .cams ∈ ps) (hmelt : .melt ∈ ps) (hreg :
    .reg ∈ ps) (hlink : .link ∈ ps) (hpair : .pair ∈ ps) (hwork : .work ∈ ps) (hsteps : .steps ∈ ps) (hlight : .light ∈ ps) (htemp : .temp
    ∈ ps) (hpower : .power ∈ ps) (hanalog : .analog ∈ ps) (hmem : .mem ∈ ps) (hflash : .flash ∈ ps) (hseen : .seen ∈ ps) (hfreeCtr :
    .freeCtr ∈ ps) (hout : .out ∈ ps) (hpending : .pending ∈ ps) : (dictBoundary layer s).hide ps = s.hide ps := by
  simp [dictBoundary, hticks, htime, hstart, hfaults, hvalues, hdict, hpins, hqueues, hhost, hjob, hscan, haxes, hcams, hmelt, hreg, hlink, hpair, hwork, hsteps, hlight, htemp, hpower, hanalog, hmem, hflash, hseen, hfreeCtr, hout, hpending]

end Sys2Proof.Machine
end

