-- ==== Sys2Proof/Laws/FrameQueues.lean ====
section
/-! SUPPORT. Frames of Machine/Queues.lean: which parts of a state each operation may change. -/

namespace Sys2Proof.Machine

@[simp] theorem takeFills_hide (s : State)  (ps : List Part) (hqueues : .queues ∈ ps) : (takeFills s).hide ps = s.hide ps := by
  simp [takeFills, hqueues]

end Sys2Proof.Machine
end

