-- ==== Sys2Proof/Laws/FrameGdp.lean ====
section
/-! SUPPORT. Frames of Machine/Gdp.lean: which parts of a state each operation may change. -/

namespace Sys2Proof.Machine

@[simp] theorem noteMalformed_hide (s : State)  (ps : List Part) (hhost : .host ∈ ps) : (noteMalformed s).hide ps = s.hide ps := by
  simp [noteMalformed, hhost]

@[simp] theorem noteDiscard_hide (s : State) (p : Nat)  (ps : List Part) (hhost : .host ∈ ps) : (noteDiscard s p).hide ps = s.hide ps :=
    by
  simp [noteDiscard, hhost]

@[simp] theorem noteHigh_hide (s : State) (p : Nat)  (ps : List Part) (hhost : .host ∈ ps) : (noteHigh s p).hide ps = s.hide ps := by
  simp [noteHigh, hhost]

@[simp] theorem placeOther_hide (s : State) (p : Nat) (len : Nat)  (ps : List Part) (hhost : .host ∈ ps) : (placeOther s p len).1.hide ps
    = s.hide ps := by
  unfold placeOther
  dsimp only
  (repeat' split) <;> simp [hhost]

@[simp] theorem sendGdp_hide (s : State) (port : Fin 2) (r : GdpResponse)  (ps : List Part) (hqueues : .queues ∈ ps) (hhost : .host ∈ ps)
    (hout : .out ∈ ps) : (sendGdp s port r).hide ps = s.hide ps := by
  simp [sendGdp, hqueues, hhost, hout]

@[simp] theorem sendResponse_hide (s : State) (r : GdpResponse)  (ps : List Part) (hqueues : .queues ∈ ps) (hhost : .host ∈ ps) (hout :
    .out ∈ ps) : (sendResponse s r).hide ps = s.hide ps := by
  simp [sendResponse, hqueues, hhost, hout]

@[simp] theorem noteServed_hide (s : State)  (ps : List Part) (hhost : .host ∈ ps) : (noteServed s).hide ps = s.hide ps := by
  simp [noteServed, hhost]

@[simp] theorem answer_hide (s : State) (h : GdpHead) (type : Nat) (status : Nat) (position : Nat) (body : Bytes)  (ps : List Part)
    (hqueues : .queues ∈ ps) (hhost : .host ∈ ps) (hout : .out ∈ ps) : (answer s h type status position body).hide ps = s.hide ps := by
  simp [answer, hqueues, hhost, hout]

@[simp] theorem refuse_hide (s : State) (h : GdpHead) (type : Nat) (status : Nat) (position : Nat) (index : Nat) (sub : Nat)  (ps : List
    Part) (hqueues : .queues ∈ ps) (hhost : .host ∈ ps) (hout : .out ∈ ps) : (refuse s h type status position index sub).hide ps = s.hide
    ps := by
  simp [refuse, hqueues, hhost, hout]

@[simp] theorem replay_hide (s : State) (port : Fin 2) (l : List GdpResponse)  (ps : List Part) (hqueues : .queues ∈ ps) (hhost : .host ∈
    ps) (hout : .out ∈ ps) : (replay s port l).hide ps = s.hide ps := by
  simp [replay, hqueues, hhost, hout]

@[simp] theorem serveRead_hide (h : GdpHead) (items : List ReadItem) (s : State)  (ps : List Part) (hqueues : .queues ∈ ps) (hhost : .host
    ∈ ps) (hout : .out ∈ ps) : (serveRead h items s).hide ps = s.hide ps := by
  simp [serveRead, hqueues, hhost, hout]

@[simp] theorem serveWrite_hide (h : GdpHead) (items : List WriteItem) (s : State)  (ps : List Part) (hdict : .dict ∈ ps) (hqueues :
    .queues ∈ ps) (hhost : .host ∈ ps) (hpair : .pair ∈ ps) (hmem : .mem ∈ ps) (hflash : .flash ∈ ps) (hout : .out ∈ ps) : (serveWrite h
    items s).hide ps = s.hide ps := by
  unfold serveWrite
  dsimp only
  (repeat' split) <;> simp [hdict, hqueues, hhost, hpair, hmem, hflash, hout]

@[simp] theorem setTransfer_hide (s : State) (k : Nat) (t : Option BlockTransfer)  (ps : List Part) (hhost : .host ∈ ps) : (setTransfer s
    k t).hide ps = s.hide ps := by
  simp [setTransfer, hhost]

@[simp] theorem serveReadOpen_hide (h : GdpHead) (index : Nat) (sub : Nat) (s : State)  (ps : List Part) (hqueues : .queues ∈ ps) (hhost :
    .host ∈ ps) (hout : .out ∈ ps) : (serveReadOpen h index sub s).hide ps = s.hide ps := by
  unfold serveReadOpen
  (repeat' split) <;> simp [hqueues, hhost, hout]

@[simp] theorem refuseHandle_hide (s : State) (h : GdpHead) (type : Nat) (k : Nat)  (ps : List Part) (hqueues : .queues ∈ ps) (hhost :
    .host ∈ ps) (hout : .out ∈ ps) : (refuseHandle s h type k).hide ps = s.hide ps := by
  simp [refuseHandle, hqueues, hhost, hout]

@[simp] theorem serveSegments_hide (h : GdpHead) (handle : Nat) (count : Nat) (first : Nat) (s : State)  (ps : List Part) (hqueues :
    .queues ∈ ps) (hhost : .host ∈ ps) (hout : .out ∈ ps) : (serveSegments h handle count first s).hide ps = s.hide ps := by
  unfold serveSegments
  (repeat' split) <;> simp [hqueues, hhost, hout]

@[simp] theorem serveWriteOpen_hide (h : GdpHead) (index : Nat) (sub : Nat) (size : Nat) (crc : Nat) (s : State)  (ps : List Part) (hdict
    : .dict ∈ ps) (hqueues : .queues ∈ ps) (hhost : .host ∈ ps) (hout : .out ∈ ps) : (serveWriteOpen h index sub size crc s).hide ps =
    s.hide ps := by
  unfold serveWriteOpen
  (repeat' split) <;> simp [hdict, hqueues, hhost, hout]

@[simp] theorem finishWrite_hide (h : GdpHead) (k : Nat) (t : BlockTransfer) (s : State)  (ps : List Part) (hdict : .dict ∈ ps) (hqueues :
    .queues ∈ ps) (hhost : .host ∈ ps) (hpair : .pair ∈ ps) (hmem : .mem ∈ ps) (hflash : .flash ∈ ps) (hout : .out ∈ ps) : (finishWrite h
    k t s).hide ps = s.hide ps := by
  unfold finishWrite
  dsimp only
  (repeat' split) <;> simp [hdict, hqueues, hhost, hpair, hmem, hflash, hout]

@[simp] theorem serveSegment_hide (h : GdpHead) (handle : Nat) (segment : Nat) (data : Bytes) (s : State)  (ps : List Part) (hdict : .dict
    ∈ ps) (hqueues : .queues ∈ ps) (hhost : .host ∈ ps) (hpair : .pair ∈ ps) (hmem : .mem ∈ ps) (hflash : .flash ∈ ps) (hout : .out ∈ ps)
    : (serveSegment h handle segment data s).hide ps = s.hide ps := by
  unfold serveSegment
  (repeat' split) <;> simp [hdict, hqueues, hhost, hpair, hmem, hflash, hout]

@[simp] theorem serveClose_hide (h : GdpHead) (handle : Nat) (s : State)  (ps : List Part) (hqueues : .queues ∈ ps) (hhost : .host ∈ ps)
    (hout : .out ∈ ps) : (serveClose h handle s).hide ps = s.hide ps := by
  simp [serveClose, hqueues, hhost, hout]

@[simp] theorem serveSubscribe_hide (h : GdpHead) (index : Nat) (sub : Nat) (dest : Nat) (period : Nat) (s : State)  (ps : List Part)
    (hqueues : .queues ∈ ps) (hhost : .host ∈ ps) (hout : .out ∈ ps) : (serveSubscribe h index sub dest period s).hide ps = s.hide ps :=
    by
  simp [serveSubscribe, hqueues, hhost, hout]

@[simp] theorem serveUnsubscribe_hide (h : GdpHead) (id : Nat) (s : State)  (ps : List Part) (hqueues : .queues ∈ ps) (hhost : .host ∈ ps)
    (hout : .out ∈ ps) : (serveUnsubscribe h id s).hide ps = s.hide ps := by
  simp [serveUnsubscribe, hqueues, hhost, hout]

@[simp] theorem notify_hide (s : State) (d : Nat) (l : List (Nat × Bytes))  (ps : List Part) (hqueues : .queues ∈ ps) (hhost : .host ∈ ps)
    (hout : .out ∈ ps) : (notify s d l).hide ps = s.hide ps := by
  simp [notify, hqueues, hhost, hout]

@[simp] theorem noteSample_hide (s : State) (k : Nat) (b : Bytes)  (ps : List Part) (hhost : .host ∈ ps) : (noteSample s k b).hide ps =
    s.hide ps := by
  simp [noteSample, hhost]

@[simp] theorem sampleSubs_hide (s : State) (ks : List Nat)  (ps : List Part) (hqueues : .queues ∈ ps) (hhost : .host ∈ ps) (hout : .out ∈
    ps) : (sampleSubs s ks).hide ps = s.hide ps := by
  simp [sampleSubs, hqueues, hhost, hout]

@[simp] theorem timeoutTransfer_hide (s : State) (k : Nat)  (ps : List Part) (hdict : .dict ∈ ps) (hhost : .host ∈ ps) : (timeoutTransfer
    s k).hide ps = s.hide ps := by
  unfold timeoutTransfer
  (repeat' split) <;> simp [hdict, hhost]

@[simp] theorem serveBody_hide (h : GdpHead) (b : GdpBody) (s : State)  (ps : List Part) (hdict : .dict ∈ ps) (hqueues : .queues ∈ ps)
    (hhost : .host ∈ ps) (hpair : .pair ∈ ps) (hmem : .mem ∈ ps) (hflash : .flash ∈ ps) (hout : .out ∈ ps) : (serveBody h b s).hide ps =
    s.hide ps := by
  unfold serveBody
  (repeat' split) <;> simp [hdict, hqueues, hhost, hpair, hmem, hflash, hout]

@[simp] theorem serveRequest_hide (s : State) (r : GdpRequest)  (ps : List Part) (hdict : .dict ∈ ps) (hqueues : .queues ∈ ps) (hhost :
    .host ∈ ps) (hpair : .pair ∈ ps) (hmem : .mem ∈ ps) (hflash : .flash ∈ ps) (hout : .out ∈ ps) : (serveRequest s r).hide ps = s.hide ps
    := by
  unfold serveRequest
  dsimp only
  (repeat' split) <;> simp [hdict, hqueues, hhost, hpair, hmem, hflash, hout]

@[simp] theorem serveSome_hide (x0 : Nat) (x1 : State)  (ps : List Part) (hdict : .dict ∈ ps) (hqueues : .queues ∈ ps) (hhost : .host ∈
    ps) (hpair : .pair ∈ ps) (hmem : .mem ∈ ps) (hflash : .flash ∈ ps) (hout : .out ∈ ps) : (serveSome x0 x1).hide ps = x1.hide ps := by
  induction x0 generalizing x1 with
  | zero => rfl
  | succ f ih =>
    unfold serveSome
    (repeat' split) <;> simp [ih, hdict, hqueues, hhost, hpair, hmem, hflash, hout]

@[simp] theorem serveRequests_hide (s : State)  (ps : List Part) (hdict : .dict ∈ ps) (hqueues : .queues ∈ ps) (hhost : .host ∈ ps) (hpair
    : .pair ∈ ps) (hmem : .mem ∈ ps) (hflash : .flash ∈ ps) (hout : .out ∈ ps) : (serveRequests s).hide ps = s.hide ps := by
  simp [serveRequests, hdict, hqueues, hhost, hpair, hmem, hflash, hout]

@[simp] theorem gdpRequest_hide (s : State) (r : GdpRequest)  (ps : List Part) (htime : .time ∈ ps) (hdict : .dict ∈ ps) (hqueues :
    .queues ∈ ps) (hhost : .host ∈ ps) (hpair : .pair ∈ ps) (hmem : .mem ∈ ps) (hflash : .flash ∈ ps) (hout : .out ∈ ps) : (gdpRequest s
    r).hide ps = s.hide ps := by
  simp [gdpRequest, htime, hdict, hqueues, hhost, hpair, hmem, hflash, hout]

@[simp] theorem gdpFrame_hide (h : GdpHead) (type : Nat) (min : Nat) (reservedZero : Bool) (body : GdpBody) (s : State)  (ps : List Part)
    (htime : .time ∈ ps) (hdict : .dict ∈ ps) (hqueues : .queues ∈ ps) (hhost : .host ∈ ps) (hpair : .pair ∈ ps) (hmem : .mem ∈ ps)
    (hflash : .flash ∈ ps) (hout : .out ∈ ps) : (gdpFrame h type min reservedZero body s).hide ps = s.hide ps := by
  simp [gdpFrame, htime, hdict, hqueues, hhost, hpair, hmem, hflash, hout]

end Sys2Proof.Machine
end

