-- ==== Sys2Proof/Laws/FrameJob.lean ====
section
/-! SUPPORT. Frames of Machine/Job.lean: which parts of a state each operation may change. -/

namespace Sys2Proof.Machine

@[simp] theorem State_updJob_hide (s : State) (f : JobState → JobState)  (ps : List Part) (hjob : .job ∈ ps) : (State.updJob s f).hide ps
    = s.hide ps := by
  simp [State.updJob, hjob]

@[simp] theorem State_updSession_hide (s : State) (f : Session → Session)  (ps : List Part) (hhost : .host ∈ ps) : (State.updSession s
    f).hide ps = s.hide ps := by
  simp [State.updSession, hhost]

@[simp] theorem packageStatus_hide (s : State) (status : Nat) (layer : Nat) (offset : Nat)  (ps : List Part) (hqueues : .queues ∈ ps)
    (hhost : .host ∈ ps) (hout : .out ∈ ps) : (packageStatus s status layer offset).hide ps = s.hide ps := by
  simp [packageStatus, hqueues, hhost, hout]

@[simp] theorem countRejected_hide (s : State)  (ps : List Part) (hhost : .host ∈ ps) : (countRejected s).hide ps = s.hide ps := by
  simp [countRejected, hhost]

@[simp] theorem rejectPackage_hide (s : State) (layer : Nat) (offset : Nat) (e : PkgError) (tell : Bool)  (ps : List Part) (hfaults :
    .faults ∈ ps) (hqueues : .queues ∈ ps) (hhost : .host ∈ ps) (hout : .out ∈ ps) : (rejectPackage s layer offset e tell).hide ps =
    s.hide ps := by
  simp [rejectPackage, hfaults, hqueues, hhost, hout]

@[simp] theorem finishPackage_hide (s : State) (whole : Bytes) (rest : Bytes)  (ps : List Part) (hhost : .host ∈ ps) (hjob : .job ∈ ps) :
    (finishPackage s whole rest).hide ps = s.hide ps := by
  simp [finishPackage, hhost, hjob]

@[simp] theorem feedBody_hide (s : State) (l : Bytes)  (ps : List Part) (hhost : .host ∈ ps) (hjob : .job ∈ ps) : (feedBody s l).hide ps =
    s.hide ps := by
  simp [feedBody, hhost, hjob]

theorem feedMessage_hide (s : State) (o : Nat) (b : Bytes) (t : State) (h : feedMessage s o b = some t) (ps : List Part)
    (hfaults : .faults ∈ ps) (hqueues : .queues ∈ ps) (hhost : .host ∈ ps) (hjob : .job ∈ ps) (hout : .out ∈ ps) : t.hide ps = s.hide ps := by
  unfold feedMessage at h
  have key : ∀ s' : State, s' = (if s.job.partialBytes.isEmpty then
      s.updJob (fun j => { j with partialAt := o, resync := false, reserved := none }) else s) → s'.hide ps = s.hide ps := by
    intro s' e
    subst e
    split <;> simp [hjob]
  split at h
  · cases h; rfl
  · split at h
    · simp at h
    · dsimp only at h
      generalize hs : (if s.job.partialBytes.isEmpty then
        s.updJob (fun j => { j with partialAt := o, resync := false, reserved := none }) else s) = s' at h
      rw [← key s' hs.symm]
      (repeat' split at h) <;> first | (cases h; simp [hfaults, hqueues, hhost, hjob, hout]) | simp at h

@[simp] theorem releaseStream_hide (x0 : Nat) (x1 : State)  (ps : List Part) (hfaults : .faults ∈ ps) (hqueues : .queues ∈ ps) (hhost :
    .host ∈ ps) (hjob : .job ∈ ps) (hout : .out ∈ ps) : (releaseStream x0 x1).hide ps = x1.hide ps := by
  induction x0 generalizing x1 with
  | zero => rfl
  | succ f ih =>
    unfold releaseStream
    split
    · rfl
    · split
      · rfl
      · rename_i h
        have := feedMessage_hide _ _ _ _ h ps hfaults hqueues hhost hjob hout
        simp [ih, this, hqueues, hhost]

@[simp] theorem acceptPackage_hide (s : State) (p : Package) (bytes : Bytes) (ends : Vector (Option Pt) 32)  (ps : List Part) (hhost :
    .host ∈ ps) (hjob : .job ∈ ps) : (acceptPackage s p bytes ends).hide ps = s.hide ps := by
  simp [acceptPackage, hhost, hjob]

@[simp] theorem streamOut_hide (x0 : Nat) (x1 : State) (x2 : Nat) (x3 : Bytes)  (ps : List Part) (hpair : .pair ∈ ps) (hout : .out ∈ ps) :
    (streamOut x0 x1 x2 x3).hide ps = x1.hide ps := by
  induction x0 generalizing x1 x2 x3 with
  | zero => rfl
  | succ f ih =>
    unfold streamOut
    split
    · rfl
    · rw [ih]
      simp [hpair, hout]

@[simp] theorem validatePackage_hide (s : State) (a : Arrived)  (ps : List Part) (hfaults : .faults ∈ ps) (hqueues : .queues ∈ ps) (hhost
    : .host ∈ ps) (hjob : .job ∈ ps) (hpair : .pair ∈ ps) (hout : .out ∈ ps) : (validatePackage s a).hide ps = s.hide ps := by
  unfold validatePackage
  dsimp only
  (repeat' split) <;> simp [hfaults, hqueues, hhost, hjob, hpair, hout]

@[simp] theorem validateNext_hide (s : State)  (ps : List Part) (hfaults : .faults ∈ ps) (hqueues : .queues ∈ ps) (hhost : .host ∈ ps)
    (hjob : .job ∈ ps) (hpair : .pair ∈ ps) (hout : .out ∈ ps) : (validateNext s).hide ps = s.hide ps := by
  unfold validateNext
  (repeat' split) <;> simp [hfaults, hqueues, hhost, hjob, hpair, hout]

@[simp] theorem validateDue_hide (all : Bool) (s : State)  (ps : List Part) (hfaults : .faults ∈ ps) (hqueues : .queues ∈ ps) (hhost :
    .host ∈ ps) (hjob : .job ∈ ps) (hpair : .pair ∈ ps) (hout : .out ∈ ps) : (validateDue all s).hide ps = s.hide ps := by
  unfold validateDue
  (repeat' (first | refine forI_hide _ _ _ _ (fun _ _ => ?_) | refine foldl_hide _ _ _ _ (fun _ _ => ?_) | split))
  all_goals simp [hfaults, hqueues, hhost, hjob, hpair, hout]

@[simp] theorem refillChan_hide (s : State) (n : Nat)  (ps : List Part) (hqueues : .queues ∈ ps) (hjob : .job ∈ ps) (hscan : .scan ∈ ps) :
    (refillChan s n).hide ps = s.hide ps := by
  simp [refillChan, hqueues, hjob, hscan]

@[simp] theorem refillFen_hide (s : State) (layer : Nat) (f : FenSection)  (ps : List Part) (hjob : .job ∈ ps) (hscan : .scan ∈ ps) :
    (refillFen s layer f).hide ps = s.hide ps := by
  simp [refillFen, hjob, hscan]

@[simp] theorem refillFens_hide (s : State)  (ps : List Part) (hjob : .job ∈ ps) (hscan : .scan ∈ ps) : (refillFens s).hide ps = s.hide ps
    := by
  unfold refillFens
  (repeat' (first | refine forI_hide _ _ _ _ (fun _ _ => ?_) | refine foldl_hide _ _ _ _ (fun _ _ => ?_) | split))
  all_goals simp [hjob, hscan]

@[simp] theorem moveSteppers_hide (s : State)  (ps : List Part) (hjob : .job ∈ ps) (hsteps : .steps ∈ ps) : (moveSteppers s).hide ps =
    s.hide ps := by
  unfold moveSteppers
  (repeat' split) <;> simp [hjob, hsteps]

@[simp] theorem refill_hide (s : State)  (ps : List Part) (hqueues : .queues ∈ ps) (hjob : .job ∈ ps) (hscan : .scan ∈ ps) : (refill
    s).hide ps = s.hide ps := by
  simp [refill, hqueues, hjob, hscan]

@[simp] theorem checkComplete_hide (s : State)  (ps : List Part) (hjob : .job ∈ ps) (hcams : .cams ∈ ps) (hmelt : .melt ∈ ps) (hreg : .reg
    ∈ ps) : (checkComplete s).hide ps = s.hide ps := by
  unfold checkComplete
  (repeat' split) <;> simp [hjob, hcams, hmelt, hreg]

@[simp] theorem checkAllStopped_hide (s : State)  (ps : List Part) (hfaults : .faults ∈ ps) : (checkAllStopped s).hide ps = s.hide ps :=
    by
  simp [checkAllStopped, hfaults]

@[simp] theorem decidePoint_hide (s : State)  (ps : List Part) (hqueues : .queues ∈ ps) (hjob : .job ∈ ps) (hscan : .scan ∈ ps) :
    (decidePoint s).hide ps = s.hide ps := by
  simp [decidePoint, hqueues, hjob, hscan]

@[simp] theorem startJob_hide (s : State)  (ps : List Part) (hjob : .job ∈ ps) (hscan : .scan ∈ ps) (hmelt : .melt ∈ ps) (hreg : .reg ∈
    ps) : (startJob s).hide ps = s.hide ps := by
  simp [startJob, hjob, hscan, hmelt, hreg]

@[simp] theorem discardFens_hide (s : State)  (ps : List Part) (hfaults : .faults ∈ ps) : (discardFens s).hide ps = s.hide ps := by
  unfold discardFens
  dsimp only
  (repeat' (first | refine forI_hide _ _ _ _ (fun _ _ => ?_) | refine foldl_hide _ _ _ _ (fun _ _ => ?_) | split))
  all_goals simp [hfaults]

@[simp] theorem layerBoundary_hide (s : State)  (ps : List Part) (hfaults : .faults ∈ ps) (hjob : .job ∈ ps) (hscan : .scan ∈ ps) (haxes :
    .axes ∈ ps) (hcams : .cams ∈ ps) (hmelt : .melt ∈ ps) (hreg : .reg ∈ ps) : (layerBoundary s).hide ps = s.hide ps := by
  unfold layerBoundary
  (repeat' split) <;> simp [hfaults, hjob, hscan, haxes, hcams, hmelt, hreg]

@[simp] theorem idleChannels_hide (s : State)  (ps : List Part) (hscan : .scan ∈ ps) : (idleChannels s).hide ps = s.hide ps := by
  simp [idleChannels, hscan]

@[simp] theorem endJob_hide (s : State)  (ps : List Part) (hjob : .job ∈ ps) (hscan : .scan ∈ ps) : (endJob s).hide ps = s.hide ps := by
  simp [endJob, hjob, hscan]

@[simp] theorem dropJob_hide (s : State) (job : Nat)  (ps : List Part) (hjob : .job ∈ ps) : (dropJob s job).hide ps = s.hide ps := by
  simp [dropJob, hjob]

@[simp] theorem cancelStart_hide (s : State)  (ps : List Part) (hjob : .job ∈ ps) (hscan : .scan ∈ ps) : (cancelStart s).hide ps = s.hide
    ps := by
  simp [cancelStart, hjob, hscan]

@[simp] theorem markStopped_hide (s : State)  (ps : List Part) (hmelt : .melt ∈ ps) : (markStopped s).hide ps = s.hide ps := by
  simp [markStopped, hmelt]

@[simp] theorem stopJob_hide (s : State)  (ps : List Part) (hfaults : .faults ∈ ps) (hjob : .job ∈ ps) (hscan : .scan ∈ ps) (hmelt : .melt
    ∈ ps) (hreg : .reg ∈ ps) : (stopJob s).hide ps = s.hide ps := by
  simp [stopJob, hfaults, hjob, hscan, hmelt, hreg]

@[simp] theorem jobAction_hide (s : State) (a : Severity)  (ps : List Part) (hfaults : .faults ∈ ps) (hjob : .job ∈ ps) (hscan : .scan ∈
    ps) (hmelt : .melt ∈ ps) (hreg : .reg ∈ ps) (hsteps : .steps ∈ ps) (hpower : .power ∈ ps) : (jobAction s a).hide ps = s.hide ps := by
  simp [jobAction, hfaults, hjob, hscan, hmelt, hreg, hsteps, hpower]

@[simp] theorem stoppingOver_hide (s : State)  (ps : List Part) (hjob : .job ∈ ps) (hscan : .scan ∈ ps) : (stoppingOver s).hide ps =
    s.hide ps := by
  simp [stoppingOver, hjob, hscan]

@[simp] theorem stoppedMap_hide (s : State)  (ps : List Part) (hmelt : .melt ∈ ps) : (stoppedMap s).hide ps = s.hide ps := by
  simp [stoppedMap, hmelt]

@[simp] theorem leaveStartUp_hide (s : State)  (ps : List Part) (hfaults : .faults ∈ ps) (hjob : .job ∈ ps) (hscan : .scan ∈ ps) (hpower :
    .power ∈ ps) : (leaveStartUp s).hide ps = s.hide ps := by
  simp [leaveStartUp, hfaults, hjob, hscan, hpower]

@[simp] theorem jobBoundary_hide (s : State)  (ps : List Part) (hfaults : .faults ∈ ps) (hjob : .job ∈ ps) (hscan : .scan ∈ ps) (hmelt :
    .melt ∈ ps) (hreg : .reg ∈ ps) (hsteps : .steps ∈ ps) (hpower : .power ∈ ps) : (jobBoundary s).hide ps = s.hide ps := by
  unfold jobBoundary
  dsimp only
  (repeat' split) <;> simp [hfaults, hjob, hscan, hmelt, hreg, hsteps, hpower]

end Sys2Proof.Machine
end

