-- ==== Sys2Proof/Laws/FrameLayerStream.lean ====
section
/-! SUPPORT. Frames of Machine/LayerStream.lean: which parts of a state each operation may change. -/

namespace Sys2Proof.Machine

@[simp] theorem wantNak_hide (s : State) (port : Fin 2) (src : Src) (session : Nat) (status : Nat)  (ps : List Part) (hhost : .host ∈ ps)
    : (wantNak s port src session status).hide ps = s.hide ps := by
  simp [wantNak, hhost]

@[simp] theorem sendNak_hide (s : State) (n : LsNak)  (ps : List Part) (hqueues : .queues ∈ ps) (hhost : .host ∈ ps) (hout : .out ∈ ps) :
    (sendNak s n).hide ps = s.hide ps := by
  simp [sendNak, hqueues, hhost, hout]

@[simp] theorem sendCredit_hide (s : State)  (ps : List Part) (hqueues : .queues ∈ ps) (hhost : .host ∈ ps) (hout : .out ∈ ps) :
    (sendCredit s).hide ps = s.hide ps := by
  simp [sendCredit, hqueues, hhost, hout]

@[simp] theorem lsMessage_hide (ps : List Part) (s : State) (h : LsHead) (known : Bool) (min : Nat) (reservedZero : Bool) (run : State →
    State) (hrun : ∀ x0, (run x0).hide ps = x0.hide ps) (hhost : .host ∈ ps) : (lsMessage s h known min reservedZero run).hide ps = s.hide
    ps := by
  simp [lsMessage, hhost, hrun]

@[simp] theorem keepControl_hide (s : State) (h : LsHead) (close : Bool) (resume : Bool)  (ps : List Part) (hhost : .host ∈ ps) :
    (keepControl s h close resume).hide ps = s.hide ps := by
  simp [keepControl, hhost]

@[simp] theorem takeData_hide (s : State) (h : LsHead) (payload : Bytes)  (ps : List Part) (hhost : .host ∈ ps) : (takeData s h
    payload).hide ps = s.hide ps := by
  simp [takeData, hhost]

@[simp] theorem refuseControl_hide (s : State) (c : LsControl) (status : Nat) (first : Bool)  (ps : List Part) (hhost : .host ∈ ps) :
    (refuseControl s c status first).1.hide ps = s.hide ps := by
  unfold refuseControl
  (repeat' split) <;> simp [hhost]

@[simp] theorem endSession_hide (s : State)  (ps : List Part) (hfaults : .faults ∈ ps) (hqueues : .queues ∈ ps) (hhost : .host ∈ ps) (hjob
    : .job ∈ ps) (hpair : .pair ∈ ps) (hout : .out ∈ ps) : (endSession s).hide ps = s.hide ps := by
  simp [endSession, hfaults, hqueues, hhost, hjob, hpair, hout]

@[simp] theorem openSession_hide (s : State) (first : Bool) (c : LsControl)  (ps : List Part) (hfaults : .faults ∈ ps) (hqueues : .queues
    ∈ ps) (hhost : .host ∈ ps) (hjob : .job ∈ ps) (hpair : .pair ∈ ps) (hout : .out ∈ ps) : (openSession s first c).1.hide ps = s.hide ps
    := by
  unfold openSession
  dsimp only
  (repeat' split) <;> simp [hfaults, hqueues, hhost, hjob, hpair, hout]

@[simp] theorem closeSession_hide (s : State) (first : Bool) (c : LsControl)  (ps : List Part) (hhost : .host ∈ ps) : (closeSession s
    first c).1.hide ps = s.hide ps := by
  unfold closeSession
  (repeat' split) <;> simp [hhost]

@[simp] theorem finishClose_hide (s : State)  (ps : List Part) (hfaults : .faults ∈ ps) (hqueues : .queues ∈ ps) (hhost : .host ∈ ps)
    (hjob : .job ∈ ps) (hpair : .pair ∈ ps) (hout : .out ∈ ps) : (finishClose s).hide ps = s.hide ps := by
  unfold finishClose
  (repeat' split) <;> simp [hfaults, hqueues, hhost, hjob, hpair, hout]

@[simp] theorem streamAnswers_hide (s : State)  (ps : List Part) (hfaults : .faults ∈ ps) (hqueues : .queues ∈ ps) (hhost : .host ∈ ps)
    (hjob : .job ∈ ps) (hpair : .pair ∈ ps) (hout : .out ∈ ps) : (streamAnswers s).hide ps = s.hide ps := by
  have key : ∀ (l : List LsControl) (x : State × Bool), ((l.foldl (fun (x : State × Bool) c =>
      if c.close then closeSession x.1 x.2 c else openSession x.1 x.2 c) x).1).hide ps = x.1.hide ps := by
    intro l
    induction l with
    | nil => intro x; rfl
    | cons c l ih =>
      intro x
      rw [List.foldl_cons, ih]
      split <;> simp [hfaults, hqueues, hhost, hjob, hpair, hout]
  unfold streamAnswers
  have := key s.host.control (s.updHost (fun h => { h with control := [] }), true)
  dsimp only
  (repeat' split) <;> simp [this, hfaults, hqueues, hhost, hjob, hpair, hout]

@[simp] theorem openMessage_hide (h : LsHead) (flags : Nat) (s : State)  (ps : List Part) (hhost : .host ∈ ps) : (openMessage h flags
    s).hide ps = s.hide ps := by
  simp [openMessage, hhost]

@[simp] theorem dataMessage_hide (h : LsHead) (payload : Bytes) (s : State)  (ps : List Part) (hhost : .host ∈ ps) : (dataMessage h
    payload s).hide ps = s.hide ps := by
  simp [dataMessage, hhost]

@[simp] theorem closeMessage_hide (h : LsHead) (s : State)  (ps : List Part) (hhost : .host ∈ ps) : (closeMessage h s).hide ps = s.hide ps
    := by
  simp [closeMessage, hhost]

end Sys2Proof.Machine
end

