-- ==== Sys2Proof/Laws/FrameNet.lean ====
section
/-! SUPPORT. Frames of Machine/Net.lean: which parts of a state each operation may change. -/

namespace Sys2Proof.Machine

@[simp] theorem lsPayload_hide (s : State) (f : EthFrame)  (ps : List Part) (hhost : .host ∈ ps) : (lsPayload s f).hide ps = s.hide ps :=
    by
  unfold lsPayload
  dsimp only
  (repeat' split) <;> simp [hhost]

@[simp] theorem arpPacket_hide (s : State) (p : Fin 2) (request : Bool) (target : Nat) (sender : Nat) (mac : Nat)  (ps : List Part)
    (hqueues : .queues ∈ ps) (hhost : .host ∈ ps) (hout : .out ∈ ps) : (arpPacket s p request target sender mac).hide ps = s.hide ps := by
  simp [arpPacket, hqueues, hhost, hout]

@[simp] theorem solicited_hide (s : State) (p : Fin 2) (target : Nat)  (ps : List Part) (hhost : .host ∈ ps) (hout : .out ∈ ps) :
    (solicited s p target).hide ps = s.hide ps := by
  simp [solicited, hhost, hout]

@[simp] theorem takeOffer_hide (s : State) (p : Nat)  (ps : List Part) (hhost : .host ∈ ps) (hout : .out ∈ ps) : (takeOffer s p).hide ps =
    s.hide ps := by
  simp [takeOffer, hhost, hout]

@[simp] theorem resolvePacket_hide (s : State) (f : EthFrame)  (ps : List Part) (hqueues : .queues ∈ ps) (hhost : .host ∈ ps) (hout : .out
    ∈ ps) : (resolvePacket s f).hide ps = s.hide ps := by
  unfold resolvePacket
  (repeat' split) <;> simp [hqueues, hhost, hout]

@[simp] theorem intoService_hide (ps : List Part) (s : State) (p : Nat) (len : Nat) (run : State → State) (hrun : ∀ x0, (run x0).hide ps =
    x0.hide ps) (hqueues : .queues ∈ ps) (hhost : .host ∈ ps) : (intoService s p len run).hide ps = s.hide ps := by
  simp [intoService, hqueues, hhost, hrun]

@[simp] theorem serviceFrame_hide (ps : List Part) (s : State) (p : Nat) (len : Nat) (run : State → State) (hrun : ∀ x0, (run x0).hide ps
    = x0.hide ps) (hqueues : .queues ∈ ps) (hhost : .host ∈ ps) : (serviceFrame s p len run).hide ps = s.hide ps := by
  simp [serviceFrame, hqueues, hhost, hrun]

@[simp] theorem frameArrives_hide (s : State) (f : EthFrame)  (ps : List Part) (htime : .time ∈ ps) (hdict : .dict ∈ ps) (hqueues :
    .queues ∈ ps) (hhost : .host ∈ ps) (hpair : .pair ∈ ps) (hmem : .mem ∈ ps) (hflash : .flash ∈ ps) (hout : .out ∈ ps) : (frameArrives s
    f).hide ps = s.hide ps := by
  unfold frameArrives
  (repeat' split) <;> simp [htime, hdict, hqueues, hhost, hpair, hmem, hflash, hout]

@[simp] theorem echoed_hide (s : State) (p : Fin 2) (v6 : Bool) (dst : Nat) (len : Nat)  (ps : List Part) (hhost : .host ∈ ps) (hout :
    .out ∈ ps) : (echoed s p v6 dst len).hide ps = s.hide ps := by
  simp [echoed, hhost, hout]

@[simp] theorem leaseBound_hide (s : State) (p : Fin 2) (addr : Nat) (maskLen : Nat) (gateway : Nat) (t1 : Nat) (t2 : Nat) (lease : Nat)
    (ps : List Part) (hhost : .host ∈ ps) (hout : .out ∈ ps) : (leaseBound s p addr maskLen gateway t1 t2 lease).hide ps = s.hide ps := by
  simp [leaseBound, hhost, hout]

@[simp] theorem leaseRenew_hide (s : State) (p : Fin 2)  (ps : List Part) (hhost : .host ∈ ps) (hout : .out ∈ ps) : (leaseRenew s p).hide
    ps = s.hide ps := by
  simp [leaseRenew, hhost, hout]

@[simp] theorem leaseRebind_hide (s : State) (p : Fin 2)  (ps : List Part) (hhost : .host ∈ ps) (hout : .out ∈ ps) : (leaseRebind s
    p).hide ps = s.hide ps := by
  simp [leaseRebind, hhost, hout]

@[simp] theorem leaseExpire_hide (s : State) (p : Fin 2)  (ps : List Part) (hfaults : .faults ∈ ps) (hhost : .host ∈ ps) : (leaseExpire s
    p).hide ps = s.hide ps := by
  simp [leaseExpire, hfaults, hhost]

@[simp] theorem egressTimeout_hide (s : State)  (ps : List Part) (hhost : .host ∈ ps) : (egressTimeout s).hide ps = s.hide ps := by
  simp [egressTimeout, hhost]

@[simp] theorem portDeadlines_hide (s : State)  (ps : List Part) (hfaults : .faults ∈ ps) (hhost : .host ∈ ps) (hout : .out ∈ ps) :
    (portDeadlines s).hide ps = s.hide ps := by
  simp [portDeadlines, hfaults, hhost, hout]

@[simp] theorem hopTimeout_hide (s : State) (d : Nat)  (ps : List Part) (hhost : .host ∈ ps) : (hopTimeout s d).hide ps = s.hide ps := by
  unfold hopTimeout
  dsimp only
  (repeat' split) <;> simp [hhost]

end Sys2Proof.Machine
end

