-- ==== Sys2Proof/Laws/FramePair.lean ====
section
/-! SUPPORT. Frames of Machine/Pair.lean: which parts of a state each operation may change. -/

namespace Sys2Proof.Machine

@[simp] theorem State_updPair_hide (s : State) (f : PairState → PairState)  (ps : List Part) (hpair : .pair ∈ ps) : (State.updPair s
    f).hide ps = s.hide ps := by
  simp [State.updPair, hpair]

@[simp] theorem State_updWork_hide (s : State) (f : PairWork → PairWork)  (ps : List Part) (hwork : .work ∈ ps) : (State.updWork s f).hide
    ps = s.hide ps := by
  simp [State.updWork, hwork]

@[simp] theorem toNext_hide (s : State) (st : PairSt) (cause : Nat)  (ps : List Part) (hpair : .pair ∈ ps) : (toNext s st cause).hide ps =
    s.hide ps := by
  simp [toNext, hpair]

@[simp] theorem sendState_hide (s : State)  (ps : List Part) (hout : .out ∈ ps) : (sendState s).hide ps = s.hide ps := by
  simp [sendState, hout]

@[simp] theorem enterSync_hide (s : State) (old : PairSt) (chosen : Bool)  (ps : List Part) (hpair : .pair ∈ ps) (hwork : .work ∈ ps)
    (hout : .out ∈ ps) : (enterSync s old chosen).hide ps = s.hide ps := by
  simp [enterSync, hpair, hwork, hout]

@[simp] theorem enterLockstep_hide (s : State)  (ps : List Part) (hfaults : .faults ∈ ps) (hpair : .pair ∈ ps) : (enterLockstep s).hide ps
    = s.hide ps := by
  simp [enterLockstep, hfaults, hpair]

@[simp] theorem noteRole_hide (s : State) (was : Nat) (cause : Nat)  (ps : List Part) (hfaults : .faults ∈ ps) (hpair : .pair ∈ ps) :
    (noteRole s was cause).hide ps = s.hide ps := by
  simp [noteRole, hfaults, hpair]

@[simp] theorem pairPins_hide (s : State)  (ps : List Part) (hpins : .pins ∈ ps) : (pairPins s).hide ps = s.hide ps := by
  simp [pairPins, hpins]

@[simp] theorem enterPair_hide (s : State) (st : PairSt) (cause : Nat)  (ps : List Part) (hfaults : .faults ∈ ps) (hpins : .pins ∈ ps)
    (hpair : .pair ∈ ps) (hwork : .work ∈ ps) (hout : .out ∈ ps) : (enterPair s st cause).hide ps = s.hide ps := by
  simp [enterPair, hfaults, hpins, hpair, hwork, hout]

@[simp] theorem loseHeartbeat_hide (s : State)  (ps : List Part) (hpair : .pair ∈ ps) : (loseHeartbeat s).hide ps = s.hide ps := by
  simp [loseHeartbeat, hpair]

@[simp] theorem checkHeartbeat_hide (s : State)  (ps : List Part) (hfaults : .faults ∈ ps) (hpair : .pair ∈ ps) : (checkHeartbeat s).hide
    ps = s.hide ps := by
  simp [checkHeartbeat, hfaults, hpair]

@[simp] theorem checkWisp_hide (s : State)  (ps : List Part) (hpair : .pair ∈ ps) : (checkWisp s).hide ps = s.hide ps := by
  simp [checkWisp, hpair]

@[simp] theorem checkDiscover_hide (s : State)  (ps : List Part) (hfaults : .faults ∈ ps) (hpair : .pair ∈ ps) : (checkDiscover s).hide ps
    = s.hide ps := by
  simp [checkDiscover, hfaults, hpair]

@[simp] theorem compareWisp_hide (s : State) (w : WispMsg)  (ps : List Part) (hfaults : .faults ∈ ps) (hpair : .pair ∈ ps) : (compareWisp
    s w).hide ps = s.hide ps := by
  simp [compareWisp, hfaults, hpair]

@[simp] theorem standbyCause_hide (s : State)  (ps : List Part) (hfreeCtr : .freeCtr ∈ ps) : (standbyCause s).2.hide ps = s.hide ps := by
  simp [standbyCause, hfreeCtr]

@[simp] theorem followWisp_hide (s : State) (w : WispMsg)  (ps : List Part) (hwork : .work ∈ ps) (hfreeCtr : .freeCtr ∈ ps) : (followWisp
    s w).hide ps = s.hide ps := by
  simp [followWisp, hwork, hfreeCtr]

@[simp] theorem stepToPeer_hide (s : State) (w : WispMsg)  (ps : List Part) (htime : .time ∈ ps) (hpair : .pair ∈ ps) : (stepToPeer s
    w).hide ps = s.hide ps := by
  unfold stepToPeer
  (repeat' split) <;> simp [State.hide, htime, hpair]

@[simp] theorem noteWisp_hide (s : State) (w : WispMsg)  (ps : List Part) (hpair : .pair ∈ ps) (hwork : .work ∈ ps) (hfreeCtr : .freeCtr ∈
    ps) : (noteWisp s w).hide ps = s.hide ps := by
  simp [noteWisp, hpair, hwork, hfreeCtr]

@[simp] theorem takeWisp_hide (s : State) (w : WispMsg)  (ps : List Part) (htime : .time ∈ ps) (hfaults : .faults ∈ ps) (hpair : .pair ∈
    ps) (hwork : .work ∈ ps) (hfreeCtr : .freeCtr ∈ ps) : (takeWisp s w).hide ps = s.hide ps := by
  unfold takeWisp
  dsimp only
  (repeat' split) <;> simp [htime, hfaults, hpair, hwork, hfreeCtr]

@[simp] theorem noteLane_hide (s : State)  (ps : List Part) (hpair : .pair ∈ ps) (hwork : .work ∈ ps) : (noteLane s).hide ps = s.hide ps
    := by
  simp [noteLane, hpair, hwork]

@[simp] theorem acquireLine_hide (s : State) (highNs : Nat) (high : Bool)  (ps : List Part) (hpair : .pair ∈ ps) : (acquireLine s highNs
    high).hide ps = s.hide ps := by
  simp [acquireLine, hpair]

@[simp] theorem exchange_hide (s : State) (cause : Nat)  (ps : List Part) (hfaults : .faults ∈ ps) (hpins : .pins ∈ ps) (hpair : .pair ∈
    ps) (hwork : .work ∈ ps) (hout : .out ∈ ps) : (exchange s cause).hide ps = s.hide ps := by
  simp [exchange, hfaults, hpins, hpair, hwork, hout]

@[simp] theorem planHandOver_hide (s : State)  (ps : List Part) (hfaults : .faults ∈ ps) (hpins : .pins ∈ ps) (hpair : .pair ∈ ps) (hwork
    : .work ∈ ps) (hout : .out ∈ ps) : (planHandOver s).hide ps = s.hide ps := by
  unfold planHandOver
  (repeat' split) <;> simp [hfaults, hpins, hpair, hwork, hout]

@[simp] theorem dropForwarded_hide (s : State)  (ps : List Part) (hqueues : .queues ∈ ps) (hhost : .host ∈ ps) (hpair : .pair ∈ ps) (hout
    : .out ∈ ps) : (dropForwarded s).hide ps = s.hide ps := by
  unfold dropForwarded
  dsimp only
  rw [foldl_hide]
  · simp [hpair]
  · intro s x
    split <;> simp [hqueues, hhost, hout]

@[simp] theorem repeatForwarded_hide (s : State) (f : Forwarded)  (ps : List Part) (hqueues : .queues ∈ ps) (hhost : .host ∈ ps) (hpair :
    .pair ∈ ps) (hout : .out ∈ ps) : (repeatForwarded s f).hide ps = s.hide ps := by
  unfold repeatForwarded
  (repeat' split) <;> simp [hqueues, hhost, hpair, hout]

@[simp] theorem checkForwarded_hide (s : State)  (ps : List Part) (hqueues : .queues ∈ ps) (hhost : .host ∈ ps) (hpair : .pair ∈ ps) (hout
    : .out ∈ ps) : (checkForwarded s).hide ps = s.hide ps := by
  simp [checkForwarded, hqueues, hhost, hpair, hout]

@[simp] theorem countGroups_hide (s : State)  (ps : List Part) (hpair : .pair ∈ ps) : (countGroups s).hide ps = s.hide ps := by
  simp [countGroups, hpair]

@[simp] theorem pairBoundary_hide (s : State)  (ps : List Part) (hfaults : .faults ∈ ps) (hpins : .pins ∈ ps) (hqueues : .queues ∈ ps)
    (hhost : .host ∈ ps) (hpair : .pair ∈ ps) (hwork : .work ∈ ps) (hout : .out ∈ ps) : (pairBoundary s).hide ps = s.hide ps := by
  unfold pairBoundary
  dsimp only
  (repeat' split) <;> simp [hfaults, hpins, hqueues, hhost, hpair, hwork, hout]

@[simp] theorem pairEnd_hide (s : State)  (ps : List Part) (hfaults : .faults ∈ ps) (hpair : .pair ∈ ps) : (pairEnd s).hide ps = s.hide ps
    := by
  simp [pairEnd, hfaults, hpair]

@[simp] theorem sendWisp_hide (s : State)  (ps : List Part) (hpair : .pair ∈ ps) (hout : .out ∈ ps) : (sendWisp s).hide ps = s.hide ps :=
    by
  simp [sendWisp, hpair, hout]

@[simp] theorem decisionPoint_hide (s : State)  (ps : List Part) (hqueues : .queues ∈ ps) (hjob : .job ∈ ps) (hscan : .scan ∈ ps) (hpair :
    .pair ∈ ps) (hout : .out ∈ ps) : (decisionPoint s).hide ps = s.hide ps := by
  simp [decisionPoint, hqueues, hjob, hscan, hpair, hout]

end Sys2Proof.Machine
end

