-- ==== Sys2Proof/Laws/FramePairLink.lean ====
section
/-! SUPPORT. Frames of Machine/PairLink.lean: which parts of a state each operation may change. -/

namespace Sys2Proof.Machine

@[simp] theorem takeHello_hide (s : State) (m : HelloMsg)  (ps : List Part) (hfaults : .faults ∈ ps) (hpair : .pair ∈ ps) : (takeHello s
    m).hide ps = s.hide ps := by
  simp [takeHello, hfaults, hpair]

@[simp] theorem sendHello_hide (s : State)  (ps : List Part) (hout : .out ∈ ps) : (sendHello s).hide ps = s.hide ps := by
  simp [sendHello, hout]

@[simp] theorem receiveService_hide (s : State) (payload : Nat)  (ps : List Part) (hqueues : .queues ∈ ps) : (receiveService s
    payload).hide ps = s.hide ps := by
  simp [receiveService, hqueues]

@[simp] theorem stateReceived_hide (s : State) (values : List ObjVal) (pending : List ObjVal) (replay : List GdpResponse) (packages : List
    Bytes)  (ps : List Part) (hqueues : .queues ∈ ps) : (stateReceived s values pending replay packages).hide ps = s.hide ps := by
  simp [stateReceived, hqueues]

@[simp] theorem standbyPackage_hide (s : State) (offset : Nat) (b : Bytes)  (ps : List Part) (hfaults : .faults ∈ ps) (hhost : .host ∈ ps)
    (hjob : .job ∈ ps) (hwork : .work ∈ ps) : (standbyPackage s offset b).hide ps = s.hide ps := by
  unfold standbyPackage
  (repeat' split) <;> simp [hfaults, hhost, hjob, hwork]

@[simp] theorem loadCopy_hide (s : State)  (ps : List Part) (htime : .time ∈ ps) (hfaults : .faults ∈ ps) (hvalues : .values ∈ ps) (hdict
    : .dict ∈ ps) (hqueues : .queues ∈ ps) (hhost : .host ∈ ps) (hjob : .job ∈ ps) (haxes : .axes ∈ ps) (hcams : .cams ∈ ps) (hmelt :
    .melt ∈ ps) (hlink : .link ∈ ps) (hwork : .work ∈ ps) (hsteps : .steps ∈ ps) (htemp : .temp ∈ ps) (hpower : .power ∈ ps) (hout : .out
    ∈ ps) : (loadCopy s).hide ps = s.hide ps := by
  simp [loadCopy, htime, hfaults, hvalues, hdict, hqueues, hhost, hjob, haxes, hcams, hmelt, hlink, hwork, hsteps, htemp, hpower, hout]

@[simp] theorem loadImage_hide (s : State) (i : StateImage)  (ps : List Part) (hscan : .scan ∈ ps) (haxes : .axes ∈ ps) (hmelt : .melt ∈
    ps) (hsteps : .steps ∈ ps) (hlight : .light ∈ ps) : (loadImage s i).hide ps = s.hide ps := by
  simp [loadImage, State.hide, hscan, haxes, hmelt, hsteps, hlight]

@[simp] theorem fillMirror_hide (s : State) (e : MirrorEntry)  (ps : List Part) (hfaults : .faults ∈ ps) (hscan : .scan ∈ ps) (haxes :
    .axes ∈ ps) (hlink : .link ∈ ps) : (fillMirror s e).hide ps = s.hide ps := by
  unfold fillMirror
  (repeat' split) <;> simp [hfaults, hscan, haxes, hlink]

@[simp] theorem fillMirrors_hide (s : State)  (ps : List Part) (hfaults : .faults ∈ ps) (hscan : .scan ∈ ps) (haxes : .axes ∈ ps) (hlink :
    .link ∈ ps) (hwork : .work ∈ ps) : (fillMirrors s).hide ps = s.hide ps := by
  simp [fillMirrors, hfaults, hscan, haxes, hlink, hwork]

@[simp] theorem applyMeasure_hide (s : State)  (ps : List Part) (hsteps : .steps ∈ ps) (hlight : .light ∈ ps) (htemp : .temp ∈ ps)
    (hanalog : .analog ∈ ps) : (applyMeasure s).hide ps = s.hide ps := by
  unfold applyMeasure
  (repeat' split) <;> simp [hlight, htemp] <;> simp [State.hide, hsteps, hlight, htemp, hanalog]

@[simp] theorem sendMeasure_hide (s : State)  (ps : List Part) (hout : .out ∈ ps) : (sendMeasure s).hide ps = s.hide ps := by
  simp [sendMeasure, hout]

@[simp] theorem forwardedWrite_hide (s : State) (delta : Nat) (commitTime : Nat) (o : ObjVal)  (ps : List Part) (hdict : .dict ∈ ps)
    (hflash : .flash ∈ ps) (hout : .out ∈ ps) : (forwardedWrite s delta commitTime o).hide ps = s.hide ps := by
  simp [forwardedWrite, hdict, hflash, hout]

@[simp] theorem writeReceived_hide (s : State) (items : List ObjVal) (response : Option GdpResponse)  (ps : List Part) (hqueues : .queues
    ∈ ps) : (writeReceived s items response).hide ps = s.hide ps := by
  simp [writeReceived, hqueues]

@[simp] theorem takeStream_hide (s : State) (offset : Nat) (sequence : Nat) (data : Bytes)  (ps : List Part) (hfaults : .faults ∈ ps)
    (hhost : .host ∈ ps) (hjob : .job ∈ ps) (hwork : .work ∈ ps) : (takeStream s offset sequence data).hide ps = s.hide ps := by
  simp [takeStream, hfaults, hhost, hjob, hwork]

end Sys2Proof.Machine
end

