-- ==== Sys2Proof/Laws/FramePairHealth.lean ====
section
/-! SUPPORT. Frames of Machine/PairHealth.lean: which parts of a state each operation may change. -/

namespace Sys2Proof.Machine

@[simp] theorem takeDigest_hide (s : State)  (ps : List Part) (hpair : .pair ∈ ps) : (takeDigest s).hide ps = s.hide ps := by
  simp [takeDigest, hpair]

@[simp] theorem healthBit_hide (s : State) (k : Nat)  (ps : List Part) (hfaults : .faults ∈ ps) (hwork : .work ∈ ps) : (healthBit s
    k).hide ps = s.hide ps := by
  simp [healthBit, hfaults, hwork]

@[simp] theorem selfTest_hide (s : State)  (ps : List Part) (hfaults : .faults ∈ ps) (hwork : .work ∈ ps) : (selfTest s).hide ps = s.hide
    ps := by
  simp [selfTest, hfaults, hwork]

@[simp] theorem clearHealthPosts_hide (s : State)  (ps : List Part) (hwork : .work ∈ ps) : (clearHealthPosts s).hide ps = s.hide ps := by
  simp [clearHealthPosts, hwork]

@[simp] theorem checkHealth_hide (s : State)  (ps : List Part) (hwork : .work ∈ ps) : (checkHealth s).hide ps = s.hide ps := by
  simp [checkHealth, hwork]

@[simp] theorem checkReversion_hide (s : State)  (ps : List Part) (hwork : .work ∈ ps) : (checkReversion s).hide ps = s.hide ps := by
  simp [checkReversion, hwork]

@[simp] theorem checkEcho_hide (s : State)  (ps : List Part) (hpair : .pair ∈ ps) : (checkEcho s).hide ps = s.hide ps := by
  simp [checkEcho, hpair]

@[simp] theorem echoPort_hide (s : State) (p : Nat)  (ps : List Part) (hfaults : .faults ∈ ps) (hwork : .work ∈ ps) : (echoPort s p).hide
    ps = s.hide ps := by
  simp [echoPort, hfaults, hwork]

@[simp] theorem echoTick_hide (s : State)  (ps : List Part) (hfaults : .faults ∈ ps) (hwork : .work ∈ ps) : (echoTick s).hide ps = s.hide
    ps := by
  simp [echoTick, hfaults, hwork]

@[simp] theorem checkLantern_hide (s : State)  (ps : List Part) (hqueues : .queues ∈ ps) (hhost : .host ∈ ps) (hpair : .pair ∈ ps) (hwork
    : .work ∈ ps) (hout : .out ∈ ps) : (checkLantern s).hide ps = s.hide ps := by
  simp [checkLantern, hqueues, hhost, hpair, hwork, hout]

@[simp] theorem pairTick_hide (s : State)  (ps : List Part) (hfaults : .faults ∈ ps) (hqueues : .queues ∈ ps) (hhost : .host ∈ ps) (hpair
    : .pair ∈ ps) (hwork : .work ∈ ps) (hout : .out ∈ ps) : (pairTick s).hide ps = s.hide ps := by
  simp [pairTick, hfaults, hqueues, hhost, hpair, hwork, hout]

@[simp] theorem startUpClose_hide (s : State) (a : Nat)  (ps : List Part) (hfaults : .faults ∈ ps) (hdict : .dict ∈ ps) (haxes : .axes ∈
    ps) (hpair : .pair ∈ ps) (hout : .out ∈ ps) : (startUpClose s a).hide ps = s.hide ps := by
  simp [startUpClose, hfaults, hdict, haxes, hpair, hout]

end Sys2Proof.Machine
end

