-- ==== Sys2Proof/Laws/FrameStartup.lean ====
section
/-! SUPPORT. Frames of Machine/Startup.lean: which parts of a state each operation may change. -/

namespace Sys2Proof.Machine

@[simp] theorem State_updStart_hide (s : State) (f : StartState → StartState)  (ps : List Part) (hstart : .start ∈ ps) : (State.updStart s
    f).hide ps = s.hide ps := by
  simp [State.updStart, hstart]

@[simp] theorem endSelfTest_hide (s : State) (r : PhaseReport)  (ps : List Part) (hfaults : .faults ∈ ps) (hmem : .mem ∈ ps) (hflash :
    .flash ∈ ps) (hout : .out ∈ ps) : (endSelfTest s r).hide ps = s.hide ps := by
  simp [endSelfTest, hfaults, hmem, hflash, hout]

@[simp] theorem endFlashPhase_hide (s : State)  (ps : List Part) (hfaults : .faults ∈ ps) (hvalues : .values ∈ ps) (hdict : .dict ∈ ps)
    (hpins : .pins ∈ ps) (hpair : .pair ∈ ps) (hflash : .flash ∈ ps) : (endFlashPhase s).hide ps = s.hide ps := by
  simp [endFlashPhase, hfaults, hvalues, hdict, hpins, hpair, hflash]

@[simp] theorem startLinks_hide (s : State)  (ps : List Part) (hpins : .pins ∈ ps) (hhost : .host ∈ ps) (hlink : .link ∈ ps) (hout : .out
    ∈ ps) : (startLinks s).hide ps = s.hide ps := by
  simp [startLinks, hpins, hhost, hlink, hout]

@[simp] theorem startCameras_hide (s : State)  (ps : List Part) (hcams : .cams ∈ ps) (hout : .out ∈ ps) : (startCameras s).hide ps =
    s.hide ps := by
  simp [startCameras, hcams, hout]

@[simp] theorem beginPhase_hide (s : State) (k : Nat)  (ps : List Part) (hpins : .pins ∈ ps) (hhost : .host ∈ ps) (hcams : .cams ∈ ps)
    (hlink : .link ∈ ps) (hpair : .pair ∈ ps) (hout : .out ∈ ps) : (beginPhase s k).hide ps = s.hide ps := by
  unfold beginPhase
  (repeat' split) <;> simp [hpins, hhost, hcams, hlink, hpair, hout]

@[simp] theorem nextPhase_hide (s : State) (durationUs : Nat)  (ps : List Part) (hstart : .start ∈ ps) (hfaults : .faults ∈ ps) (hpins :
    .pins ∈ ps) (hhost : .host ∈ ps) (hcams : .cams ∈ ps) (hlink : .link ∈ ps) (hpair : .pair ∈ ps) (hout : .out ∈ ps) : (nextPhase s
    durationUs).hide ps = s.hide ps := by
  simp [nextPhase, hstart, hfaults, hpins, hhost, hcams, hlink, hpair, hout]

@[simp] theorem finishPhase_hide (s : State) (r : PhaseReport)  (ps : List Part) (hfaults : .faults ∈ ps) (hvalues : .values ∈ ps) (hdict
    : .dict ∈ ps) (hpins : .pins ∈ ps) (hpair : .pair ∈ ps) (hmem : .mem ∈ ps) (hflash : .flash ∈ ps) (hout : .out ∈ ps) : (finishPhase s
    r).hide ps = s.hide ps := by
  unfold finishPhase
  (repeat' split) <;> simp [hfaults, hvalues, hdict, hpins, hpair, hmem, hflash, hout]

@[simp] theorem railFault_hide (s : State) (rail : Nat)  (ps : List Part) (hfaults : .faults ∈ ps) (hscan : .scan ∈ ps) (hwork : .work ∈
    ps) (hsteps : .steps ∈ ps) (hpower : .power ∈ ps) (hanalog : .analog ∈ ps) : (railFault s rail).hide ps = s.hide ps := by
  simp [railFault, hfaults, hscan, hwork, hsteps, hpower, hanalog]

@[simp] theorem vinFault_hide (s : State)  (ps : List Part) (hstart : .start ∈ ps) (hfaults : .faults ∈ ps) (hqueues : .queues ∈ ps)
    (hscan : .scan ∈ ps) (hwork : .work ∈ ps) (hsteps : .steps ∈ ps) (hpower : .power ∈ ps) (hanalog : .analog ∈ ps) (hflash : .flash ∈
    ps) (hfreeCtr : .freeCtr ∈ ps) : (vinFault s).hide ps = s.hide ps := by
  simp [vinFault, hstart, hfaults, hqueues, hscan, hwork, hsteps, hpower, hanalog, hflash, hfreeCtr]

end Sys2Proof.Machine
end

