-- ==== Sys2Proof/Laws/FrameTap.lean ====
section
/-! SUPPORT. Frames of Machine/Tap.lean: which parts of a state each operation may change. -/

namespace Sys2Proof.Machine

@[simp] theorem clockTap_hide (s : State) (l : List TapEdge)  (ps : List Part) (hpins : .pins ∈ ps) (hout : .out ∈ ps) : (clockTap s
    l).hide ps = s.hide ps := by
  simp [clockTap, hpins, hout]

end Sys2Proof.Machine
end

