-- ==== Sys2Proof/Laws/FrameTick.lean ====
section
/-! SUPPORT. Frames of Machine/Tick.lean: which parts of a state each operation may change. -/

namespace Sys2Proof.Machine

@[simp] theorem readInputs_hide (s : State) (inp : TickInputs)  (ps : List Part) (htime : .time ∈ ps) (hfaults : .faults ∈ ps) (hwork :
    .work ∈ ps) (hpower : .power ∈ ps) (hanalog : .analog ∈ ps) (hmem : .mem ∈ ps) (hout : .out ∈ ps) : (readInputs s inp).hide ps =
    s.hide ps := by
  simp [readInputs, htime, hfaults, hwork, hpower, hanalog, hmem, hout]

@[simp] theorem takeDecision_hide (s : State)  (ps : List Part) (hjob : .job ∈ ps) (hwork : .work ∈ ps) : (takeDecision s).hide ps =
    s.hide ps := by
  simp [takeDecision, hjob, hwork]

@[simp] theorem engineBoundary_hide (s : State) (inp : TickInputs)  (ps : List Part) (hscan : .scan ∈ ps) (haxes : .axes ∈ ps) (hsteps :
    .steps ∈ ps) (hanalog : .analog ∈ ps) : (engineBoundary s inp).hide ps = s.hide ps := by
  simp [engineBoundary, hscan, haxes, hsteps, hanalog]

@[simp] theorem jobAndValues_hide (s : State)  (ps : List Part) (hticks : .ticks ∈ ps) (htime : .time ∈ ps) (hstart : .start ∈ ps)
    (hfaults : .faults ∈ ps) (hvalues : .values ∈ ps) (hdict : .dict ∈ ps) (hpins : .pins ∈ ps) (hqueues : .queues ∈ ps) (hhost : .host ∈
    ps) (hjob : .job ∈ ps) (hscan : .scan ∈ ps) (haxes : .axes ∈ ps) (hcams : .cams ∈ ps) (hmelt : .melt ∈ ps) (hreg : .reg ∈ ps) (hlink :
    .link ∈ ps) (hpair : .pair ∈ ps) (hwork : .work ∈ ps) (hsteps : .steps ∈ ps) (hlight : .light ∈ ps) (htemp : .temp ∈ ps) (hpower :
    .power ∈ ps) (hanalog : .analog ∈ ps) (hmem : .mem ∈ ps) (hflash : .flash ∈ ps) (hseen : .seen ∈ ps) (hfreeCtr : .freeCtr ∈ ps) (hout
    : .out ∈ ps) (hpending : .pending ∈ ps) : (jobAndValues s).hide ps = s.hide ps := by
  simp [jobAndValues, hticks, htime, hstart, hfaults, hvalues, hdict, hpins, hqueues, hhost, hjob, hscan, haxes, hcams, hmelt, hreg, hlink, hpair, hwork, hsteps, hlight, htemp, hpower, hanalog, hmem, hflash, hseen, hfreeCtr, hout, hpending]

@[simp] theorem releases_hide (s : State)  (ps : List Part) (htime : .time ∈ ps) (hfaults : .faults ∈ ps) (hdict : .dict ∈ ps) (hqueues : .queues ∈ ps) (hhost
    : .host ∈ ps) (hscan : .scan ∈ ps) (hcams : .cams ∈ ps) (hmelt : .melt ∈ ps) (hreg : .reg ∈ ps) (hlink : .link ∈ ps) (hlight : .light
    ∈ ps) (htemp : .temp ∈ ps) (hout : .out ∈ ps) : (releases s).hide ps = s.hide ps := by
  simp [releases, htime, hfaults, hdict, hqueues, hhost, hscan, hcams, hmelt, hreg, hlink, hlight, htemp, hout]

@[simp] theorem dueReset_hide (s : State)  (ps : List Part) (hticks : .ticks ∈ ps) (htime : .time ∈ ps) (hstart : .start ∈ ps) (hfaults :
    .faults ∈ ps) (hvalues : .values ∈ ps) (hdict : .dict ∈ ps) (hpins : .pins ∈ ps) (hqueues : .queues ∈ ps) (hhost : .host ∈ ps) (hjob :
    .job ∈ ps) (hscan : .scan ∈ ps) (haxes : .axes ∈ ps) (hcams : .cams ∈ ps) (hmelt : .melt ∈ ps) (hreg : .reg ∈ ps) (hlink : .link ∈ ps)
    (hpair : .pair ∈ ps) (hwork : .work ∈ ps) (hsteps : .steps ∈ ps) (hlight : .light ∈ ps) (htemp : .temp ∈ ps) (hpower : .power ∈ ps)
    (hanalog : .analog ∈ ps) (hmem : .mem ∈ ps) (hflash : .flash ∈ ps) (hseen : .seen ∈ ps) (hfreeCtr : .freeCtr ∈ ps) (hout : .out ∈ ps)
    (hpending : .pending ∈ ps) : (dueReset s).hide ps = s.hide ps := by
  simp [State.hide, hticks, htime, hstart, hfaults, hvalues, hdict, hpins, hqueues, hhost, hjob, hscan, haxes, hcams, hmelt, hreg, hlink, hpair, hwork, hsteps, hlight, htemp, hpower, hanalog, hmem, hflash, hseen, hfreeCtr, hout, hpending]

@[simp] theorem beforeValues_hide (s : State) (inp : TickInputs)  (ps : List Part) (hticks : .ticks ∈ ps) (htime : .time ∈ ps) (hfaults :
    .faults ∈ ps) (hpins : .pins ∈ ps) (hqueues : .queues ∈ ps) (hhost : .host ∈ ps) (hjob : .job ∈ ps) (hscan : .scan ∈ ps) (haxes :
    .axes ∈ ps) (hpair : .pair ∈ ps) (hwork : .work ∈ ps) (hsteps : .steps ∈ ps) (hpower : .power ∈ ps) (hanalog : .analog ∈ ps) (hmem :
    .mem ∈ ps) (hout : .out ∈ ps) : (beforeValues s inp).hide ps = s.hide ps := by
  simp [beforeValues, hticks, htime, hfaults, hpins, hqueues, hhost, hjob, hscan, haxes, hpair, hwork, hsteps, hpower, hanalog, hmem, hout]

@[simp] theorem boundary_hide (s : State) (inp : TickInputs)  (ps : List Part) (hticks : .ticks ∈ ps) (htime : .time ∈ ps) (hstart :
    .start ∈ ps) (hfaults : .faults ∈ ps) (hvalues : .values ∈ ps) (hdict : .dict ∈ ps) (hpins : .pins ∈ ps) (hqueues : .queues ∈ ps)
    (hhost : .host ∈ ps) (hjob : .job ∈ ps) (hscan : .scan ∈ ps) (haxes : .axes ∈ ps) (hcams : .cams ∈ ps) (hmelt : .melt ∈ ps) (hreg :
    .reg ∈ ps) (hlink : .link ∈ ps) (hpair : .pair ∈ ps) (hwork : .work ∈ ps) (hsteps : .steps ∈ ps) (hlight : .light ∈ ps) (htemp : .temp
    ∈ ps) (hpower : .power ∈ ps) (hanalog : .analog ∈ ps) (hmem : .mem ∈ ps) (hflash : .flash ∈ ps) (hseen : .seen ∈ ps) (hfreeCtr :
    .freeCtr ∈ ps) (hout : .out ∈ ps) (hpending : .pending ∈ ps) : (boundary s inp).hide ps = s.hide ps := by
  simp [boundary, hticks, htime, hstart, hfaults, hvalues, hdict, hpins, hqueues, hhost, hjob, hscan, haxes, hcams, hmelt, hreg, hlink, hpair, hwork, hsteps, hlight, htemp, hpower, hanalog, hmem, hflash, hseen, hfreeCtr, hout, hpending]

@[simp] theorem sampleBlocks_hide (s : State)  (ps : List Part) (hseen : .seen ∈ ps) : (sampleBlocks s).hide ps = s.hide ps := by
  simp [sampleBlocks, hseen]

@[simp] theorem snapshotBlocks_hide (s : State)  (ps : List Part) (htime : .time ∈ ps) (hqueues : .queues ∈ ps) (hseen : .seen ∈ ps) :
    (snapshotBlocks s).hide ps = s.hide ps := by
  have h : ∀ (s : State) (b : Blocks), State.hide ps { s with seen := b, time := { s.time with staleSnapshot := false } } = s.hide ps := by
    intro s b
    simp [State.hide, htime, hseen]
  unfold snapshotBlocks
  rw [h]
  simp [hqueues]

@[simp] theorem judgeArrivals_hide (s : State)  (ps : List Part) (hfaults : .faults ∈ ps) (hscan : .scan ∈ ps) (haxes : .axes ∈ ps) (hcams
    : .cams ∈ ps) (hmelt : .melt ∈ ps) (hlink : .link ∈ ps) (hwork : .work ∈ ps) (hsteps : .steps ∈ ps) (hlight : .light ∈ ps) (htemp :
    .temp ∈ ps) (hanalog : .analog ∈ ps) : (judgeArrivals s).hide ps = s.hide ps := by
  simp [judgeArrivals, hfaults, hscan, haxes, hcams, hmelt, hlink, hwork, hsteps, hlight, htemp, hanalog]

@[simp] theorem phaseTwo_hide (s : State)  (ps : List Part) (hfaults : .faults ∈ ps) (hqueues : .queues ∈ ps) (hscan : .scan ∈ ps) (haxes
    : .axes ∈ ps) (hmelt : .melt ∈ ps) (hreg : .reg ∈ ps) (hlink : .link ∈ ps) (hsteps : .steps ∈ ps) : (phaseTwo s).hide ps = s.hide ps
    := by
  simp [phaseTwo, hfaults, hqueues, hscan, haxes, hmelt, hreg, hlink, hsteps]

@[simp] theorem phaseThree_hide (s : State)  (ps : List Part) (htime : .time ∈ ps) (hfaults : .faults ∈ ps) (hdict : .dict ∈ ps) (haxes :
    .axes ∈ ps) (hreg : .reg ∈ ps) (hlink : .link ∈ ps) (hpair : .pair ∈ ps) (hwork : .work ∈ ps) (hout : .out ∈ ps) : (phaseThree s).hide
    ps = s.hide ps := by
  simp [phaseThree, htime, hfaults, hdict, haxes, hreg, hlink, hpair, hwork, hout]

@[simp] theorem phaseFour_hide (s : State)  (ps : List Part) (hfaults : .faults ∈ ps) (hqueues : .queues ∈ ps) (hhost : .host ∈ ps) (hjob
    : .job ∈ ps) (hscan : .scan ∈ ps) (hcams : .cams ∈ ps) (hmelt : .melt ∈ ps) (hreg : .reg ∈ ps) (hpair : .pair ∈ ps) (hwork : .work ∈
    ps) (hsteps : .steps ∈ ps) (htemp : .temp ∈ ps) (hout : .out ∈ ps) : (phaseFour s).hide ps = s.hide ps := by
  simp [phaseFour, hfaults, hqueues, hhost, hjob, hscan, hcams, hmelt, hreg, hpair, hwork, hsteps, htemp, hout]

@[simp] theorem startTick_hide (s : State)  (ps : List Part) (htime : .time ∈ ps) (hfaults : .faults ∈ ps) (hqueues : .queues ∈ ps) (hhost
    : .host ∈ ps) (hcams : .cams ∈ ps) (hmelt : .melt ∈ ps) (hlink : .link ∈ ps) (hwork : .work ∈ ps) (hout : .out ∈ ps) : (startTick
    s).hide ps = s.hide ps := by
  simp [startTick, htime, hfaults, hqueues, hhost, hcams, hmelt, hlink, hwork, hout]

@[simp] theorem finishTick_hide (s : State)  (ps : List Part) (htime : .time ∈ ps) (hfaults : .faults ∈ ps) (hdict : .dict ∈ ps) (hqueues
    : .queues ∈ ps) (hhost : .host ∈ ps) (hjob : .job ∈ ps) (hscan : .scan ∈ ps) (haxes : .axes ∈ ps) (hcams : .cams ∈ ps) (hmelt : .melt
    ∈ ps) (hreg : .reg ∈ ps) (hlink : .link ∈ ps) (hpair : .pair ∈ ps) (hwork : .work ∈ ps) (hsteps : .steps ∈ ps) (hlight : .light ∈ ps)
    (htemp : .temp ∈ ps) (hanalog : .analog ∈ ps) (hout : .out ∈ ps) : (finishTick s).hide ps = s.hide ps := by
  simp [finishTick, htime, hfaults, hdict, hqueues, hhost, hjob, hscan, haxes, hcams, hmelt, hreg, hlink, hpair, hwork, hsteps, hlight, htemp, hanalog, hout]

@[simp] theorem endTick_hide (s : State)  (ps : List Part) (htime : .time ∈ ps) (hfaults : .faults ∈ ps) (hdict : .dict ∈ ps) (hqueues :
    .queues ∈ ps) (hhost : .host ∈ ps) (hjob : .job ∈ ps) (hscan : .scan ∈ ps) (haxes : .axes ∈ ps) (hcams : .cams ∈ ps) (hmelt : .melt ∈
    ps) (hreg : .reg ∈ ps) (hlink : .link ∈ ps) (hpair : .pair ∈ ps) (hwork : .work ∈ ps) (hsteps : .steps ∈ ps) (hlight : .light ∈ ps)
    (htemp : .temp ∈ ps) (hanalog : .analog ∈ ps) (hout : .out ∈ ps) : (endTick s).hide ps = s.hide ps := by
  simp [endTick, htime, hfaults, hdict, hqueues, hhost, hjob, hscan, haxes, hcams, hmelt, hreg, hlink, hpair, hwork, hsteps, hlight, htemp, hanalog, hout]

@[simp] theorem openTick_hide (s : State)  (ps : List Part) (htime : .time ∈ ps) (hfaults : .faults ∈ ps) (hjob : .job ∈ ps) (haxes :
    .axes ∈ ps) (hlink : .link ∈ ps) : (openTick s).hide ps = s.hide ps := by
  simp [openTick, State.hide, htime, hfaults, hjob, haxes, hlink]

@[simp] theorem tick_hide (s : State) (inp : TickInputs)  (ps : List Part) (hticks : .ticks ∈ ps) (htime : .time ∈ ps) (hstart : .start ∈
    ps) (hfaults : .faults ∈ ps) (hvalues : .values ∈ ps) (hdict : .dict ∈ ps) (hpins : .pins ∈ ps) (hqueues : .queues ∈ ps) (hhost :
    .host ∈ ps) (hjob : .job ∈ ps) (hscan : .scan ∈ ps) (haxes : .axes ∈ ps) (hcams : .cams ∈ ps) (hmelt : .melt ∈ ps) (hreg : .reg ∈ ps)
    (hlink : .link ∈ ps) (hpair : .pair ∈ ps) (hwork : .work ∈ ps) (hsteps : .steps ∈ ps) (hlight : .light ∈ ps) (htemp : .temp ∈ ps)
    (hpower : .power ∈ ps) (hanalog : .analog ∈ ps) (hmem : .mem ∈ ps) (hflash : .flash ∈ ps) (hseen : .seen ∈ ps) (hfreeCtr : .freeCtr ∈
    ps) (hout : .out ∈ ps) (hpending : .pending ∈ ps) : (tick s inp).hide ps = s.hide ps := by
  simp [tick, hticks, htime, hstart, hfaults, hvalues, hdict, hpins, hqueues, hhost, hjob, hscan, haxes, hcams, hmelt, hreg, hlink, hpair, hwork, hsteps, hlight, htemp, hpower, hanalog, hmem, hflash, hseen, hfreeCtr, hout, hpending]

@[simp] theorem rebuildFrame_hide (s : State) (p : Nat)  (ps : List Part) (hlink : .link ∈ ps) (hout : .out ∈ ps) : (rebuildFrame s
    p).hide ps = s.hide ps := by
  simp [rebuildFrame, hlink, hout]

@[simp] theorem overrunAction_hide (s : State) (m : Monitor)  (ps : List Part) (htime : .time ∈ ps) (hfaults : .faults ∈ ps) (hscan :
    .scan ∈ ps) (haxes : .axes ∈ ps) (hmelt : .melt ∈ ps) (hlink : .link ∈ ps) (hpair : .pair ∈ ps) (hwork : .work ∈ ps) (hout : .out ∈
    ps) : (overrunAction s m).hide ps = s.hide ps := by
  unfold overrunAction
  (repeat' split) <;> simp [htime, hfaults, hscan, haxes, hmelt, hlink, hpair, hwork, hout]

@[simp] theorem overrun_hide (s : State) (m : Monitor)  (ps : List Part) (htime : .time ∈ ps) (hfaults : .faults ∈ ps) (hdict : .dict ∈
    ps) (hqueues : .queues ∈ ps) (hhost : .host ∈ ps) (hjob : .job ∈ ps) (hscan : .scan ∈ ps) (haxes : .axes ∈ ps) (hcams : .cams ∈ ps)
    (hmelt : .melt ∈ ps) (hreg : .reg ∈ ps) (hlink : .link ∈ ps) (hpair : .pair ∈ ps) (hwork : .work ∈ ps) (hsteps : .steps ∈ ps) (hlight
    : .light ∈ ps) (htemp : .temp ∈ ps) (hanalog : .analog ∈ ps) (hout : .out ∈ ps) : (overrun s m).hide ps = s.hide ps := by
  unfold overrun
  (repeat' split) <;> simp [htime, hfaults, hdict, hqueues, hhost, hjob, hscan, haxes, hcams, hmelt, hreg, hlink, hpair, hwork, hsteps, hlight, htemp, hanalog, hout]

@[simp] theorem uncorrectableWord_hide (s : State) (location : Nat) (address : Nat) (region : Nat) (foundBy : Nat) (item : Nat)  (ps :
    List Part) (htime : .time ∈ ps) (hfaults : .faults ∈ ps) (hdict : .dict ∈ ps) (hqueues : .queues ∈ ps) (hhost : .host ∈ ps) (hjob :
    .job ∈ ps) (hscan : .scan ∈ ps) (haxes : .axes ∈ ps) (hcams : .cams ∈ ps) (hmelt : .melt ∈ ps) (hreg : .reg ∈ ps) (hlink : .link ∈ ps)
    (hpair : .pair ∈ ps) (hwork : .work ∈ ps) (hsteps : .steps ∈ ps) (hlight : .light ∈ ps) (htemp : .temp ∈ ps) (hanalog : .analog ∈ ps)
    (hmem : .mem ∈ ps) (hout : .out ∈ ps) : (uncorrectableWord s location address region foundBy item).hide ps = s.hide ps := by
  unfold uncorrectableWord
  (repeat' split) <;> simp [htime, hfaults, hdict, hqueues, hhost, hjob, hscan, haxes, hcams, hmelt, hreg, hlink, hpair, hwork, hsteps, hlight, htemp, hanalog, hmem, hout]

end Sys2Proof.Machine
end

