-- ==== Sys2Proof/Laws/State.lean ====
section
/-! SUPPORT. What each update of the state leaves as it was, and what it makes of its own part: one equation per field. -/

namespace Sys2Proof.Machine

/-- The element replaced. -/
@[simp] theorem getI_updI_self {α : Type} [Inhabited α] {n : Nat} (v : Vector α n) (i : Nat) (h : i < n) (f : α → α) :
    getI (updI v i f) i = f (getI v i) := by
  simp [getI, updI, h]

/-- The other elements. -/
theorem getI_updI_ne {α : Type} [Inhabited α] {n : Nat} (v : Vector α n) (i k : Nat) (h : k ≠ i) (f : α → α) :
    getI (updI v i f) k = getI v k := by
  unfold getI updI
  split
  · rw [Vector.getElem?_set_ne]
    exact fun e => h e.symm
  · rfl

/-- An element after another one, or itself, is replaced. -/
theorem getI_updI {α : Type} [Inhabited α] {n : Nat} (v : Vector α n) (i k : Nat) (f : α → α) :
    getI (updI v i f) k = if k = i ∧ i < n then f (getI v i) else getI v k := by
  by_cases h : k = i
  · subst h
    by_cases hn : k < n
    · simp [hn]
    · simp [getI, updI, hn]
  · simp [h, getI_updI_ne]

/-- Two updates of one element that agree there are one. -/
theorem updI_congr {α : Type} [Inhabited α] {n : Nat} (v : Vector α n) (i : Nat) (f g : α → α) (h : f (getI v i) = g (getI v i)) :
    updI v i f = updI v i g := by
  unfold updI
  split
  · next hi => simp [getI, hi] at h; rw [h]
  · rfl

@[simp] theorem updTrim_keeps (s : State) (j : Nat) (f : Trim → Trim) :
    (s.updTrim j f).time = s.time ∧ (s.updTrim j f).start = s.start ∧ (s.updTrim j f).faults = s.faults ∧
    (s.updTrim j f).dict = s.dict ∧ (s.updTrim j f).pins = s.pins ∧ (s.updTrim j f).queues = s.queues ∧
    (s.updTrim j f).host = s.host ∧ (s.updTrim j f).job = s.job ∧ (s.updTrim j f).scan = s.scan ∧ (s.updTrim j f).axes = s.axes ∧
    (s.updTrim j f).cams = s.cams ∧ (s.updTrim j f).melt = s.melt ∧ (s.updTrim j f).reg = s.reg ∧ (s.updTrim j f).link = s.link ∧
    (s.updTrim j f).pair = s.pair ∧ (s.updTrim j f).work = s.work ∧ (s.updTrim j f).steps = s.steps ∧
    (s.updTrim j f).light = s.light ∧ (s.updTrim j f).temp = s.temp ∧ (s.updTrim j f).power = s.power ∧
    (s.updTrim j f).mem = s.mem ∧ (s.updTrim j f).flash = s.flash ∧ (s.updTrim j f).sampled = s.sampled ∧
    (s.updTrim j f).seen = s.seen ∧ (s.updTrim j f).freeCtr = s.freeCtr ∧ (s.updTrim j f).out = s.out ∧
    (s.updTrim j f).pending = s.pending :=
  ⟨rfl, rfl, rfl, rfl, rfl, rfl, rfl, rfl, rfl, rfl, rfl, rfl, rfl, rfl, rfl, rfl, rfl, rfl, rfl, rfl, rfl, rfl, rfl, rfl, rfl, rfl, rfl⟩

@[simp] theorem updTrim_analog (s : State) (j : Nat) (f : Trim → Trim) :
    (s.updTrim j f).analog = { s.analog with trims := updI s.analog.trims j f } := rfl

@[simp] theorem updAnalog_keeps (s : State) (n : Nat) (f : Analog → Analog) :
    (s.updAnalog n f).time = s.time ∧ (s.updAnalog n f).start = s.start ∧ (s.updAnalog n f).faults = s.faults ∧
    (s.updAnalog n f).dict = s.dict ∧ (s.updAnalog n f).pins = s.pins ∧ (s.updAnalog n f).queues = s.queues ∧
    (s.updAnalog n f).host = s.host ∧ (s.updAnalog n f).job = s.job ∧ (s.updAnalog n f).scan = s.scan ∧
    (s.updAnalog n f).axes = s.axes ∧ (s.updAnalog n f).cams = s.cams ∧ (s.updAnalog n f).melt = s.melt ∧
    (s.updAnalog n f).reg = s.reg ∧ (s.updAnalog n f).link = s.link ∧ (s.updAnalog n f).pair = s.pair ∧
    (s.updAnalog n f).work = s.work ∧ (s.updAnalog n f).steps = s.steps ∧ (s.updAnalog n f).light = s.light ∧
    (s.updAnalog n f).temp = s.temp ∧ (s.updAnalog n f).power = s.power ∧ (s.updAnalog n f).mem = s.mem ∧
    (s.updAnalog n f).flash = s.flash ∧ (s.updAnalog n f).sampled = s.sampled ∧ (s.updAnalog n f).seen = s.seen ∧
    (s.updAnalog n f).freeCtr = s.freeCtr ∧ (s.updAnalog n f).out = s.out ∧ (s.updAnalog n f).pending = s.pending :=
  ⟨rfl, rfl, rfl, rfl, rfl, rfl, rfl, rfl, rfl, rfl, rfl, rfl, rfl, rfl, rfl, rfl, rfl, rfl, rfl, rfl, rfl, rfl, rfl, rfl, rfl, rfl, rfl⟩

@[simp] theorem updAnalog_analog (s : State) (n : Nat) (f : Analog → Analog) :
    (s.updAnalog n f).analog = { s.analog with channels := updI s.analog.channels n f } := rfl

@[simp] theorem updPortC_keeps (s : State) (c : Nat) (f : CamPort → CamPort) :
    (s.updPortC c f).time = s.time ∧ (s.updPortC c f).start = s.start ∧ (s.updPortC c f).faults = s.faults ∧
    (s.updPortC c f).dict = s.dict ∧ (s.updPortC c f).pins = s.pins ∧ (s.updPortC c f).queues = s.queues ∧
    (s.updPortC c f).host = s.host ∧ (s.updPortC c f).job = s.job ∧ (s.updPortC c f).scan = s.scan ∧
    (s.updPortC c f).axes = s.axes ∧ (s.updPortC c f).melt = s.melt ∧ (s.updPortC c f).reg = s.reg ∧
    (s.updPortC c f).link = s.link ∧ (s.updPortC c f).pair = s.pair ∧ (s.updPortC c f).work = s.work ∧
    (s.updPortC c f).steps = s.steps ∧ (s.updPortC c f).light = s.light ∧ (s.updPortC c f).temp = s.temp ∧
    (s.updPortC c f).power = s.power ∧ (s.updPortC c f).analog = s.analog ∧ (s.updPortC c f).mem = s.mem ∧
    (s.updPortC c f).flash = s.flash ∧ (s.updPortC c f).sampled = s.sampled ∧ (s.updPortC c f).seen = s.seen ∧
    (s.updPortC c f).freeCtr = s.freeCtr ∧ (s.updPortC c f).out = s.out ∧ (s.updPortC c f).pending = s.pending :=
  ⟨rfl, rfl, rfl, rfl, rfl, rfl, rfl, rfl, rfl, rfl, rfl, rfl, rfl, rfl, rfl, rfl, rfl, rfl, rfl, rfl, rfl, rfl, rfl, rfl, rfl, rfl, rfl⟩

@[simp] theorem updPortC_cams (s : State) (c : Nat) (f : CamPort → CamPort) :
    (s.updPortC c f).cams = { s.cams with ports := updI s.cams.ports c f } := rfl

@[simp] theorem updCtx_keeps (s : State) (i : Nat) (f : ImageCtx → ImageCtx) :
    (s.updCtx i f).time = s.time ∧ (s.updCtx i f).start = s.start ∧ (s.updCtx i f).faults = s.faults ∧
    (s.updCtx i f).dict = s.dict ∧ (s.updCtx i f).pins = s.pins ∧ (s.updCtx i f).queues = s.queues ∧ (s.updCtx i f).host = s.host ∧
    (s.updCtx i f).job = s.job ∧ (s.updCtx i f).scan = s.scan ∧ (s.updCtx i f).axes = s.axes ∧ (s.updCtx i f).melt = s.melt ∧
    (s.updCtx i f).reg = s.reg ∧ (s.updCtx i f).link = s.link ∧ (s.updCtx i f).pair = s.pair ∧ (s.updCtx i f).work = s.work ∧
    (s.updCtx i f).steps = s.steps ∧ (s.updCtx i f).light = s.light ∧ (s.updCtx i f).temp = s.temp ∧
    (s.updCtx i f).power = s.power ∧ (s.updCtx i f).analog = s.analog ∧ (s.updCtx i f).mem = s.mem ∧
    (s.updCtx i f).flash = s.flash ∧ (s.updCtx i f).sampled = s.sampled ∧ (s.updCtx i f).seen = s.seen ∧
    (s.updCtx i f).freeCtr = s.freeCtr ∧ (s.updCtx i f).out = s.out ∧ (s.updCtx i f).pending = s.pending :=
  ⟨rfl, rfl, rfl, rfl, rfl, rfl, rfl, rfl, rfl, rfl, rfl, rfl, rfl, rfl, rfl, rfl, rfl, rfl, rfl, rfl, rfl, rfl, rfl, rfl, rfl, rfl, rfl⟩

@[simp] theorem updCtx_cams (s : State) (i : Nat) (f : ImageCtx → ImageCtx) :
    (s.updCtx i f).cams = { s.cams with ctxs := updI s.cams.ctxs i f } := rfl

@[simp] theorem updStream_keeps (s : State) (c v : Nat) (f : CamStream → CamStream) :
    (s.updStream c v f).time = s.time ∧ (s.updStream c v f).start = s.start ∧ (s.updStream c v f).faults = s.faults ∧
    (s.updStream c v f).dict = s.dict ∧ (s.updStream c v f).pins = s.pins ∧ (s.updStream c v f).queues = s.queues ∧
    (s.updStream c v f).host = s.host ∧ (s.updStream c v f).job = s.job ∧ (s.updStream c v f).scan = s.scan ∧
    (s.updStream c v f).axes = s.axes ∧ (s.updStream c v f).melt = s.melt ∧ (s.updStream c v f).reg = s.reg ∧
    (s.updStream c v f).link = s.link ∧ (s.updStream c v f).pair = s.pair ∧ (s.updStream c v f).work = s.work ∧
    (s.updStream c v f).steps = s.steps ∧ (s.updStream c v f).light = s.light ∧ (s.updStream c v f).temp = s.temp ∧
    (s.updStream c v f).power = s.power ∧ (s.updStream c v f).analog = s.analog ∧ (s.updStream c v f).mem = s.mem ∧
    (s.updStream c v f).flash = s.flash ∧ (s.updStream c v f).sampled = s.sampled ∧ (s.updStream c v f).seen = s.seen ∧
    (s.updStream c v f).freeCtr = s.freeCtr ∧ (s.updStream c v f).out = s.out ∧ (s.updStream c v f).pending = s.pending :=
  ⟨rfl, rfl, rfl, rfl, rfl, rfl, rfl, rfl, rfl, rfl, rfl, rfl, rfl, rfl, rfl, rfl, rfl, rfl, rfl, rfl, rfl, rfl, rfl, rfl, rfl, rfl, rfl⟩

theorem updStream_cams (s : State) (c v : Nat) (f : CamStream → CamStream) :
    (s.updStream c v f).cams = (s.updPortC c (fun p => { p with streams := updI p.streams v f })).cams := rfl

@[simp] theorem updDict_keeps (s : State) (f : DictState → DictState) :
    (s.updDict f).time = s.time ∧ (s.updDict f).start = s.start ∧ (s.updDict f).faults = s.faults ∧ (s.updDict f).pins = s.pins ∧
    (s.updDict f).queues = s.queues ∧ (s.updDict f).host = s.host ∧ (s.updDict f).job = s.job ∧ (s.updDict f).scan = s.scan ∧
    (s.updDict f).axes = s.axes ∧ (s.updDict f).cams = s.cams ∧ (s.updDict f).melt = s.melt ∧ (s.updDict f).reg = s.reg ∧
    (s.updDict f).link = s.link ∧ (s.updDict f).pair = s.pair ∧ (s.updDict f).work = s.work ∧ (s.updDict f).steps = s.steps ∧
    (s.updDict f).light = s.light ∧ (s.updDict f).temp = s.temp ∧ (s.updDict f).power = s.power ∧ (s.updDict f).analog = s.analog ∧
    (s.updDict f).mem = s.mem ∧ (s.updDict f).flash = s.flash ∧ (s.updDict f).sampled = s.sampled ∧ (s.updDict f).seen = s.seen ∧
    (s.updDict f).freeCtr = s.freeCtr ∧ (s.updDict f).out = s.out ∧ (s.updDict f).pending = s.pending :=
  ⟨rfl, rfl, rfl, rfl, rfl, rfl, rfl, rfl, rfl, rfl, rfl, rfl, rfl, rfl, rfl, rfl, rfl, rfl, rfl, rfl, rfl, rfl, rfl, rfl, rfl, rfl, rfl⟩

@[simp] theorem updDict_dict (s : State) (f : DictState → DictState) :
    (s.updDict f).dict = f s.dict := rfl

@[simp] theorem updDest_keeps (s : State) (d : Nat) (f : Destination → Destination) :
    (s.updDest d f).time = s.time ∧ (s.updDest d f).start = s.start ∧ (s.updDest d f).faults = s.faults ∧
    (s.updDest d f).dict = s.dict ∧ (s.updDest d f).pins = s.pins ∧ (s.updDest d f).queues = s.queues ∧
    (s.updDest d f).job = s.job ∧ (s.updDest d f).scan = s.scan ∧ (s.updDest d f).axes = s.axes ∧ (s.updDest d f).cams = s.cams ∧
    (s.updDest d f).melt = s.melt ∧ (s.updDest d f).reg = s.reg ∧ (s.updDest d f).link = s.link ∧ (s.updDest d f).pair = s.pair ∧
    (s.updDest d f).work = s.work ∧ (s.updDest d f).steps = s.steps ∧ (s.updDest d f).light = s.light ∧
    (s.updDest d f).temp = s.temp ∧ (s.updDest d f).power = s.power ∧ (s.updDest d f).analog = s.analog ∧
    (s.updDest d f).mem = s.mem ∧ (s.updDest d f).flash = s.flash ∧ (s.updDest d f).sampled = s.sampled ∧
    (s.updDest d f).seen = s.seen ∧ (s.updDest d f).freeCtr = s.freeCtr ∧ (s.updDest d f).out = s.out ∧
    (s.updDest d f).pending = s.pending :=
  ⟨rfl, rfl, rfl, rfl, rfl, rfl, rfl, rfl, rfl, rfl, rfl, rfl, rfl, rfl, rfl, rfl, rfl, rfl, rfl, rfl, rfl, rfl, rfl, rfl, rfl, rfl, rfl⟩

@[simp] theorem updDest_host (s : State) (d : Nat) (f : Destination → Destination) :
    (s.updDest d f).host = { s.host with dests := updI s.host.dests d f } := rfl

@[simp] theorem fillQueue_keeps (s : State) (q bytes : Nat) :
    (s.fillQueue q bytes).time = s.time ∧ (s.fillQueue q bytes).start = s.start ∧ (s.fillQueue q bytes).faults = s.faults ∧
    (s.fillQueue q bytes).dict = s.dict ∧ (s.fillQueue q bytes).pins = s.pins ∧ (s.fillQueue q bytes).host = s.host ∧
    (s.fillQueue q bytes).job = s.job ∧ (s.fillQueue q bytes).scan = s.scan ∧ (s.fillQueue q bytes).axes = s.axes ∧
    (s.fillQueue q bytes).cams = s.cams ∧ (s.fillQueue q bytes).melt = s.melt ∧ (s.fillQueue q bytes).reg = s.reg ∧
    (s.fillQueue q bytes).link = s.link ∧ (s.fillQueue q bytes).pair = s.pair ∧ (s.fillQueue q bytes).work = s.work ∧
    (s.fillQueue q bytes).steps = s.steps ∧ (s.fillQueue q bytes).light = s.light ∧ (s.fillQueue q bytes).temp = s.temp ∧
    (s.fillQueue q bytes).power = s.power ∧ (s.fillQueue q bytes).analog = s.analog ∧ (s.fillQueue q bytes).mem = s.mem ∧
    (s.fillQueue q bytes).flash = s.flash ∧ (s.fillQueue q bytes).sampled = s.sampled ∧ (s.fillQueue q bytes).seen = s.seen ∧
    (s.fillQueue q bytes).freeCtr = s.freeCtr ∧ (s.fillQueue q bytes).out = s.out ∧ (s.fillQueue q bytes).pending = s.pending :=
  ⟨rfl, rfl, rfl, rfl, rfl, rfl, rfl, rfl, rfl, rfl, rfl, rfl, rfl, rfl, rfl, rfl, rfl, rfl, rfl, rfl, rfl, rfl, rfl, rfl, rfl, rfl, rfl⟩

@[simp] theorem fillQueue_queues (s : State) (q bytes : Nat) :
    (s.fillQueue q bytes).queues = updI s.queues q (fun x => { x with placed := x.placed + bytes }) := rfl

@[simp] theorem updEth_keeps (s : State) (p : Nat) (f : EthPort → EthPort) :
    (s.updEth p f).time = s.time ∧ (s.updEth p f).start = s.start ∧ (s.updEth p f).faults = s.faults ∧
    (s.updEth p f).dict = s.dict ∧ (s.updEth p f).pins = s.pins ∧ (s.updEth p f).queues = s.queues ∧ (s.updEth p f).job = s.job ∧
    (s.updEth p f).scan = s.scan ∧ (s.updEth p f).axes = s.axes ∧ (s.updEth p f).cams = s.cams ∧ (s.updEth p f).melt = s.melt ∧
    (s.updEth p f).reg = s.reg ∧ (s.updEth p f).link = s.link ∧ (s.updEth p f).pair = s.pair ∧ (s.updEth p f).work = s.work ∧
    (s.updEth p f).steps = s.steps ∧ (s.updEth p f).light = s.light ∧ (s.updEth p f).temp = s.temp ∧
    (s.updEth p f).power = s.power ∧ (s.updEth p f).analog = s.analog ∧ (s.updEth p f).mem = s.mem ∧
    (s.updEth p f).flash = s.flash ∧ (s.updEth p f).sampled = s.sampled ∧ (s.updEth p f).seen = s.seen ∧
    (s.updEth p f).freeCtr = s.freeCtr ∧ (s.updEth p f).out = s.out ∧ (s.updEth p f).pending = s.pending :=
  ⟨rfl, rfl, rfl, rfl, rfl, rfl, rfl, rfl, rfl, rfl, rfl, rfl, rfl, rfl, rfl, rfl, rfl, rfl, rfl, rfl, rfl, rfl, rfl, rfl, rfl, rfl, rfl⟩

@[simp] theorem updEth_host (s : State) (p : Nat) (f : EthPort → EthPort) :
    (s.updEth p f).host = { s.host with ports := updI s.host.ports p f } := rfl

@[simp] theorem updHost_keeps (s : State) (f : HostState → HostState) :
    (s.updHost f).time = s.time ∧ (s.updHost f).start = s.start ∧ (s.updHost f).faults = s.faults ∧ (s.updHost f).dict = s.dict ∧
    (s.updHost f).pins = s.pins ∧ (s.updHost f).queues = s.queues ∧ (s.updHost f).job = s.job ∧ (s.updHost f).scan = s.scan ∧
    (s.updHost f).axes = s.axes ∧ (s.updHost f).cams = s.cams ∧ (s.updHost f).melt = s.melt ∧ (s.updHost f).reg = s.reg ∧
    (s.updHost f).link = s.link ∧ (s.updHost f).pair = s.pair ∧ (s.updHost f).work = s.work ∧ (s.updHost f).steps = s.steps ∧
    (s.updHost f).light = s.light ∧ (s.updHost f).temp = s.temp ∧ (s.updHost f).power = s.power ∧ (s.updHost f).analog = s.analog ∧
    (s.updHost f).mem = s.mem ∧ (s.updHost f).flash = s.flash ∧ (s.updHost f).sampled = s.sampled ∧ (s.updHost f).seen = s.seen ∧
    (s.updHost f).freeCtr = s.freeCtr ∧ (s.updHost f).out = s.out ∧ (s.updHost f).pending = s.pending :=
  ⟨rfl, rfl, rfl, rfl, rfl, rfl, rfl, rfl, rfl, rfl, rfl, rfl, rfl, rfl, rfl, rfl, rfl, rfl, rfl, rfl, rfl, rfl, rfl, rfl, rfl, rfl, rfl⟩

@[simp] theorem updHost_host (s : State) (f : HostState → HostState) :
    (s.updHost f).host = f s.host := rfl

@[simp] theorem updReg_keeps (s : State) (f : FenState → FenState) :
    (s.updReg f).time = s.time ∧ (s.updReg f).start = s.start ∧ (s.updReg f).faults = s.faults ∧ (s.updReg f).dict = s.dict ∧
    (s.updReg f).pins = s.pins ∧ (s.updReg f).queues = s.queues ∧ (s.updReg f).host = s.host ∧ (s.updReg f).job = s.job ∧
    (s.updReg f).scan = s.scan ∧ (s.updReg f).axes = s.axes ∧ (s.updReg f).cams = s.cams ∧ (s.updReg f).melt = s.melt ∧
    (s.updReg f).link = s.link ∧ (s.updReg f).pair = s.pair ∧ (s.updReg f).work = s.work ∧ (s.updReg f).steps = s.steps ∧
    (s.updReg f).light = s.light ∧ (s.updReg f).temp = s.temp ∧ (s.updReg f).power = s.power ∧ (s.updReg f).analog = s.analog ∧
    (s.updReg f).mem = s.mem ∧ (s.updReg f).flash = s.flash ∧ (s.updReg f).sampled = s.sampled ∧ (s.updReg f).seen = s.seen ∧
    (s.updReg f).freeCtr = s.freeCtr ∧ (s.updReg f).out = s.out ∧ (s.updReg f).pending = s.pending :=
  ⟨rfl, rfl, rfl, rfl, rfl, rfl, rfl, rfl, rfl, rfl, rfl, rfl, rfl, rfl, rfl, rfl, rfl, rfl, rfl, rfl, rfl, rfl, rfl, rfl, rfl, rfl, rfl⟩

@[simp] theorem updReg_reg (s : State) (f : FenState → FenState) :
    (s.updReg f).reg = f s.reg := rfl

@[simp] theorem updFen_keeps (s : State) (z : Nat) (f : FenStatus → FenStatus) :
    (s.updFen z f).time = s.time ∧ (s.updFen z f).start = s.start ∧ (s.updFen z f).faults = s.faults ∧
    (s.updFen z f).dict = s.dict ∧ (s.updFen z f).pins = s.pins ∧ (s.updFen z f).queues = s.queues ∧ (s.updFen z f).host = s.host ∧
    (s.updFen z f).job = s.job ∧ (s.updFen z f).scan = s.scan ∧ (s.updFen z f).axes = s.axes ∧ (s.updFen z f).cams = s.cams ∧
    (s.updFen z f).melt = s.melt ∧ (s.updFen z f).link = s.link ∧ (s.updFen z f).pair = s.pair ∧ (s.updFen z f).work = s.work ∧
    (s.updFen z f).steps = s.steps ∧ (s.updFen z f).light = s.light ∧ (s.updFen z f).temp = s.temp ∧
    (s.updFen z f).power = s.power ∧ (s.updFen z f).analog = s.analog ∧ (s.updFen z f).mem = s.mem ∧
    (s.updFen z f).flash = s.flash ∧ (s.updFen z f).sampled = s.sampled ∧ (s.updFen z f).seen = s.seen ∧
    (s.updFen z f).freeCtr = s.freeCtr ∧ (s.updFen z f).out = s.out ∧ (s.updFen z f).pending = s.pending :=
  ⟨rfl, rfl, rfl, rfl, rfl, rfl, rfl, rfl, rfl, rfl, rfl, rfl, rfl, rfl, rfl, rfl, rfl, rfl, rfl, rfl, rfl, rfl, rfl, rfl, rfl, rfl, rfl⟩

theorem updFen_reg (s : State) (z : Nat) (f : FenStatus → FenStatus) :
    (s.updFen z f).reg = (s.updReg (fun x => { x with status := updI x.status z f })).reg := rfl

@[simp] theorem updGrid_keeps (s : State) (k : Nat) (f : GridStatus → GridStatus) :
    (s.updGrid k f).time = s.time ∧ (s.updGrid k f).start = s.start ∧ (s.updGrid k f).faults = s.faults ∧
    (s.updGrid k f).dict = s.dict ∧ (s.updGrid k f).pins = s.pins ∧ (s.updGrid k f).queues = s.queues ∧
    (s.updGrid k f).host = s.host ∧ (s.updGrid k f).job = s.job ∧ (s.updGrid k f).scan = s.scan ∧ (s.updGrid k f).axes = s.axes ∧
    (s.updGrid k f).cams = s.cams ∧ (s.updGrid k f).melt = s.melt ∧ (s.updGrid k f).link = s.link ∧ (s.updGrid k f).pair = s.pair ∧
    (s.updGrid k f).work = s.work ∧ (s.updGrid k f).steps = s.steps ∧ (s.updGrid k f).light = s.light ∧
    (s.updGrid k f).temp = s.temp ∧ (s.updGrid k f).power = s.power ∧ (s.updGrid k f).analog = s.analog ∧
    (s.updGrid k f).mem = s.mem ∧ (s.updGrid k f).flash = s.flash ∧ (s.updGrid k f).sampled = s.sampled ∧
    (s.updGrid k f).seen = s.seen ∧ (s.updGrid k f).freeCtr = s.freeCtr ∧ (s.updGrid k f).out = s.out ∧
    (s.updGrid k f).pending = s.pending :=
  ⟨rfl, rfl, rfl, rfl, rfl, rfl, rfl, rfl, rfl, rfl, rfl, rfl, rfl, rfl, rfl, rfl, rfl, rfl, rfl, rfl, rfl, rfl, rfl, rfl, rfl, rfl, rfl⟩

theorem updGrid_reg (s : State) (k : Nat) (f : GridStatus → GridStatus) :
    (s.updGrid k f).reg = (s.updReg (fun x => { x with scanners := updI x.scanners k f })).reg := rfl

@[simp] theorem updFirstLayer_keeps (s : State) (f : LayerSolve → LayerSolve) :
    (s.updFirstLayer f).time = s.time ∧ (s.updFirstLayer f).start = s.start ∧ (s.updFirstLayer f).faults = s.faults ∧
    (s.updFirstLayer f).dict = s.dict ∧ (s.updFirstLayer f).pins = s.pins ∧ (s.updFirstLayer f).queues = s.queues ∧
    (s.updFirstLayer f).host = s.host ∧ (s.updFirstLayer f).job = s.job ∧ (s.updFirstLayer f).scan = s.scan ∧
    (s.updFirstLayer f).axes = s.axes ∧ (s.updFirstLayer f).cams = s.cams ∧ (s.updFirstLayer f).melt = s.melt ∧
    (s.updFirstLayer f).link = s.link ∧ (s.updFirstLayer f).pair = s.pair ∧ (s.updFirstLayer f).work = s.work ∧
    (s.updFirstLayer f).steps = s.steps ∧ (s.updFirstLayer f).light = s.light ∧ (s.updFirstLayer f).temp = s.temp ∧
    (s.updFirstLayer f).power = s.power ∧ (s.updFirstLayer f).analog = s.analog ∧ (s.updFirstLayer f).mem = s.mem ∧
    (s.updFirstLayer f).flash = s.flash ∧ (s.updFirstLayer f).sampled = s.sampled ∧ (s.updFirstLayer f).seen = s.seen ∧
    (s.updFirstLayer f).freeCtr = s.freeCtr ∧ (s.updFirstLayer f).out = s.out ∧ (s.updFirstLayer f).pending = s.pending :=
  ⟨rfl, rfl, rfl, rfl, rfl, rfl, rfl, rfl, rfl, rfl, rfl, rfl, rfl, rfl, rfl, rfl, rfl, rfl, rfl, rfl, rfl, rfl, rfl, rfl, rfl, rfl, rfl⟩

theorem updFirstLayer_reg (s : State) (f : LayerSolve → LayerSolve) :
    (s.updFirstLayer f).reg = (s.updReg (fun x => { x with layers := match x.layers with | l :: r => f l :: r | [] => [] })).reg := rfl

@[simp] theorem updFlash_keeps (s : State) (f : FlashState → FlashState) :
    (s.updFlash f).time = s.time ∧ (s.updFlash f).start = s.start ∧ (s.updFlash f).faults = s.faults ∧
    (s.updFlash f).dict = s.dict ∧ (s.updFlash f).pins = s.pins ∧ (s.updFlash f).queues = s.queues ∧ (s.updFlash f).host = s.host ∧
    (s.updFlash f).job = s.job ∧ (s.updFlash f).scan = s.scan ∧ (s.updFlash f).axes = s.axes ∧ (s.updFlash f).cams = s.cams ∧
    (s.updFlash f).melt = s.melt ∧ (s.updFlash f).reg = s.reg ∧ (s.updFlash f).link = s.link ∧ (s.updFlash f).pair = s.pair ∧
    (s.updFlash f).work = s.work ∧ (s.updFlash f).steps = s.steps ∧ (s.updFlash f).light = s.light ∧ (s.updFlash f).temp = s.temp ∧
    (s.updFlash f).power = s.power ∧ (s.updFlash f).analog = s.analog ∧ (s.updFlash f).mem = s.mem ∧
    (s.updFlash f).sampled = s.sampled ∧ (s.updFlash f).seen = s.seen ∧ (s.updFlash f).freeCtr = s.freeCtr ∧
    (s.updFlash f).out = s.out ∧ (s.updFlash f).pending = s.pending :=
  ⟨rfl, rfl, rfl, rfl, rfl, rfl, rfl, rfl, rfl, rfl, rfl, rfl, rfl, rfl, rfl, rfl, rfl, rfl, rfl, rfl, rfl, rfl, rfl, rfl, rfl, rfl, rfl⟩

@[simp] theorem updFlash_flash (s : State) (f : FlashState → FlashState) :
    (s.updFlash f).flash = f s.flash := rfl

@[simp] theorem updJob_keeps (s : State) (f : JobState → JobState) :
    (s.updJob f).time = s.time ∧ (s.updJob f).start = s.start ∧ (s.updJob f).faults = s.faults ∧ (s.updJob f).dict = s.dict ∧
    (s.updJob f).pins = s.pins ∧ (s.updJob f).queues = s.queues ∧ (s.updJob f).host = s.host ∧ (s.updJob f).scan = s.scan ∧
    (s.updJob f).axes = s.axes ∧ (s.updJob f).cams = s.cams ∧ (s.updJob f).melt = s.melt ∧ (s.updJob f).reg = s.reg ∧
    (s.updJob f).link = s.link ∧ (s.updJob f).pair = s.pair ∧ (s.updJob f).work = s.work ∧ (s.updJob f).steps = s.steps ∧
    (s.updJob f).light = s.light ∧ (s.updJob f).temp = s.temp ∧ (s.updJob f).power = s.power ∧ (s.updJob f).analog = s.analog ∧
    (s.updJob f).mem = s.mem ∧ (s.updJob f).flash = s.flash ∧ (s.updJob f).sampled = s.sampled ∧ (s.updJob f).seen = s.seen ∧
    (s.updJob f).freeCtr = s.freeCtr ∧ (s.updJob f).out = s.out ∧ (s.updJob f).pending = s.pending :=
  ⟨rfl, rfl, rfl, rfl, rfl, rfl, rfl, rfl, rfl, rfl, rfl, rfl, rfl, rfl, rfl, rfl, rfl, rfl, rfl, rfl, rfl, rfl, rfl, rfl, rfl, rfl, rfl⟩

@[simp] theorem updJob_job (s : State) (f : JobState → JobState) :
    (s.updJob f).job = f s.job := rfl

@[simp] theorem updSession_keeps (s : State) (f : Session → Session) :
    (s.updSession f).time = s.time ∧ (s.updSession f).start = s.start ∧ (s.updSession f).faults = s.faults ∧
    (s.updSession f).dict = s.dict ∧ (s.updSession f).pins = s.pins ∧ (s.updSession f).queues = s.queues ∧
    (s.updSession f).job = s.job ∧ (s.updSession f).scan = s.scan ∧ (s.updSession f).axes = s.axes ∧
    (s.updSession f).cams = s.cams ∧ (s.updSession f).melt = s.melt ∧ (s.updSession f).reg = s.reg ∧
    (s.updSession f).link = s.link ∧ (s.updSession f).pair = s.pair ∧ (s.updSession f).work = s.work ∧
    (s.updSession f).steps = s.steps ∧ (s.updSession f).light = s.light ∧ (s.updSession f).temp = s.temp ∧
    (s.updSession f).power = s.power ∧ (s.updSession f).analog = s.analog ∧ (s.updSession f).mem = s.mem ∧
    (s.updSession f).flash = s.flash ∧ (s.updSession f).sampled = s.sampled ∧ (s.updSession f).seen = s.seen ∧
    (s.updSession f).freeCtr = s.freeCtr ∧ (s.updSession f).out = s.out ∧ (s.updSession f).pending = s.pending :=
  ⟨rfl, rfl, rfl, rfl, rfl, rfl, rfl, rfl, rfl, rfl, rfl, rfl, rfl, rfl, rfl, rfl, rfl, rfl, rfl, rfl, rfl, rfl, rfl, rfl, rfl, rfl, rfl⟩

@[simp] theorem updSession_host (s : State) (f : Session → Session) :
    (s.updSession f).host = { s.host with session := f s.host.session } := rfl

@[simp] theorem updLed_keeps (s : State) (l : Nat) (f : LedString → LedString) :
    (s.updLed l f).time = s.time ∧ (s.updLed l f).start = s.start ∧ (s.updLed l f).faults = s.faults ∧
    (s.updLed l f).dict = s.dict ∧ (s.updLed l f).pins = s.pins ∧ (s.updLed l f).queues = s.queues ∧ (s.updLed l f).host = s.host ∧
    (s.updLed l f).job = s.job ∧ (s.updLed l f).scan = s.scan ∧ (s.updLed l f).axes = s.axes ∧ (s.updLed l f).cams = s.cams ∧
    (s.updLed l f).melt = s.melt ∧ (s.updLed l f).reg = s.reg ∧ (s.updLed l f).link = s.link ∧ (s.updLed l f).pair = s.pair ∧
    (s.updLed l f).work = s.work ∧ (s.updLed l f).steps = s.steps ∧ (s.updLed l f).temp = s.temp ∧ (s.updLed l f).power = s.power ∧
    (s.updLed l f).analog = s.analog ∧ (s.updLed l f).mem = s.mem ∧ (s.updLed l f).flash = s.flash ∧
    (s.updLed l f).sampled = s.sampled ∧ (s.updLed l f).seen = s.seen ∧ (s.updLed l f).freeCtr = s.freeCtr ∧
    (s.updLed l f).out = s.out ∧ (s.updLed l f).pending = s.pending :=
  ⟨rfl, rfl, rfl, rfl, rfl, rfl, rfl, rfl, rfl, rfl, rfl, rfl, rfl, rfl, rfl, rfl, rfl, rfl, rfl, rfl, rfl, rfl, rfl, rfl, rfl, rfl, rfl⟩

@[simp] theorem updLed_light (s : State) (l : Nat) (f : LedString → LedString) :
    (s.updLed l f).light = { s.light with strings := updI s.light.strings l f } := rfl

@[simp] theorem updMeltState_keeps (s : State) (f : MeltState → MeltState) :
    (s.updMeltState f).time = s.time ∧ (s.updMeltState f).start = s.start ∧ (s.updMeltState f).faults = s.faults ∧
    (s.updMeltState f).dict = s.dict ∧ (s.updMeltState f).pins = s.pins ∧ (s.updMeltState f).queues = s.queues ∧
    (s.updMeltState f).host = s.host ∧ (s.updMeltState f).job = s.job ∧ (s.updMeltState f).scan = s.scan ∧
    (s.updMeltState f).axes = s.axes ∧ (s.updMeltState f).cams = s.cams ∧ (s.updMeltState f).reg = s.reg ∧
    (s.updMeltState f).link = s.link ∧ (s.updMeltState f).pair = s.pair ∧ (s.updMeltState f).work = s.work ∧
    (s.updMeltState f).steps = s.steps ∧ (s.updMeltState f).light = s.light ∧ (s.updMeltState f).temp = s.temp ∧
    (s.updMeltState f).power = s.power ∧ (s.updMeltState f).analog = s.analog ∧ (s.updMeltState f).mem = s.mem ∧
    (s.updMeltState f).flash = s.flash ∧ (s.updMeltState f).sampled = s.sampled ∧ (s.updMeltState f).seen = s.seen ∧
    (s.updMeltState f).freeCtr = s.freeCtr ∧ (s.updMeltState f).out = s.out ∧ (s.updMeltState f).pending = s.pending :=
  ⟨rfl, rfl, rfl, rfl, rfl, rfl, rfl, rfl, rfl, rfl, rfl, rfl, rfl, rfl, rfl, rfl, rfl, rfl, rfl, rfl, rfl, rfl, rfl, rfl, rfl, rfl, rfl⟩

@[simp] theorem updMeltState_melt (s : State) (f : MeltState → MeltState) :
    (s.updMeltState f).melt = f s.melt := rfl

@[simp] theorem updMem_keeps (s : State) (f : MemState → MemState) :
    (s.updMem f).time = s.time ∧ (s.updMem f).start = s.start ∧ (s.updMem f).faults = s.faults ∧ (s.updMem f).dict = s.dict ∧
    (s.updMem f).pins = s.pins ∧ (s.updMem f).queues = s.queues ∧ (s.updMem f).host = s.host ∧ (s.updMem f).job = s.job ∧
    (s.updMem f).scan = s.scan ∧ (s.updMem f).axes = s.axes ∧ (s.updMem f).cams = s.cams ∧ (s.updMem f).melt = s.melt ∧
    (s.updMem f).reg = s.reg ∧ (s.updMem f).link = s.link ∧ (s.updMem f).pair = s.pair ∧ (s.updMem f).work = s.work ∧
    (s.updMem f).steps = s.steps ∧ (s.updMem f).light = s.light ∧ (s.updMem f).temp = s.temp ∧ (s.updMem f).power = s.power ∧
    (s.updMem f).analog = s.analog ∧ (s.updMem f).flash = s.flash ∧ (s.updMem f).sampled = s.sampled ∧ (s.updMem f).seen = s.seen ∧
    (s.updMem f).freeCtr = s.freeCtr ∧ (s.updMem f).out = s.out ∧ (s.updMem f).pending = s.pending :=
  ⟨rfl, rfl, rfl, rfl, rfl, rfl, rfl, rfl, rfl, rfl, rfl, rfl, rfl, rfl, rfl, rfl, rfl, rfl, rfl, rfl, rfl, rfl, rfl, rfl, rfl, rfl, rfl⟩

@[simp] theorem updMem_mem (s : State) (f : MemState → MemState) :
    (s.updMem f).mem = f s.mem := rfl

@[simp] theorem updNode_keeps (s : State) (p : Nat) (f : FieldNode → FieldNode) :
    (s.updNode p f).time = s.time ∧ (s.updNode p f).start = s.start ∧ (s.updNode p f).faults = s.faults ∧
    (s.updNode p f).dict = s.dict ∧ (s.updNode p f).pins = s.pins ∧ (s.updNode p f).queues = s.queues ∧
    (s.updNode p f).host = s.host ∧ (s.updNode p f).job = s.job ∧ (s.updNode p f).scan = s.scan ∧ (s.updNode p f).axes = s.axes ∧
    (s.updNode p f).cams = s.cams ∧ (s.updNode p f).melt = s.melt ∧ (s.updNode p f).reg = s.reg ∧ (s.updNode p f).pair = s.pair ∧
    (s.updNode p f).work = s.work ∧ (s.updNode p f).steps = s.steps ∧ (s.updNode p f).light = s.light ∧
    (s.updNode p f).temp = s.temp ∧ (s.updNode p f).power = s.power ∧ (s.updNode p f).analog = s.analog ∧
    (s.updNode p f).mem = s.mem ∧ (s.updNode p f).flash = s.flash ∧ (s.updNode p f).sampled = s.sampled ∧
    (s.updNode p f).seen = s.seen ∧ (s.updNode p f).freeCtr = s.freeCtr ∧ (s.updNode p f).out = s.out ∧
    (s.updNode p f).pending = s.pending :=
  ⟨rfl, rfl, rfl, rfl, rfl, rfl, rfl, rfl, rfl, rfl, rfl, rfl, rfl, rfl, rfl, rfl, rfl, rfl, rfl, rfl, rfl, rfl, rfl, rfl, rfl, rfl, rfl⟩

@[simp] theorem updNode_link (s : State) (p : Nat) (f : FieldNode → FieldNode) :
    (s.updNode p f).link = { s.link with nodes := updI s.link.nodes p f } := rfl

@[simp] theorem post_keeps (s : State) (e : Event) :
    (s.post e).time = s.time ∧ (s.post e).start = s.start ∧ (s.post e).dict = s.dict ∧ (s.post e).pins = s.pins ∧
    (s.post e).queues = s.queues ∧ (s.post e).host = s.host ∧ (s.post e).job = s.job ∧ (s.post e).scan = s.scan ∧
    (s.post e).axes = s.axes ∧ (s.post e).cams = s.cams ∧ (s.post e).melt = s.melt ∧ (s.post e).reg = s.reg ∧
    (s.post e).link = s.link ∧ (s.post e).pair = s.pair ∧ (s.post e).work = s.work ∧ (s.post e).steps = s.steps ∧
    (s.post e).light = s.light ∧ (s.post e).temp = s.temp ∧ (s.post e).power = s.power ∧ (s.post e).analog = s.analog ∧
    (s.post e).mem = s.mem ∧ (s.post e).flash = s.flash ∧ (s.post e).sampled = s.sampled ∧ (s.post e).seen = s.seen ∧
    (s.post e).freeCtr = s.freeCtr ∧ (s.post e).out = s.out ∧ (s.post e).pending = s.pending :=
  ⟨rfl, rfl, rfl, rfl, rfl, rfl, rfl, rfl, rfl, rfl, rfl, rfl, rfl, rfl, rfl, rfl, rfl, rfl, rfl, rfl, rfl, rfl, rfl, rfl, rfl, rfl, rfl⟩

@[simp] theorem post_faults (s : State) (e : Event) :
    (s.post e).faults = { s.faults with posted := s.faults.posted ++ [{ e with tick := s.tickCount }] } := rfl

@[simp] theorem postAll_keeps (s : State) (es : List Event) :
    (s.postAll es).time = s.time ∧ (s.postAll es).start = s.start ∧ (s.postAll es).dict = s.dict ∧ (s.postAll es).pins = s.pins ∧
    (s.postAll es).queues = s.queues ∧ (s.postAll es).host = s.host ∧ (s.postAll es).job = s.job ∧ (s.postAll es).scan = s.scan ∧
    (s.postAll es).axes = s.axes ∧ (s.postAll es).cams = s.cams ∧ (s.postAll es).melt = s.melt ∧ (s.postAll es).reg = s.reg ∧
    (s.postAll es).link = s.link ∧ (s.postAll es).pair = s.pair ∧ (s.postAll es).work = s.work ∧ (s.postAll es).steps = s.steps ∧
    (s.postAll es).light = s.light ∧ (s.postAll es).temp = s.temp ∧ (s.postAll es).power = s.power ∧
    (s.postAll es).analog = s.analog ∧ (s.postAll es).mem = s.mem ∧ (s.postAll es).flash = s.flash ∧
    (s.postAll es).sampled = s.sampled ∧ (s.postAll es).seen = s.seen ∧ (s.postAll es).freeCtr = s.freeCtr ∧
    (s.postAll es).out = s.out ∧ (s.postAll es).pending = s.pending :=
  ⟨rfl, rfl, rfl, rfl, rfl, rfl, rfl, rfl, rfl, rfl, rfl, rfl, rfl, rfl, rfl, rfl, rfl, rfl, rfl, rfl, rfl, rfl, rfl, rfl, rfl, rfl, rfl⟩

@[simp] theorem postAll_faults (s : State) (es : List Event) :
    (s.postAll es).faults = { s.faults with posted := s.faults.posted ++ es.map (fun e => { e with tick := s.tickCount }) } := rfl

@[simp] theorem send_keeps (s : State) (o : Output) :
    (s.send o).time = s.time ∧ (s.send o).start = s.start ∧ (s.send o).faults = s.faults ∧ (s.send o).dict = s.dict ∧
    (s.send o).pins = s.pins ∧ (s.send o).queues = s.queues ∧ (s.send o).host = s.host ∧ (s.send o).job = s.job ∧
    (s.send o).scan = s.scan ∧ (s.send o).axes = s.axes ∧ (s.send o).cams = s.cams ∧ (s.send o).melt = s.melt ∧
    (s.send o).reg = s.reg ∧ (s.send o).link = s.link ∧ (s.send o).pair = s.pair ∧ (s.send o).work = s.work ∧
    (s.send o).steps = s.steps ∧ (s.send o).light = s.light ∧ (s.send o).temp = s.temp ∧ (s.send o).power = s.power ∧
    (s.send o).analog = s.analog ∧ (s.send o).mem = s.mem ∧ (s.send o).flash = s.flash ∧ (s.send o).sampled = s.sampled ∧
    (s.send o).seen = s.seen ∧ (s.send o).freeCtr = s.freeCtr ∧ (s.send o).pending = s.pending :=
  ⟨rfl, rfl, rfl, rfl, rfl, rfl, rfl, rfl, rfl, rfl, rfl, rfl, rfl, rfl, rfl, rfl, rfl, rfl, rfl, rfl, rfl, rfl, rfl, rfl, rfl, rfl, rfl⟩

@[simp] theorem send_out (s : State) (o : Output) :
    (s.send o).out = s.out ++ [o] := rfl

@[simp] theorem atClock_keeps (s : State) (clk : Nat) :
    (s.atClock clk).start = s.start ∧ (s.atClock clk).faults = s.faults ∧ (s.atClock clk).dict = s.dict ∧
    (s.atClock clk).pins = s.pins ∧ (s.atClock clk).queues = s.queues ∧ (s.atClock clk).host = s.host ∧
    (s.atClock clk).job = s.job ∧ (s.atClock clk).scan = s.scan ∧ (s.atClock clk).axes = s.axes ∧ (s.atClock clk).cams = s.cams ∧
    (s.atClock clk).melt = s.melt ∧ (s.atClock clk).reg = s.reg ∧ (s.atClock clk).link = s.link ∧ (s.atClock clk).pair = s.pair ∧
    (s.atClock clk).work = s.work ∧ (s.atClock clk).steps = s.steps ∧ (s.atClock clk).light = s.light ∧
    (s.atClock clk).temp = s.temp ∧ (s.atClock clk).power = s.power ∧ (s.atClock clk).analog = s.analog ∧
    (s.atClock clk).mem = s.mem ∧ (s.atClock clk).flash = s.flash ∧ (s.atClock clk).sampled = s.sampled ∧
    (s.atClock clk).seen = s.seen ∧ (s.atClock clk).freeCtr = s.freeCtr ∧ (s.atClock clk).out = s.out ∧
    (s.atClock clk).pending = s.pending :=
  ⟨rfl, rfl, rfl, rfl, rfl, rfl, rfl, rfl, rfl, rfl, rfl, rfl, rfl, rfl, rfl, rfl, rfl, rfl, rfl, rfl, rfl, rfl, rfl, rfl, rfl, rfl, rfl⟩

@[simp] theorem atClock_time (s : State) (clk : Nat) :
    (s.atClock clk).time = { s.time with clock := if s.time.clock < clk then clk else s.time.clock } := rfl

@[simp] theorem updPair_keeps (s : State) (f : PairState → PairState) :
    (s.updPair f).time = s.time ∧ (s.updPair f).start = s.start ∧ (s.updPair f).faults = s.faults ∧ (s.updPair f).dict = s.dict ∧
    (s.updPair f).pins = s.pins ∧ (s.updPair f).queues = s.queues ∧ (s.updPair f).host = s.host ∧ (s.updPair f).job = s.job ∧
    (s.updPair f).scan = s.scan ∧ (s.updPair f).axes = s.axes ∧ (s.updPair f).cams = s.cams ∧ (s.updPair f).melt = s.melt ∧
    (s.updPair f).reg = s.reg ∧ (s.updPair f).link = s.link ∧ (s.updPair f).work = s.work ∧ (s.updPair f).steps = s.steps ∧
    (s.updPair f).light = s.light ∧ (s.updPair f).temp = s.temp ∧ (s.updPair f).power = s.power ∧ (s.updPair f).analog = s.analog ∧
    (s.updPair f).mem = s.mem ∧ (s.updPair f).flash = s.flash ∧ (s.updPair f).sampled = s.sampled ∧ (s.updPair f).seen = s.seen ∧
    (s.updPair f).freeCtr = s.freeCtr ∧ (s.updPair f).out = s.out ∧ (s.updPair f).pending = s.pending :=
  ⟨rfl, rfl, rfl, rfl, rfl, rfl, rfl, rfl, rfl, rfl, rfl, rfl, rfl, rfl, rfl, rfl, rfl, rfl, rfl, rfl, rfl, rfl, rfl, rfl, rfl, rfl, rfl⟩

@[simp] theorem updPair_pair (s : State) (f : PairState → PairState) :
    (s.updPair f).pair = f s.pair := rfl

@[simp] theorem updWork_keeps (s : State) (f : PairWork → PairWork) :
    (s.updWork f).time = s.time ∧ (s.updWork f).start = s.start ∧ (s.updWork f).faults = s.faults ∧ (s.updWork f).dict = s.dict ∧
    (s.updWork f).pins = s.pins ∧ (s.updWork f).queues = s.queues ∧ (s.updWork f).host = s.host ∧ (s.updWork f).job = s.job ∧
    (s.updWork f).scan = s.scan ∧ (s.updWork f).axes = s.axes ∧ (s.updWork f).cams = s.cams ∧ (s.updWork f).melt = s.melt ∧
    (s.updWork f).reg = s.reg ∧ (s.updWork f).link = s.link ∧ (s.updWork f).pair = s.pair ∧ (s.updWork f).steps = s.steps ∧
    (s.updWork f).light = s.light ∧ (s.updWork f).temp = s.temp ∧ (s.updWork f).power = s.power ∧ (s.updWork f).analog = s.analog ∧
    (s.updWork f).mem = s.mem ∧ (s.updWork f).flash = s.flash ∧ (s.updWork f).sampled = s.sampled ∧ (s.updWork f).seen = s.seen ∧
    (s.updWork f).freeCtr = s.freeCtr ∧ (s.updWork f).out = s.out ∧ (s.updWork f).pending = s.pending :=
  ⟨rfl, rfl, rfl, rfl, rfl, rfl, rfl, rfl, rfl, rfl, rfl, rfl, rfl, rfl, rfl, rfl, rfl, rfl, rfl, rfl, rfl, rfl, rfl, rfl, rfl, rfl, rfl⟩

@[simp] theorem updWork_work (s : State) (f : PairWork → PairWork) :
    (s.updWork f).work = f s.work := rfl

@[simp] theorem updPower_keeps (s : State) (f : PowerState → PowerState) :
    (s.updPower f).time = s.time ∧ (s.updPower f).start = s.start ∧ (s.updPower f).faults = s.faults ∧
    (s.updPower f).dict = s.dict ∧ (s.updPower f).pins = s.pins ∧ (s.updPower f).queues = s.queues ∧ (s.updPower f).host = s.host ∧
    (s.updPower f).job = s.job ∧ (s.updPower f).scan = s.scan ∧ (s.updPower f).axes = s.axes ∧ (s.updPower f).cams = s.cams ∧
    (s.updPower f).melt = s.melt ∧ (s.updPower f).reg = s.reg ∧ (s.updPower f).link = s.link ∧ (s.updPower f).pair = s.pair ∧
    (s.updPower f).work = s.work ∧ (s.updPower f).steps = s.steps ∧ (s.updPower f).light = s.light ∧ (s.updPower f).temp = s.temp ∧
    (s.updPower f).analog = s.analog ∧ (s.updPower f).mem = s.mem ∧ (s.updPower f).flash = s.flash ∧
    (s.updPower f).sampled = s.sampled ∧ (s.updPower f).seen = s.seen ∧ (s.updPower f).freeCtr = s.freeCtr ∧
    (s.updPower f).out = s.out ∧ (s.updPower f).pending = s.pending :=
  ⟨rfl, rfl, rfl, rfl, rfl, rfl, rfl, rfl, rfl, rfl, rfl, rfl, rfl, rfl, rfl, rfl, rfl, rfl, rfl, rfl, rfl, rfl, rfl, rfl, rfl, rfl, rfl⟩

@[simp] theorem updPower_power (s : State) (f : PowerState → PowerState) :
    (s.updPower f).power = f s.power := rfl

@[simp] theorem updSwitch_keeps (s : State) (k : Nat) (f : LoadSwitch → LoadSwitch) :
    (s.updSwitch k f).time = s.time ∧ (s.updSwitch k f).start = s.start ∧ (s.updSwitch k f).faults = s.faults ∧
    (s.updSwitch k f).dict = s.dict ∧ (s.updSwitch k f).pins = s.pins ∧ (s.updSwitch k f).queues = s.queues ∧
    (s.updSwitch k f).host = s.host ∧ (s.updSwitch k f).job = s.job ∧ (s.updSwitch k f).scan = s.scan ∧
    (s.updSwitch k f).axes = s.axes ∧ (s.updSwitch k f).cams = s.cams ∧ (s.updSwitch k f).melt = s.melt ∧
    (s.updSwitch k f).reg = s.reg ∧ (s.updSwitch k f).link = s.link ∧ (s.updSwitch k f).pair = s.pair ∧
    (s.updSwitch k f).work = s.work ∧ (s.updSwitch k f).steps = s.steps ∧ (s.updSwitch k f).light = s.light ∧
    (s.updSwitch k f).temp = s.temp ∧ (s.updSwitch k f).analog = s.analog ∧ (s.updSwitch k f).mem = s.mem ∧
    (s.updSwitch k f).flash = s.flash ∧ (s.updSwitch k f).sampled = s.sampled ∧ (s.updSwitch k f).seen = s.seen ∧
    (s.updSwitch k f).freeCtr = s.freeCtr ∧ (s.updSwitch k f).out = s.out ∧ (s.updSwitch k f).pending = s.pending :=
  ⟨rfl, rfl, rfl, rfl, rfl, rfl, rfl, rfl, rfl, rfl, rfl, rfl, rfl, rfl, rfl, rfl, rfl, rfl, rfl, rfl, rfl, rfl, rfl, rfl, rfl, rfl, rfl⟩

theorem updSwitch_power (s : State) (k : Nat) (f : LoadSwitch → LoadSwitch) :
    (s.updSwitch k f).power = (s.updPower (fun p => { p with switches := updI p.switches k f })).power := rfl

@[simp] theorem updRle_keeps (s : State) (f : RleEngine → RleEngine) :
    (s.updRle f).time = s.time ∧ (s.updRle f).start = s.start ∧ (s.updRle f).faults = s.faults ∧ (s.updRle f).dict = s.dict ∧
    (s.updRle f).pins = s.pins ∧ (s.updRle f).queues = s.queues ∧ (s.updRle f).host = s.host ∧ (s.updRle f).job = s.job ∧
    (s.updRle f).scan = s.scan ∧ (s.updRle f).axes = s.axes ∧ (s.updRle f).cams = s.cams ∧ (s.updRle f).melt = s.melt ∧
    (s.updRle f).reg = s.reg ∧ (s.updRle f).link = s.link ∧ (s.updRle f).pair = s.pair ∧ (s.updRle f).work = s.work ∧
    (s.updRle f).steps = s.steps ∧ (s.updRle f).temp = s.temp ∧ (s.updRle f).power = s.power ∧ (s.updRle f).analog = s.analog ∧
    (s.updRle f).mem = s.mem ∧ (s.updRle f).flash = s.flash ∧ (s.updRle f).sampled = s.sampled ∧ (s.updRle f).seen = s.seen ∧
    (s.updRle f).freeCtr = s.freeCtr ∧ (s.updRle f).out = s.out ∧ (s.updRle f).pending = s.pending :=
  ⟨rfl, rfl, rfl, rfl, rfl, rfl, rfl, rfl, rfl, rfl, rfl, rfl, rfl, rfl, rfl, rfl, rfl, rfl, rfl, rfl, rfl, rfl, rfl, rfl, rfl, rfl, rfl⟩

@[simp] theorem updRle_light (s : State) (f : RleEngine → RleEngine) :
    (s.updRle f).light = { s.light with rle := f s.light.rle } := rfl

@[simp] theorem updChan_keeps (s : State) (n : Nat) (f : Chan → Chan) :
    (s.updChan n f).time = s.time ∧ (s.updChan n f).start = s.start ∧ (s.updChan n f).faults = s.faults ∧
    (s.updChan n f).dict = s.dict ∧ (s.updChan n f).pins = s.pins ∧ (s.updChan n f).queues = s.queues ∧
    (s.updChan n f).host = s.host ∧ (s.updChan n f).job = s.job ∧ (s.updChan n f).axes = s.axes ∧ (s.updChan n f).cams = s.cams ∧
    (s.updChan n f).melt = s.melt ∧ (s.updChan n f).reg = s.reg ∧ (s.updChan n f).link = s.link ∧ (s.updChan n f).pair = s.pair ∧
    (s.updChan n f).work = s.work ∧ (s.updChan n f).steps = s.steps ∧ (s.updChan n f).light = s.light ∧
    (s.updChan n f).temp = s.temp ∧ (s.updChan n f).power = s.power ∧ (s.updChan n f).analog = s.analog ∧
    (s.updChan n f).mem = s.mem ∧ (s.updChan n f).flash = s.flash ∧ (s.updChan n f).sampled = s.sampled ∧
    (s.updChan n f).seen = s.seen ∧ (s.updChan n f).freeCtr = s.freeCtr ∧ (s.updChan n f).out = s.out ∧
    (s.updChan n f).pending = s.pending :=
  ⟨rfl, rfl, rfl, rfl, rfl, rfl, rfl, rfl, rfl, rfl, rfl, rfl, rfl, rfl, rfl, rfl, rfl, rfl, rfl, rfl, rfl, rfl, rfl, rfl, rfl, rfl, rfl⟩

@[simp] theorem updChan_scan (s : State) (n : Nat) (f : Chan → Chan) :
    (s.updChan n f).scan = { s.scan with chans := updI s.scan.chans n f } := rfl

@[simp] theorem updMelt_keeps (s : State) (n : Nat) (f : Melt → Melt) :
    (s.updMelt n f).time = s.time ∧ (s.updMelt n f).start = s.start ∧ (s.updMelt n f).faults = s.faults ∧
    (s.updMelt n f).dict = s.dict ∧ (s.updMelt n f).pins = s.pins ∧ (s.updMelt n f).queues = s.queues ∧
    (s.updMelt n f).host = s.host ∧ (s.updMelt n f).job = s.job ∧ (s.updMelt n f).scan = s.scan ∧ (s.updMelt n f).axes = s.axes ∧
    (s.updMelt n f).cams = s.cams ∧ (s.updMelt n f).reg = s.reg ∧ (s.updMelt n f).link = s.link ∧ (s.updMelt n f).pair = s.pair ∧
    (s.updMelt n f).work = s.work ∧ (s.updMelt n f).steps = s.steps ∧ (s.updMelt n f).light = s.light ∧
    (s.updMelt n f).temp = s.temp ∧ (s.updMelt n f).power = s.power ∧ (s.updMelt n f).analog = s.analog ∧
    (s.updMelt n f).mem = s.mem ∧ (s.updMelt n f).flash = s.flash ∧ (s.updMelt n f).sampled = s.sampled ∧
    (s.updMelt n f).seen = s.seen ∧ (s.updMelt n f).freeCtr = s.freeCtr ∧ (s.updMelt n f).out = s.out ∧
    (s.updMelt n f).pending = s.pending :=
  ⟨rfl, rfl, rfl, rfl, rfl, rfl, rfl, rfl, rfl, rfl, rfl, rfl, rfl, rfl, rfl, rfl, rfl, rfl, rfl, rfl, rfl, rfl, rfl, rfl, rfl, rfl, rfl⟩

@[simp] theorem updMelt_melt (s : State) (n : Nat) (f : Melt → Melt) :
    (s.updMelt n f).melt = { s.melt with chans := updI s.melt.chans n f } := rfl

@[simp] theorem updGates_keeps (s : State) (n : Nat) (f : Gates → Gates) :
    (s.updGates n f).time = s.time ∧ (s.updGates n f).start = s.start ∧ (s.updGates n f).faults = s.faults ∧
    (s.updGates n f).dict = s.dict ∧ (s.updGates n f).pins = s.pins ∧ (s.updGates n f).queues = s.queues ∧
    (s.updGates n f).host = s.host ∧ (s.updGates n f).job = s.job ∧ (s.updGates n f).axes = s.axes ∧
    (s.updGates n f).cams = s.cams ∧ (s.updGates n f).melt = s.melt ∧ (s.updGates n f).reg = s.reg ∧
    (s.updGates n f).link = s.link ∧ (s.updGates n f).pair = s.pair ∧ (s.updGates n f).work = s.work ∧
    (s.updGates n f).steps = s.steps ∧ (s.updGates n f).light = s.light ∧ (s.updGates n f).temp = s.temp ∧
    (s.updGates n f).power = s.power ∧ (s.updGates n f).analog = s.analog ∧ (s.updGates n f).mem = s.mem ∧
    (s.updGates n f).flash = s.flash ∧ (s.updGates n f).sampled = s.sampled ∧ (s.updGates n f).seen = s.seen ∧
    (s.updGates n f).freeCtr = s.freeCtr ∧ (s.updGates n f).out = s.out ∧ (s.updGates n f).pending = s.pending :=
  ⟨rfl, rfl, rfl, rfl, rfl, rfl, rfl, rfl, rfl, rfl, rfl, rfl, rfl, rfl, rfl, rfl, rfl, rfl, rfl, rfl, rfl, rfl, rfl, rfl, rfl, rfl, rfl⟩

theorem updGates_scan (s : State) (n : Nat) (f : Gates → Gates) :
    (s.updGates n f).scan = (s.updChan n (fun c => { c with gates := f c.gates })).scan := rfl

@[simp] theorem updAxis_keeps (s : State) (a : Nat) (f : Axis → Axis) :
    (s.updAxis a f).time = s.time ∧ (s.updAxis a f).start = s.start ∧ (s.updAxis a f).faults = s.faults ∧
    (s.updAxis a f).dict = s.dict ∧ (s.updAxis a f).pins = s.pins ∧ (s.updAxis a f).queues = s.queues ∧
    (s.updAxis a f).host = s.host ∧ (s.updAxis a f).job = s.job ∧ (s.updAxis a f).scan = s.scan ∧ (s.updAxis a f).cams = s.cams ∧
    (s.updAxis a f).melt = s.melt ∧ (s.updAxis a f).reg = s.reg ∧ (s.updAxis a f).link = s.link ∧ (s.updAxis a f).pair = s.pair ∧
    (s.updAxis a f).work = s.work ∧ (s.updAxis a f).steps = s.steps ∧ (s.updAxis a f).light = s.light ∧
    (s.updAxis a f).temp = s.temp ∧ (s.updAxis a f).power = s.power ∧ (s.updAxis a f).analog = s.analog ∧
    (s.updAxis a f).mem = s.mem ∧ (s.updAxis a f).flash = s.flash ∧ (s.updAxis a f).sampled = s.sampled ∧
    (s.updAxis a f).seen = s.seen ∧ (s.updAxis a f).freeCtr = s.freeCtr ∧ (s.updAxis a f).out = s.out ∧
    (s.updAxis a f).pending = s.pending :=
  ⟨rfl, rfl, rfl, rfl, rfl, rfl, rfl, rfl, rfl, rfl, rfl, rfl, rfl, rfl, rfl, rfl, rfl, rfl, rfl, rfl, rfl, rfl, rfl, rfl, rfl, rfl, rfl⟩

@[simp] theorem updAxis_axes (s : State) (a : Nat) (f : Axis → Axis) :
    (s.updAxis a f).axes = updI s.axes a f := rfl

@[simp] theorem updStart_keeps (s : State) (f : StartState → StartState) :
    (s.updStart f).time = s.time ∧ (s.updStart f).faults = s.faults ∧ (s.updStart f).dict = s.dict ∧ (s.updStart f).pins = s.pins ∧
    (s.updStart f).queues = s.queues ∧ (s.updStart f).host = s.host ∧ (s.updStart f).job = s.job ∧ (s.updStart f).scan = s.scan ∧
    (s.updStart f).axes = s.axes ∧ (s.updStart f).cams = s.cams ∧ (s.updStart f).melt = s.melt ∧ (s.updStart f).reg = s.reg ∧
    (s.updStart f).link = s.link ∧ (s.updStart f).pair = s.pair ∧ (s.updStart f).work = s.work ∧ (s.updStart f).steps = s.steps ∧
    (s.updStart f).light = s.light ∧ (s.updStart f).temp = s.temp ∧ (s.updStart f).power = s.power ∧
    (s.updStart f).analog = s.analog ∧ (s.updStart f).mem = s.mem ∧ (s.updStart f).flash = s.flash ∧
    (s.updStart f).sampled = s.sampled ∧ (s.updStart f).seen = s.seen ∧ (s.updStart f).freeCtr = s.freeCtr ∧
    (s.updStart f).out = s.out ∧ (s.updStart f).pending = s.pending :=
  ⟨rfl, rfl, rfl, rfl, rfl, rfl, rfl, rfl, rfl, rfl, rfl, rfl, rfl, rfl, rfl, rfl, rfl, rfl, rfl, rfl, rfl, rfl, rfl, rfl, rfl, rfl, rfl⟩

@[simp] theorem updStart_start (s : State) (f : StartState → StartState) :
    (s.updStart f).start = f s.start := rfl

@[simp] theorem withPending_keeps (s : State) (q : List Instr) :
    (s.withPending q).time = s.time ∧ (s.withPending q).start = s.start ∧ (s.withPending q).faults = s.faults ∧
    (s.withPending q).dict = s.dict ∧ (s.withPending q).pins = s.pins ∧ (s.withPending q).queues = s.queues ∧
    (s.withPending q).host = s.host ∧ (s.withPending q).job = s.job ∧ (s.withPending q).scan = s.scan ∧
    (s.withPending q).axes = s.axes ∧ (s.withPending q).cams = s.cams ∧ (s.withPending q).melt = s.melt ∧
    (s.withPending q).reg = s.reg ∧ (s.withPending q).link = s.link ∧ (s.withPending q).pair = s.pair ∧
    (s.withPending q).work = s.work ∧ (s.withPending q).steps = s.steps ∧ (s.withPending q).light = s.light ∧
    (s.withPending q).temp = s.temp ∧ (s.withPending q).power = s.power ∧ (s.withPending q).analog = s.analog ∧
    (s.withPending q).mem = s.mem ∧ (s.withPending q).flash = s.flash ∧ (s.withPending q).sampled = s.sampled ∧
    (s.withPending q).seen = s.seen ∧ (s.withPending q).freeCtr = s.freeCtr ∧ (s.withPending q).out = s.out :=
  ⟨rfl, rfl, rfl, rfl, rfl, rfl, rfl, rfl, rfl, rfl, rfl, rfl, rfl, rfl, rfl, rfl, rfl, rfl, rfl, rfl, rfl, rfl, rfl, rfl, rfl, rfl, rfl⟩

@[simp] theorem withPending_pending (s : State) (q : List Instr) :
    (s.withPending q).pending = q := rfl

@[simp] theorem updStep_keeps (s : State) (m : Nat) (f : StepAxis → StepAxis) :
    (s.updStep m f).time = s.time ∧ (s.updStep m f).start = s.start ∧ (s.updStep m f).faults = s.faults ∧
    (s.updStep m f).dict = s.dict ∧ (s.updStep m f).pins = s.pins ∧ (s.updStep m f).queues = s.queues ∧
    (s.updStep m f).host = s.host ∧ (s.updStep m f).job = s.job ∧ (s.updStep m f).scan = s.scan ∧ (s.updStep m f).axes = s.axes ∧
    (s.updStep m f).cams = s.cams ∧ (s.updStep m f).melt = s.melt ∧ (s.updStep m f).reg = s.reg ∧ (s.updStep m f).link = s.link ∧
    (s.updStep m f).pair = s.pair ∧ (s.updStep m f).work = s.work ∧ (s.updStep m f).light = s.light ∧
    (s.updStep m f).temp = s.temp ∧ (s.updStep m f).power = s.power ∧ (s.updStep m f).analog = s.analog ∧
    (s.updStep m f).mem = s.mem ∧ (s.updStep m f).flash = s.flash ∧ (s.updStep m f).sampled = s.sampled ∧
    (s.updStep m f).seen = s.seen ∧ (s.updStep m f).freeCtr = s.freeCtr ∧ (s.updStep m f).out = s.out ∧
    (s.updStep m f).pending = s.pending :=
  ⟨rfl, rfl, rfl, rfl, rfl, rfl, rfl, rfl, rfl, rfl, rfl, rfl, rfl, rfl, rfl, rfl, rfl, rfl, rfl, rfl, rfl, rfl, rfl, rfl, rfl, rfl, rfl⟩

@[simp] theorem updStep_steps (s : State) (m : Nat) (f : StepAxis → StepAxis) :
    (s.updStep m f).steps = updI s.steps m f := rfl

@[simp] theorem updTemp_keeps (s : State) (k : Nat) (f : TempInput → TempInput) :
    (s.updTemp k f).time = s.time ∧ (s.updTemp k f).start = s.start ∧ (s.updTemp k f).faults = s.faults ∧
    (s.updTemp k f).dict = s.dict ∧ (s.updTemp k f).pins = s.pins ∧ (s.updTemp k f).queues = s.queues ∧
    (s.updTemp k f).host = s.host ∧ (s.updTemp k f).job = s.job ∧ (s.updTemp k f).scan = s.scan ∧ (s.updTemp k f).axes = s.axes ∧
    (s.updTemp k f).cams = s.cams ∧ (s.updTemp k f).melt = s.melt ∧ (s.updTemp k f).reg = s.reg ∧ (s.updTemp k f).link = s.link ∧
    (s.updTemp k f).pair = s.pair ∧ (s.updTemp k f).work = s.work ∧ (s.updTemp k f).steps = s.steps ∧
    (s.updTemp k f).light = s.light ∧ (s.updTemp k f).power = s.power ∧ (s.updTemp k f).analog = s.analog ∧
    (s.updTemp k f).mem = s.mem ∧ (s.updTemp k f).flash = s.flash ∧ (s.updTemp k f).sampled = s.sampled ∧
    (s.updTemp k f).seen = s.seen ∧ (s.updTemp k f).freeCtr = s.freeCtr ∧ (s.updTemp k f).out = s.out ∧
    (s.updTemp k f).pending = s.pending :=
  ⟨rfl, rfl, rfl, rfl, rfl, rfl, rfl, rfl, rfl, rfl, rfl, rfl, rfl, rfl, rfl, rfl, rfl, rfl, rfl, rfl, rfl, rfl, rfl, rfl, rfl, rfl, rfl⟩

@[simp] theorem updTemp_temp (s : State) (k : Nat) (f : TempInput → TempInput) :
    (s.updTemp k f).temp = { s.temp with inputs := updI s.temp.inputs k f } := rfl

@[simp] theorem updTime_keeps (s : State) (f : TimeState → TimeState) :
    (s.updTime f).start = s.start ∧ (s.updTime f).faults = s.faults ∧ (s.updTime f).dict = s.dict ∧ (s.updTime f).pins = s.pins ∧
    (s.updTime f).queues = s.queues ∧ (s.updTime f).host = s.host ∧ (s.updTime f).job = s.job ∧ (s.updTime f).scan = s.scan ∧
    (s.updTime f).axes = s.axes ∧ (s.updTime f).cams = s.cams ∧ (s.updTime f).melt = s.melt ∧ (s.updTime f).reg = s.reg ∧
    (s.updTime f).link = s.link ∧ (s.updTime f).pair = s.pair ∧ (s.updTime f).work = s.work ∧ (s.updTime f).steps = s.steps ∧
    (s.updTime f).light = s.light ∧ (s.updTime f).temp = s.temp ∧ (s.updTime f).power = s.power ∧ (s.updTime f).analog = s.analog ∧
    (s.updTime f).mem = s.mem ∧ (s.updTime f).flash = s.flash ∧ (s.updTime f).sampled = s.sampled ∧ (s.updTime f).seen = s.seen ∧
    (s.updTime f).freeCtr = s.freeCtr ∧ (s.updTime f).out = s.out ∧ (s.updTime f).pending = s.pending :=
  ⟨rfl, rfl, rfl, rfl, rfl, rfl, rfl, rfl, rfl, rfl, rfl, rfl, rfl, rfl, rfl, rfl, rfl, rfl, rfl, rfl, rfl, rfl, rfl, rfl, rfl, rfl, rfl⟩

@[simp] theorem updTime_time (s : State) (f : TimeState → TimeState) :
    (s.updTime f).time = f s.time := rfl

@[simp] theorem updPort_keeps (s : State) (p : Nat) (f : ZlPort → ZlPort) :
    (s.updPort p f).time = s.time ∧ (s.updPort p f).start = s.start ∧ (s.updPort p f).faults = s.faults ∧
    (s.updPort p f).dict = s.dict ∧ (s.updPort p f).pins = s.pins ∧ (s.updPort p f).queues = s.queues ∧
    (s.updPort p f).host = s.host ∧ (s.updPort p f).job = s.job ∧ (s.updPort p f).scan = s.scan ∧ (s.updPort p f).axes = s.axes ∧
    (s.updPort p f).cams = s.cams ∧ (s.updPort p f).melt = s.melt ∧ (s.updPort p f).reg = s.reg ∧ (s.updPort p f).pair = s.pair ∧
    (s.updPort p f).work = s.work ∧ (s.updPort p f).steps = s.steps ∧ (s.updPort p f).light = s.light ∧
    (s.updPort p f).temp = s.temp ∧ (s.updPort p f).power = s.power ∧ (s.updPort p f).analog = s.analog ∧
    (s.updPort p f).mem = s.mem ∧ (s.updPort p f).flash = s.flash ∧ (s.updPort p f).sampled = s.sampled ∧
    (s.updPort p f).seen = s.seen ∧ (s.updPort p f).freeCtr = s.freeCtr ∧ (s.updPort p f).out = s.out ∧
    (s.updPort p f).pending = s.pending :=
  ⟨rfl, rfl, rfl, rfl, rfl, rfl, rfl, rfl, rfl, rfl, rfl, rfl, rfl, rfl, rfl, rfl, rfl, rfl, rfl, rfl, rfl, rfl, rfl, rfl, rfl, rfl, rfl⟩

@[simp] theorem updPort_link (s : State) (p : Nat) (f : ZlPort → ZlPort) :
    (s.updPort p f).link = { s.link with ports := updI s.link.ports p f } := rfl

@[simp] theorem updLaser_keeps (s : State) (n : Nat) (f : LaserNode → LaserNode) :
    (s.updLaser n f).time = s.time ∧ (s.updLaser n f).start = s.start ∧ (s.updLaser n f).faults = s.faults ∧
    (s.updLaser n f).dict = s.dict ∧ (s.updLaser n f).pins = s.pins ∧ (s.updLaser n f).queues = s.queues ∧
    (s.updLaser n f).host = s.host ∧ (s.updLaser n f).job = s.job ∧ (s.updLaser n f).scan = s.scan ∧
    (s.updLaser n f).axes = s.axes ∧ (s.updLaser n f).cams = s.cams ∧ (s.updLaser n f).melt = s.melt ∧
    (s.updLaser n f).reg = s.reg ∧ (s.updLaser n f).pair = s.pair ∧ (s.updLaser n f).work = s.work ∧
    (s.updLaser n f).steps = s.steps ∧ (s.updLaser n f).light = s.light ∧ (s.updLaser n f).temp = s.temp ∧
    (s.updLaser n f).power = s.power ∧ (s.updLaser n f).analog = s.analog ∧ (s.updLaser n f).mem = s.mem ∧
    (s.updLaser n f).flash = s.flash ∧ (s.updLaser n f).sampled = s.sampled ∧ (s.updLaser n f).seen = s.seen ∧
    (s.updLaser n f).freeCtr = s.freeCtr ∧ (s.updLaser n f).out = s.out ∧ (s.updLaser n f).pending = s.pending :=
  ⟨rfl, rfl, rfl, rfl, rfl, rfl, rfl, rfl, rfl, rfl, rfl, rfl, rfl, rfl, rfl, rfl, rfl, rfl, rfl, rfl, rfl, rfl, rfl, rfl, rfl, rfl, rfl⟩

@[simp] theorem updLaser_link (s : State) (n : Nat) (f : LaserNode → LaserNode) :
    (s.updLaser n f).link = { s.link with lasers := updI s.link.lasers n f } := rfl

end Sys2Proof.Machine
end

