-- ==== Sys2Proof/Laws/Canonical.lean ====
section
/-! SUPPORT. The canonical form of the object dictionary is kept: by the operations on sorted lists, by putting a value in force, and by every
operation that touches the dictionary. -/

namespace Sys2Proof.Machine

set_option Elab.async false

theorem putKey_key {α : Type} (k : Nat) (v : α) (l : List (Nat × α)) : ∀ e ∈ putKey k v l, e = (k, v) ∨ e ∈ l := by
  induction l with
  | nil => simp [putKey]
  | cons x l ih =>
    obtain ⟨i, y⟩ := x
    intro e he
    unfold putKey at he
    split at he
    · simpa using he
    · split at he
      · rcases List.mem_cons.mp he with he | he
        · exact .inl he
        · exact .inr (List.mem_cons_of_mem _ he)
      · simp only [List.mem_cons] at he ⊢
        rcases he with he | he
        · exact .inr (.inl he)
        · rcases ih e he with h | h
          · exact .inl h
          · exact .inr (.inr h)

/-- Putting a key keeps the order of keys. -/
theorem putKey_rising {α : Type} (k : Nat) (v : α) (l : List (Nat × α)) (h : Rising l) : Rising (putKey k v l) := by
  induction l with
  | nil => simp [putKey, Rising]
  | cons x l ih =>
    obtain ⟨i, y⟩ := x
    have hl : Rising l := (List.pairwise_cons.mp h).2
    have hx : ∀ e ∈ l, i < e.1 := (List.pairwise_cons.mp h).1
    unfold putKey
    split
    · next hk =>
      refine List.pairwise_cons.mpr ⟨?_, h⟩
      intro e he
      rcases List.mem_cons.mp he with he | he
      · subst he; exact hk
      · exact Nat.lt_trans hk (hx e he)
    · split
      · next hk =>
        subst hk
        exact List.pairwise_cons.mpr ⟨hx, hl⟩
      · next h1 h2 =>
        refine List.pairwise_cons.mpr ⟨?_, ih hl⟩
        intro e he
        rcases putKey_key k v l e he with he | he
        · subst he; show i < k; omega
        · exact hx e he

/-- Dropping a key keeps the order of keys. -/
theorem dropKey_rising {α : Type} (k : Nat) (l : List (Nat × α)) (h : Rising l) : Rising (dropKey k l) := List.Pairwise.filter _ h

/-- A value put in force keeps the canonical form. -/
theorem setVal_wf (d : DictState) (index sub : Nat) (v : Val) (h : d.wf) : (setVal d index sub v).wf := by
  obtain ⟨h1, h2, h3⟩ := h
  unfold setVal
  dsimp only
  split
  · exact ⟨dropKey_rising _ _ h1, fun e he => h2 e ((List.mem_filter.mp he).1), h3⟩
  · next hv =>
    refine ⟨putKey_rising _ _ _ h1, ?_, h3⟩
    intro e he
    rcases putKey_key _ _ _ e he with he | he
    · subst he; simpa using hv
    · exact h2 e he

/-- Values put in force one after another keep the canonical form. -/
theorem foldl_wf {α : Type} (l : List α) (d : DictState) (f : DictState → α → DictState) (hf : ∀ d x, d.wf → (f d x).wf) (h : d.wf) :
    (l.foldl f d).wf := by
  induction l generalizing d with
  | nil => exact h
  | cons x l ih => exact ih _ (hf d x h)

/-- The canonical form speaks of the values in force and the stored BOOT values alone. -/
@[simp] theorem wf_mk (v b : List (Nat × Val)) (p : List PendingWrite) (c r n l : Nat) (d : DictState) (hv : v = d.vals) (hb : b = d.boot) :
    (DictState.mk v b p c r n l).wf ↔ d.wf := by
  subst hv; subst hb; rfl

/-- Every part but the dictionary. -/
def besideDict : List Part :=
  [.ticks, .time, .start, .faults, .pins, .queues, .host, .job, .scan, .axes, .cams, .melt, .reg, .link, .pair, .work, .steps, .light, .temp,
    .power, .analog, .mem, .flash, .seen, .freeCtr, .out, .pending]

/-- The dictionary of a state is in canonical form. -/
def Canonical (s : State) : Prop := s.dict.wf

/-- An operation that leaves the dictionary's part as it was keeps the canonical form. -/
theorem canonical_of_hide {s t : State} (h : t.hide besideDict = s.hide besideDict) (hs : Canonical s) : Canonical t := by
  have h2 : (t.hide besideDict).dict = (s.hide besideDict).dict := by rw [h]
  simp [State.hide, besideDict] at h2
  unfold Canonical DictState.wf at *
  rw [h2.1, h2.2.1]
  exact hs

theorem foldl_canonical {α : Type} (l : List α) (s : State) (f : State → α → State) (hf : ∀ s x, Canonical s → Canonical (f s x))
    (h : Canonical s) : Canonical (l.foldl f s) := by
  induction l generalizing s with
  | nil => exact h
  | cons x l ih => exact ih _ (hf s x h)

theorem forI_canonical (n : Nat) (s : State) (f : State → Nat → State) (hf : ∀ s k, Canonical s → Canonical (f s k))
    (h : Canonical s) : Canonical (forI n s f) := foldl_canonical _ _ _ hf h

theorem ite_canonical (c : Prop) [Decidable c] (s t : State) (hs : c → Canonical s) (ht : ¬c → Canonical t) :
    Canonical (if c then s else t) := by
  split
  · next h => exact hs h
  · next h => exact ht h

end Sys2Proof.Machine
end

