-- ==== Sys2Proof/WellFormed.lean ====
section
/-! DEFINITION. Which commands can reach the device: every operand fits the width that the spec gives its field. The machine itself gives
every command a meaning, well formed or not; what the spec makes the device check, the machine checks. -/

namespace Sys2Proof

/-- An unsigned value of `w` bits (R10). -/
abbrev fits (w n : Nat) : Bool := n < 2 ^ w

/-- A two's-complement value of `w` bits (R10). -/
abbrev fitsSigned (w : Nat) (n : Int) : Bool := -(2 ^ (w - 1) : Int) ≤ n && n < (2 ^ (w - 1) : Int)

/-- An engine clock within a tick, 0 to 9,999 (R42). -/
abbrev inTick (clk : Nat) : Bool := clk < 10000

/-- A millivolt or microvolt quantity of a converter, or any reading carried as U32. -/
abbrev reading (n : Nat) : Bool := fits 32 n

/-- An index and a subindex of the dictionary (R61). -/
abbrev address (index sub : Nat) : Bool := fits 16 index && fits 8 sub

/-- A source address and UDP port (R102). -/
def Src.wf (s : Src) : Bool := fits (if s.v6 then 128 else 32) s.addr && fits 16 s.udp

/-- The fields of a GDP header have the sizes of Tables 4.2 and 4.3. -/
def GdpHead.wf (h : GdpHead) : Bool :=
  h.src.wf && fits 16 h.udpLen && fits 8 h.version && fits 16 h.length && fits 32 h.reqId && fits 32 h.status && fits 16 h.position &&
    fits 16 h.reserved && inTick h.clk

/-- The fields of a Layer Stream header have the sizes of Tables 4.2 and 4.5. -/
def LsHead.wf (h : LsHead) : Bool :=
  h.src.wf && fits 16 h.udpLen && fits 8 h.version && fits 16 h.length && fits 32 h.session && fits 32 h.sequence && fits 32 h.status &&
    fits 64 h.offset

/-- One entry of a READ (Table 4.4). -/
def ReadItem.wf (i : ReadItem) : Bool := address i.index i.sub && fits 8 i.reserved

/-- One entry of a WRITE (Table 4.4): its value is at most 65,535 bytes, the length being U16. -/
def WriteItem.wf (i : WriteItem) : Bool := address i.index i.sub && fits 24 i.reserved && fits 16 i.data.length

/-- A value forwarded to the peer names an object and fits a peer message (R341, R345). -/
def ObjVal.wf (v : ObjVal) : Bool := address v.index v.sub && fits 16 v.data.length

/-- An Ethernet frame is at least 64 bytes long and holds its payload; its VLAN identifier is 12 bits wide (Table 4.1). A frame longer
than 1,522 bytes arrives too: the device discards it. -/
def EthFrame.wf (f : EthFrame) : Bool :=
  64 ≤ f.bytes && fits 16 f.bytes && (match f.vlan with | some v => fits 12 v | none => true) && f.src.wf && f.payload.length ≤ f.bytes

/-- The fields of an Announce have the widths of IEEE 802.1AS (R50, PRESUMED, assumption 5). -/
def Announce.wf (a : Announce) : Bool :=
  fits 8 a.domain && fits 8 a.priority1 && fits 8 a.clockClass && fits 8 a.accuracy && fits 16 a.variance && fits 8 a.priority2 &&
    fits 64 a.identity && fits 16 a.stepsRemoved

/-- The readings of one tick: photodiode codes of 16 bits (R446), three switch pins for each axis (R376), at most 4,000 clocks of P2 (Table 2.5), and
U32 readings. -/
def TickInputs.wf (t : TickInputs) : Bool :=
  t.pd.toList.all (fun v => v.toList.all (fits 16)) && t.switches.toList.all (fits 3) &&
    t.emf.toList.all (fun p => fitsSigned 32 p.1 && fitsSigned 32 p.2) && t.laoMonitor.toList.all reading && t.rails.toList.all reading &&
    t.phases.toList.all reading && t.lswCurrent.toList.all reading && t.lswVoltage.toList.all reading &&
    t.p2Clocks.toList.all (fun x => decide (x ≤ 4000)) && t.corrected.all (fun c => fits 40 c.address)

/-- The fields of a node frame have the sizes of Table 12.2; the four low bits of Unit are defined. -/
def NodeHead.wf (h : NodeHead) : Bool := fits 8 h.address && fits 8 h.unit && fits 32 h.sequence && fits 8 h.claim

/-- The fields of SENSOR RESPONSE have the sizes of Table 12.6. -/
def SensorPayload.wf (p : SensorPayload) : Bool :=
  fits 16 p.tick && fits 8 p.wordMask && fits 8 p.ampStatus && p.currents.toList.all (fitsSigned 16) && fitsSigned 16 p.temperature &&
    fits 16 p.missed

/-- The fields of LASER STATUS have the sizes of Table 12.8. -/
def LaserPayload.wf (p : LaserPayload) : Bool :=
  fits 16 p.tick && fits 8 p.status && fits 16 p.power && fits 16 p.backReflection && fitsSigned 16 p.temperature && fits 16 p.missed

/-- The fields of the answer to ENUMERATE have the sizes of Table 12.10. -/
def EnumPayload.wf (e : EnumPayload) : Bool :=
  fits 8 e.kind && fits 8 e.version && fits 8 e.links && fits 8 e.status && fits 16 e.vendor && fits 16 e.model && fits 32 e.firmware &&
    fits 64 e.serial && fits 32 e.rating && fits 8 e.events

/-- One event of a laser command fits Table 12.9: a 10-bit offset and a U16 power. -/
def LaserEvent.wf (e : LaserEvent) : Bool := fits 10 e.offset && fits 16 e.power

/-- The payload of a device frame fits its table; a laser command has at most four events (R315). -/
def FrameBody.wf : FrameBody → Bool
  | .sensorRequest tick mask => fits 16 tick && fits 8 mask
  | .statusRequest tick => fits 16 tick
  | .currentCommand target currents mask => fits 16 target && currents.toList.all (fitsSigned 16) && fits 8 mask
  | .laserCommand target start events => fits 16 target && fits 16 start && events.length ≤ 4 && events.all LaserEvent.wf
  | .enumerate address version => fits 8 address && fits 8 version
  | .configWrite item data => fits 16 item && 1 ≤ data.length && data.length ≤ 32
  | .configRead item => fits 16 item
  | .echo => true

/-- The fields of a device frame have the sizes of Table 12.2. -/
def DeviceFrame.wf (f : DeviceFrame) : Bool := fits 8 f.address && fits 8 f.unit && fits 32 f.sequence && fits 8 f.claim && f.body.wf

/-- The fields of a wisp have the sizes of Table 13.5. -/
def WispMsg.wf (m : WispMsg) : Bool :=
  fits 48 m.tick && fits 8 m.unitId && fits 8 m.pairState && fits 8 m.claim && fits 8 m.flags && fits 32 m.digest && fits 64 m.localTime &&
    fits 32 m.health && fits 8 m.decision && fits 8 m.portsFollowed && fits 8 m.zlUp && fits 8 m.camerasReceiving &&
    fits 32 m.groupsApplied && fits 32 m.lastPackage && fits 48 m.handOverTick

/-- The fields of a HELLO fit their objects (R341). -/
def HelloMsg.wf (m : HelloMsg) : Bool :=
  fits 8 m.unitId && fits 32 m.romVersion && fits 32 m.dictVersion && fits 8 m.authorityMode && fits 8 m.homeUnit && fits 32 m.ddrCapacity &&
    fits 32 m.roundTrip

/-- A mirror entry fits Tables 12.6 and 12.8. -/
def MirrorEntry.wf : MirrorEntry → Bool
  | .scanner _ mask amp _ _ _ => fits 8 mask && fits 8 amp
  | .laser _ status => fits 8 status

/-- The fields of a feature set have the sizes of Table 9.7. -/
def FeatureSet.wf (f : FeatureSet) : Bool :=
  fits 46 f.frame && fits 16 f.flags && fits 16 f.area && fits 12 f.peak && fits 32 f.intensity && fitsSigned 16 f.cx && fitsSigned 16 f.cy &&
    fits 16 f.elongation && fits 16 f.outside && fits 8 f.peakX && fits 8 f.peakY

/-- A MEASURE message names channels, axes and inputs that exist, once each, and its values have the widths of the quantities (R344). -/
def MeasureMsg.wf (m : MeasureMsg) : Bool :=
  fits 48 m.tick && m.pd.toList.all (fits 16) && m.features.all (fun p => p.2.wf) && decide ((m.features.map (·.1)).Nodup) &&
    fits 32 m.channelThrottle && fits 32 m.axisThrottle && decide (m.stalls.Nodup) && decide ((m.strings.map (·.l)).Nodup) &&
    decide ((m.readings.map (·.1)).Nodup) && m.readings.all (fun r => fitsSigned 16 r.2.1 && fits 8 r.2.2)

/-- What a temperature slot measured fits U32, and a ratio has a denominator (R423, R424). -/
def SlotMeasure.wf : SlotMeasure → Bool
  | .diode a b c => reading a && reading b && reading c
  | .ntc num den => reading num && reading den && den != 0
  | .idle => true

/-- A start-up report names self-tests by bit of a U32, and a flash header is 64 bytes or absent (R473, R493). -/
def PhaseReport.wf (r : PhaseReport) : Bool :=
  fits 32 r.durationUs && r.failedTests.all (· < 32) && fits 32 r.flash.capacityKiB && fits 32 r.flash.jedec && fits 32 r.flash.bfpt.programUs

/-- A GDP response has the fields of Tables 4.3 and 4.4 and is at most 1,452 bytes long (R95). -/
def GdpResponse.wf (r : GdpResponse) : Bool :=
  r.src.wf && fits 8 r.type && fits 32 r.reqId && fits 32 r.status && fits 16 r.position && r.body.length ≤ 1436

/-- A session copy has the fields of Table 4.5. -/
def SessionCopy.wf (c : SessionCopy) : Bool := fits 32 c.id && c.id != 0 && c.src.wf && fits 32 c.sequence && fits 64 c.offset

/-- Every operand fits the field that carries it. -/
def wellFormed : Instr → Bool
  | .tickBoundary inp => inp.wf
  | .syncReceived _ rxLocal gmTime => fits 64 rxLocal && fits 64 gmTime
  | .announceReceived a => a.wf
  | .pdelayReqReceived _ sequence => fits 16 sequence
  | .localTimeSet value clk => fits 64 value && inTick clk
  | .objectWrite index sub data clk => address index sub && fits 16 data.length && inTick clk
  | .resetRequest value clk => fits 32 value && inTick clk
  | .ethernetFrameReceived f => f.wf
  | .arpRequest _ target sender senderMac => fits 32 target && fits 32 sender && fits 48 senderMac
  | .arpCacheExpiry _ addr => fits 128 addr
  | .neighborSolicitation _ target => fits 128 target
  | .echoRequest _ v6 dst dataLen => fits (if v6 then 128 else 32) dst && fits 16 dataLen
  | .dhcpLeaseBound _ addr maskLen gateway t1 t2 lease =>
    fits 32 addr && maskLen ≤ 32 && fits 32 gateway && fits 32 t1 && fits 32 t2 && fits 32 lease
  | .read h items => h.wf && items.all ReadItem.wf && items.length ≤ 255
  | .write h items => h.wf && items.all WriteItem.wf && items.length ≤ 255
  | .blockReadOpen h index sub => h.wf && address index sub
  | .blockReadSegments h handle count first => h.wf && fits 8 handle && fits 8 count && fits 32 first
  | .blockWriteOpen h index sub size crc => h.wf && address index sub && fits 32 size && fits 32 crc
  | .blockWriteSegment h handle segment data => h.wf && fits 8 handle && fits 32 segment && data.length ≤ 65507
  | .blockClose h handle => h.wf && fits 8 handle
  | .subscribe h index sub dest period => h.wf && address index sub && fits 8 dest && fits 32 period
  | .unsubscribe h id => h.wf && fits 8 id
  | .lsOpen h flags => h.wf && fits 8 flags
  | .lsData h payload => h.wf && payload.length ≤ 65507
  | .lsClose h => h.wf
  | .hostLaserEnable _ value clk => fits 8 value && inTick clk
  | .channelStop _ clk | .rejoin _ clk => inTick clk
  | .axisClose _ clk | .axisOpen _ clk | .axisClearFault _ clk => inTick clk
  | .sensorResponse _ h p => h.wf && p.wf
  | .clearAmplitudeMarks _ value clk => fits 8 value && inTick clk
  | .frameStart _ _ h | .frameEnd _ _ h => inTick h.clk
  | .longPacket _ _ h dataType payload _ => inTick h.clk && fits 6 dataType && fits 16 payload.length
  | .manualTrigger _ value clk => fits 8 value && inTick clk
  | .i2cRequest _ data clk => fits 16 data.length && inTick clk
  | .i2cTransactionComplete _ status readBytes => fits 8 status && readBytes.length ≤ 255
  | .streamingEnable _ value clk => fits 8 value && inTick clk
  | .initScriptEntryDone _ status => fits 8 status
  | .snapshotArm _ value clk => fits 8 value && inTick clk
  | .laserStatus _ h p => h.wf && p.wf
  | .enumerateResponse _ h e => h.wf && e.wf
  | .echoResponse _ h roundTrip turnaround => h.wf && fits 32 roundTrip && fits 32 turnaround
  | .configWriteResponse _ h item status => h.wf && fits 16 item && fits 8 status
  | .configReadResponse _ h item status data => h.wf && fits 16 item && fits 8 status && data.length ≤ 32
  | .zlCredit _ count => fits 8 count
  | .ts2Received _ echoed kind _ => fits 8 echoed && fits 8 kind
  | .portEnable _ value clk => fits 8 value && inTick clk
  | .portCommand _ clk => inTick clk
  | .nodeRequest _ data clk => fits 16 data.length && inTick clk
  | .nodeTickReceived _ _ count _ arrival => fits 16 count && fits 64 arrival
  | .nodeFrameReceived _ _ f | .nodeServiceFrame _ _ f => f.wf
  | .hello m => m.wf
  | .state _ values pending replay session packages =>
    values.all ObjVal.wf && pending.all ObjVal.wf && replay.all GdpResponse.wf && replay.length ≤ 256 &&
      (match session with | some c => c.wf | none => true) && packages.length ≤ 255
  | .wisp m => m.wf
  | .mirror _ entries => entries.all MirrorEntry.wf
  | .measure m => m.wf
  | .peerWrite _ sequence items commitTime boundary response =>
    fits 32 sequence && items.all ObjVal.wf && fits 64 commitTime && fits 64 boundary &&
      (match response with | some r => r.wf | none => true)
  | .ack _ type sequence => fits 8 type && fits 32 sequence
  | .stream _ offset sequence data => fits 64 offset && fits 32 sequence && fits 16 data.length
  | .peerAuthAcquire highNs _ => fits 32 highNs
  | .pairCommand clk => inTick clk
  | .moveRequest _ data clk => fits 16 data.length && inTick clk
  | .retarget _ target clk => fitsSigned 64 target && inTick clk
  | .setPosition _ value clk => fitsSigned 64 value && inTick clk
  | .halt _ clk | .stop _ clk | .home _ clk | .stepperClearFault _ clk => inTick clk
  | .openDetected _ window current => reading window && reading current
  | .locateTest _ current => reading current
  | .probe _ current voltage => reading current && reading voltage
  | .stringEnable _ value clk | .clearFailedLamps _ value clk => fits 8 value && inTick clk
  | .mapBlockCompress mismatches => fits 32 mismatches
  | .rleStart clk | .rleResume clk | .rleUnload clk => inTick clk
  | .rleBlock mismatches _ => fits 32 mismatches
  | .temperatureSlot _ m die => m.wf && die.toList.all (fitsSigned 32)
  | .switchOff _ clk | .switchOn _ clk | .resetTrip _ clk => inTick clk
  | .calibrationCommand _ value clk => fits 8 value && inTick clk
  | .calibrationCommit _ sum0 sumF => fitsSigned 32 sum0 && fitsSigned 32 sumF
  | .calibrationComplete _ sum0 sumF => fitsSigned 32 sum0 && fitsSigned 32 sumF
  | .scrub target address _ word => fits 40 address && (match word with | .row _ => target == 2 | .beats _ _ => target != 2)
  | .uncorrectableWord _ address _ foundBy item => fits 40 address && fits 16 foundBy && fits 32 item
  | .errorInjection value clk => fits 32 value && inTick clk
  | .imageUpload _ crc clk => fits 32 crc && inTick clk
  | .activate value clk => fits 8 value && inTick clk
  | .save clk | .clearObjectsAndTables clk | .clearAll clk => inTick clk
  | .startupPhaseComplete r => r.wf
  | .acknowledge value clk => fits 32 value && inTick clk
  | .clearRing clk => inTick clk
  | .pdelayRespReceived _ t1 t2 t3 t4 => fits 64 t1 && fits 64 t2 && fits 64 t3 && fits 64 t4
  | .arrivalCutoff | .overrun _ | .applyPoint | .syncReceiptTimeout | .holdoverLimitExpiry | .dhcpRenew _ | .dhcpRebind _
  | .dhcpLeaseExpiry _ | .hostLinkDown _ | .blockTransferTimeout _ | .subscriptionSample _ | .creditPeriodic | .nextHopTimeout _
  | .packageValidation | .decisionPoint | .settleTimeout _ | .dwellEnd _ | .throttleDwellEnd _ | .startUpClose _ | .captureComplete _
  | .faultRampEnd _ | .followingError _ | .currentSaturated _ | .trustRestored _ | .pipelineUnit _
  | .frameTimeout _ | .missingFrame _ | .triggerPulse _ | .deliveryPoint _ | .linkError _ | .clockStretchTimeout _ | .layerImageStored _
  | .signalLoss _ | .cameraTermStarved _ | .correctionAtLimit _ | .heatGridUpdate | .qualityMapClose | .mapPlanesReplaced
  | .observationRecord _ | .fenSolve _ | .gridUpdateCommit | .serviceFrameTimeout _ | .creditStall _ _ | .trainTimeout _
  | .zlLinkDown _ _ | .downTimeout _ | .nodeGateRelease _ | .nodeTs1Received _ _ _ | .nodeTickMissing _ | .nodeHoldDeadline _ _
  | .nodeApplyCommand _ | .nodeCommandMissed _ | .nodeAuthorityLost _ | .nodeGateReceived _ _ | .lockstepEntry _ | .discoverTimeout
  | .wispMissing | .peerAckTimeout | .heartbeatLoss | .handOver | .unitLocalFault | .echoRule | .reversion | .healthRule | .lanternReport
  | .peerLinkDown | .peerLinkUp | .moveStart _ | .moveEnd _ | .moveDwellEnd _ | .stableEdge _ _ | .stall _ | .homingPhaseEnd _
  | .homingFailed _ | .standstillDelay _ | .patternFix | .probeNotPlaced _ | .scanPublish | .dieWarning | .dieShutdown
  | .railOutsideWindow _ | .railFaultPersists | .vinWarning | .vaux33Loss | .powerSequenceStep | .powerSequenceStepTimeout _
  | .powerSequenceRetry | .pfNAsserted | .holdUpExpiry | .pfNRelease | .lpermitNNegated | .permitRestored | .powerGood _
  | .softStartTimeout _ | .loadSwitchTrip _ _ | .retryDelayExpiry _ | .startUpGroup | .ddrTraining _ _ | .backgroundInitComplete _
  | .imageProgramComplete _ | .saveComplete | .flashOperationFailed | .powerOn _ | .resetN | .watchdogExpiry _ | .startupPhaseMaximum
  | .stoppingComplete | .ringWrite | .testEnRise | .testEnFall | .hostLinkUp _ | .nodeLinkUntrained _ _ | .nodeLinkNotLive _ _
  | .peerAuthNFault | .dieShutdownRelease | .powerDownEnd | .pllOutOfLock => true

/-- The engine clock the command reaches CC0, where the command carries one (R73). -/
def Instr.clock : Instr → Option Nat
  | .localTimeSet _ clk | .objectWrite _ _ _ clk | .resetRequest _ clk | .hostLaserEnable _ _ clk | .channelStop _ clk | .rejoin _ clk
  | .axisClose _ clk | .axisOpen _ clk | .axisClearFault _ clk | .clearAmplitudeMarks _ _ clk | .manualTrigger _ _ clk
  | .i2cRequest _ _ clk | .streamingEnable _ _ clk | .snapshotArm _ _ clk | .portEnable _ _ clk | .portCommand _ clk
  | .nodeRequest _ _ clk | .pairCommand clk | .moveRequest _ _ clk | .retarget _ _ clk | .setPosition _ _ clk | .halt _ clk | .stop _ clk
  | .home _ clk | .stepperClearFault _ clk | .stringEnable _ _ clk | .clearFailedLamps _ _ clk | .rleStart clk | .rleResume clk
  | .rleUnload clk | .switchOff _ clk | .switchOn _ clk | .resetTrip _ clk | .calibrationCommand _ _ clk | .errorInjection _ clk
  | .imageUpload _ _ clk | .activate _ clk | .save clk | .clearObjectsAndTables clk | .clearAll clk | .acknowledge _ clk | .clearRing clk =>
    some clk
  | .frameStart _ _ h => some h.clk
  | .read h _ | .write h _ | .blockReadOpen h _ _ | .blockReadSegments h _ _ _ | .blockWriteOpen h _ _ _ _ | .blockWriteSegment h _ _ _
  | .blockClose h _ | .subscribe h _ _ _ _ | .unsubscribe h _ => some h.clk
  | .tickBoundary _ | .arrivalCutoff | .overrun _ | .applyPoint | .syncReceived _ _ _ | .announceReceived _ | .pdelayReqReceived _ _
  | .syncReceiptTimeout | .holdoverLimitExpiry | .ethernetFrameReceived _ | .arpRequest _ _ _ _ | .arpCacheExpiry _ _
  | .neighborSolicitation _ _ | .echoRequest _ _ _ _ | .dhcpLeaseBound _ _ _ _ _ _ _ | .dhcpRenew _ | .dhcpRebind _ | .dhcpLeaseExpiry _
  | .hostLinkDown _ | .blockTransferTimeout _ | .subscriptionSample _ | .lsOpen _ _ | .lsData _ _ | .lsClose _ | .creditPeriodic
  | .nextHopTimeout _ | .packageValidation | .decisionPoint | .settleTimeout _ | .dwellEnd _ | .throttleDwellEnd _ | .startUpClose _
  | .captureComplete _ | .faultRampEnd _ | .followingError _ | .currentSaturated _ | .trustRestored _ | .sensorResponse _ _ _
  | .longPacket _ _ _ _ _ _ | .pipelineUnit _ | .frameEnd _ _ _ | .frameTimeout _ | .missingFrame _ | .triggerPulse _
  | .deliveryPoint _ | .linkError _ | .i2cTransactionComplete _ _ _ | .clockStretchTimeout _ | .initScriptEntryDone _ _
  | .layerImageStored _ | .signalLoss _ | .cameraTermStarved _ | .correctionAtLimit _ | .heatGridUpdate | .qualityMapClose
  | .mapPlanesReplaced | .observationRecord _ | .fenSolve _ | .gridUpdateCommit | .laserStatus _ _ _ | .enumerateResponse _ _ _
  | .echoResponse _ _ _ _ | .configWriteResponse _ _ _ _ | .configReadResponse _ _ _ _ _ | .serviceFrameTimeout _ | .zlCredit _ _
  | .creditStall _ _ | .ts2Received _ _ _ _ | .trainTimeout _ | .zlLinkDown _ _ | .downTimeout _ | .nodeGateRelease _
  | .nodeTs1Received _ _ _ | .nodeTickReceived _ _ _ _ _ | .nodeTickMissing _ | .nodeFrameReceived _ _ _ | .nodeHoldDeadline _ _
  | .nodeServiceFrame _ _ _ | .nodeApplyCommand _ | .nodeCommandMissed _ | .nodeAuthorityLost _ | .nodeGateReceived _ _ | .hello _
  | .state _ _ _ _ _ _ | .lockstepEntry _ | .discoverTimeout | .wisp _ | .wispMissing | .mirror _ _ | .measure _ | .peerWrite _ _ _ _ _ _
  | .ack _ _ _ | .peerAckTimeout | .stream _ _ _ _ | .heartbeatLoss | .peerAuthAcquire _ _ | .handOver | .unitLocalFault | .echoRule
  | .reversion | .healthRule | .lanternReport | .peerLinkDown | .peerLinkUp | .moveStart _ | .moveEnd _ | .moveDwellEnd _
  | .stableEdge _ _ | .stall _ | .homingPhaseEnd _ | .homingFailed _ | .standstillDelay _ | .patternFix | .openDetected _ _ _
  | .locateTest _ _ | .probe _ _ _ | .probeNotPlaced _ | .mapBlockCompress _ | .rleBlock _ _ | .temperatureSlot _ _ _ | .scanPublish
  | .dieWarning | .dieShutdown | .railOutsideWindow _ | .railFaultPersists | .vinWarning | .vaux33Loss | .powerSequenceStep
  | .powerSequenceStepTimeout _ | .powerSequenceRetry | .pfNAsserted | .holdUpExpiry | .pfNRelease | .lpermitNNegated | .permitRestored
  | .powerGood _ | .softStartTimeout _ | .loadSwitchTrip _ _ | .retryDelayExpiry _ | .startUpGroup | .calibrationCommit _ _ _
  | .calibrationComplete _ _ _ | .ddrTraining _ _ | .backgroundInitComplete _ | .scrub _ _ _ _ | .uncorrectableWord _ _ _ _ _
  | .imageProgramComplete _ | .saveComplete | .flashOperationFailed | .powerOn _ | .resetN | .watchdogExpiry _ | .startupPhaseComplete _
  | .startupPhaseMaximum | .stoppingComplete | .ringWrite | .testEnRise | .testEnFall | .pdelayRespReceived _ _ _ _ _ | .hostLinkUp _
  | .nodeLinkUntrained _ _ | .nodeLinkNotLive _ _ | .peerAuthNFault | .dieShutdownRelease | .powerDownEnd | .pllOutOfLock => none

end Sys2Proof
end

