-- ==== Sys2Proof/Laws/PerInstr.lean ====
section
/-! SUPPORT. Statements made command by command: the engine clock of a well-formed command lies within the tick. -/

namespace Sys2Proof.Laws.ClockInTick

set_option Elab.async false

/-- The clock that a well-formed command carries is one of the 10,000 engine clocks of a tick (R42, R73). -/
def Statement (i : Instr) : Prop := wellFormed i = true → ∀ c, i.clock = some c → c < 10000

theorem tickBoundary (inp : TickInputs) : Statement (.tickBoundary inp) := by intro _ c h; cases h
theorem arrivalCutoff : Statement .arrivalCutoff := by intro _ c h; cases h
theorem overrun (m : Monitor) : Statement (.overrun m) := by intro _ c h; cases h
theorem applyPoint : Statement .applyPoint := by intro _ c h; cases h
theorem syncReceived (port : Fin 2) (rxLocal gmTime : Nat) : Statement (.syncReceived port rxLocal gmTime) := by intro _ c h; cases h
theorem announceReceived (a : Announce) : Statement (.announceReceived a) := by intro _ c h; cases h
theorem pdelayReqReceived (port : Fin 2) (sequence : Nat) : Statement (.pdelayReqReceived port sequence) := by intro _ c h; cases h
theorem syncReceiptTimeout : Statement .syncReceiptTimeout := by intro _ c h; cases h
theorem holdoverLimitExpiry : Statement .holdoverLimitExpiry := by intro _ c h; cases h
theorem localTimeSet (value clk : Nat) : Statement (.localTimeSet value clk) := by intro h c hc; cases hc; simp [wellFormed] at h; omega
theorem objectWrite (index sub : Nat) (data : Bytes) (clk : Nat) : Statement (.objectWrite index sub data clk) := by intro h c hc; cases hc; simp [wellFormed] at h; omega
theorem resetRequest (value clk : Nat) : Statement (.resetRequest value clk) := by intro h c hc; cases hc; simp [wellFormed] at h; omega
theorem ethernetFrameReceived (f : EthFrame) : Statement (.ethernetFrameReceived f) := by intro _ c h; cases h
theorem arpRequest (port : Fin 2) (target sender : Nat) (senderMac : Nat) : Statement (.arpRequest port target sender senderMac) := by intro _ c h; cases h
theorem arpCacheExpiry (port : Fin 2) (addr : Nat) : Statement (.arpCacheExpiry port addr) := by intro _ c h; cases h
theorem neighborSolicitation (port : Fin 2) (target : Nat) : Statement (.neighborSolicitation port target) := by intro _ c h; cases h
theorem echoRequest (port : Fin 2) (v6 : Bool) (dst dataLen : Nat) : Statement (.echoRequest port v6 dst dataLen) := by intro _ c h; cases h
theorem dhcpLeaseBound (port : Fin 2) (addr maskLen gateway t1 t2 lease : Nat) : Statement (.dhcpLeaseBound port addr maskLen gateway t1 t2 lease) := by intro _ c h; cases h
theorem dhcpRenew (port : Fin 2) : Statement (.dhcpRenew port) := by intro _ c h; cases h
theorem dhcpRebind (port : Fin 2) : Statement (.dhcpRebind port) := by intro _ c h; cases h
theorem dhcpLeaseExpiry (port : Fin 2) : Statement (.dhcpLeaseExpiry port) := by intro _ c h; cases h
theorem hostLinkDown (port : Fin 2) : Statement (.hostLinkDown port) := by intro _ c h; cases h
theorem read (h : GdpHead) (items : List ReadItem) : Statement (.read h items) := by intro h c hc; cases hc; simp [wellFormed, GdpHead.wf] at h; omega
theorem write (h : GdpHead) (items : List WriteItem) : Statement (.write h items) := by intro h c hc; cases hc; simp [wellFormed, GdpHead.wf] at h; omega
theorem blockReadOpen (h : GdpHead) (index sub : Nat) : Statement (.blockReadOpen h index sub) := by intro h c hc; cases hc; simp [wellFormed, GdpHead.wf] at h; omega
theorem blockReadSegments (h : GdpHead) (handle count first : Nat) : Statement (.blockReadSegments h handle count first) := by intro h c hc; cases hc; simp [wellFormed, GdpHead.wf] at h; omega
theorem blockWriteOpen (h : GdpHead) (index sub size crc : Nat) : Statement (.blockWriteOpen h index sub size crc) := by intro h c hc; cases hc; simp [wellFormed, GdpHead.wf] at h; omega
theorem blockWriteSegment (h : GdpHead) (handle segment : Nat) (data : Bytes) : Statement (.blockWriteSegment h handle segment data) := by intro h c hc; cases hc; simp [wellFormed, GdpHead.wf] at h; omega
theorem blockClose (h : GdpHead) (handle : Nat) : Statement (.blockClose h handle) := by intro h c hc; cases hc; simp [wellFormed, GdpHead.wf] at h; omega
theorem blockTransferTimeout (handle : Fin 4) : Statement (.blockTransferTimeout handle) := by intro _ c h; cases h
theorem subscribe (h : GdpHead) (index sub dest period : Nat) : Statement (.subscribe h index sub dest period) := by intro h c hc; cases hc; simp [wellFormed, GdpHead.wf] at h; omega
theorem unsubscribe (h : GdpHead) (id : Nat) : Statement (.unsubscribe h id) := by intro h c hc; cases hc; simp [wellFormed, GdpHead.wf] at h; omega
theorem subscriptionSample (id : Fin 64) : Statement (.subscriptionSample id) := by intro _ c h; cases h
theorem lsOpen (h : LsHead) (flags : Nat) : Statement (.lsOpen h flags) := by intro _ c h; cases h
theorem lsData (h : LsHead) (payload : Bytes) : Statement (.lsData h payload) := by intro _ c h; cases h
theorem lsClose (h : LsHead) : Statement (.lsClose h) := by intro _ c h; cases h
theorem creditPeriodic : Statement .creditPeriodic := by intro _ c h; cases h
theorem nextHopTimeout (dest : Fin 4) : Statement (.nextHopTimeout dest) := by intro _ c h; cases h
theorem packageValidation : Statement .packageValidation := by intro _ c h; cases h
theorem decisionPoint : Statement .decisionPoint := by intro _ c h; cases h
theorem settleTimeout (n : Fin 32) : Statement (.settleTimeout n) := by intro _ c h; cases h
theorem dwellEnd (n : Fin 32) : Statement (.dwellEnd n) := by intro _ c h; cases h
theorem throttleDwellEnd (n : Fin 32) : Statement (.throttleDwellEnd n) := by intro _ c h; cases h
theorem hostLaserEnable (n : Fin 32) (value clk : Nat) : Statement (.hostLaserEnable n value clk) := by intro h c hc; cases hc; simp [wellFormed] at h; omega
theorem channelStop (n : Fin 32) (clk : Nat) : Statement (.channelStop n clk) := by intro h c hc; cases hc; simp [wellFormed] at h; omega
theorem rejoin (n : Fin 32) (clk : Nat) : Statement (.rejoin n clk) := by intro h c hc; cases hc; simp [wellFormed] at h; omega
theorem axisClose (a : Fin 96) (clk : Nat) : Statement (.axisClose a clk) := by intro h c hc; cases hc; simp [wellFormed] at h; omega
theorem axisOpen (a : Fin 96) (clk : Nat) : Statement (.axisOpen a clk) := by intro h c hc; cases hc; simp [wellFormed] at h; omega
theorem axisClearFault (a : Fin 96) (clk : Nat) : Statement (.axisClearFault a clk) := by intro h c hc; cases hc; simp [wellFormed] at h; omega
theorem startUpClose (a : Fin 96) : Statement (.startUpClose a) := by intro _ c h; cases h
theorem captureComplete (a : Fin 96) : Statement (.captureComplete a) := by intro _ c h; cases h
theorem faultRampEnd (a : Fin 96) : Statement (.faultRampEnd a) := by intro _ c h; cases h
theorem followingError (a : Fin 96) : Statement (.followingError a) := by intro _ c h; cases h
theorem currentSaturated (a : Fin 96) : Statement (.currentSaturated a) := by intro _ c h; cases h
theorem trustRestored (a : Fin 96) : Statement (.trustRestored a) := by intro _ c h; cases h
theorem sensorResponse (n : Fin 32) (h : NodeHead) (p : SensorPayload) : Statement (.sensorResponse n h p) := by intro _ c h; cases h
theorem clearAmplitudeMarks (a : Fin 96) (value clk : Nat) : Statement (.clearAmplitudeMarks a value clk) := by intro h c hc; cases hc; simp [wellFormed] at h; omega
theorem frameStart (c : Fin 20) (vc : Fin 4) (h : CsiHeader) : Statement (.frameStart c vc h) := by intro h c hc; cases hc; simp [wellFormed] at h; omega
theorem longPacket (c : Fin 20) (vc : Fin 4) (h : CsiHeader) (dataType : Nat) (payload : Bytes) (crcOk : Bool) : Statement (.longPacket c vc h dataType payload crcOk) := by intro _ c h; cases h
theorem pipelineUnit (c : Fin 20) : Statement (.pipelineUnit c) := by intro _ c h; cases h
theorem frameEnd (c : Fin 20) (vc : Fin 4) (h : CsiHeader) : Statement (.frameEnd c vc h) := by intro _ c h; cases h
theorem frameTimeout (i : Fin 128) : Statement (.frameTimeout i) := by intro _ c h; cases h
theorem missingFrame (i : Fin 128) : Statement (.missingFrame i) := by intro _ c h; cases h
theorem triggerPulse (c : Fin 20) : Statement (.triggerPulse c) := by intro _ c h; cases h
theorem manualTrigger (c : Fin 20) (value clk : Nat) : Statement (.manualTrigger c value clk) := by intro h c hc; cases hc; simp [wellFormed] at h; omega
theorem deliveryPoint (i : Fin 128) : Statement (.deliveryPoint i) := by intro _ c h; cases h
theorem linkError (c : Fin 20) : Statement (.linkError c) := by intro _ c h; cases h
theorem i2cRequest (c : Fin 20) (data : Bytes) (clk : Nat) : Statement (.i2cRequest c data clk) := by intro h c hc; cases hc; simp [wellFormed] at h; omega
theorem i2cTransactionComplete (c : Fin 20) (status : Nat) (readBytes : Bytes) : Statement (.i2cTransactionComplete c status readBytes) := by intro _ c h; cases h
theorem clockStretchTimeout (c : Fin 20) : Statement (.clockStretchTimeout c) := by intro _ c h; cases h
theorem streamingEnable (c : Fin 20) (value clk : Nat) : Statement (.streamingEnable c value clk) := by intro h c hc; cases hc; simp [wellFormed] at h; omega
theorem initScriptEntryDone (c : Fin 20) (status : Nat) : Statement (.initScriptEntryDone c status) := by intro _ c h; cases h
theorem snapshotArm (i : Fin 128) (value clk : Nat) : Statement (.snapshotArm i value clk) := by intro h c hc; cases hc; simp [wellFormed] at h; omega
theorem layerImageStored (i : Fin 128) : Statement (.layerImageStored i) := by intro _ c h; cases h
theorem signalLoss (n : Fin 32) : Statement (.signalLoss n) := by intro _ c h; cases h
theorem cameraTermStarved (n : Fin 32) : Statement (.cameraTermStarved n) := by intro _ c h; cases h
theorem correctionAtLimit (n : Fin 32) : Statement (.correctionAtLimit n) := by intro _ c h; cases h
theorem heatGridUpdate : Statement .heatGridUpdate := by intro _ c h; cases h
theorem qualityMapClose : Statement .qualityMapClose := by intro _ c h; cases h
theorem mapPlanesReplaced : Statement .mapPlanesReplaced := by intro _ c h; cases h
theorem observationRecord (n : Fin 32) : Statement (.observationRecord n) := by intro _ c h; cases h
theorem fenSolve (z : Fin 256) : Statement (.fenSolve z) := by intro _ c h; cases h
theorem gridUpdateCommit : Statement .gridUpdateCommit := by intro _ c h; cases h
theorem laserStatus (n : Fin 32) (h : NodeHead) (p : LaserPayload) : Statement (.laserStatus n h p) := by intro _ c h; cases h
theorem enumerateResponse (p : Fin 64) (h : NodeHead) (e : EnumPayload) : Statement (.enumerateResponse p h e) := by intro _ c h; cases h
theorem echoResponse (p : Fin 64) (h : NodeHead) (roundTrip turnaround : Nat) : Statement (.echoResponse p h roundTrip turnaround) := by intro _ c h; cases h
theorem configWriteResponse (p : Fin 64) (h : NodeHead) (item status : Nat) : Statement (.configWriteResponse p h item status) := by intro _ c h; cases h
theorem configReadResponse (p : Fin 64) (h : NodeHead) (item status : Nat) (data : Bytes) : Statement (.configReadResponse p h item status data) := by intro _ c h; cases h
theorem serviceFrameTimeout (p : Fin 64) : Statement (.serviceFrameTimeout p) := by intro _ c h; cases h
theorem zlCredit (p : Fin 64) (count : Nat) : Statement (.zlCredit p count) := by intro _ c h; cases h
theorem creditStall (p : Fin 64) (slot : Fin 2) : Statement (.creditStall p slot) := by intro _ c h; cases h
theorem ts2Received (p : Fin 64) (echoed kind : Nat) (codeError : Bool) : Statement (.ts2Received p echoed kind codeError) := by intro _ c h; cases h
theorem trainTimeout (p : Fin 64) : Statement (.trainTimeout p) := by intro _ c h; cases h
theorem zlLinkDown (p : Fin 64) (cause : LinkCause) : Statement (.zlLinkDown p cause) := by intro _ c h; cases h
theorem downTimeout (p : Fin 64) : Statement (.downTimeout p) := by intro _ c h; cases h
theorem portEnable (p : Fin 64) (value clk : Nat) : Statement (.portEnable p value clk) := by intro h c hc; cases hc; simp [wellFormed] at h; omega
theorem portCommand (p : Fin 64) (clk : Nat) : Statement (.portCommand p clk) := by intro h c hc; cases hc; simp [wellFormed] at h; omega
theorem nodeRequest (p : Fin 64) (data : Bytes) (clk : Nat) : Statement (.nodeRequest p data clk) := by intro h c hc; cases hc; simp [wellFormed] at h; omega
theorem nodeGateRelease (n : Fin 32) : Statement (.nodeGateRelease n) := by intro _ c h; cases h
theorem nodeTs1Received (p : Fin 64) (link : Fin 2) (idle : Bool) : Statement (.nodeTs1Received p link idle) := by intro _ c h; cases h
theorem nodeTickReceived (p : Fin 64) (link : Fin 2) (count : Nat) (complementOk : Bool) (arrival : Nat) : Statement (.nodeTickReceived p link count complementOk arrival) := by intro _ c h; cases h
theorem nodeTickMissing (p : Fin 64) : Statement (.nodeTickMissing p) := by intro _ c h; cases h
theorem nodeFrameReceived (p : Fin 64) (link : Fin 2) (f : DeviceFrame) : Statement (.nodeFrameReceived p link f) := by intro _ c h; cases h
theorem nodeHoldDeadline (p : Fin 64) (slot : Fin 2) : Statement (.nodeHoldDeadline p slot) := by intro _ c h; cases h
theorem nodeServiceFrame (p : Fin 64) (link : Fin 2) (f : DeviceFrame) : Statement (.nodeServiceFrame p link f) := by intro _ c h; cases h
theorem nodeApplyCommand (p : Fin 64) : Statement (.nodeApplyCommand p) := by intro _ c h; cases h
theorem nodeCommandMissed (p : Fin 64) : Statement (.nodeCommandMissed p) := by intro _ c h; cases h
theorem nodeAuthorityLost (p : Fin 64) : Statement (.nodeAuthorityLost p) := by intro _ c h; cases h
theorem nodeGateReceived (p : Fin 64) (link : Fin 2) : Statement (.nodeGateReceived p link) := by intro _ c h; cases h
theorem hello (m : HelloMsg) : Statement (.hello m) := by intro _ c h; cases h
theorem state (valid : Bool) (values pending : List ObjVal) (replay : List GdpResponse) (session : Option SessionCopy) (packages : List Bytes) : Statement (.state valid values pending replay session packages) := by intro _ c h; cases h
theorem lockstepEntry (image : Machine.StateImage) : Statement (.lockstepEntry image) := by intro _ c h; cases h
theorem discoverTimeout : Statement .discoverTimeout := by intro _ c h; cases h
theorem wisp (w : WispMsg) : Statement (.wisp w) := by intro _ c h; cases h
theorem wispMissing : Statement .wispMissing := by intro _ c h; cases h
theorem mirror (valid : Bool) (entries : List MirrorEntry) : Statement (.mirror valid entries) := by intro _ c h; cases h
theorem measure (m : MeasureMsg) : Statement (.measure m) := by intro _ c h; cases h
theorem peerWrite (valid : Bool) (sequence : Nat) (items : List ObjVal) (commitTime boundary : Nat) (response : Option GdpResponse) : Statement (.peerWrite valid sequence items commitTime boundary response) := by intro _ c h; cases h
theorem ack (valid : Bool) (type sequence : Nat) : Statement (.ack valid type sequence) := by intro _ c h; cases h
theorem peerAckTimeout : Statement .peerAckTimeout := by intro _ c h; cases h
theorem stream (valid : Bool) (offset sequence : Nat) (data : Bytes) : Statement (.stream valid offset sequence data) := by intro _ c h; cases h
theorem heartbeatLoss : Statement .heartbeatLoss := by intro _ c h; cases h
theorem peerAuthAcquire (highNs : Nat) (highAtSample : Bool) : Statement (.peerAuthAcquire highNs highAtSample) := by intro _ c h; cases h
theorem handOver : Statement .handOver := by intro _ c h; cases h
theorem pairCommand (clk : Nat) : Statement (.pairCommand clk) := by intro h c hc; cases hc; simp [wellFormed] at h; omega
theorem unitLocalFault : Statement .unitLocalFault := by intro _ c h; cases h
theorem echoRule : Statement .echoRule := by intro _ c h; cases h
theorem reversion : Statement .reversion := by intro _ c h; cases h
theorem healthRule : Statement .healthRule := by intro _ c h; cases h
theorem lanternReport : Statement .lanternReport := by intro _ c h; cases h
theorem peerLinkDown : Statement .peerLinkDown := by intro _ c h; cases h
theorem peerLinkUp : Statement .peerLinkUp := by intro _ c h; cases h
theorem moveRequest (m : Fin 8) (data : Bytes) (clk : Nat) : Statement (.moveRequest m data clk) := by intro h c hc; cases hc; simp [wellFormed] at h; omega
theorem retarget (m : Fin 8) (target : Int) (clk : Nat) : Statement (.retarget m target clk) := by intro h c hc; cases hc; simp [wellFormed] at h; omega
theorem setPosition (m : Fin 8) (value : Int) (clk : Nat) : Statement (.setPosition m value clk) := by intro h c hc; cases hc; simp [wellFormed] at h; omega
theorem halt (m : Fin 8) (clk : Nat) : Statement (.halt m clk) := by intro h c hc; cases hc; simp [wellFormed] at h; omega
theorem stop (m : Fin 8) (clk : Nat) : Statement (.stop m clk) := by intro h c hc; cases hc; simp [wellFormed] at h; omega
theorem home (m : Fin 8) (clk : Nat) : Statement (.home m clk) := by intro h c hc; cases hc; simp [wellFormed] at h; omega
theorem stepperClearFault (m : Fin 8) (clk : Nat) : Statement (.stepperClearFault m clk) := by intro h c hc; cases hc; simp [wellFormed] at h; omega
theorem moveStart (m : Fin 8) : Statement (.moveStart m) := by intro _ c h; cases h
theorem moveEnd (m : Fin 8) : Statement (.moveEnd m) := by intro _ c h; cases h
theorem moveDwellEnd (m : Fin 8) : Statement (.moveDwellEnd m) := by intro _ c h; cases h
theorem stableEdge (m : Fin 8) (sw : Fin 3) : Statement (.stableEdge m sw) := by intro _ c h; cases h
theorem stall (m : Fin 8) : Statement (.stall m) := by intro _ c h; cases h
theorem homingPhaseEnd (m : Fin 8) : Statement (.homingPhaseEnd m) := by intro _ c h; cases h
theorem homingFailed (m : Fin 8) : Statement (.homingFailed m) := by intro _ c h; cases h
theorem standstillDelay (m : Fin 8) : Statement (.standstillDelay m) := by intro _ c h; cases h
theorem patternFix : Statement .patternFix := by intro _ c h; cases h
theorem openDetected (l : Fin 16) (window current : Nat) : Statement (.openDetected l window current) := by intro _ c h; cases h
theorem locateTest (l : Fin 16) (current : Nat) : Statement (.locateTest l current) := by intro _ c h; cases h
theorem probe (l : Fin 16) (current voltage : Nat) : Statement (.probe l current voltage) := by intro _ c h; cases h
theorem probeNotPlaced (l : Fin 16) : Statement (.probeNotPlaced l) := by intro _ c h; cases h
theorem stringEnable (l : Fin 16) (value clk : Nat) : Statement (.stringEnable l value clk) := by intro h c hc; cases hc; simp [wellFormed] at h; omega
theorem clearFailedLamps (l : Fin 16) (value clk : Nat) : Statement (.clearFailedLamps l value clk) := by intro h c hc; cases hc; simp [wellFormed] at h; omega
theorem mapBlockCompress (mismatches : Nat) : Statement (.mapBlockCompress mismatches) := by intro _ c h; cases h
theorem rleStart (clk : Nat) : Statement (.rleStart clk) := by intro h c hc; cases hc; simp [wellFormed] at h; omega
theorem rleResume (clk : Nat) : Statement (.rleResume clk) := by intro h c hc; cases hc; simp [wellFormed] at h; omega
theorem rleUnload (clk : Nat) : Statement (.rleUnload clk) := by intro h c hc; cases hc; simp [wellFormed] at h; omega
theorem rleBlock (mismatches : Nat) (uncorrectable : Bool) : Statement (.rleBlock mismatches uncorrectable) := by intro _ c h; cases h
theorem temperatureSlot (k : Fin 48) (m : SlotMeasure) (die : Vector Int 8) : Statement (.temperatureSlot k m die) := by intro _ c h; cases h
theorem scanPublish : Statement .scanPublish := by intro _ c h; cases h
theorem dieWarning : Statement .dieWarning := by intro _ c h; cases h
theorem dieShutdown : Statement .dieShutdown := by intro _ c h; cases h
theorem railOutsideWindow (rail : Fin 6) : Statement (.railOutsideWindow rail) := by intro _ c h; cases h
theorem railFaultPersists : Statement .railFaultPersists := by intro _ c h; cases h
theorem vinWarning : Statement .vinWarning := by intro _ c h; cases h
theorem vaux33Loss : Statement .vaux33Loss := by intro _ c h; cases h
theorem powerSequenceStep : Statement .powerSequenceStep := by intro _ c h; cases h
theorem powerSequenceStepTimeout (rail : Fin 6) : Statement (.powerSequenceStepTimeout rail) := by intro _ c h; cases h
theorem powerSequenceRetry : Statement .powerSequenceRetry := by intro _ c h; cases h
theorem pfNAsserted : Statement .pfNAsserted := by intro _ c h; cases h
theorem holdUpExpiry : Statement .holdUpExpiry := by intro _ c h; cases h
theorem pfNRelease : Statement .pfNRelease := by intro _ c h; cases h
theorem lpermitNNegated : Statement .lpermitNNegated := by intro _ c h; cases h
theorem permitRestored : Statement .permitRestored := by intro _ c h; cases h
theorem switchOff (k : Fin 16) (clk : Nat) : Statement (.switchOff k clk) := by intro h c hc; cases hc; simp [wellFormed] at h; omega
theorem switchOn (k : Fin 16) (clk : Nat) : Statement (.switchOn k clk) := by intro h c hc; cases hc; simp [wellFormed] at h; omega
theorem resetTrip (k : Fin 16) (clk : Nat) : Statement (.resetTrip k clk) := by intro h c hc; cases hc; simp [wellFormed] at h; omega
theorem powerGood (k : Fin 16) : Statement (.powerGood k) := by intro _ c h; cases h
theorem softStartTimeout (k : Fin 16) : Statement (.softStartTimeout k) := by intro _ c h; cases h
theorem loadSwitchTrip (k : Fin 16) (twice : Bool) : Statement (.loadSwitchTrip k twice) := by intro _ c h; cases h
theorem retryDelayExpiry (k : Fin 16) : Statement (.retryDelayExpiry k) := by intro _ c h; cases h
theorem startUpGroup : Statement .startUpGroup := by intro _ c h; cases h
theorem calibrationCommand (j : Fin 81) (value clk : Nat) : Statement (.calibrationCommand j value clk) := by intro h c hc; cases hc; simp [wellFormed] at h; omega
theorem calibrationCommit (j : Fin 81) (sum0 sumF : Int) : Statement (.calibrationCommit j sum0 sumF) := by intro _ c h; cases h
theorem calibrationComplete (j : Fin 81) (sum0 sumF : Int) : Statement (.calibrationComplete j sum0 sumF) := by intro _ c h; cases h
theorem ddrTraining (ch : Fin 2) (ok : Bool) : Statement (.ddrTraining ch ok) := by intro _ c h; cases h
theorem backgroundInitComplete (ch : Fin 2) : Statement (.backgroundInitComplete ch) := by intro _ c h; cases h
theorem scrub (target : Fin 3) (address region : Nat) (word : StoredWord) : Statement (.scrub target address region word) := by intro _ c h; cases h
theorem uncorrectableWord (location : Fin 4) (address region : Nat) (foundBy item : Nat) : Statement (.uncorrectableWord location address region foundBy item) := by intro _ c h; cases h
theorem errorInjection (value clk : Nat) : Statement (.errorInjection value clk) := by intro h c hc; cases hc; simp [wellFormed] at h; omega
theorem imageUpload (image : Bytes) (crc clk : Nat) : Statement (.imageUpload image crc clk) := by intro h c hc; cases hc; simp [wellFormed] at h; omega
theorem imageProgramComplete (verified : Bool) : Statement (.imageProgramComplete verified) := by intro _ c h; cases h
theorem activate (value clk : Nat) : Statement (.activate value clk) := by intro h c hc; cases hc; simp [wellFormed] at h; omega
theorem save (clk : Nat) : Statement (.save clk) := by intro h c hc; cases hc; simp [wellFormed] at h; omega
theorem saveComplete : Statement .saveComplete := by intro _ c h; cases h
theorem clearObjectsAndTables (clk : Nat) : Statement (.clearObjectsAndTables clk) := by intro h c hc; cases hc; simp [wellFormed] at h; omega
theorem clearAll (clk : Nat) : Statement (.clearAll clk) := by intro h c hc; cases hc; simp [wellFormed] at h; omega
theorem flashOperationFailed : Statement .flashOperationFailed := by intro _ c h; cases h
theorem powerOn (strap : Fin 2) : Statement (.powerOn strap) := by intro _ c h; cases h
theorem resetN : Statement .resetN := by intro _ c h; cases h
theorem watchdogExpiry (core : Fin 4) : Statement (.watchdogExpiry core) := by intro _ c h; cases h
theorem startupPhaseComplete (r : PhaseReport) : Statement (.startupPhaseComplete r) := by intro _ c h; cases h
theorem startupPhaseMaximum : Statement .startupPhaseMaximum := by intro _ c h; cases h
theorem stoppingComplete : Statement .stoppingComplete := by intro _ c h; cases h
theorem acknowledge (value clk : Nat) : Statement (.acknowledge value clk) := by intro h c hc; cases hc; simp [wellFormed] at h; omega
theorem ringWrite : Statement .ringWrite := by intro _ c h; cases h
theorem clearRing (clk : Nat) : Statement (.clearRing clk) := by intro h c hc; cases hc; simp [wellFormed] at h; omega
theorem testEnRise : Statement .testEnRise := by intro _ c h; cases h
theorem testEnFall : Statement .testEnFall := by intro _ c h; cases h
theorem pdelayRespReceived (port : Fin 2) (t1 t2 t3 t4 : Nat) : Statement (.pdelayRespReceived port t1 t2 t3 t4) := by intro _ c h; cases h
theorem hostLinkUp (port : Fin 2) : Statement (.hostLinkUp port) := by intro _ c h; cases h
theorem nodeLinkUntrained (p : Fin 64) (link : Fin 2) : Statement (.nodeLinkUntrained p link) := by intro _ c h; cases h
theorem nodeLinkNotLive (p : Fin 64) (link : Fin 2) : Statement (.nodeLinkNotLive p link) := by intro _ c h; cases h
theorem peerAuthNFault : Statement .peerAuthNFault := by intro _ c h; cases h
theorem dieShutdownRelease : Statement .dieShutdownRelease := by intro _ c h; cases h
theorem powerDownEnd : Statement .powerDownEnd := by intro _ c h; cases h
theorem pllOutOfLock : Statement .pllOutOfLock := by intro _ c h; cases h

end Sys2Proof.Laws.ClockInTick
end

