-- ==== Sys2Proof/Tests/Slice0.lean ====
section
/-! SUPPORT. Tests: what each check of well-formedness refuses, single steps against the spec's own numbers, and for every statement with
hypotheses a state and operands that meet them, clause by clause. -/

namespace Sys2Proof.Tests

set_option Elab.async false

open Sys2Proof Sys2Proof.Machine

/-! States to start from -/

/-- READY at tick 200,000, single, powered. -/
def up : State :=
  { State.reset with
    time := { State.reset.time with running := true, ticks := 200000, boundary := 2000000000 }
    start := { State.reset.start with phase := 0 }
    job := { State.reset.job with dev := .ready }
    power := { State.reset.power with st := .powered }
    mem := { State.reset.mem with state := Vector.replicate 2 1, population := Vector.replicate 2 1 } }

/-- The state with one object's value in force. -/
def holds (s : State) (index sub : Nat) (v : Int) : State := s.updDict (fun d => setVal d index sub (.int v))

/-- The state with one table's octets in force. -/
def holdsOct (s : State) (index sub : Nat) (b : Bytes) : State := s.updDict (fun d => setVal d index sub (.oct b))

/-- The active unit of a pair in lockstep. -/
def pairOf (st : PairSt) : State := up.updPair (fun p => { p with st := st, linkUp := true })

/-! Witnesses -/

theorem witness_EmptyQueueIdles : up.pending = [] := rfl

theorem witness_EveryStep : Completes up := ⟨up, rfl⟩

theorem witness_CommandsLeaveTheQueueAlone : ∃ t, exec .arrivalCutoff State.reset = .next t := ⟨_, rfl⟩

theorem witness_ValuesChangeOnlyAtTheirMoments : setsValues .applyPoint = false ∧ ∃ t, exec .applyPoint up = .next t := ⟨rfl, _, rfl⟩

theorem witness_OnlyBoundariesCountTicks : movesTicks .applyPoint = false ∧ ∃ t, exec .applyPoint up = .next t := ⟨rfl, _, rfl⟩

theorem witness_StepsKeepTheDictionaryCanonical : up.dict.wf ∧ ∃ t, step up = .next t :=
  ⟨⟨List.Pairwise.nil, (fun _ h => nomatch h), List.Pairwise.nil⟩, up, rfl⟩

/-- The device in test mode. -/
def testing : State := { State.reset with start := { State.reset.start with testMode := true }, pins := { State.reset.pins with jtagEnabled := true } }

theorem witness_TickCommandsComplete :
    (up.start.testMode = false ∧ up.time.running = true ∧ up.time.cutoff = false ∧ tickWorks up.toBlocks = true) ∧
    (testing.start.testMode = true ∧ testing.pins.jtagEnabled = true) ∧ (up.updTime (fun t => { t with cutoff := true })).time.cutoff = true := by
  decide +kernel

/-- A port with 802.1AS on, and the port as slave, after fifteen offsets inside the lock window or three beyond four windows. -/
def synced (tb : TbState) : State :=
  (holds (holds up 0x2000 0x00 1) 0x2000 0x03 100).updTime (fun t =>
    { t with slave := some 0, tb := tb, inWindow := 15, outWindow := 3 })

theorem witness_TimebaseStatesFollowTable23 :
    (∀ tb ∈ [TbState.free, .holdover, .acquire, .locked], gptpOn (synced tb).toBlocks 0 = true ∧ (synced tb).time.slave = some 0 ∧
      (synced tb).time.tb = tb ∧ (synced tb).time.syncTick + 37500 ≤ (synced tb).now) ∧
    (0 : Int).natAbs ≤ (synced .acquire).objN 0x2000 0x05 ∧ 15 ≤ (synced .acquire).time.inWindow ∧
    4 * (synced .locked).objN 0x2000 0x05 < (10000000 : Int).natAbs ∧ 3 ≤ (synced .locked).time.outWindow ∧
    (synced .holdover).objN 0x2000 0x03 ≠ 0 ∧
    (synced .holdover).time.holdoverStart + (synced .holdover).objN 0x2000 0x03 ≤ (synced .holdover).now := by decide +kernel

theorem witness_GptpMessagesComplete :
    let s := (synced .free).updEth 0 (fun e => { e with linkUp := true })
    gptpOn s.toBlocks 0 = true ∧ (0 : Nat) = s.objN 0x2000 0x02 ∧ (getI s.host.ports 0).linkUp = true ∧ (1 : Nat) < 255 := by decide +kernel

/-- READY with everything the device-wide commands ask for: an open record, a flash, a valid image in slot 1. -/
def serviced : State :=
  let r : Record := { number := 1, link := 0, boot := 1, closed := false, escalated := false, unstored := false, closedByReset := false
                      sevInForce := 2, lost := 0
                      st := { localTime := 0, devState := 1, ev := mkEvent (.block 6) 0x110A .warn .rail 0 [] } }
  { up with
    faults := { up.faults with log := [r], created := 1 }
    flash := { up.flash with present := true, slots := updI up.flash.slots 1 (fun x => { x with status := 1 }) } }

theorem witness_ObjectWritesAreAllOrNothing :
    Accepted up 0x3000 0x00 [1] 0 ∧ isBoot 0x3000 0x00 = false ∧ Accepted serviced 0x2400 0x00 [1] 0 ∧ isBoot 0x2400 0x00 = true ∧
    served up.toBlocks = true ∧ groupCode (up.atClock 0).toBlocks (isTableObj 0x1000 0) [(0x1000, 0, [1])] ≠ none := by
  unfold Accepted; decide +kernel

theorem witness_DeviceCommandsCommit :
    Accepted up 0x2000 0x07 (leBytes 8 5000) 0 ∧ Accepted up 0x1002 0x00 (leBytes 4 0x5E5E) 0 ∧
    Accepted (pairOf .active) 0x2400 0x09 [1] 0 ∧ Accepted serviced 0x2300 0x19 (leBytes 1 0x04) 0 ∧
    served up.toBlocks = true ∧ crc32c [1, 2, 3] ≠ 0 ∧ Accepted serviced 0x1202 0x08 (leBytes 1 1) 0 ∧
    Accepted serviced 0x1200 0x00 [1] 0 ∧ Accepted serviced 0x1200 0x00 [2] 0 ∧ Accepted serviced 0x1200 0x00 [3] 0 ∧
    Accepted serviced 0x1080 0x06 (leBytes 4 1) 0 ∧ Accepted up 0x1080 0x0C [1] 0 := by
  unfold Accepted; decide +kernel

/-- An image with no entries and no signature, for dictionary version 1.0. -/
def emptyImage : Bytes :=
  let head := leBytes 4 0x47495947 ++ leBytes 2 1 ++ leBytes 2 0 ++ leBytes 4 1 ++ leBytes 4 132 ++ leBytes 4 0 ++ leBytes 2 0x0100 ++
    leBytes 42 0
  head ++ leBytes 4 (crc32c head) ++ leBytes 64 0

/-- On a device of dictionary version 1.0 with no fused key, that image passes every check of an upload. -/
theorem witness_imageUpload (hk : Config.signingKey = none) (hv : Config.dictVersion = 0x0100) :
    Accepted (serviced.updFlash (fun f => { f with capacity := 65536 })) 0x1202 0x06 emptyImage 0 := by
  refine ⟨by decide +kernel, ?_⟩
  unfold groupCode
  simp only [writeCode, valueCode, imageCode, slotStatus, hk, hv]
  decide +kernel

/-- READY with channel 31 running a layer, and its axes enabled, trusted and in a loop state. -/
def scanning (st : ChanState) (loop : Loop) (dev : DevState) : State :=
  let s := (holds (holds up (0x3200 + 95) 0x00 1) (0x3200 + 95) 0x20 1).updAxis 95 (fun a => { a with loop := loop, trusted := true })
  { s.updChan 31 (fun c => { c with state := st }) with job := { s.job with dev := dev } }

theorem witness_ScannerCommandsCommit :
    Accepted up (0x3000 + 31) 0x00 (leBytes 1 1) 0 ∧ Accepted (scanning .run .closed .running) (0x3100 + 31) 0x0C [1] 0 ∧
    Accepted (scanning .stopped .closed .running) (0x3100 + 31) 0x0C [2] 0 ∧
    Accepted (scanning .idle .opened .ready) (0x3200 + 95) 0x02 [1] 0 ∧ Accepted (scanning .idle .closed .ready) (0x3200 + 95) 0x02 [2] 0 ∧
    Accepted (scanning .idle .opened .ready) (0x3200 + 95) 0x02 [3] 0 ∧ Accepted up (0x3300 + 95) 0x2C (leBytes 1 1) 0 := by
  unfold Accepted; decide +kernel

theorem witness_CameraAndPortCommandsCommit :
    Accepted up (0x3500 + 19) 0x0B (leBytes 1 1) 0 ∧ Accepted up (0x3500 + 19) 0x10 ([0x20, 1, 0, 0] ++ List.replicate 36 0) 0 ∧
    Accepted up (0x3500 + 19) 0x00 (leBytes 1 1) 0 ∧ Accepted (holds up (0x3400 + 127) 0x1A 2) (0x3400 + 127) 0x1D (leBytes 1 1) 0 ∧
    Accepted up (0x5000 + 63) 0x00 (leBytes 1 1) 0 ∧ Accepted up (0x5000 + 63) 0x03 [1] 0 ∧
    Accepted (up.updPort 63 (fun p => { p with st := .up })) (0x5000 + 63) 0x04 ([0x23, 0, 0, 0x80] ++ List.replicate 36 0) 0 := by
  unfold Accepted; decide +kernel

/-- READY with stepper axis 7 enabled, trusted and in a state. -/
def stepping (st : StepState) : State := (holds up (0x4000 + 7) 0x00 1).updStep 7 (fun a => { a with st := st, trusted := true })

theorem witness_StepperCommandsCommit :
    Accepted (stepping .idle) (0x4000 + 7) 0x41 ([1, 0, 0, 0] ++ leBytes 4 0 ++ leBytes 4 1000 ++ leBytes 4 0) 0 ∧
    Accepted (stepping .moving) (0x4000 + 7) 0x42 (leBytesI 4 0) 0 ∧ Accepted (stepping .idle) (0x4000 + 7) 0x43 (leBytesI 4 (-5)) 0 ∧
    Accepted up (0x4000 + 7) 0x40 [1] 0 ∧ Accepted up (0x4000 + 7) 0x40 [2] 0 ∧ Accepted (stepping .idle) (0x4000 + 7) 0x40 [3] 0 ∧
    Accepted (stepping .stopped) (0x4000 + 7) 0x40 [4] 0 := by
  unfold Accepted; decide +kernel

/-- READY with the run-length engine in a state and input at hand, and with switch 15 in a state. -/
def coding (st : RleState) : State := (holdsOct (holds up 0x4200 0x01 0) 0x4200 0x02 [1, 0]).updRle (fun r => { r with st := st })

theorem witness_LightAndPowerCommandsCommit :
    Accepted up (0x4100 + 15) 0x00 (leBytes 1 1) 0 ∧ Accepted up (0x4100 + 15) 0x0C (leBytes 1 1) 0 ∧
    Accepted (coding .empty) 0x4200 0x00 [1] 0 ∧ Accepted (coding .full) 0x4200 0x00 [2] 0 ∧ Accepted (coding .done) 0x4200 0x00 [3] 0 ∧
    Accepted up (0x2110 + 15) 0x00 [0] 0 ∧ Accepted up (0x2110 + 15) 0x00 [1] 0 ∧
    Accepted (up.updSwitch 15 (fun x => { x with st := .tripped })) (0x2110 + 15) 0x00 [2] 0 ∧
    Accepted up (0x4300 + 80) 0x02 (leBytes 1 1) 0 := by
  unfold Accepted; decide +kernel

/-! Host link -/

/-- Port 0 in use at an IPv4 address. -/
def linked : State :=
  up.updEth 0 (fun e => { e with linkUp := true, ipv4 := 0x0A000001, prefixLen := 24, dhcp := .selecting, arp := [(0x0A000002, 0xB0B, 6200000)] })

/-- A source of host messages, the header of a GDP request of a length, and that of a Layer Stream message. -/
def hostSrc : Src := { v6 := false, addr := 0x0A000002, udp := 50000 }

def gdpHead (len : Nat) : GdpHead :=
  { port := 0, src := hostSrc, udpLen := len, version := 1, length := len, reqId := 7, status := 0, position := 0xFFFF, reserved := 0
    clk := 100 }

def lsHead (len session sequence offset : Nat) : LsHead :=
  { port := 0, src := hostSrc, udpLen := len, version := 1, length := len, session, sequence, status := 0, offset }

/-- A frame on port 0, its VLAN identifier, its kind and its payload. -/
def ethFrame (vlan : Option Nat) (kind : FrameKind) (payload : Bytes) : EthFrame :=
  { port := 0, bytes := 100, vlan, kind, src := hostSrc, payload }

/-- Port 0 in a DHCP state with every timer past. -/
def leased (d : Dhcp) : State := linked.updEth 0 (fun e => { e with dhcp := d })

theorem witness_HostPortCommandsComplete :
    (served linked.toBlocks = true ∧ portReady linked.toBlocks 0 = true ∧
      (vlanPasses linked.toBlocks (ethFrame none .pause []) && frameSupported linked.toBlocks (ethFrame none .pause [])) = false) ∧
    (vlanPasses linked.toBlocks (ethFrame none (.udp4 47411 true false) [1, 2]) = true ∧
      frameSupported linked.toBlocks (ethFrame none (.udp4 47411 true false) [1, 2]) = true ∧ fieldU ([1, 2] : Bytes) 1 1 = 2) ∧
    0x0A000001 ≠ 0 ∧ 0x0A000001 = ipv4InUse linked.toBlocks 0 ∧
    (0x0A000001 != 0 && 0x0A000001 == ipv4InUse linked.toBlocks 0) = true ∧ (getI linked.host.ports 0).otherFill + (8 + 1472) ≤ 32768 ∧ (getI linked.host.ports 0).echoCount < 100 ∧
    (getI linked.host.ports 0).dhcp ≠ .off ∧
    ((getI (leased .bound).host.ports 0).dhcp = .bound ∧ (getI (leased .bound).host.ports 0).t1 ≤ (leased .bound).now) ∧
    ((getI (leased .renewing).host.ports 0).dhcp = .renewing ∧ (getI (leased .renewing).host.ports 0).t2 ≤ (leased .renewing).now) ∧
    ((getI (leased .rebinding).host.ports 0).dhcp = .rebinding ∧ (getI (leased .rebinding).host.ports 0).leaseEnd ≤ (leased .rebinding).now) ∧
    (getI linked.host.ports 0).linkUp = true ∧ ((getI up.host.ports 1).linkUp = false ∧ served up.toBlocks = true) ∧
    (getI (up.updDest 3 (fun d => { d with waiting := some 100000 })).host.dests 3).waiting = some 100000 ∧ 100000 + 100000 ≤ up.now := by
  decide +kernel

/-- The link-local address is the port's own. -/
theorem witness_neighborSolicitation : ownV6 linked.toBlocks 0 (linkLocal 0) = true := by
  have h : linked.toBlocks.objN 0x1100 0x0A = 1 := by decide +kernel
  simp [ownV6, h]

/-- A read of the local time, a write of a laser enable, and a write of an object that does not exist. -/
def readOne : List ReadItem := [{ index := 0x2000, sub := 0x07, reserved := 0 }, { index := 0x1000, sub := 0x00, reserved := 0 }]
def writeOne : List WriteItem := [{ index := 0x3000, sub := 0x00, reserved := 0, data := [0] }]
def writeBad : List WriteItem := writeOne ++ [{ index := 0x0FFF, sub := 0x00, reserved := 0, data := [0] }]

theorem witness_GdpReadAndWriteComplete :
    (Heard linked (gdpHead 28) (20 + 4 * readOne.length) (readOne.all (fun x => x.reserved == 0)) ∧ readOne ≠ [] ∧ readOne.length ≤ 64 ∧
      16 + (leBytes 8 linked.seen.tickCount ++ readOne.flatMap (readEntry (arrived linked (gdpHead 28)))).length ≤ 1452 ∧
      Answerable linked (gdpHead 28) 1452) ∧
    (Heard linked (gdpHead 32) (writeMin writeOne) (writeOne.all (fun x => x.reserved == 0)) ∧
      writeOne ≠ [] ∧ writeOne.length ≤ 64 ∧ linked.pair.st ≠ .active ∧ Answerable linked (gdpHead 32) 40 ∧
      groupCode (arrived linked (gdpHead 32)).toBlocks false (writeOne.map (fun x => (x.index, x.sub, x.data))) = none) ∧
    (Heard linked (gdpHead 44) (writeMin writeBad) (writeBad.all (fun x => x.reserved == 0)) ∧
      writeBad ≠ [] ∧ writeBad.length ≤ 64 ∧ Answerable linked (gdpHead 44) 40 ∧
      groupCode (arrived linked (gdpHead 44)).toBlocks false (writeBad.map (fun x => (x.index, x.sub, x.data))) = some (1, 0x01010001)) := by
  unfold Heard Answerable Sendable; decide +kernel

/-- A transfer of 2,048 bytes on handle 3, waiting for segment 0, without a segment for 100,000 ticks. -/
def transfer (writing : Bool) : BlockTransfer :=
  { writing, src := hostSrc, index := 0x4200, sub := 0x02, size := 2048, crc := 0, next := 0, data := List.replicate 2048 0, lastTick := 100000 }

def transferring (writing : Bool) : State :=
  linked.updHost (fun h => { h with transfers := updI h.transfers 3 (fun _ => some (transfer writing)) })

theorem ok_of_check {x : Except Nat Bytes} {b : Bytes} (h : (x.toOption == some b) = true) : x = .ok b := by
  cases x <;> simp_all [Except.toOption]

theorem witness_blockReadOpen : readObject (arrived linked (gdpHead 20)) 0x4200 0x02 true = .ok [] := ok_of_check (by decide +kernel)

theorem witness_BlockTransfersComplete :
    (Heard linked (gdpHead 20) 20 true ∧ Answerable linked (gdpHead 20) 28 ∧ freeHandle linked.toBlocks = some 0) ∧
    (Heard (transferring false) (gdpHead 24) 24 true ∧ transferOf (transferring false).toBlocks 3 false = some (transfer false) ∧
      1 + 1 ≤ ((transfer false).size + 1023) / 1024 ∧ Sendable (transferring false).toBlocks 51 0 hostSrc (1048 * 2)) ∧
    (Heard linked (gdpHead 28) 28 true ∧ Answerable linked (gdpHead 28) 20 ∧
      writeOpenCode (arrived linked (gdpHead 28)).toBlocks 0x4200 0x02 2048 = 0) := by
  unfold Heard Answerable Sendable; decide +kernel

theorem witness_blockSegments :
    (Heard (transferring true) (gdpHead 1048) 24 true ∧ Answerable (transferring true) (gdpHead 1048) 44 ∧
      transferOf (transferring true).toBlocks 3 true = some (transfer true) ∧
      0 = (transfer true).next ∧ (List.replicate 1024 (0 : Byte)).length = Nat.min 1024 ((transfer true).size - 1024 * 0) ∧
      1024 * (0 + 1) < (transfer true).size) ∧
    7 ≠ (transfer true).next ∧ (Heard (transferring true) (gdpHead 20) 20 true ∧ Answerable (transferring true) (gdpHead 20) 20 ∧
      (getI (transferring true).host.transfers 3).isSome = true) ∧
    (getI (transferring true).host.transfers 3 = some (transfer true) ∧ (transfer true).lastTick + 100000 ≤ (transferring true).now) := by
  unfold Heard Answerable Sendable; decide +kernel

/-- Subscription 63 of the laser enable of channel 0, sampled every 100 ticks to a destination that selects samples. -/
def subscribed : State :=
  holds (holds (linked.updHost (fun h => { h with subs := updI h.subs 63 (fun _ =>
    some { src := hostSrc, index := 0x3000, sub := 0x00, dest := 0, period := 100, reported := none, sampled := none }) })) 0x1118 0x00 1)
    0x1118 0x06 7

theorem witness_SubscriptionsComplete :
    (Heard linked (gdpHead 24) 24 true ∧ Answerable linked (gdpHead 24) 20 ∧
      subscribeCode (arrived linked (gdpHead 24)).toBlocks 0x3000 0x00 3 100 = 0) ∧
    (Heard subscribed (gdpHead 20) 20 true ∧ Answerable subscribed (gdpHead 20) 20 ∧ (getI subscribed.host.subs 63).isSome = true) ∧
    sampleDue subscribed 63 = some [0] := by
  unfold Heard Answerable Sendable; decide +kernel

/-- A session with 100 bytes received in sequence. -/
def streaming : State :=
  linked.updSession (fun x => { x with id := 9, port := 0, src := hostSrc, sequence := 5, offset := 100, lastCredit := 100 })

theorem witness_LayerStreamComplete :
    (StreamHeard linked (lsHead 28 9 0 0) 28 (0 == 0 && 0 == 0 && decide (1 < 2) && 9 != 0) ∧
      (getI linked.host.ports 0).otherFill + 28 ≤ 32768) ∧
    (StreamHeard streaming (lsHead 25 9 5 100) 25 true ∧ acceptsWrites streaming.toBlocks = true ∧
      inSession streaming.toBlocks (lsHead 25 9 5 100) = true ∧ streaming.host.session.closing = none ∧
      5 = streaming.host.session.sequence ∧ 100 = streaming.host.session.offset ∧ 100 + 1 ≤ creditLimit streaming.host.session) ∧
    (4 < streaming.host.session.sequence ∧ streaming.host.session.sequence ≤ 4 + 2 ^ 31) ∧
    (streaming.host.session.sequence < 6 ∧ 6 < streaming.host.session.sequence + 2 ^ 31) ∧
    (StreamHeard streaming (lsHead 24 9 0 0) 24 true ∧ inSession streaming.toBlocks (lsHead 24 9 0 0) = true ∧
      (getI streaming.host.ports 0).otherFill + 24 ≤ 32768) ∧
    (streaming.host.session.id ≠ 0 ∧ streaming.host.session.lastCredit + 1000 ≤ streaming.now ∧
      Sendable streaming.toBlocks 48 0 hostSrc 40) := by
  unfold StreamHeard Sendable; decide +kernel

/-! Jobs, channels and axes -/

/-- A package without sections: the first layer of job 7, or the layer after layer 3 of it, its magic right or wrong. -/
def package (magic flags layer : Nat) : Bytes :=
  let b := leBytes 4 magic ++ leBytes 2 1 ++ leBytes 2 0 ++ leBytes 4 68 ++ leBytes 4 layer ++ leBytes 4 flags ++ leBytes 4 0 ++
    leBytes 8 0 ++ leBytes 4 7 ++ leBytes 28 0
  b ++ leBytes 4 (crc32c b)

/-- READY with every axis CLOSED and trusted, and a package at hand. -/
def arrivedPackage (b : Bytes) : State :=
  { up with
    axes := up.axes.map (fun a => { a with loop := .closed, trusted := true })
    job := { up.job with arrived := [{ since := 1, offset := 0, bytes := b }] } }

/-- What a check that passes answers. -/
def packageAnswer (x : Except PkgError (Package × Vector (Option Pt) 32)) : Package × Vector (Option Pt) 32 :=
  match x with
  | .ok y => y
  | .error _ => default

def packageError (x : Except PkgError (Package × Vector (Option Pt) 32)) : Option PkgError :=
  match x with
  | .ok _ => none
  | .error e => some e

theorem ok_of_package {x : Except PkgError (Package × Vector (Option Pt) 32)} (h : packageError x = none) : x = .ok (packageAnswer x) := by
  cases x with
  | ok y => rfl
  | error e => cases h

theorem error_of_package {x : Except PkgError (Package × Vector (Option Pt) 32)} {e : PkgError} (h : packageError x = some e) :
    x = .error e := by
  cases x with
  | ok y => cases h
  | error e => cases h; rfl

/-- The first package of job 7. -/
def firstPackage : Bytes := package 0x504C5947 1 3
def firstAnswer : Except PkgError (Package × Vector (Option Pt) 32) := checkPackage (arrivedPackage firstPackage).job firstPackage

theorem witness_JobCommandsComplete :
    (firstAnswer = .ok (packageAnswer firstAnswer) ∧ startGranted (arrivedPackage firstPackage).toBlocks (packageAnswer firstAnswer).1 = true) ∧
    (checkPackage (arrivedPackage (package 0 1 3)).job (package 0 1 3) = .error (pkgFail 1) ∧
      checkSequence (arrivedPackage (package 0 1 3)).job (package 0 1 3) ≠ .stopped) ∧
    ((up.updTime (fun t => { t with cutoff := true })).time.cutoff = true ∧ up.job.decided = false ∧ up.pair.st ≠ .standby) ∧
    ((up.updJob (fun j => { j with dev := .stopping })).job.dev = .stopping ∧ allAtRest (up.updJob (fun j => { j with dev := .stopping })).toBlocks = true) := by
  exact ⟨⟨ok_of_package (by decide +kernel), by decide +kernel⟩, ⟨error_of_package (by decide +kernel), by decide +kernel⟩,
    by decide +kernel, by decide +kernel⟩

theorem witness_ChannelTimersComplete :
    (let s := up.updChan 31 (fun c => { c with state := .run, act := .settle 1000 0 })
     (getI s.scan.chans 31).act = .settle 1000 0 ∧ 1000 + s.objN (0x3100 + 31) 0x08 ≤ s.now ∧ 0 < s.objN (0x3100 + 31) 0x07 ∧
      (getI s.scan.chans 31).state = .run ∧ (getI s.scan.chans 31).item = none) ∧
    (let s := up.updChan 31 (fun c => { c with state := .run, act := .settle 1000 0, item := some { fen := 1, item := 2, recs := [], refused := [], home := none } })
     (getI s.scan.chans 31).item = some { fen := 1, item := 2, recs := [], refused := [], home := none }) ∧
    (let s := up.updChan 31 (fun c => { c with act := .dwell 200000, active := some { body := .dwell 5, bytes := 8, offset := 0, layer := 1, nominal := 5, words := [] } })
     (getI s.scan.chans 31).act = .dwell 200000 ∧ 200000 ≤ s.now ∧ (getI s.scan.chans 31).item = none) ∧
    (let s := up.updChan 31 (fun c => { c with act := .throttle 200000 })
     (getI s.scan.chans 31).act = .throttle 200000 ∧ 200000 ≤ s.now) ∧
    (let s := (up.updGates 31 (fun g => { g with node := true })).updLaser 31 (fun x => { x with clean := 1000000 })
     (getI s.scan.chans 31).gates.node = true ∧ s.objN (0x3000 + 31) 0x06 ≤ (getI s.link.lasers 31).clean) := by decide +kernel

/-- READY with axis 95 enabled and in a state; `kp` is its proportional gain. -/
def axisUp (kp : Int) (f : Axis → Axis) : State := (holds (holds up (0x3200 + 95) 0x00 1) (0x3200 + 95) 0x20 kp).updAxis 95 f

theorem witness_AxisEventsComplete :
    (let s := axisUp 1 (fun x => { x with trusted := true })
     closeDue s.toBlocks 95 = true ∧ axisCommandCode s.toBlocks (fun i k => pendingVal s.dict i k) 95 1 = 0 ∧ s.pair.st ≠ .active) ∧
    (let s := axisUp 0 (fun x => { x with trusted := true })
     closeDue s.toBlocks 95 = true ∧ axisCommandCode s.toBlocks (fun i k => pendingVal s.dict i k) 95 1 = 0x03010003) ∧
    (let s := axisUp 1 (fun x => { x with loop := .capture, captured := true })
     (getI s.axes 95).loop = .capture ∧ (getI s.axes 95).captured = true) ∧
    (let s := axisUp 1 (fun x => { x with loop := .ramp, rampLen := 10, rampStep := 10 })
     (getI s.axes 95).loop = .ramp ∧ (getI s.axes 95).rampLen ≤ (getI s.axes 95).rampStep) ∧
    (let s := axisUp 1 (fun x => { x with loop := .closed, followRun := 100000 })
     (getI s.axes 95).loop = .closed ∧ 0 < s.objN (0x3200 + 95) 0x0C ∧ s.objN (0x3200 + 95) 0x0C ≤ (getI s.axes 95).followRun) ∧
    (let s := axisUp 1 (fun x => { x with satRun := 100000 })
     0 < s.objN (0x3200 + 95) 0x13 ∧ s.objN (0x3200 + 95) 0x13 ≤ (getI s.axes 95).satRun ∧ (getI s.axes 95).satPosted = false) ∧
    (let s := axisUp 1 (fun x => { x with trustRun := 100000 })
     s.objN (0x3200 + 95) 0x00 ≠ 0 ∧ (getI s.axes 95).trusted = false ∧ (getI s.axes 95).latched = 0 ∧
      s.objN (0x3200 + 95) 0x0F ≤ (getI s.axes 95).trustRun) := by decide +kernel

/-- A frame of the node on a port that answers a request of a sequence, with or without a CRC or code error. -/
def nodeHead (p sequence : Nat) : NodeHead :=
  { codeError := false, crcOk := true, address := p, unit := 2, sequence, claim := 4, reservedZero := true }

/-- A sensor word at position 5 with sine 1,000, cosine 0, counter 3 and a good CRC (Table 8.1, R221). -/
def goodWord : SensorWord := 
  let body := 5 * 2 ^ 32 + 1000 * 2 ^ 20 + 3 * 2 ^ 4
  BitVec.ofNat 64 (body * 256 + crc8 56 body)

def sensorAnswer : SensorPayload :=
  { tick := 0, wordMask := 1, ampStatus := 0, wordX := goodWord, wordY := 0, wordF := 0, currents := Vector.replicate 3 0, temperature := 1600, missed := 0 }

theorem witness_NodeResponsesComplete :
    (let s := (holds up 0x3200 0x00 1).updPort 32 (fun x => { x with slot0 := some 9 })
     frameFault (32 + 0) (requestSequences s.toBlocks 32) (nodeHead 32 9) = 0 ∧ bit sensorAnswer.wordMask 0 = true ∧
      bit sensorAnswer.wordMask 1 = false ∧ axisEnabled s.toBlocks (3 * 0 + 0) = true ∧
      wordReason (servoEnv s.toBlocks (3 * 0 + 0)) (getI s.axes (3 * 0 + 0)).fb sensorAnswer.wordX = 0) ∧
    (let h := { nodeHead 32 9 with crcOk := false }
     h.codeError = false ∧ h.crcOk = false) ∧
    (let s := up.updPort 31 (fun x => { x with slot0 := some 9 })
     frameFault 31 (requestSequences s.toBlocks 31) (nodeHead 31 9) = 0) ∧
    ({ nodeHead 31 9 with codeError := true } : NodeHead).codeError = true := by decide +kernel

/-! Cameras, melt pool and registration -/

/-- Camera port 0 accepting packets, with stream 0 changed. -/
def filming (f : CamStream → CamStream) : State :=
  (up.updPortC 0 (fun p => { p with link := 2 })).updStream 0 0 f

def goodHeader : CsiHeader := { clk := 1000, corrected := false, bad := false, vcx := false }

/-- A frame being received in context 127. -/
def someFrame : FrameAcc := { (default : FrameAcc) with index := 12, start := 1000 }

theorem witness_FrameCommandsComplete :
    (let s := filming id
     portAccepts s.toBlocks 0 = true ∧ vcAccepted 0 0 = true ∧ 0 ∈ streamCtxs s.toBlocks 0 0 ∧ (getI (getI s.cams.ports 0).streams 0).lastIndex ≠ some 50000) ∧
    (let s := filming (fun y => { y with lastIndex := some 50000 })
     (frameIndexOf s.toBlocks 0).1 = 50000 ∧ (getI (getI s.cams.ports 0).streams 0).lastIndex = some 50000) ∧
    ({ goodHeader with bad := true } : CsiHeader).bad = true ∧ vcAccepted 0 3 = false ∧
    ({ goodHeader with vcx := true } : CsiHeader).vcx = true ∧
    (let s := filming (fun y => { y with isOpen := true, lines := 63 })
     portAccepts s.toBlocks 0 = true ∧ boundCtxs s.toBlocks 0 0 = [0] ∧ 0x2B = ctxN s.toBlocks 0 0x03 ∧
      (getI (getI s.cams.ports 0).streams 0).isOpen = true ∧ (getI (getI s.cams.ports 0).streams 0).duplicate = false ∧
      (getI (getI s.cams.ports 0).streams 0).dropping = false ∧ (getI (getI s.cams.ports 0).streams 0).lines < ctxN s.toBlocks 0 0x05 ∧
      (getI s.cams.ports 0).lines.length < 8 ∧ streamCtxs s.toBlocks 0 0 ≠ []) ∧
    (let l : CamLine := { vc := 0, serial := 1, number := 0, codes := [1, 2], done := 0 }
     let s := up.updPortC 19 (fun p => { p with lines := [l] })
     turnPort s.toBlocks = some 19 ∧ (getI s.cams.ports 19).lines = [l]) ∧
    (let s := up.updCtx 127 (fun x => { x with frames := [someFrame] })
     someFrame ∈ (getI s.cams.ctxs 127).frames ∧ someFrame.ended = false ∧ someFrame.start + ctxN s.toBlocks 127 0x0B ≤ s.now ∧
      (getI s.cams.ctxs 127).frames = [someFrame]) ∧
    (let s := up.updCtx 127 (fun x => { x with expected := [12] })
     (getI s.cams.ctxs 127).expected = [12] ∧ ctxN s.toBlocks 127 0x0B ≤ (2 ^ 48 + s.tickCount - 4 * 12) % 2 ^ 48) := by decide +kernel

/-- The tick before the end of the latency of frame 49,998 of context 0, whose set is ready for channel 31 or has not come. -/
def delivering : State :=
  ((holds up 0x3400 0x00 1).updCtx 0 (fun x => { x with ready := [(31, { (default : FeatureSet) with frame := 49998 })] })).updTime
    (fun k => { k with ticks := 199997, boundary := 1999970000 })

def undelivered : State :=
  (holds (holds (holds up 0x3400 0x00 1) 0x3400 0x11 4) 0x3400 0x0A 0).updCtx 0 (fun x => { x with expected := [49998] }) |>.updTime
    (fun k => { k with ticks := 199997, boundary := 1999970000 })

/-- Camera port 19 at an entry of an init script of a write, a delay of 100 µs, and a write. -/
def scripting (k u : Nat) : State :=
  (holdsOct up (0x3500 + 19) 0x13 ([0x20, 2, 1, 2, 0, 0, 0, 0] ++ [0x80, 0, 0, 0] ++ leBytes 4 100 ++ [0x21, 1, 9, 0, 0, 0, 0, 0])).updPortC 19
    (fun p => { p with link := 1, use := .script k u })

theorem witness_CameraControlCompletes :
    (let s := up.updPortC 19 (fun p => { p with link := 2, manual := some 100 })
     firesNow s.toBlocks 19 = true) ∧
    (deliveryFrame delivering.toBlocks 0 delivering.tickCount = some (49998, 31) ∧ (getI delivering.melt.chans 31).delivery = none ∧
      deliveredSet delivering.toBlocks 0 49998 ≠ none) ∧
    (deliveryFrame undelivered.toBlocks 0 undelivered.tickCount = some (49998, 0) ∧ (getI undelivered.melt.chans 0).delivery = none ∧
      deliveredSet undelivered.toBlocks 0 49998 = none) ∧
    (getI (filming id).cams.ports 0).link ≠ 0 ∧
    (let s := up.updPortC 19 (fun p => { p with link := 2, use := .request [0] })
     (getI s.cams.ports 19).use = .request [0] ∧ (getI s.cams.ports 19).link ≠ 1) ∧
    ((getI (scripting 0 0).cams.ports 19).use = .script 0 0 ∧ isDelay (scripting 0 0).toBlocks 19 0 = false ∧
      0 + 1 < scriptLength (scripting 0 0).toBlocks 19 ∧ isDelay (scripting 0 0).toBlocks 19 (0 + 1) = true) ∧
    ((getI (scripting 1 2000000).cams.ports 19).use = .script 1 2000000 ∧ isDelay (scripting 1 2000000).toBlocks 19 1 = true ∧
      2000000 < microTime (scripting 1 2000000).toBlocks + 10 ∧ 1 + 1 < scriptLength (scripting 1 2000000).toBlocks 19 ∧
      isDelay (scripting 1 2000000).toBlocks 19 (1 + 1) = false) ∧
    ((getI (scripting 2 0).cams.ports 19).use = .script 2 0 ∧ isDelay (scripting 2 0).toBlocks 19 2 = false ∧
      scriptLength (scripting 2 0).toBlocks 19 ≤ 2 + 1) ∧
    (let m : LayerImage := { index := 1, geometry := 2, data := [3] }
     (getI (up.updCtx 127 (fun x => { x with images := [m] })).cams.ctxs 127).images = [m]) := by decide +kernel

/-- A closed map with blocks still to compress, or none. -/
def closingMap (todo : List (Nat × Nat)) : MapClosing :=
  { map := { layer := 3, job := 7, boundary := 0, until_ := none, completion := some 9, closeAt := some 100, x := 0, y := 0, q := 1, w := 8, h := 8
             mask := 1, heatLag := false, stopped := false, outside := 1, cells := [], where_ := [], absent := [] }
    serial := 0, since := 0, todo, left := todo.length, planes := [] }

theorem witness_MeltPoolCommandsComplete :
    (let s := up.updMelt 31 (fun m => { m with lowRun := 1000000000, absentRun := 1000000000, limitRun := 1000000000 })
     s.objN (0x3600 + 31) 0x09 ≤ (getI s.melt.chans 31).lowRun ∧ (getI s.melt.chans 31).lost = false ∧
      s.objN (0x3600 + 31) 0x0F ≤ (getI s.melt.chans 31).absentRun ∧ (getI s.melt.chans 31).starvedPosted = false ∧
      s.objN (0x3600 + 31) 0x10 ≤ (getI s.melt.chans 31).limitRun ∧ (getI s.melt.chans 31).limitPosted = false) ∧
    (let d : HeatDue := { c := 100, layer := 3, decay := 65536, ref := 0, energy := [(1, 5)], grid := none }
     let g : HeatDue := { d with grid := some { cells := [], ref := none, layer := none } }
     let s := up.updMeltState (fun m => { m with heatDue := [g] ++ d :: [] })
     s.melt.heatDue = [g] ++ d :: [] ∧ (∀ x ∈ [g], x.grid.isSome = true) ∧ d.grid = none ∧ recordsRead s.toBlocks (d.c + 9) = true) ∧
    (let s := up.updMeltState (fun m => { m with closing := closingMap [] :: [] })
     s.melt.q47.foldl placeBlock s.melt.closing = closingMap [] :: [] ∧ (closingMap []).left = 0) ∧
    (let s := up.updMeltState (fun m => { m with closing := closingMap [(0, 8)] :: [] })
     s.melt.q47.foldl placeBlock s.melt.closing = closingMap [(0, 8)] :: [] ∧ (closingMap [(0, 8)]).left ≠ 0) := by decide +kernel

/-- Fen 255 between channels 0 and 1, and an undecided layer whose completion was at tick 1,000. -/
def someFen : FenCfg :=
  { fen := 255, chanA := 0, chanB := 1, mode := 4, xMin := 0, xMax := 1000, yMin := 0, yMax := 1000, taper := 0, nMin := 1, spread := 0
    residual := 0x447A0000, outlier := 0x447A0000, maxStep := 0x447A0000, gain := 0 }

def someLayer : LayerSolve :=
  { (default : LayerSolve) with c := 1000, count := 1000, fens := [someFen], gens := List.replicate 32 0, mats := List.replicate 32 (0, 0, 0, 0) }

/-- An observation of fen 255 in a frame of that layer. -/
def someObservation : Observation := { (default : Observation) with fen := 255, mark := 1, frame := 10, exposer := 0, observer := 1 }

/-- What the solution of that fen found, and the layer decided with it. -/
def someSolved : Solved := { fen := 255, status := 1, used := 4, rejected := 0, values := List.replicate 10 (f64I 0) }
def decidedLayer : LayerSolve := { someLayer with decided := true, solved := [someSolved] }
def registering : State := holds (up.updReg (fun x => { x with layers := [decidedLayer] })) (0x3800 + 0) 0x08 1

theorem f64Of_zero (d : Nat) : f64Of 0 d = { m := 0, e := 0 } := by simp [f64Of, rndMag]

theorem f64Mul_zero (y : F64) : f64Mul { m := 0, e := 0 } y = { m := 0, e := 0 } := by simp [f64Mul, f64Frac, f64Of_zero]

theorem foldl_same {α β : Type} (l : List β) (a : α) (f : α → β → α) (h : ∀ b, f a b = a) : l.foldl f a = a := by
  induction l with
  | nil => rfl
  | cons b l ih => rw [List.foldl_cons, h, ih]

/-- With gain 0 a fen moves no grid point. -/
theorem largestStep_of_gain_zero (m2 x y : Int) (d : Nat) : largestStep someFen someSolved m2 x y d = f64I 0 := by
  have h : ∀ x y, contribution someFen someSolved m2 x y = ({ m := 0, e := 0 }, { m := 0, e := 0 }) := by
    intro x y; simp [contribution, someFen, f64Of_zero, f64Mul_zero]
  have h0 : resLen ({ m := 0, e := 0 }, { m := 0, e := 0 }) = f64I 0 := by decide +kernel
  have h1 : f64Le (f64I 0) (f64I 0) = true := by decide +kernel
  unfold largestStep
  exact foldl_same _ _ _ (fun j => foldl_same _ _ _ (fun i => by simp [h, h0, h1]))

theorem witness_gridUpdateCommit : correctors registering.toBlocks decidedLayer 0 ≠ [] := by
  have h : stepOver registering.toBlocks someFen someSolved = false := by
    unfold stepOver
    simp only [largestStep_of_gain_zero]
    decide +kernel
  have h1 : decidedLayer.solved = [someSolved] := rfl
  have h2 : decidedLayer.fens.find? (fun c => c.fen == someSolved.fen) = some someFen := rfl
  have h3 : correctsScanner someFen someSolved 0 = some (-1) := by decide +kernel
  simp [correctors, h1, h2, h, h3]

theorem witness_RegistrationCommandsComplete :
    (let s := up.updReg (fun x => { x with layers := [] ++ someLayer :: [], read := [someObservation] })
     (∀ x ∈ s.reg.waiting, x.fen ≠ 255) ∧ s.reg.layers = [] ++ someLayer :: [] ∧ someLayer.decided = false ∧
      (∀ r ∈ someLayer.solved, r.fen ≠ 255) ∧ someLayer.fens.find? (fun x => x.fen == 255) = some someFen ∧ layerObs s.reg someLayer 255 ≠ []) ∧
    (registering.reg.layers = [decidedLayer] ∧ decidedLayer.decided = true ∧ (∀ r ∈ decidedLayer.refused, r.1 ≠ 0) ∧
      refusal registering.toBlocks decidedLayer 0 = none) := by
  decide +kernel

/-! Zhomon Link -/

/-- Port 0 and port 32 in a state and a service step, waiting for the answer to request 9. -/
def porting (p : Nat) (st : PortState) (step : ServiceStep) : State :=
  up.updPort p (fun x => { x with st := st, step := step, svc := some { sequences := [9], sentTick := 100, sends := 3, due := false } })

def enumGood : EnumPayload :=
  { kind := 1, version := 1, links := 2, status := 0, vendor := 5, model := 6, firmware := 7, serial := 8, rating := 9, events := 4 }

theorem witness_PortBringUpCompletes :
    (getI (porting 0 .train .none).link.ports 0).st = .train ∧
    (let s := porting 0 .enum .enumerate
     (getI s.link.ports 0).st = .enum ∧ (getI s.link.ports 0).step = .enumerate ∧
      frameFault 0 (serviceSequences s.toBlocks 0) (nodeHead 0 9) = 0 ∧ enumOk s.toBlocks 0 enumGood = true ∧
      enumOk s.toBlocks 0 { enumGood with kind := 2 } = false) ∧
    (∀ k ∈ [0, 14, 15], let s := porting 63 .enum (.echo k 960)
      (getI s.link.ports 63).step = .echo k 960 ∧ frameFault 63 (serviceSequences s.toBlocks 63) (nodeHead 63 9) = 0) ∧
    (0 ≤ rndDiv (960 + ((1000 : Nat) - (1000 : Nat) : Int)) 32 ∧ rndDiv (960 + ((1000 : Nat) - (1000 : Nat) : Int)) 32 ≤ 1920) ∧
    rndDiv (960 + ((0 : Nat) - (1000 : Nat) : Int)) 32 < 0 ∧ 1920 < rndDiv (960 + ((100000 : Nat) - (0 : Nat) : Int)) 32 ∧
    (∀ item ∈ [1, 2, 3, 4], let s := porting 63 .enum (.config item)
      (getI s.link.ports 63).step = .config item ∧ frameFault 63 (serviceSequences s.toBlocks 63) (nodeHead 63 9) = 0) ∧
    ((getI (porting 63 .enum .acknowledged).link.ports 63).st = .enum ∧ (getI (porting 63 .enum .acknowledged).link.ports 63).step = .acknowledged) ∧
    ((getI (porting 0 .train .none).link.ports 0).since + 1500 ≤ up.now) ∧
    ((getI (porting 63 .down .none).link.ports 63).st = .down ∧ (getI (porting 63 .down .none).link.ports 63).since + 1000 ≤ up.now) := by
  decide +kernel

/-- Port 63 with a CONFIG-READ that has been sent twice, and is or is not to be sent again. -/
def requesting (due : Bool) : State :=
  (porting 63 .up .request).updPort 63 (fun x => { x with
    reqData := leBytes 1 0x23 ++ leBytes 39 0, svc := some { sequences := [9], sentTick := 100, sends := 2, due } })

theorem witness_PortServiceCompletes :
    (∀ type ∈ [0x22, 0x23], let s := (porting 63 .up .request).updPort 63 (fun x => { x with reqData := leBytes 1 type ++ leBytes 39 0 })
      (getI s.link.ports 63).step = .request ∧ fieldU (getI s.link.ports 63).reqData 0 1 = type ∧
        frameFault 63 (serviceSequences s.toBlocks 63) (nodeHead 63 9) = 0) ∧
    ((getI (requesting false).link.ports 63).svc = some { sequences := [9], sentTick := 100, sends := 2, due := false } ∧
      100 + 10 ≤ (requesting false).now ∧ 2 < 3) ∧
    ((getI (requesting true).link.ports 63).svc = some { sequences := [9], sentTick := 100, sends := 2, due := true } ∧
      (getI (requesting true).link.ports 63).late = false ∧ (getI (requesting true).link.ports 63).st = .up ∧
      (servicePayload (requesting true).toBlocks 63).isSome = true ∧ hasCredit (getI (requesting true).link.ports 63) = true) ∧
    (∀ st ∈ [PortState.enum, .up], let s := porting 63 st .request
      (getI s.link.ports 63).svc = some { sequences := [9], sentTick := 100, sends := 3, due := false } ∧ (getI s.link.ports 63).st = st ∧ 100 + 10 ≤ s.now) ∧
    (let s := (porting 63 .up .none).updPort 63 (fun x => { x with sentMod := 3, freedMod := 243, missRun := 100 })
     (getI s.link.ports 63).st = .up ∧ 16 ≤ ((getI s.link.ports 63).sentMod + 256 - (getI s.link.ports 63).freedMod) % 256 ∧
      bit (getI s.link.ports 63).stalled 1 = false ∧ 100 ≤ (getI s.link.ports 63).missRun) := by decide +kernel

/-- Node 63 with link 0 trained, live, claimed and at count 5, as authority of the node. -/
def nodeUp (p : Nat) (f : FieldNode → FieldNode) : State :=
  (up.updNode p (fun x => { x with
    links := updI x.links 0 (fun k => { k with trained := true, run := true, live := true, claim := 4, address := p, count := some 5 })
    authority := some 0, tickCount := some 5, accepted := some 100 })).updNode p f

theorem witness_NodeLinksComplete :
    (let s := up.updNode 63 (fun x => { x with links := updI x.links 1 (fun k => { k with ts1 := 8 }) })
     (getI (getI s.link.nodes 63).links 1).ts1 = 8) ∧
    (let s := nodeUp 63 id
     nodeTickOk (getI s.link.nodes 63) 0 6 true = true ∧
      authorityOf ((getI s.link.nodes 63).updLink 0 (fun k => { k with count := some 6, live := k.run })) = some 0 ∧
      (getI s.link.nodes 63).authority ≠ none ∧
      authorityOf ((getI s.link.nodes 63).updLink 0 (fun k => { k with trained := false, run := false, live := false, ts1 := 0, count := none }))
        = none ∧
      authorityOf ((getI s.link.nodes 63).updLink 0 (fun k => { k with live := false })) = none) ∧
    (getI up.link.nodes 63).authority = none ∧ (getI up.link.nodes 63).ramp = none := by decide +kernel

/-- A device frame of a sequence at a node. -/
def deviceFrame (p sequence : Nat) (b : FrameBody) : DeviceFrame :=
  { codeError := false, crcOk := true, address := p, unit := 0, sequence, claim := 4, reservedZero := true, body := b }

theorem witness_NodeFramesComplete :
    (∀ q ∈ [101, 100], ∀ b ∈ [FrameBody.laserCommand 6 0 [], .statusRequest 6], let s := nodeUp 31 id
      nodeFrameOk (getI s.link.nodes 31) 0 (deviceFrame 31 q b) = true ∧ tickBody 31 b = true ∧
        fresher (getI s.link.nodes 31) q = (q == 101) ∧ (frameSeen (getI s.link.nodes 31) 0 (deviceFrame 31 q b)).authority = some 0) ∧
    (let s := nodeUp 63 id
     let b := FrameBody.currentCommand 6 (Vector.replicate 3 0) 7
     nodeFrameOk (getI s.link.nodes 63) 0 (deviceFrame 63 101 b) = true ∧ tickBody 63 b = true ∧ fresher (getI s.link.nodes 63) 101 = true ∧
      (frameSeen (getI s.link.nodes 63) 0 (deviceFrame 63 101 b)).authority = some 0) ∧
    (let h : HeldFrame := { link := 1, frame := deviceFrame 63 101 (.sensorRequest 6 7) }
     let s := nodeUp 63 (fun x => { x with held := updI x.held 1 (fun _ => some h) })
     getI (getI s.link.nodes 63).held 1 = some h) ∧
    (∀ b ∈ [FrameBody.echo, .configWrite 2 (leBytes 4 30), .configRead 1, .configRead 2, .enumerate 63 1],
      nodeFrameOk (getI (nodeUp 63 id).link.nodes 63) 0 (deviceFrame 63 7 b) = true) ∧
    (getI (getI (nodeUp 63 id).link.nodes 63).links (1 - 0)).trained = false ∧
    (∀ c ∈ [NodeCommand.laser 5 { start := 1, events := [] }, .currents 5 (Vector.replicate 3 9) 7],
      let s := nodeUp 63 (fun x => { x with cmds := [c] })
      (getI s.link.nodes 63).authority ≠ none ∧ (getI s.link.nodes 63).tickCount = some 5 ∧
        ((getI s.link.nodes 63).cmds.filter (fun x => x.target == 5)).getLast? = some c) ∧
    (∀ k ∈ [0, 2], let s := nodeUp 63 (fun x => { x with missRun := k })
      (getI s.link.nodes 63).authority ≠ none ∧ commandDue (getI s.link.nodes 63) = false ∧ (getI s.link.nodes 63).missRun = k) ∧
    commandDue (getI (nodeUp 31 id).link.nodes 31) = false := by decide +kernel

/-! The pair -/

/-- A HELLO that passes the unit's checks. -/
def helloGood (s : Blocks) : HelloMsg := { ownHello s with unitId := 1 - s.pair.unitId, jobRunning := false }

/-- A unit in SYNC after fifteen passing HELLOs. -/
def syncing (chosen : Bool) : State :=
  (pairOf .sync).updPair (fun p => { p with chosen := chosen, hellos := 15, passed := true, stepped := true })

theorem helloGood_passes (s : Blocks) (h : s.pair.unitId ≤ 1) : helloPasses s (helloGood s) = true := by
  have : 1 - s.pair.unitId ≠ s.pair.unitId := by omega
  simp [helloPasses, helloGood, ownHello, this]

theorem helloOwn_fails (s : Blocks) : helloPasses s (ownHello s) = false := by simp [helloPasses]

/-- The wisp of a peer in a state with flags. -/
def wispOf (pairState flags : Nat) : WispMsg :=
  { valid := true, tick := 200000, unitId := 1, pairState, claim := 4, flags, digest := 5, localTime := 0, health := 0, decision := 0
    portsFollowed := 0, zlUp := 0, camerasReceiving := 0, groupsApplied := 0, lastPackage := 0xFFFFFFFF, handOverTick := 0 }

/-- The unit of a pair in a state that has a peer's wisp. -/
def peered (st : PairSt) (w : WispMsg) : State := (pairOf st).updPair (fun p => { p with wisp := some w, wispTick := 200000 })

def someForward (r : Option GdpResponse) : Forwarded := { sequence := 9, due := 1, sent := 1, body := [7], response := r }

/-- The active unit with a forwarded group, its response held back for the host of port 0. -/
def heldBack : GdpResponse := { port := 0, src := hostSrc, type := 0x82, reqId := 7, status := 0, position := 0xFFFF, body := [] }
def forwarding (r : Option GdpResponse) : State :=
  (linked.updPair (fun p => { p with st := .active, linkUp := true })).updPair (fun p => { p with forwarded := [someForward r] })

/-- The second package of job 7. -/
def nextPackage7 : Bytes := package 0x504C5947 2 4
def standbyWithJob : State := (pairOf .standby).updJob (fun j => { j with last := some { job := 7, layer := 3, last := false } })
def nextAnswer : Except PkgError (Package × Vector (Option Pt) 32) := checkPackage standbyWithJob.job nextPackage7

theorem witness_PeerMessagesComplete :
    ((helloGood (syncing true).toBlocks).valid = true ∧ formsPair (syncing true).toBlocks = true ∧ (syncing true).jobRuns = false ∧
      helloPasses (syncing true).toBlocks (helloGood (syncing true).toBlocks) = true ∧ (syncing true).pair.hellos < 16 ∧
      (syncing true).pair.hellos = 15) ∧
    (formsPair (pairOf .discover).toBlocks = true ∧ (pairOf .discover).jobRuns = false ∧
      helloPasses (pairOf .discover).toBlocks (helloGood (pairOf .discover).toBlocks) = true ∧ (pairOf .discover).pair.st = .discover ∧
      (pairOf .discover).pair.next = none) ∧
    (helloPasses (syncing true).toBlocks (ownHello (syncing true).toBlocks) = false ∧ (syncing true).pair.st = .sync) ∧
    ({ helloGood up.toBlocks with valid := false } : HelloMsg).valid = false ∧
    ((syncing false).pair.st = .sync ∧ (syncing false).pair.chosen = false) ∧ inLockstep (pairOf .active).toBlocks = true ∧
    (pairOf .standby).pair.st = .standby ∧
    (let s := pairOf .standby
     isBoot 0x3000 0 = false ∧ 0x3000 ≠ 0x4200 ∧ 0 < (200001 + 2 ^ 48 - s.tickCount) % 2 ^ 48 ∧ (200001 + 2 ^ 48 - s.tickCount) % 2 ^ 48 < 2 ^ 47) ∧
    (200000 + 2 ^ 48 - (pairOf .standby).tickCount) % 2 ^ 48 = 0 ∧
    ((forwarding (some heldBack)).pair.st = .active ∧
      (forwarding (some heldBack)).pair.forwarded.find? (fun x => x.sequence == 9) = some (someForward (some heldBack)) ∧
      (forwarding (some heldBack)).pair.forwarded = [someForward (some heldBack)] ∧ 1 ≤ (forwarding (some heldBack)).now ∧
      1 < (forwarding (some heldBack)).now ∧ Sendable (forwarding (some heldBack)).toBlocks 49 0 hostSrc (gdpBytes heldBack).length ∧
      getI (forwarding (some heldBack)).host.requests 0 = [] ∧ getI (forwarding (some heldBack)).host.requests 1 = []) ∧
    (forwarding none).pair.forwarded = [someForward none] ∧
    ((pairOf .standby).work.stream = [] ∧ ([1, 2] : Bytes).length < 64) ∧
    (standbyWithJob.pair.st = .standby ∧ standbyWithJob.work.stream = [] ∧ 64 ≤ nextPackage7.length ∧
      fieldU nextPackage7 8 4 = nextPackage7.length ∧ nextAnswer = .ok (packageAnswer nextAnswer) ∧ (packageAnswer nextAnswer).1.first = false) := by
  refine ⟨⟨rfl, by decide +kernel, by decide +kernel, helloGood_passes _ (by decide +kernel), by decide +kernel, by decide +kernel⟩,
    ⟨by decide +kernel, by decide +kernel, helloGood_passes _ (by decide +kernel), by decide +kernel, by decide +kernel⟩,
    ⟨helloOwn_fails _, by decide +kernel⟩, rfl, by decide +kernel, by decide +kernel, by decide +kernel, by decide +kernel, by decide +kernel,
    by unfold Sendable; decide +kernel, by decide +kernel, by decide +kernel, by decide +kernel, by decide +kernel, by decide +kernel, by decide +kernel,
    ok_of_package (by decide +kernel), by decide +kernel⟩

theorem witness_PairStateCommandsComplete :
    (let s := (syncing true).updPair (fun p => { p with hellos := 16, drives := true })
     lockstepReady s.toBlocks = true ∧ s.pair.chosen = true) ∧
    (let s := ((syncing false).updPair (fun p => { p with hellos := 16 })).updWork (fun w => { w with stateSeen := true })
     lockstepReady s.toBlocks = true ∧ s.pair.chosen = false) ∧
    (let s := pairOf .discover
     s.pair.st = .discover ∧ s.pair.next = none ∧ s.pair.acquire = false ∧ s.start.phase = 0 ∧ s.pair.since + 5000 ≤ s.now) ∧
    (let s := (pairOf .standby).updPair (fun p => { p with missRun := 1000000 })
     heartbeatDue s.toBlocks = true) ∧
    (∀ st ∈ [PairSt.standby, .discover, .active], let s := (pairOf st).updPair (fun p => { p with acquire := true })
      s.pair.acquire = true ∧ acquireWait s.toBlocks ≤ 6000 ∧ s.pair.next = none ∧ s.pair.st = st) ∧
    (∀ st ∈ [PairSt.active, .standby], let s := (pairOf st).updWork (fun w => { w with handOver := some (200001, 1) })
      s.work.handOver = some (200001, 1) ∧ 200001 ≤ s.now + 1 ∧ s.pair.st = st) ∧
    ((pairOf .sync).pair.linkUp = true ∧ (pairOf .sync).pair.st ≠ .single ∧ (pairOf .sync).pair.next = none) ∧
    ((pairOf .active).updPair (fun p => { p with drives := true })).pair.drives = true ∧ peerFlag (pairOf .active).toBlocks 4 = false := by
  decide +kernel

theorem witness_PairHealthCommandsComplete :
    (∀ st ∈ [PairSt.alone, .detached], (wispOf 5 0).valid = true ∧ (pairOf st).pair.st = st ∧ (pairOf st).jobRuns = false ∧
      bit (wispOf 5 0).flags 3 = false ∧ (pairOf st).pair.next = none ∧ wispOnTime (pairOf st).toBlocks (wispOf 5 0) = true) ∧
    (let s := pairOf .active
     let w := wispOf 4 0
     s.pair.st = .active ∧ w.tick = s.tickCount ∧ w.pairState ≠ 5 ∧ w.digest ≠ s.pair.digest ∧ s.work.localFault = false ∧ bit w.flags 0 = false) ∧
    (let s := pairOf .active
     s.pair.st ≠ .single ∧ s.pair.wispTick ≠ s.now ∧ s.pair.missTick ≠ s.now) ∧
    (let s := (holds (holds (pairOf .alone) 0x2400 0x01 1) 0x2400 0x02 1).updWork (fun w => { w with homeRun := 1000000 })
     s.pair.st = .alone ∧ claimMode s.toBlocks = true ∧ isHome s.toBlocks = false ∧ s.objN 0x2400 0x04 ≤ s.work.homeRun ∧ s.pair.next = none) ∧
    (let s := (holds (holds (holds (peered .active (wispOf 4 4)) 0x2400 0x02 1) 0x2400 0x05 1) 0x2400 0x06 100).updWork (fun w =>
      { w with healthySince := some 1000, unhealthyRun := 1000 })
     s.pair.st = .active ∧ isHome s.toBlocks = false ∧ s.objB 0x2400 0x05 = true ∧ peerState s.toBlocks = 4 ∧
      s.work.healthySince = some 1000 ∧ 1000 + s.objN 0x2400 0x06 ≤ s.now ∧ s.work.handOver = none ∧ 1000 ≤ s.work.unhealthyRun ∧
      peerFlag s.toBlocks 2 = true) ∧
    ((pairOf .alone).pair.st ≠ .single ∧ (pairOf .alone).pair.lanternDue ≤ (pairOf .alone).now) := by decide +kernel

/-! Steppers, LED strings, run-length coding, temperatures -/

/-- A relative move of one full step forward that dwells 10 ticks. -/
def someMove (kind : Nat) : StepMove := { raw := leBytes 1 kind ++ leBytes 3 0 ++ leBytes 4 256 ++ leBytes 4 1000 ++ leBytes 4 10 }

/-- READY with axis 7 enabled and changed. -/
def stepUp (f : StepAxis → StepAxis) : State := (holds up (0x4000 + 7) 0x00 1).updStep 7 f

/-- A homing profile that has reached its end, or has not. -/
def someProfile (p1 : Int) : StepProfile := { p0 := 0, p1, t0 := 0, phases := [] }

/-- An axis in a homing phase that has come to its end. -/
def homingAt (ph : Nat) (x : StepAxis) : StepAxis :=
  { x with
    st := .homing, phase := ph, decision := { x.decision with edges := [(0, true)] }
    motion := if ph = 1 then .profiles [someProfile 5] else if ph = 2 then .backOff 0 1 1 1 else .reApproach 0 1 1 1 }

theorem witness_StepperDecisionsComplete :
    (let s := stepUp (fun x => { x with queue := [someMove 2] })
     (getI s.steps 7).st = .idle ∧ s.objB (0x4000 + 7) 0x00 = true ∧ (getI s.steps 7).queue = someMove 2 :: [] ∧
      moveRefusal (stepEnv s.toBlocks 7) (getI s.steps 7) (someMove 2) (getI s.steps 7).pos ((someMove 2).target (getI s.steps 7).pos) = 0) ∧
    (let s := stepUp (fun x => { x with st := .dwell, dwellEnd := 200000, queue := [someMove 2] })
     (getI s.steps 7).st = .dwell ∧ (getI s.steps 7).dwellEnd ≤ s.now) ∧
    (let s := stepUp (fun x => { x with queue := [someMove 1] })
     (getI s.steps 7).st = .idle ∧ (getI s.steps 7).queue = someMove 1 :: [] ∧
      moveRefusal (stepEnv s.toBlocks 7) (getI s.steps 7) (someMove 1) (getI s.steps 7).pos ((someMove 1).target (getI s.steps 7).pos) = 1) ∧
    (let s := stepUp (fun x => { x with st := .moving, move := some (someMove 2), motion := .profiles [someProfile 0] })
     (getI s.steps 7).st = .moving ∧ moveArrived (getI s.steps 7) = true ∧ (getI s.steps 7).move = some (someMove 2) ∧ 0 < (someMove 2).dwell) ∧
    (let s := stepUp (fun x => { x with st := .dwell, dwellEnd := 200000 })
     (getI s.steps 7).st = .dwell ∧ (getI s.steps 7).dwellEnd ≤ s.now ∧ (getI s.steps 7).queue = []) ∧
    (let s := stepUp (fun x => { x with st := .moving, vel := 1, decision := { x.decision with edges := [(2, true)] } })
     (getI s.steps 7).st = .moving ∧ 0 < (getI s.steps 7).vel ∧ (2, true) ∈ (getI s.steps 7).decision.edges ∧
      (switchOn (getI s.steps 7) 1 && switchOn (getI s.steps 7) 2) = false) ∧
    (let s := stepUp (fun x => { x with decision := { x.decision with stall := true } })
     (getI s.steps 7).decision.stall = true ∧ (getI s.steps 7).st ≠ .stopped) ∧
    (∀ ph ∈ [1, 2, 3], let s := stepUp (homingAt ph)
      (getI s.steps 7).st = .homing ∧ (getI s.steps 7).phase = ph ∧ homingPhaseOver (stepEnv s.toBlocks 7) (getI s.steps 7) = true) ∧
    (let s := stepUp (fun x => { x with st := .homing, motion := .profiles [someProfile 0] })
     (getI s.steps 7).st = .homing ∧ homingFailure (stepEnv s.toBlocks 7) (getI s.steps 7) = some (0x0E03, 1)) ∧
    ((getI up.steps 7).motion = .rest ∧ (getI up.steps 7).restSince + up.objN (0x4000 + 7) 0x13 ≤ up.now) := by decide +kernel

/-- READY with string 15 changed. -/
def lit (f : LedString → LedString) : State := (holds up (0x4100 + 15) 0x00 1).updLed 15 f

theorem witness_LedCommandsComplete :
    (let s := (lit id).updTime (fun t => { t with ticks := 200003, boundary := 2000030000 })
     s.tickCount % 4 = 3 ∧ s.time.running = true ∧ drivesOutputs s.toBlocks = true ∧ s.light.fixed ≠ s.now + 1 ∧
      (getI s.light.strings 15).st = .off ∧ s.objB (0x4100 + 15) 0x00 = true ∧ (getI s.light.strings 0).st = .off ∧
      s.objB (0x4100 + 0) 0x00 = false) ∧
    (let s := (lit (fun x => { x with st := .fault })).updTime (fun t => { t with ticks := 200003, boundary := 2000030000 })
     s.tickCount % 4 = 3 ∧ (getI s.light.strings 15).st = .fault) ∧
    (let s := lit (fun x => { x with st := .on, changes := [(0, 0)] })
     (getI s.light.strings 15).st = .on ∧ drivesOutputs s.toBlocks = true ∧
      windowCounts s.toBlocks (getI s.light.strings 15) (s.objN (0x4100 + 15) 0x01) 0 = true ∧ inSpan (getI s.light.strings 15) 0 = false ∧
      s.objN (0x4100 + 15) 0x0A ≤ 100000 ∧ 0 < s.objN (0x4100 + 15) 0x0A) ∧
    (∀ cs ∈ [[3], [3, 4]], let s := lit (fun x => { x with st := .locating, test := some (3, 0), candidates := cs })
      (getI s.light.strings 15).st = .locating ∧ (getI s.light.strings 15).test = some (3, 0) ∧
        ((getI s.light.strings 15).candidates.filter (fun c => c != 3) = [] ↔ cs = [3])) ∧
    (let s := lit (fun x => { x with st := .on, test := some (3, 0) })
     (getI s.light.strings 15).st = .on ∧ (getI s.light.strings 15).test = some (3, 0) ∧ 0 < s.objN (0x4100 + 15) 0x0B ∧
      s.objN (0x4100 + 15) 0x0B ≤ 100000) ∧
    missedProbes (lit (fun x => { x with st := .on })).toBlocks 15 ≠ [] := by decide +kernel

/-- Eight cells of value 5 as one run-length block (R411). -/
def someBlock : Bytes :=
  [0x52, 0x4C, 1, 0] ++ leBytes 4 16 ++ leBytes 4 3 ++ leBytes 4 (crc32c ((List.replicate 8 5).map (leBytes 2)).flatten) ++ [0x87, 5, 0, 0]

/-- What decoding a block answers when it passes. -/
def blockAnswer (x : Except (Nat × Nat) (Nat × List Nat)) : Option (Nat × List Nat) :=
  match x with
  | .ok y => some y
  | .error _ => none

theorem witness_rleBlock :
    let s := holds (holdsOct (coding .running) 0x4200 0x02 someBlock) 0x4200 0x01 1
    decodeBlock ((s.objT 0x4200 0x02).drop s.light.rle.consumed) = .ok (20, List.replicate 8 5) := by
  intro s
  have h : blockAnswer (decodeBlock ((s.objT 0x4200 0x02).drop s.light.rle.consumed)) = some (20, List.replicate 8 5) := by decide +kernel
  generalize decodeBlock ((s.objT 0x4200 0x02).drop s.light.rle.consumed) = x at h
  cases x with
  | ok y => cases h; rfl
  | error e => cases h

/-- A map with a block to compress in Q46, and blocks in Q47. -/
def someCells : MapCells := { serial := 0, plane := 0, cells := List.replicate 8 5 }
def compressing (done : List MapBlock) : State :=
  up.updMeltState (fun m => { m with closing := closingMap [] :: [], q46 := [someCells], q47 := done })

/-- Q47 with no room for another block. -/
def fullBlock : MapBlock := { serial := 0, plane := 1, data := List.replicate 524288 0 }

theorem witness_mapBlockWaits :
    (compressing [fullBlock]).melt.q46 = someCells :: [] ∧
    524288 < blockBytes (compressing [fullBlock]).melt.q47 + (blockOf (compressCells someCells.cells.length someCells.cells)).length := by
  have h : 0 < (blockOf (compressCells someCells.cells.length someCells.cells)).length := by decide +kernel
  have h1 : ∀ b : MapBlock, blockBytes (compressing [b]).melt.q47 = b.data.length := by
    intro b; simp [compressing, blockBytes, sumN, State.updMeltState]
  have h2 : fullBlock.data.length = 524288 := List.length_replicate
  refine ⟨rfl, ?_⟩
  rw [h1, h2]
  omega

theorem witness_RunLengthCommandsComplete :
    ((compressing []).melt.q46 = someCells :: [] ∧
      blockBytes (compressing []).melt.q47 + (blockOf (compressCells someCells.cells.length someCells.cells)).length ≤ 524288) ∧
    ((coding .running).light.rle.st = .running ∧ mapWork (coding .running).toBlocks = false) ∧
    (let s := holds (holdsOct ((coding .running)) 0x4200 0x02 someBlock) 0x4200 0x01 1
     s.light.rle.st = .running ∧ mapWork s.toBlocks = false ∧ s.objN 0x4200 0x01 ≠ 0 ∧
      s.light.rle.output.length + 2 * 8 ≤ s.objN 0x4200 0x03 ∧ (holds s 0x4200 0x03 15).objN 0x4200 0x03 < s.light.rle.output.length + 2 * 8) := by
  decide +kernel

theorem witness_TemperatureCommandsComplete :
    (up.objN (0x2210 + 47) 0x00 ≠ 0 ∨ (holds up (0x2210 + 47) 0x00 1).objN (0x2210 + 47) 0x00 ≠ 0) ∧
    (let s := up.updTime (fun t => { t with ticks := 200959, boundary := 2009590000 })
     scanDue s.toBlocks = true ∧ scanCalibrated s.toBlocks = false ∧ s.objN (0x2210 + 47) 0x00 = 0) ∧
    (let s : State := { up with temp := { up.temp with die := Vector.replicate 8 20000 } }
     s.objI 0x2200 0x02 < dieTemp s.temp ∧ s.temp.dieAbove = false ∧ s.temp.diePosted = none) := by decide +kernel

/-! Power, analog, memory, flash and start-up -/

/-- A step of the power sequence. -/
def sequencing (k : Nat) (retried : Bool) : State := State.reset.updPower (fun p => { p with st := .step k, retried := retried })

theorem witness_PowerCommandsComplete :
    (∀ k ∈ [1, 5], (sequencing k false).power.st = .step k ∧ (sequencing k false).start.inReset = false ∧ k < 6) ∧
    (∀ b ∈ [true, false], (sequencing 6 b).power.st = .step 6 ∧ (sequencing 6 b).start.inReset = false ∧ (sequencing 6 b).start.testMode = false ∧
      (sequencing 6 b).power.retried = b) ∧
    (up.updPower (fun p => { p with st := .retryWait })).power.st = .retryWait ∧ up.power.vinPosted = none ∧
    (up.time.running = true ∧ up.power.pfDetected = none) ∧
    (let s := up.updStart (fun x => { x with inReset := true, cause := 2 })
     s.start.inReset = true ∧ s.start.cause = 2) ∧
    (let s := up.updPower (fun p => { p with gate5 := true, permitSince := some 100000 })
     s.power.gate5 = true ∧ s.power.permitLow = true ∧ s.power.permitSince = some 100000 ∧ 100000 + s.objN 0x2100 0x0D ≤ s.now) := by decide +kernel

theorem witness_LoadSwitchesComplete :
    (∀ st ∈ [SwitchState.softStart, .on, .retry], let s := up.updSwitch 15 (fun x => { x with st := st, since := 1, retries := 3 })
      (getI s.power.switches 15).st = st ∧ (getI s.power.switches 15).since + s.objN (0x2110 + 15) 0x05 ≤ s.now ∧
        (getI s.power.switches 15).since + s.objN (0x2110 + 15) 0x08 ≤ s.now ∧ 0 < (getI s.power.switches 15).retries) ∧
    (let s := (holds up (0x2110 + 15) 0x0B 1).updPower (fun p => { p with groupDue := some 200000 })
     s.power.groupDue = some 200000 ∧ 200000 ≤ s.now ∧ s.power.groupHalted = false ∧ s.objN (0x2110 + 15) 0x0B = s.power.group + 1 ∧
      switchAccepted s.toBlocks 15 1 = true ∧ s.objN (0x2110 + 0) 0x0B ≠ s.power.group + 1) := by decide +kernel

theorem witness_CalibrationsComplete :
    (getI (up.updTrim 80 (fun t => { t with phase := 1 })).analog.trims 80).phase = 1 ∧
    (∀ b ∈ [true, false], let s := up.updTrim 80 (fun t => { t with phase := 2, limited := b })
      (getI s.analog.trims 80).phase = 2 ∧ (getI s.analog.trims 80).limited = b) ∧
    (calResiduals (trimKind 80) 0 0).1.natAbs ≤ 1000000000 ∧ up.objN 0x4351 (trimKind 80) < (calResiduals (trimKind 80) 1000000000 0).1.natAbs := by
  decide +kernel

/-- The check bytes of 32 zero bytes are zero, so a word of zeros is good, and with byte 35 changed it is corrected there (R465, R467). -/
def zeroWord : List Nat := List.replicate 36 0

theorem witness_MemoryCommandsComplete :
    (let s := up.updStart (fun x => { x with phase := 3 })
     s.start.phase = 3 ∧ populationOk (getI s.mem.population 1) = true) ∧
    getI up.mem.state 1 = 1 ∧
    (scrubs up.toBlocks 2 = true ∧ up.mem.injection = none ∧ decodeWord (loadWord (storeWord 2 (zeroWord.set 35 7))) = .corrected 35 ∧
      decodeWord (loadWord (storeWord 2 zeroWord)) = .good ∧ decodeWord (loadWord (storeWord 2 ((zeroWord.set 35 7).set 0 1))) = .bad) ∧
    (scrubs (up.updMem (fun m => { m with initDone := Vector.replicate 2 true })).toBlocks 1 = true ∧
      decodeWord (loadWord (storeWord 1 (zeroWord.set 15 7))) = .corrected 15) ∧
    tickWorks up.toBlocks = true ∧ tickWorks State.reset.toBlocks = false ∧ expects 88 = none := by decide +kernel

/-- READY with a flash operation under way. -/
def flashing (op : FlashOp) : State := up.updFlash (fun f => { f with op := op, present := true })

theorem witness_FlashCommandsComplete :
    (flashing (.upload 1 [1, 2])).flash.op = .upload 1 [1, 2] ∧ (flashing (.save [] 5)).flash.op = .save [] 5 ∧
    (∀ b ∈ [true, false], (flashing (.clear b)).flash.op = .clear b) ∧ (flashing (.clear true)).flash.op ≠ .none ∧ (flashing .none).flash.op = .none ∧
    (let r : Record := { number := 1, link := 0, boot := 1, closed := false, escalated := false, unstored := false, closedByReset := false
                         sevInForce := 2, lost := 0
                         st := { localTime := 0, devState := 1, ev := mkEvent (.block 6) 0x110A .warn .rail 0 [] } }
     let s : State := { flashing .none with faults := { up.faults with ringPending := r :: [], ringKnown := true } }
     s.faults.ringPending = r :: [] ∧ s.flash.present = true ∧ s.faults.ringKnown = true) ∧
    ((flashing .none).updFlash (fun f => { f with ringNext := 4095 })).flash.ringNext % 16 ≠ 0 := by decide +kernel

theorem witness_ResetsRestartTheDevice :
    (let s := up.updPower (fun p => { p with outside := updI p.outside 5 (fun _ => true), faultTick := updI p.faultTick 5 (fun _ => some 199900) })
     getI s.power.outside 5 = true ∧ getI s.power.faultTick 5 = some 199900 ∧ 199900 + 100 ≤ s.now) ∧
    (let s := up.updPower (fun p => { p with pfDetected := some 1000 })
     s.power.pfDetected = some 1000 ∧ 1000 + s.objN 0x2100 0x0A ≤ s.now) ∧
    (up.start.inReset = false ∧ up.start.testMode = false ∧ inLockstep up.toBlocks = false) ∧
    (∀ c ∈ [0, 1, 2, 3, 4, 5], let s := (up.updStart (fun x => { x with inReset := true, cause := c })).updPower (fun p => { p with st := .down })
      s.start.inReset = true ∧ s.start.cause = c ∧ s.power.st = .down) := by decide +kernel

/-- READY with every camera port receiving. -/
def filmed : State := { up with cams := { up.cams with ports := up.cams.ports.map (fun p => { p with link := 3 }) } }

theorem witness_StartUpPhasesComplete :
    (∀ k ∈ [1, 2, 3, 4, 6], let s := filmed.updStart (fun x => { x with phase := k })
      startingUp s.toBlocks = true ∧ phaseDone s.toBlocks = true ∧ s.start.phase = k) ∧
    (let s := holds (up.updStart (fun x => { x with phase := 5 })) 0x2400 0x00 1
     startingUp s.toBlocks = true ∧ phaseDone s.toBlocks = true) ∧
    (let s := up.updStart (fun x => { x with phase := 7 })
     startingUp s.toBlocks = true ∧ s.start.phase = 7 ∧ s.pair.st ≠ .discover) ∧
    (let s := up.updJob (fun j => { j with dev := .startUp })
     s.job.dev = .startUp ∧ s.start.phase = 0) := by decide +kernel

/-! Numbers, codes and values -/

theorem witness_ConversionsRoundAndSaturate : 0 < 2 ∧ 2 * (3 - (2 : Nat) * rndDiv 3 2).natAbs = 2 ∧ (-2 ^ (8 - 1) : Int) ≤ -128 ∧
    (-129 : Int) < -2 ^ (8 - 1) ∧ (2 ^ (8 - 1) - 1 : Int) < 128 ∧ 255 ≤ 2 ^ 8 - 1 ∧ 2 ^ 8 - 1 < 256 := by decide +kernel

theorem witness_FieldsRoundTrip : 255 < 256 ^ 1 ∧ 3 < 4 ∧ (-2 ^ (8 * 1 - 1) : Int) ≤ -128 ∧ (-128 : Int) < 2 ^ (8 * 1 - 1) := by decide +kernel

theorem witness_ObjectValuesRoundTrip : 1 ≤ 8 ∧ (0 : Int) ≤ 255 ∧ (255 : Int) < (256 ^ 8 : Nat) ∧ 0x3F800000 < 2 ^ 32 ∧ 0x3F800000 / 2 ^ 23 % 256 ≠ 0 := by
  decide +kernel

theorem witness_ValuesInForceReadBack : (holds up 0x3000 0x00 1).dict.vals ≠ [] ∧ up.dict.vals = [] ∧ (0x3000, 0x01) ≠ (0x3000, 0x00) := by
  decide +kernel

theorem witness_LatestCommitGoverns :
    let w := committed up 0x3000 0x00 .imm (.int 1) 0
    sameMoment 200000 w w = true ∧ w ∈ [w] := by decide +kernel

theorem witness_GatedChannelsStayDark : (scanEnv up.toBlocks (fun _ => 0) 0).gated = true := by decide +kernel

theorem witness_OneBadByteIsCorrected : (List.replicate 32 255).length = 32 ∧ (∀ x ∈ List.replicate 32 255, x < 256) ∧ 35 < 36 ∧ 0 < 255 ∧ 255 < 256 := by
  decide +kernel

/-! Steps and operations against the worked examples of the spec -/

/-- The state that a command leaves. -/
def after (c : Instr) (s : State) : State :=
  match exec c s with
  | .next t => t
  | _ => State.reset

/-- R12: the check value over "123456789". -/
theorem test_crc32c : crc32c [0x31, 0x32, 0x33, 0x34, 0x35, 0x36, 0x37, 0x38, 0x39] = 0xE3069283 := by decide +kernel

/-- R220: the check value over "123456789". -/
theorem test_crc8 : crc8 72 (beNat [0x31, 0x32, 0x33, 0x34, 0x35, 0x36, 0x37, 0x38, 0x39]) = 0xDF := by decide +kernel

/-- Chapter 0: 0.32 tick is 328/1024, 60 % of rated power is 0x9999, and ties round away from zero (R11). -/
theorem test_rounding : rndDiv (32 * 1024) 100 = 328 ∧ rndDiv (60 * 65535) 100 = 0x9999 ∧ rndDiv 5 2 = 3 ∧ rndDiv (-5) 2 = -3 := by decide +kernel

/-- Chapter 2: the tick count and frame index at 1,734,000,000,000,090,000 ns. -/
theorem test_tickCount :
    let s := up.updTime (fun t => { t with boundary := 1734000000000090000 })
    s.tickCount = 173400000000009 ∧ s.frameIndex = 43350000000002 := by decide +kernel

/-- Tick 5,000,001 with the host on port 0 (chapters 3 and 4). -/
def example5 : State := linked.updTime (fun t => { t with ticks := 5000001, boundary := 50000010000 })

/-- Chapter 4: the WRITE of the lock window at clock 2,500, its response with commit time and immediate boundary, and the value pending. -/
theorem test_writeRequest :
    let f := ethFrame none (.udp4 47410 true false) ([0x01, 0x02, 0x20, 0x00, 0x34, 0x12, 0, 0, 0, 0, 0, 0, 0xFF, 0xFF, 0, 0, 1, 0, 0, 0, 0x00, 0x20, 0x05, 0x00,
      4, 0, 0, 0, 0xFA, 0, 0, 0])
    let t := after (.ethernetFrameReceived f) (example5.atClock 2500)
    t.out = [.frame 0 (vlanTag example5.toBlocks 0) (.udp 47410 hostSrc ([0x01, 0x82, 0x28, 0x00, 0x34, 0x12, 0, 0, 0, 0, 0, 0, 0xFF, 0xFF, 0, 0] ++
        [0x00, 0x20, 0x05, 0x00] ++ leBytes 8 50000012500 ++ leBytes 8 5000002 ++ leBytes 4 1))] ∧
      t.dict.pending.map (fun w => (w.index, w.sub, w.val, w.due)) = [(0x2000, 0x05, .int 250, 5000002)] := by decide +kernel

/-- Chapter 3: a commit at clock 9,400 of tick 5,000,000 takes effect at 5,000,002. -/
theorem test_lateCommit : (committed (example5.updTime (fun t => { t with ticks := 5000000 })) 0x2000 0x03 .imm (.int 12000000) 9400).due = 5000002 := by
  decide +kernel

/-- Chapter 3: the time-source write of 5 while a job runs fails with 0x0401_0002 before its value is looked at, and is counted. -/
theorem test_writeWhileRunning :
    let s := example5.updJob (fun j => { j with dev := .running })
    groupCode s.toBlocks false [(0x2000, 0x00, [5])] = some (0, 0x04010002) ∧
    (after (.objectWrite 0x2000 0x00 [5] 5000) s).dict.rejected = 1 ∧ (after (.objectWrite 0x2000 0x00 [5] 5000) s).dict.pending = [] := by decide +kernel

/-- Chapter 7: one run of the control law. -/
theorem test_controlLaw :
    let v : ServoEnv := { (default : ServoEnv) with ke := 12, iMax := 0x7FFF, bank := [0, 26844, 328, 29491, 16384, 0, 0, 1, 29491] }
    let o := controlLaw v { lawZero with eqPrev := 280, df := 10, integ := 53687091 } false 37 0 0 0
    o.law.eqPrev = 296 ∧ o.law.df = 13 ∧ o.law.integ = 53881267 ∧ o.u = 2153 := by decide +kernel

/-- Chapter 8: the word FF A2 C0 3E 8C 18 90 of axis 40 is valid, and FF AE 78 C2 A3 D2 A0 after it fails the quadrant check. -/
theorem test_sensorWords :
    let word := fun (b : Nat) => (BitVec.ofNat 64 (b * 256 + crc8 56 b) : SensorWord)
    let w0 := word 0xFFA2C03E8C1890
    let w1 := word 0xFFAE78C2A3D2A0
    let v := servoEnv up.toBlocks 40
    let fb := (getI up.axes 40).fb
    swPosition w0 = 0xFFA2C0 ∧ swSine w0 = 1000 ∧ swCosine w0 = -1000 ∧ swCounter w0 = 9 ∧ swStatus w0 = 0 ∧ wordReason v fb w0 = 0 ∧
    swSine w1 = -982 ∧ swCosine w1 = 978 ∧ wordReason v { fb with ref := some w0 } w1 = 7 := by decide +kernel

/-- Chapter 10: the photodiode and camera errors of tick 1,000,005. -/
theorem test_lawErrors : lawError 22800 21900 = 647 ∧ lawError 3135 3200 = -340 ∧ rndDiv (328 * 647) 16384 = 13 ∧ rndDiv (819 * -340) 16384 = -17 := by
  decide +kernel

/-- Chapter 12: the LASER COMMAND of tick 1,000,000 on ZL13 from unit 0, single. -/
theorem test_laserCommand :
    let s := (up.updTime (fun t => { t with ticks := 1000000, boundary := 10000000000 })).updChan 13 (fun c =>
      { c with cmdNext := { start := 0, events := [{ offset := 328, power := 0x8F5C }] } })
    (zlFrame s.toBlocks 13 0x12 (zlSequence s.tickCount 1) (commandPayload s.toBlocks 13)).take 22 =
      [0xFB, 0x0D, 0x12, 0x00, 0x01, 0x09, 0x3D, 0x00, 0xC0, 0, 0, 0, 0x41, 0x42, 0, 0, 1, 0, 0x48, 0x01, 0x5C, 0x8F] := by decide +kernel

/-- Chapter 12: sixteen echoes of 2,312.5 ns with a turnaround of 2,120 ns give a link delay of 1,540. -/
theorem test_linkDelay :
    let t := after (.echoResponse 13 (nodeHead 13 9) 37000 33920) (porting 13 .enum (.echo 15 (15 * 3080)))
    (getI t.link.ports 13).info.delay = 1540 ∧ (getI t.link.ports 13).step = .config 2 := by decide +kernel

/-- Chapter 13: the claims of unit 0 ACTIVE, unit 1 STANDBY and unit 1 ALONE. -/
theorem test_claims :
    claimOf (pairOf .active).toBlocks = 0x60 ∧ claimOf ((pairOf .standby).updPair (fun p => { p with unitId := 1 })).toBlocks = 0x21 ∧
    claimOf ((pairOf .alone).updPair (fun p => { p with unitId := 1 })).toBlocks = 0x61 := by decide +kernel

/-- Chapter 16: the input of 300 cells, with an output capacity of 28 bytes. -/
def rleInput : Bytes := leBytes 400 0 ++ [0x34, 0x12, 0x78, 0x56] ++ List.replicate 196 0xFF

/-- Chapter 16: the trimmed block fills the output, and the job is FULL with 404 bytes consumed. -/
theorem test_rleFull :
    let s := holds (holdsOct (coding .running) 0x4200 0x02 rleInput) 0x4200 0x03 28
    let t := after (.rleBlock 0 false) (holds s 0x4200 0x01 0)
    t.light.rle.st = .full ∧ t.light.rle.consumed = 404 ∧ t.light.rle.output.length = 28 ∧
      t.light.rle.output.take 12 = [0x52, 0x4C, 0x01, 0x00, 0x94, 0x01, 0, 0, 0x0B, 0, 0, 0] ∧
      t.light.rle.output.drop 16 = [0xFF, 0, 0, 0xC7, 0, 0, 0x01, 0x34, 0x12, 0x78, 0x56, 0] := by decide +kernel

/-- Chapter 18: photodiode 13 measures 37.25 and 58,854 over 1,024 conversions, gets the codes -149 and 46, and keeps residuals of 3 and -10. -/
theorem test_calibration : calCodes 1 0 0 38144 60266496 = (-149, 46) ∧ calResiduals 1 192 60397530 = (3, -10) := by decide +kernel

/-- Chapter 19: nine x16 components of 16 Gb in one rank give 16 GB, two ranks of x8 components of 8 Gb 32 GB, which is refused. -/
theorem test_capacity : capacityGB 0x000B = 16 ∧ populationOk 0x000B = true ∧ capacityGB 0x0025 = 32 ∧ populationOk 0x0025 = false := by decide +kernel

/-- R496: STOPPING with everything at rest and no open SAFE record ends in READY. -/
theorem test_stopping :
    (after .stoppingComplete (up.updJob (fun j => { j with dev := .stopping }))).job.dev = .ready := by decide +kernel

/-- A step takes the command at the front and leaves the queue's rest. -/
theorem test_step :
    let s := porting 13 .train .none
    step (s.withPending [.ts2Received 13 13 1 false, .arrivalCutoff]) = .next (after (.ts2Received 13 13 1 false) (s.withPending [.arrivalCutoff])) ∧
    (getI (after (.ts2Received 13 13 1 false) s).link.ports 13).st = .enum := ⟨rfl, by decide +kernel⟩

/-! Well-formedness: for each check a term it refuses, beside a term that passes -/

theorem test_wellFormed_Src :
    let x : Src := hostSrc
    x.wf = true ∧ ({ x with udp := 2 ^ 16 } : Src).wf = false ∧ ({ x with addr := 2 ^ 32 } : Src).wf = false := by
  decide +kernel

theorem test_wellFormed_GdpHead :
    let x : GdpHead := gdpHead 20
    x.wf = true ∧ ({ x with udpLen := 2 ^ 16 } : GdpHead).wf = false ∧ ({ x with version := 2 ^ 8 } : GdpHead).wf = false ∧
    ({ x with length := 2 ^ 16 } : GdpHead).wf = false ∧ ({ x with reqId := 2 ^ 32 } : GdpHead).wf = false ∧
    ({ x with status := 2 ^ 32 } : GdpHead).wf = false ∧ ({ x with position := 2 ^ 16 } : GdpHead).wf = false ∧
    ({ x with reserved := 2 ^ 16 } : GdpHead).wf = false ∧ ({ x with src := { hostSrc with udp := 65536 } } : GdpHead).wf = false ∧
    ({ x with clk := 10000 } : GdpHead).wf = false := by
  decide +kernel

theorem test_wellFormed_LsHead :
    let x : LsHead := lsHead 24 9 0 0
    x.wf = true ∧ ({ x with udpLen := 2 ^ 16 } : LsHead).wf = false ∧ ({ x with version := 2 ^ 8 } : LsHead).wf = false ∧
    ({ x with length := 2 ^ 16 } : LsHead).wf = false ∧ ({ x with session := 2 ^ 32 } : LsHead).wf = false ∧
    ({ x with sequence := 2 ^ 32 } : LsHead).wf = false ∧ ({ x with status := 2 ^ 32 } : LsHead).wf = false ∧
    ({ x with offset := 2 ^ 64 } : LsHead).wf = false ∧ ({ x with src := { hostSrc with udp := 65536 } } : LsHead).wf = false := by
  decide +kernel

theorem test_wellFormed_ReadItem :
    let x : ReadItem := (default : ReadItem)
    x.wf = true ∧ ({ x with reserved := 2 ^ 8 } : ReadItem).wf = false ∧ ({ x with index := 2 ^ 16 } : ReadItem).wf = false ∧
    ({ x with sub := 2 ^ 8 } : ReadItem).wf = false := by
  decide +kernel

theorem test_wellFormed_WriteItem :
    let x : WriteItem := (default : WriteItem)
    x.wf = true ∧ ({ x with reserved := 2 ^ 24 } : WriteItem).wf = false ∧ ({ x with index := 2 ^ 16 } : WriteItem).wf = false ∧
    ({ x with sub := 2 ^ 8 } : WriteItem).wf = false := by
  decide +kernel

theorem test_wellFormed_ObjVal :
    let x : ObjVal := (default : ObjVal)
    x.wf = true ∧ ({ x with index := 2 ^ 16 } : ObjVal).wf = false ∧ ({ x with sub := 2 ^ 8 } : ObjVal).wf = false := by
  decide +kernel

theorem test_wellFormed_EthFrame :
    let x : EthFrame := ethFrame (some 5) .pause []
    x.wf = true ∧ ({ x with bytes := 2 ^ 16 } : EthFrame).wf = false ∧
    ({ x with src := { hostSrc with udp := 65536 } } : EthFrame).wf = false ∧ ({ x with bytes := 63 } : EthFrame).wf = false ∧
    ({ x with vlan := some 4096 } : EthFrame).wf = false ∧ ({ x with payload := List.replicate 101 0 } : EthFrame).wf = false := by
  decide +kernel

theorem test_wellFormed_Announce :
    let x : Announce := (default : Announce)
    x.wf = true ∧ ({ x with domain := 2 ^ 8 } : Announce).wf = false ∧ ({ x with priority1 := 2 ^ 8 } : Announce).wf = false ∧
    ({ x with clockClass := 2 ^ 8 } : Announce).wf = false ∧ ({ x with accuracy := 2 ^ 8 } : Announce).wf = false ∧
    ({ x with variance := 2 ^ 16 } : Announce).wf = false ∧ ({ x with priority2 := 2 ^ 8 } : Announce).wf = false ∧
    ({ x with identity := 2 ^ 64 } : Announce).wf = false ∧ ({ x with stepsRemoved := 2 ^ 16 } : Announce).wf = false := by
  decide +kernel

theorem test_wellFormed_NodeHead :
    let x : NodeHead := nodeHead 13 9
    x.wf = true ∧ ({ x with address := 2 ^ 8 } : NodeHead).wf = false ∧ ({ x with unit := 2 ^ 8 } : NodeHead).wf = false ∧
    ({ x with sequence := 2 ^ 32 } : NodeHead).wf = false ∧ ({ x with claim := 2 ^ 8 } : NodeHead).wf = false := by
  decide +kernel

theorem test_wellFormed_SensorPayload :
    let x : SensorPayload := sensorAnswer
    x.wf = true ∧ ({ x with tick := 2 ^ 16 } : SensorPayload).wf = false ∧ ({ x with wordMask := 2 ^ 8 } : SensorPayload).wf = false ∧
    ({ x with ampStatus := 2 ^ 8 } : SensorPayload).wf = false ∧ ({ x with missed := 2 ^ 16 } : SensorPayload).wf = false ∧
    ({ x with temperature := 2 ^ 15 } : SensorPayload).wf = false ∧
    ({ x with currents := #v[0, 0, 32768] } : SensorPayload).wf = false := by
  decide +kernel

theorem test_wellFormed_LaserPayload :
    let x : LaserPayload := (default : LaserPayload)
    x.wf = true ∧ ({ x with tick := 2 ^ 16 } : LaserPayload).wf = false ∧ ({ x with status := 2 ^ 8 } : LaserPayload).wf = false ∧
    ({ x with power := 2 ^ 16 } : LaserPayload).wf = false ∧ ({ x with backReflection := 2 ^ 16 } : LaserPayload).wf = false ∧
    ({ x with missed := 2 ^ 16 } : LaserPayload).wf = false ∧ ({ x with temperature := 2 ^ 15 } : LaserPayload).wf = false := by
  decide +kernel

theorem test_wellFormed_EnumPayload :
    let x : EnumPayload := enumGood
    x.wf = true ∧ ({ x with kind := 2 ^ 8 } : EnumPayload).wf = false ∧ ({ x with version := 2 ^ 8 } : EnumPayload).wf = false ∧
    ({ x with links := 2 ^ 8 } : EnumPayload).wf = false ∧ ({ x with status := 2 ^ 8 } : EnumPayload).wf = false ∧
    ({ x with vendor := 2 ^ 16 } : EnumPayload).wf = false ∧ ({ x with model := 2 ^ 16 } : EnumPayload).wf = false ∧
    ({ x with firmware := 2 ^ 32 } : EnumPayload).wf = false ∧ ({ x with serial := 2 ^ 64 } : EnumPayload).wf = false ∧
    ({ x with rating := 2 ^ 32 } : EnumPayload).wf = false ∧ ({ x with events := 2 ^ 8 } : EnumPayload).wf = false := by
  decide +kernel

theorem test_wellFormed_LaserEvent :
    let x : LaserEvent := (default : LaserEvent)
    x.wf = true ∧ ({ x with offset := 2 ^ 10 } : LaserEvent).wf = false ∧ ({ x with power := 2 ^ 16 } : LaserEvent).wf = false := by
  decide +kernel

theorem test_wellFormed_DeviceFrame :
    let x : DeviceFrame := deviceFrame 13 1 .echo
    x.wf = true ∧ ({ x with address := 2 ^ 8 } : DeviceFrame).wf = false ∧ ({ x with unit := 2 ^ 8 } : DeviceFrame).wf = false ∧
    ({ x with sequence := 2 ^ 32 } : DeviceFrame).wf = false ∧ ({ x with claim := 2 ^ 8 } : DeviceFrame).wf = false ∧
    ({ x with body := .configWrite 1 [] } : DeviceFrame).wf = false := by
  decide +kernel

theorem test_wellFormed_WispMsg :
    let x : WispMsg := wispOf 4 0
    x.wf = true ∧ ({ x with tick := 2 ^ 48 } : WispMsg).wf = false ∧ ({ x with unitId := 2 ^ 8 } : WispMsg).wf = false ∧
    ({ x with pairState := 2 ^ 8 } : WispMsg).wf = false ∧ ({ x with claim := 2 ^ 8 } : WispMsg).wf = false ∧
    ({ x with flags := 2 ^ 8 } : WispMsg).wf = false ∧ ({ x with digest := 2 ^ 32 } : WispMsg).wf = false ∧
    ({ x with localTime := 2 ^ 64 } : WispMsg).wf = false ∧ ({ x with health := 2 ^ 32 } : WispMsg).wf = false ∧
    ({ x with decision := 2 ^ 8 } : WispMsg).wf = false ∧ ({ x with portsFollowed := 2 ^ 8 } : WispMsg).wf = false ∧
    ({ x with zlUp := 2 ^ 8 } : WispMsg).wf = false ∧ ({ x with camerasReceiving := 2 ^ 8 } : WispMsg).wf = false ∧
    ({ x with groupsApplied := 2 ^ 32 } : WispMsg).wf = false ∧ ({ x with lastPackage := 2 ^ 32 } : WispMsg).wf = false ∧
    ({ x with handOverTick := 2 ^ 48 } : WispMsg).wf = false := by
  decide +kernel

theorem test_wellFormed_HelloMsg :
    let x : HelloMsg := (default : HelloMsg)
    x.wf = true ∧ ({ x with unitId := 2 ^ 8 } : HelloMsg).wf = false ∧ ({ x with romVersion := 2 ^ 32 } : HelloMsg).wf = false ∧
    ({ x with dictVersion := 2 ^ 32 } : HelloMsg).wf = false ∧ ({ x with authorityMode := 2 ^ 8 } : HelloMsg).wf = false ∧
    ({ x with homeUnit := 2 ^ 8 } : HelloMsg).wf = false ∧ ({ x with ddrCapacity := 2 ^ 32 } : HelloMsg).wf = false ∧
    ({ x with roundTrip := 2 ^ 32 } : HelloMsg).wf = false := by
  decide +kernel

theorem test_wellFormed_FeatureSet :
    let x : FeatureSet := (default : FeatureSet)
    x.wf = true ∧ ({ x with frame := 2 ^ 46 } : FeatureSet).wf = false ∧ ({ x with flags := 2 ^ 16 } : FeatureSet).wf = false ∧
    ({ x with area := 2 ^ 16 } : FeatureSet).wf = false ∧ ({ x with peak := 2 ^ 12 } : FeatureSet).wf = false ∧
    ({ x with intensity := 2 ^ 32 } : FeatureSet).wf = false ∧ ({ x with elongation := 2 ^ 16 } : FeatureSet).wf = false ∧
    ({ x with outside := 2 ^ 16 } : FeatureSet).wf = false ∧ ({ x with peakX := 2 ^ 8 } : FeatureSet).wf = false ∧
    ({ x with peakY := 2 ^ 8 } : FeatureSet).wf = false ∧ ({ x with cx := 2 ^ 15 } : FeatureSet).wf = false ∧
    ({ x with cy := 2 ^ 15 } : FeatureSet).wf = false := by
  decide +kernel

theorem test_wellFormed_GdpResponse :
    let x : GdpResponse := (default : GdpResponse)
    x.wf = true ∧ ({ x with type := 2 ^ 8 } : GdpResponse).wf = false ∧ ({ x with reqId := 2 ^ 32 } : GdpResponse).wf = false ∧
    ({ x with status := 2 ^ 32 } : GdpResponse).wf = false ∧ ({ x with position := 2 ^ 16 } : GdpResponse).wf = false ∧
    ({ x with src := { hostSrc with udp := 65536 } } : GdpResponse).wf = false ∧
    ({ x with body := List.replicate 1437 0 } : GdpResponse).wf = false := by
  decide +kernel

theorem test_wellFormed_SessionCopy :
    let x : SessionCopy := { (default : SessionCopy) with id := 1 }
    x.wf = true ∧ ({ x with id := 2 ^ 32 } : SessionCopy).wf = false ∧ ({ x with sequence := 2 ^ 32 } : SessionCopy).wf = false ∧
    ({ x with offset := 2 ^ 64 } : SessionCopy).wf = false ∧
    ({ x with src := { hostSrc with udp := 65536 } } : SessionCopy).wf = false ∧ ({ x with id := 0 } : SessionCopy).wf = false := by
  decide +kernel

theorem test_wellFormed_TickInputs :
    let x : TickInputs := { (default : TickInputs) with pd := Vector.replicate 32 (Vector.replicate 10 65535) }
    x.wf = true ∧ ({ x with pd := Vector.replicate 32 (Vector.replicate 10 65536) } : TickInputs).wf = false ∧
    ({ x with switches := Vector.replicate 8 8 } : TickInputs).wf = false ∧ ({ x with rails := Vector.replicate 6 (2 ^ 32) } : TickInputs).wf = false ∧
    ({ x with emf := Vector.replicate 8 (2 ^ 31, 0) } : TickInputs).wf = false ∧
    ({ x with laoMonitor := Vector.replicate 32 (2 ^ 32) } : TickInputs).wf = false ∧
    ({ x with phases := Vector.replicate 4 (2 ^ 32) } : TickInputs).wf = false ∧
    ({ x with lswCurrent := Vector.replicate 16 (2 ^ 32) } : TickInputs).wf = false ∧
    ({ x with lswVoltage := Vector.replicate 16 (2 ^ 32) } : TickInputs).wf = false ∧
    ({ x with p2Clocks := Vector.replicate 24 4001 } : TickInputs).wf = false ∧
    ({ x with corrected := [{ location := 3, address := 2 ^ 40, position := 35 }] } : TickInputs).wf = false := by
  decide +kernel

theorem test_wellFormed_MeasureMsg :
    let x : MeasureMsg := { (default : MeasureMsg) with readings := [(47, -32768, 5)], stalls := [7], features := [(127, default)] }
    x.wf = true ∧ ({ x with tick := 2 ^ 48 } : MeasureMsg).wf = false ∧ ({ x with pd := Vector.replicate 32 65536 } : MeasureMsg).wf = false ∧
    ({ x with features := [(1, default), (1, default)] } : MeasureMsg).wf = false ∧
    ({ x with features := [(1, { (default : FeatureSet) with area := 65536 })] } : MeasureMsg).wf = false ∧
    ({ x with channelThrottle := 2 ^ 32 } : MeasureMsg).wf = false ∧ ({ x with axisThrottle := 2 ^ 32 } : MeasureMsg).wf = false ∧
    ({ x with stalls := [3, 3] } : MeasureMsg).wf = false ∧ ({ x with readings := [(1, 0, 0), (1, 0, 0)] } : MeasureMsg).wf = false ∧
    ({ x with readings := [(1, 32768, 0)] } : MeasureMsg).wf = false ∧
    ({ x with strings := [ledReport up.toBlocks 3, ledReport up.toBlocks 3] } : MeasureMsg).wf = false := by
  decide +kernel

theorem test_wellFormed_PhaseReport :
    let x : PhaseReport := { (default : PhaseReport) with failedTests := [31] }
    x.wf = true ∧ ({ x with durationUs := 2 ^ 32 } : PhaseReport).wf = false ∧ ({ x with failedTests := [32] } : PhaseReport).wf = false ∧
    ({ x with flash := { (default : FlashReport) with capacityKiB := 2 ^ 32 } } : PhaseReport).wf = false ∧
    ({ x with flash := { (default : FlashReport) with jedec := 2 ^ 32 } } : PhaseReport).wf = false ∧
    ({ x with flash := { (default : FlashReport) with bfpt := { (default : FlashParameters) with programUs := 2 ^ 32 } } } : PhaseReport).wf = false := by
  decide +kernel

theorem test_wellFormed_bodies :
    SlotMeasure.wf (.diode 1 2 3) = true ∧ SlotMeasure.wf (.diode (2 ^ 32) 2 3) = false ∧ SlotMeasure.wf (.ntc 1 0) = false ∧
    SlotMeasure.wf (.ntc 1 2) = true ∧ SlotMeasure.wf .idle = true ∧ MirrorEntry.wf (.laser 31 255) = true ∧
    MirrorEntry.wf (.laser 31 256) = false ∧ MirrorEntry.wf (.scanner 31 256 0 0 0 0) = false ∧
    FrameBody.wf (.laserCommand 1 2 (List.replicate 4 { offset := 1023, power := 65535 })) = true ∧
    FrameBody.wf (.laserCommand 1 2 (List.replicate 5 { offset := 1023, power := 65535 })) = false ∧
    FrameBody.wf (.laserCommand 1 2 [{ offset := 1024, power := 0 }]) = false ∧ FrameBody.wf (.sensorRequest 65536 0) = false ∧
    FrameBody.wf (.statusRequest 65536) = false ∧ FrameBody.wf (.currentCommand 0 #v[0, -32769, 0] 0) = false ∧
    FrameBody.wf (.enumerate 256 1) = false ∧ FrameBody.wf (.configWrite 1 (List.replicate 33 0)) = false ∧
    FrameBody.wf (.configRead 65536) = false ∧ FrameBody.wf .echo = true := by
  decide +kernel
/-- Commands whose operands fit, and the same commands with one operand past its width. -/
theorem test_wellFormed_0 : ∀ c ∈ ([
      .tickBoundary default, .syncReceived 0 0 0, .pdelayReqReceived 0 0, .localTimeSet 0 0, .objectWrite 0 0 [] 0, .resetRequest 0 0,
      .ethernetFrameReceived (ethFrame none .pause []), .arpRequest 0 0 0 0, .arpCacheExpiry 0 0, .neighborSolicitation 0 0,
      .echoRequest 0 false 0 0, .dhcpLeaseBound 0 0 0 0 0 0 0, .read (gdpHead 20) [], .write (gdpHead 20) [],
      .blockReadOpen (gdpHead 20) 0 0, .blockReadSegments (gdpHead 20) 0 0 0, .blockWriteOpen (gdpHead 20) 0 0 0 0,
      .blockWriteSegment (gdpHead 20) 0 0 [], .blockClose (gdpHead 20) 0, .subscribe (gdpHead 20) 0 0 0 0, .unsubscribe (gdpHead 20) 0,
      .lsOpen (lsHead 24 9 0 0) 0, .lsData (lsHead 24 9 0 0) [], .lsClose (lsHead 24 9 0 0), .hostLaserEnable 0 0 0, .channelStop 0 0,
      .rejoin 0 0, .axisClose 0 0, .axisOpen 0 0, .axisClearFault 0 0
    ] : List Instr), wellFormed c = true := by
  decide +kernel

theorem test_wellFormed_1 : ∀ c ∈ ([
      .sensorResponse 0 (nodeHead 0 9) default, .clearAmplitudeMarks 0 0 0, .longPacket 0 0 goodHeader 0 [] false, .manualTrigger 0 0 0,
      .i2cRequest 0 [] 0, .i2cTransactionComplete 0 0 [], .streamingEnable 0 0 0, .initScriptEntryDone 0 0, .snapshotArm 0 0 0,
      .laserStatus 0 (nodeHead 0 9) default, .enumerateResponse 0 (nodeHead 0 9) default, .echoResponse 0 (nodeHead 0 9) 0 0,
      .configWriteResponse 0 (nodeHead 0 9) 0 0, .configReadResponse 0 (nodeHead 0 9) 0 0 [], .zlCredit 0 0, .ts2Received 0 0 0 false,
      .portEnable 0 0 0, .portCommand 0 0, .nodeRequest 0 [] 0, .nodeTickReceived 0 0 0 false 0, .peerWrite false 0 [] 0 0 none,
      .ack false 0 0, .stream false 0 0 [], .peerAuthAcquire 0 false, .pairCommand 0, .moveRequest 0 [] 0, .retarget 0 0 0,
      .setPosition 0 0 0, .halt 0 0, .stop 0 0
    ] : List Instr), wellFormed c = true := by
  decide +kernel

theorem test_wellFormed_2 : ∀ c ∈ ([
      .home 0 0, .stepperClearFault 0 0, .stringEnable 0 0 0, .clearFailedLamps 0 0 0, .mapBlockCompress 0, .rleStart 0, .rleResume 0,
      .rleUnload 0, .rleBlock 0 false, .switchOff 0 0, .switchOn 0 0, .resetTrip 0 0, .calibrationCommand 0 0 0,
      .calibrationCommit 0 0 0, .calibrationComplete 0 0 0, .scrub 0 0 0 (storeWord 0 zeroWord), .uncorrectableWord 0 0 0 0 0, .errorInjection 0 0,
      .imageUpload [] 0 0, .activate 0 0, .save 0, .clearObjectsAndTables 0, .clearAll 0, .acknowledge 0 0, .clearRing 0,
      .pdelayRespReceived 0 0 0 0 0
    ] : List Instr), wellFormed c = true := by
  decide +kernel

theorem test_illFormed_0 : ∀ c ∈ ([
      .tickBoundary ({ (default : TickInputs) with switches := Vector.replicate 8 8 }), .syncReceived 0 (2 ^ 64) 0,
      .syncReceived 0 0 (2 ^ 64), .pdelayReqReceived 0 (2 ^ 16), .localTimeSet (2 ^ 64) 0, .localTimeSet 0 10000,
      .objectWrite 0 0 [] 10000, .objectWrite (2 ^ 16) 0 [] 0, .objectWrite 0 (2 ^ 8) [] 0, .resetRequest (2 ^ 32) 0,
      .resetRequest 0 10000, .ethernetFrameReceived ({ ethFrame none .pause [] with bytes := 63 }), .arpRequest 0 (2 ^ 32) 0 0,
      .arpRequest 0 0 (2 ^ 32) 0, .arpRequest 0 0 0 (2 ^ 48), .arpCacheExpiry 0 (2 ^ 128), .neighborSolicitation 0 (2 ^ 128),
      .echoRequest 0 false 0 (2 ^ 16), .dhcpLeaseBound 0 (2 ^ 32) 0 0 0 0 0, .dhcpLeaseBound 0 0 0 (2 ^ 32) 0 0 0,
      .dhcpLeaseBound 0 0 0 0 (2 ^ 32) 0 0, .dhcpLeaseBound 0 0 0 0 0 (2 ^ 32) 0, .dhcpLeaseBound 0 0 0 0 0 0 (2 ^ 32),
      .dhcpLeaseBound 0 0 33 0 0 0 0, .read ({ gdpHead 20 with reqId := 2 ^ 32 }) [], .write ({ gdpHead 20 with reqId := 2 ^ 32 }) [],
      .blockReadOpen (gdpHead 20) (2 ^ 16) 0, .blockReadOpen (gdpHead 20) 0 (2 ^ 8),
      .blockReadOpen ({ gdpHead 20 with reqId := 2 ^ 32 }) 0 0, .blockReadSegments (gdpHead 20) (2 ^ 8) 0 0
    ] : List Instr), wellFormed c = false := by
  decide +kernel

theorem test_illFormed_1 : ∀ c ∈ ([
      .blockReadSegments (gdpHead 20) 0 (2 ^ 8) 0, .blockReadSegments (gdpHead 20) 0 0 (2 ^ 32),
      .blockReadSegments ({ gdpHead 20 with reqId := 2 ^ 32 }) 0 0 0, .blockWriteOpen (gdpHead 20) 0 0 (2 ^ 32) 0,
      .blockWriteOpen (gdpHead 20) 0 0 0 (2 ^ 32), .blockWriteOpen (gdpHead 20) (2 ^ 16) 0 0 0,
      .blockWriteOpen (gdpHead 20) 0 (2 ^ 8) 0 0, .blockWriteOpen ({ gdpHead 20 with reqId := 2 ^ 32 }) 0 0 0 0,
      .blockWriteSegment (gdpHead 20) (2 ^ 8) 0 [], .blockWriteSegment (gdpHead 20) 0 (2 ^ 32) [],
      .blockWriteSegment ({ gdpHead 20 with reqId := 2 ^ 32 }) 0 0 [], .blockClose (gdpHead 20) (2 ^ 8),
      .blockClose ({ gdpHead 20 with reqId := 2 ^ 32 }) 0, .subscribe (gdpHead 20) 0 0 (2 ^ 8) 0,
      .subscribe (gdpHead 20) 0 0 0 (2 ^ 32), .subscribe (gdpHead 20) (2 ^ 16) 0 0 0, .subscribe (gdpHead 20) 0 (2 ^ 8) 0 0,
      .subscribe ({ gdpHead 20 with reqId := 2 ^ 32 }) 0 0 0 0, .unsubscribe (gdpHead 20) (2 ^ 8),
      .unsubscribe ({ gdpHead 20 with reqId := 2 ^ 32 }) 0, .lsOpen (lsHead 24 9 0 0) (2 ^ 8),
      .lsOpen ({ lsHead 24 9 0 0 with session := 2 ^ 32 }) 0, .lsData ({ lsHead 24 9 0 0 with session := 2 ^ 32 }) [],
      .lsClose ({ lsHead 24 9 0 0 with session := 2 ^ 32 }), .hostLaserEnable 0 (2 ^ 8) 0, .hostLaserEnable 0 0 10000,
      .channelStop 0 10000, .rejoin 0 10000, .axisClose 0 10000, .axisOpen 0 10000
    ] : List Instr), wellFormed c = false := by
  decide +kernel

theorem test_illFormed_2 : ∀ c ∈ ([
      .axisClearFault 0 10000, .sensorResponse 0 ({ nodeHead 0 9 with address := 256 }) default, .clearAmplitudeMarks 0 (2 ^ 8) 0,
      .clearAmplitudeMarks 0 0 10000, .frameStart 0 0 { goodHeader with clk := 10000 }, .frameEnd 0 0 { goodHeader with clk := 10000 },
      .longPacket 0 0 { goodHeader with clk := 10000 } 0 [] false, .longPacket 0 0 goodHeader (2 ^ 6) [] false, .manualTrigger 0 (2 ^ 8) 0, .manualTrigger 0 0 10000,
      .i2cRequest 0 [] 10000, .i2cTransactionComplete 0 (2 ^ 8) [], .streamingEnable 0 (2 ^ 8) 0, .streamingEnable 0 0 10000,
      .initScriptEntryDone 0 (2 ^ 8), .snapshotArm 0 (2 ^ 8) 0, .snapshotArm 0 0 10000,
      .laserStatus 0 ({ nodeHead 0 9 with address := 256 }) default,
      .enumerateResponse 0 ({ nodeHead 0 9 with address := 256 }) default, .echoResponse 0 (nodeHead 0 9) (2 ^ 32) 0,
      .echoResponse 0 (nodeHead 0 9) 0 (2 ^ 32), .echoResponse 0 ({ nodeHead 0 9 with address := 256 }) 0 0,
      .configWriteResponse 0 (nodeHead 0 9) (2 ^ 16) 0, .configWriteResponse 0 (nodeHead 0 9) 0 (2 ^ 8),
      .configWriteResponse 0 ({ nodeHead 0 9 with address := 256 }) 0 0, .configReadResponse 0 (nodeHead 0 9) (2 ^ 16) 0 [],
      .configReadResponse 0 (nodeHead 0 9) 0 (2 ^ 8) [], .configReadResponse 0 ({ nodeHead 0 9 with address := 256 }) 0 0 [],
      .zlCredit 0 (2 ^ 8), .ts2Received 0 (2 ^ 8) 0 false, .ts2Received 0 0 (2 ^ 8) false, .portEnable 0 (2 ^ 8) 0,
      .portEnable 0 0 10000
    ] : List Instr), wellFormed c = false := by
  decide +kernel

theorem test_illFormed_3 : ∀ c ∈ ([
      .portCommand 0 10000, .nodeRequest 0 [] 10000, .nodeTickReceived 0 0 (2 ^ 16) false 0, .nodeTickReceived 0 0 0 false (2 ^ 64),
      .peerWrite false (2 ^ 32) [] 0 0 none, .peerWrite false 0 [] (2 ^ 64) 0 none, .peerWrite false 0 [] 0 (2 ^ 64) none,
      .ack false (2 ^ 8) 0, .ack false 0 (2 ^ 32), .stream false (2 ^ 64) 0 [], .stream false 0 (2 ^ 32) [],
      .peerAuthAcquire (2 ^ 32) false, .pairCommand 10000, .moveRequest 0 [] 10000, .retarget 0 (2 ^ 63) 0, .retarget 0 0 10000,
      .setPosition 0 (2 ^ 63) 0, .setPosition 0 0 10000, .halt 0 10000, .stop 0 10000, .home 0 10000, .stepperClearFault 0 10000,
      .stringEnable 0 (2 ^ 8) 0, .stringEnable 0 0 10000, .clearFailedLamps 0 (2 ^ 8) 0, .clearFailedLamps 0 0 10000,
      .mapBlockCompress (2 ^ 32), .rleStart 10000, .rleResume 10000, .rleUnload 10000
    ] : List Instr), wellFormed c = false := by
  decide +kernel

theorem test_illFormed_4 : ∀ c ∈ ([
      .rleBlock (2 ^ 32) false, .switchOff 0 10000, .switchOn 0 10000, .resetTrip 0 10000, .calibrationCommand 0 (2 ^ 8) 0,
      .calibrationCommand 0 0 10000, .calibrationCommit 0 (2 ^ 31) 0, .calibrationCommit 0 0 (2 ^ 31),
      .calibrationComplete 0 (2 ^ 31) 0, .calibrationComplete 0 0 (2 ^ 31), .scrub 0 (2 ^ 40) 0 (storeWord 0 zeroWord), .scrub 0 0 0 (storeWord 2 zeroWord),
      .uncorrectableWord 0 (2 ^ 40) 0 0 0, .uncorrectableWord 0 0 0 (2 ^ 16) 0, .uncorrectableWord 0 0 0 0 (2 ^ 32),
      .errorInjection (2 ^ 32) 0, .errorInjection 0 10000, .imageUpload [] (2 ^ 32) 0, .imageUpload [] 0 10000, .activate (2 ^ 8) 0,
      .activate 0 10000, .save 10000, .clearObjectsAndTables 10000, .clearAll 10000, .acknowledge (2 ^ 32) 0, .acknowledge 0 10000,
      .clearRing 10000, .pdelayRespReceived 0 (2 ^ 64) 0 0 0, .pdelayRespReceived 0 0 (2 ^ 64) 0 0,
      .pdelayRespReceived 0 0 0 (2 ^ 64) 0, .pdelayRespReceived 0 0 0 0 (2 ^ 64)
    ] : List Instr), wellFormed c = false := by
  decide +kernel

end Sys2Proof.Tests
end

/-! Proofs about numbers, byte fields and the check sum (00_scope R9–R12). -/

namespace Sys2Proof.Proofs.Scope

open Sys2Proof Sys2Proof.Machine

/-! Rounding (R11) -/

theorem rndDiv_of_nonneg {n : Int} (d : Nat) (hn : 0 ≤ n) : rndDiv n d = (2 * n + d) / (2 * d) :=
  if_pos hn

/-- Rounding is symmetric about 0, so that each tie goes away from zero. -/
theorem rndDiv_of_neg {n : Int} (d : Nat) (hn : n < 0) : rndDiv n d = -rndDiv (-n) d := by
  rw [rndDiv_of_nonneg d (by omega : 0 ≤ -n)]
  exact if_neg (by omega)

/-- Of a magnitude the remainder is in the half-open interval from -d/2 to d/2: a tie is rounded up. -/
theorem rndDiv_remainder_of_nonneg {n : Int} {d : Nat} (hd : 0 < d) (hn : 0 ≤ n) :
    -(d : Int) ≤ 2 * (n - d * rndDiv n d) ∧ 2 * (n - d * rndDiv n d) < d := by
  rw [rndDiv_of_nonneg d hn]
  have hdiv := Int.mul_ediv_add_emod (2 * n + d) (2 * d)
  have hnonneg := Int.emod_nonneg (2 * n + d) (by omega : (2 * d : Int) ≠ 0)
  have hlt := Int.emod_lt_of_pos (2 * n + d) (by omega : (0 : Int) < 2 * d)
  rw [Int.mul_assoc] at hdiv
  omega

theorem rndDiv_nearest (n : Int) {d : Nat} (hd : 0 < d) :
    2 * (n - d * rndDiv n d).natAbs ≤ d ∧
    (2 * (n - d * rndDiv n d).natAbs = d → n.natAbs < (d * rndDiv n d).natAbs) := by
  rcases Int.lt_or_le n 0 with hn | hn
  · have hrem := rndDiv_remainder_of_nonneg hd (by omega : 0 ≤ -n)
    rw [rndDiv_of_neg d hn, Int.mul_neg]
    omega
  · have hrem := rndDiv_remainder_of_nonneg hd hn
    omega

/-! Saturation (R11) -/

theorem clampI_mem {lo hi : Int} (x : Int) (h : lo ≤ hi) : lo ≤ clampI lo hi x ∧ clampI lo hi x ≤ hi := by
  unfold clampI
  split
  · omega
  · split <;> omega

theorem clampI_of_mem {lo hi x : Int} (hlo : lo ≤ x) (hhi : x ≤ hi) : clampI lo hi x = x := by
  rw [clampI, if_neg (by omega), if_neg (by omega)]

theorem clampI_of_lt {lo hi x : Int} (h : x < lo) : clampI lo hi x = lo :=
  if_pos h

theorem clampI_of_gt {lo hi x : Int} (hle : lo ≤ hi) (h : hi < x) : clampI lo hi x = hi := by
  rw [clampI, if_neg (by omega), if_pos h]

/-- The range of a signed format with its ends written as integers. -/
theorem satS_eq_clampI (w : Nat) (x : Int) : satS w x = clampI (-2 ^ (w - 1)) (2 ^ (w - 1) - 1) x := by
  rw [satS, Int.natCast_pow]
  rfl

theorem signed_range_nonempty (w : Nat) : (-2 ^ (w - 1) : Int) ≤ 2 ^ (w - 1) - 1 := by
  have hpos : (0 : Int) < 2 ^ (w - 1) := Int.pow_pos (by decide)
  omega

theorem satU_le (w x : Nat) : satU w x ≤ 2 ^ w - 1 := by
  unfold satU
  split <;> omega

theorem satU_of_le {w x : Nat} (h : x ≤ 2 ^ w - 1) : satU w x = x :=
  if_pos (by have := Nat.two_pow_pos w; omega)

theorem satU_of_gt {w x : Nat} (h : 2 ^ w - 1 < x) : satU w x = 2 ^ w - 1 :=
  if_neg (by omega)

/-- Settles O49: rounding by the remainder of the magnitude, saturation by the cases of `clampI`. -/
theorem conversionsRoundAndSaturate : Obligations.ConversionsRoundAndSaturate := by
  unfold Obligations.ConversionsRoundAndSaturate
  refine ⟨fun n d hd => rndDiv_nearest n hd, fun w x _ => ?signed, fun w x => ⟨satU_le w x, satU_of_le, satU_of_gt⟩⟩
  case signed =>
    have hrange := signed_range_nonempty w
    obtain ⟨hlo, hhi⟩ := clampI_mem x hrange
    rw [satS_eq_clampI]
    exact ⟨hlo, hhi, clampI_of_mem, clampI_of_lt, clampI_of_gt hrange⟩

/-! Little-endian fields (R9) and two's complement (R10) -/

@[simp] theorem leBytes_length (n v : Nat) : (leBytes n v).length = n := by
  induction n generalizing v with
  | zero => rfl
  | succ n ih => rw [leBytes, List.length_cons, ih]

@[simp] theorem leNat_cons (x : Byte) (b : Bytes) : leNat (x :: b) = x.toNat + 256 * leNat b := rfl

/-- `n` bytes carry a number modulo `256 ^ n`. -/
theorem leNat_leBytes (n v : Nat) : leNat (leBytes n v) = v % 256 ^ n := by
  induction n generalizing v with
  | zero => exact (Nat.mod_one v).symm
  | succ n ih => rw [leBytes, leNat_cons, ih, BitVec.toNat_ofNat, Nat.pow_succ' (n := n), Nat.mod_mul]

theorem leNat_leBytes_of_lt {n v : Nat} (h : v < 256 ^ n) : leNat (leBytes n v) = v := by
  rw [leNat_leBytes, Nat.mod_eq_of_lt h]

/-- The least significant byte is at the lowest offset. -/
theorem leBytes_getD {n k : Nat} (v : Nat) (h : k < n) : (leBytes n v).getD k 0 = BitVec.ofNat 8 (v / 256 ^ k) := by
  induction n generalizing v k with
  | zero => omega
  | succ n ih =>
    cases k with
    | zero => rw [leBytes, List.getD_cons_zero, Nat.pow_zero, Nat.div_one]
    | succ k =>
      have hrest := ih (v / 256) (by omega : k < n)
      rw [Nat.div_div_eq_div_mul, ← Nat.pow_succ'] at hrest
      rw [leBytes, List.getD_cons_succ, hrest]

theorem toBits_lt (w : Nat) (x : Int) : toBits w x < 2 ^ w := by
  have hpos := Nat.two_pow_pos w
  have hlt := Int.emod_lt_of_pos x (by omega : (0 : Int) < (2 ^ w : Nat))
  unfold toBits
  omega

theorem toBits_of_nonneg {w : Nat} {x : Int} (hx : 0 ≤ x) (h : x < (2 ^ w : Nat)) : (toBits w x : Int) = x := by
  rw [toBits, Int.emod_eq_of_lt hx h, Int.toNat_of_nonneg hx]

/-- The bit pattern of a negative number is that of its sum with `2 ^ w`. -/
theorem toBits_of_neg {w : Nat} {x : Int} (hx : x < 0) (h : -(2 ^ w : Nat) ≤ x) :
    (toBits w x : Int) = x + (2 ^ w : Nat) := by
  rw [← toBits_of_nonneg (w := w) (x := x + (2 ^ w : Nat)) (by omega) (by omega), toBits, toBits,
    Int.add_emod_right]

theorem ofBits_of_lt {w y : Nat} (h : y < 2 ^ w) :
    ofBits w y = if y < 2 ^ (w - 1) then (y : Int) else (y : Int) - (2 ^ w : Nat) := by
  rw [ofBits, Nat.mod_eq_of_lt h]

theorem ofBits_toBits {w : Nat} {x : Int} (hw : 0 < w) (hlo : -2 ^ (w - 1) ≤ x) (hhi : x < 2 ^ (w - 1)) :
    ofBits w (toBits w x) = x := by
  have hdouble : 2 ^ w = 2 * 2 ^ (w - 1) := by
    rw [Nat.mul_comm, Nat.two_pow_pred_mul_two hw]
  have hcast : ((2 ^ (w - 1) : Nat) : Int) = 2 ^ (w - 1) := Int.natCast_pow 2 (w - 1)
  rw [← hcast] at hlo hhi
  rw [ofBits_of_lt (toBits_lt w x)]
  rcases Int.lt_or_le x 0 with hx | hx
  · have hbits := toBits_of_neg (w := w) hx (by omega)
    rw [if_neg (by omega)]
    omega
  · have hbits := toBits_of_nonneg (w := w) hx (by omega)
    rw [if_pos (by omega), hbits]

theorem leInt_leBytesI {n : Nat} {x : Int} (hn : 0 < n) (hlo : -2 ^ (8 * n - 1) ≤ x) (hhi : x < 2 ^ (8 * n - 1)) :
    leInt (leBytesI n x) = x := by
  have hpow : 2 ^ (8 * n) = 256 ^ n := Nat.pow_mul 2 8 n
  have hbits : toBits (8 * n) x < 256 ^ n := hpow ▸ toBits_lt (8 * n) x
  rw [leInt, leBytesI, leBytes_length, leNat_leBytes_of_lt hbits, ofBits_toBits (by omega) hlo hhi]

/-- Settles O51, by induction on the number of bytes; signed fields by their bit pattern. -/
theorem fieldsRoundTrip : Obligations.FieldsRoundTrip := by
  unfold Obligations.FieldsRoundTrip
  refine ⟨fun n v hv => ⟨leNat_leBytes_of_lt hv, leBytes_length n v⟩, fun n v k hk => ?_,
    fun n x => leInt_leBytesI⟩
  rw [leBytes_getD v hk]
  exact BitVec.toNat_ofNat _ 8

/-! CRC-32C (R12) -/

/-- The model's constant is the Castagnoli polynomial with its 32 bits in reverse order. -/
theorem castagnoli_reflected :
    (List.range 32).foldl (fun a k => 2 * a + 0x1EDC6F41 / 2 ^ k % 2) 0 = 0x82F63B78 := by
  decide

theorem crcStep_eq (c : Nat) : crcStep c = if c % 2 = 1 then c / 2 ^^^ 0x82F63B78 else c / 2 := by
  simp only [crcStep, beq_iff_eq]

/-- A byte takes eight steps of the register, after it is combined with the low bits by exclusive or. -/
theorem crcByte_eq_foldl (c : Nat) (x : Byte) :
    crcByte c x = (List.range 8).foldl (fun c _ => crcStep c) (c ^^^ x.toNat) := by
  have hrange : List.range 8 = [0, 1, 2, 3, 4, 5, 6, 7] := by decide
  simp only [crcByte, hrange, List.foldl_cons, List.foldl_nil]

/-- Settles O50: the model's byte step is eight steps of the division by the reflected polynomial. -/
theorem checkSumIsCastagnoli : Obligations.CheckSumIsCastagnoli := by
  unfold Obligations.CheckSumIsCastagnoli
  refine ⟨fun b => ?_, by decide +kernel⟩
  simp only [castagnoli_reflected, ← crcStep_eq, ← crcByte_eq_foldl]
  exact Nat.xor_comm _ _

end Sys2Proof.Proofs.Scope

/-! Proofs about the machine as a whole (01_architecture R28, R31, R34, R36): every command completes and leaves the queue alone, gates keep a
channel dark, events keep their order, and the reset state. -/

namespace Sys2Proof.Proofs.Architecture

open Sys2Proof Sys2Proof.Machine

/-! What an outcome leaves as it was -/

/-- The outcome is a next state that agrees with `s` on every part but those of `ps`. -/
def Within (ps : List Part) (s : State) (o : Host.Outcome State Fault Refusal) : Prop := ∃ t, o = .next t ∧ sameBut ps s t

theorem within_next {ps : List Part} {s t : State} (h : t.hide ps = s.hide ps) : Within ps s (.next t) := ⟨t, rfl, h⟩

theorem hide_pending {ps : List Part} (hps : .pending ∉ ps) (s : State) : (s.hide ps).pending = s.pending := if_neg hps

theorem pending_eq_of_sameBut {ps : List Part} {s t : State} (hps : .pending ∉ ps) (h : sameBut ps s t) : t.pending = s.pending := by
  rw [← hide_pending hps t, ← hide_pending hps s, h]

/-- The parts that a command may change which neither counts ticks nor brings values into force. -/
def ordinaryParts : List Part :=
  [.time, .start, .faults, .dict, .pins, .queues, .host, .job, .scan, .axes, .cams, .melt, .reg, .link, .pair, .work, .steps, .light, .temp,
    .power, .analog, .mem, .flash, .seen, .freeCtr, .out]

@[simp] theorem mem_ordinaryParts (p : Part) : p ∈ ordinaryParts ↔ p ≠ .ticks ∧ p ≠ .values ∧ p ≠ .pending := by
  cases p <;> decide

@[simp] theorem mem_everything (p : Part) : p ∈ everything ↔ p ≠ .pending := by
  cases p <;> decide

/-! Commands whose arm branches before it answers -/

theorem execDieWarning_within (s : State) : Within ordinaryParts s (execDieWarning s) := by
  unfold execDieWarning
  split <;> exact within_next (by simp)

theorem execCalibrationCommit_within (j : Fin 81) (sum0 sumF : Int) (s : State) :
    Within ordinaryParts s (execCalibrationCommit j sum0 sumF s) := by
  unfold execCalibrationCommit
  split <;> exact within_next (by simp)

theorem execCalibrationComplete_within (j : Fin 81) (sum0 sumF : Int) (s : State) :
    Within ordinaryParts s (execCalibrationComplete j sum0 sumF s) := by
  unfold execCalibrationComplete
  dsimp only
  split
  · exact within_next rfl
  · exact within_next (by simp)

theorem execPowerSequenceStepTimeout_within (rail : Fin 6) (s : State) :
    Within ordinaryParts s (execPowerSequenceStepTimeout rail s) := by
  unfold execPowerSequenceStepTimeout
  split <;> exact within_next (by simp)

theorem execImageProgramComplete_within (verified : Bool) (s : State) : Within ordinaryParts s (execImageProgramComplete verified s) := by
  unfold execImageProgramComplete
  split
  · split <;> exact within_next (by simp)
  · exact within_next rfl

/-- A command that brings no values into force leaves them, the tick count and the queue as they were: none of these is in the frame of an
operation that it calls. -/
theorem exec_within_of_not_setsValues (c : Instr) (s : State) (h : setsValues c = false) : Within ordinaryParts s (exec c s) := by
  cases c with
  | dieWarning => exact execDieWarning_within s
  | calibrationCommit j sum0 sumF => exact execCalibrationCommit_within j sum0 sumF s
  | calibrationComplete j sum0 sumF => exact execCalibrationComplete_within j sum0 sumF s
  | powerSequenceStepTimeout rail => exact execPowerSequenceStepTimeout_within rail s
  | imageProgramComplete verified => exact execImageProgramComplete_within verified s
  | i2cTransactionComplete | clockStretchTimeout | initScriptEntryDone | gridUpdateCommit | echoResponse | configWriteResponse
  | serviceFrameTimeout | nodeHoldDeadline | state | peerWrite | handOver | startUpGroup =>
    exact within_next (by (repeat' split) <;> simp)
  | ack =>
    refine within_next ?_
    dsimp only
    (repeat' split) <;> simp
  | tickBoundary | frameStart | lockstepEntry | startupPhaseComplete | powerSequenceStep | dieShutdown | railOutsideWindow
  | railFaultPersists | vaux33Loss | holdUpExpiry | powerOn | resetN | watchdogExpiry | testEnRise | testEnFall => cases h
  | _ => exact within_next (by simp)

/-! Commands that put values into force or start the device again -/

theorem endFlashOp_pending (s : State) (status : Nat) : (endFlashOp s status).pending = s.pending :=
  pending_eq_of_sameBut (ps := everything) (by decide) (endFlashOp_hide s status everything (by decide) (by decide))

/-- With every other part hidden the queue is what is left of a state. -/
theorem hide_everything_eq_iff {s t : State} : t.hide everything = s.hide everything ↔ t.pending = s.pending := by
  refine ⟨pending_eq_of_sameBut (by decide), fun h => ?_⟩
  simp [State.hide, h]

theorem enterReset_pending (s : State) (cause : Nat) : (enterReset s cause).pending = s.pending := endFlashOp_pending s 0

theorem enterReset_hide_everything (s : State) (cause : Nat) : (enterReset s cause).hide everything = s.hide everything :=
  hide_everything_eq_iff.mpr (enterReset_pending s cause)

theorem requestReset_hide_everything (s : State) : (requestReset s).hide everything = s.hide everything := by
  unfold requestReset
  split
  · exact enterReset_hide_everything s 3
  · simp

/-- A reset asked for keeps the queue; of the other commands those of the stepper axes go by their subindex. -/
theorem runCommand_hide_everything (s : State) (w : PendingWrite) : (runCommand s w).hide everything = s.hide everything := by
  simp [runCommand, requestReset_hide_everything]
  intros
  split <;> simp

theorem takeEffect_hide_everything (s : State) (w : PendingWrite) : (takeEffect s w).hide everything = s.hide everything := by
  unfold takeEffect
  split
  · split
    · exact runCommand_hide_everything s w
    · simp
  · simp

theorem dictBoundary_hide_everything (layer : Bool) (s : State) : (dictBoundary layer s).hide everything = s.hide everything := by
  simp [dictBoundary, takeEffect_hide_everything]

theorem jobAndValues_hide_everything (s : State) : (jobAndValues s).hide everything = s.hide everything := by
  simp [jobAndValues, dictBoundary_hide_everything]

theorem dueReset_hide_everything (s : State) : (dueReset s).hide everything = s.hide everything := by
  unfold dueReset
  (repeat' split) <;> simp [enterReset_hide_everything]

theorem boundary_hide_everything (s : State) (inp : TickInputs) : (boundary s inp).hide everything = s.hide everything := by
  simp [boundary, dueReset_hide_everything, jobAndValues_hide_everything]

theorem tick_hide_everything (s : State) (inp : TickInputs) : (tick s inp).hide everything = s.hide everything := by
  simp [tick, boundary_hide_everything]

theorem loseVaux_hide_everything (s : State) : (loseVaux s).hide everything = s.hide everything :=
  hide_everything_eq_iff.mpr (enterReset_pending s 0)

theorem execPowerSequenceStep_within (s : State) : Within everything s (execPowerSequenceStep s) := by
  unfold execPowerSequenceStep
  split
  · split
    · exact within_next rfl
    · split
      · exact within_next (by simp)
      · split
        · exact within_next rfl
        · exact within_next (by simp [hide_everything_eq_iff])
  · exact within_next rfl

/-- Neither values that come into force nor a new start of the device touch the queue. -/
theorem exec_within_of_setsValues (c : Instr) (s : State) (h : setsValues c = true) : Within everything s (exec c s) := by
  cases c with
  | tickBoundary inp => exact within_next (tick_hide_everything s inp)
  | frameStart => exact within_next (by simp)
  | lockstepEntry => exact within_next (by simp)
  | startupPhaseComplete => exact within_next (by simp)
  | powerSequenceStep => exact execPowerSequenceStep_within s
  | dieShutdown => exact within_next (enterReset_hide_everything s 4)
  | railOutsideWindow => exact within_next (by simp [loseVaux_hide_everything, enterReset_hide_everything])
  | railFaultPersists => exact within_next (by simp [enterReset_hide_everything])
  | vaux33Loss => exact within_next (loseVaux_hide_everything s)
  | holdUpExpiry => exact within_next (by split <;> simp [enterReset_hide_everything])
  | powerOn => exact within_next (hide_everything_eq_iff.mpr (endFlashOp_pending s 0))
  | resetN => exact within_next (enterReset_hide_everything s 1)
  | watchdogExpiry => exact within_next (enterReset_hide_everything s 5)
  | testEnRise => exact within_next (hide_everything_eq_iff.mpr (enterReset_pending s 1))
  | testEnFall => exact within_next (hide_everything_eq_iff.mpr (enterReset_pending s 1))
  | _ => cases h

/-! Every command (R34) -/

theorem within_everything {s : State} {o : Host.Outcome State Fault Refusal} (h : Within ordinaryParts s o) : Within everything s o := by
  obtain ⟨t, ht, hsame⟩ := h
  exact ⟨t, ht, hide_everything_eq_iff.mpr (pending_eq_of_sameBut (by decide) hsame)⟩

theorem exec_within_everything (c : Instr) (s : State) : Within everything s (exec c s) := by
  cases h : setsValues c with
  | false => exact within_everything (exec_within_of_not_setsValues c s h)
  | true => exact exec_within_of_setsValues c s h

/-- Settles O60: with every part but the queue hidden, each command's state is the one it started from. -/
theorem everyCommandCompletes : Obligations.EveryCommandCompletes := by
  unfold Obligations.EveryCommandCompletes
  intro c s
  obtain ⟨t, ht, hsame⟩ := exec_within_everything c s
  exact ⟨t, ht, hide_everything_eq_iff.mp hsame⟩

/-- Settles O4: the one state that a command answers has the queue of `everyCommandCompletes`. -/
theorem commandsLeaveTheQueueAlone : Obligations.CommandsLeaveTheQueueAlone := by
  unfold Obligations.CommandsLeaveTheQueueAlone
  intro c s t ht
  obtain ⟨t', ht', hpending⟩ := everyCommandCompletes c s
  rw [ht] at ht'
  cases ht'
  exact hpending

/-- Settles O3: on an empty queue the block idles, and otherwise the front command completes. -/
theorem everyStepCompletes : Obligations.EveryStepCompletes := by
  unfold Obligations.EveryStepCompletes
  intro s
  unfold Completes step
  split
  · exact ⟨s, rfl⟩
  next c rest _ =>
    obtain ⟨t, ht, _⟩ := everyCommandCompletes c (s.withPending rest)
    exact ⟨t, ht⟩

/-! Gates (R36, R155) -/

theorem b2n_ne_zero (b : Bool) : b2n b ≠ 0 ↔ b = true := by
  cases b <;> decide

theorem gateWord_ne_zero (host feedback overrun stop node permit job : Nat) :
    host + 2 * feedback + 4 * overrun + 8 * stop + 16 * node + 32 * permit + 64 * job ≠ 0 ↔
      (host ≠ 0 ∨ feedback ≠ 0 ∨ overrun ≠ 0 ∨ stop ≠ 0 ∨ node ≠ 0 ∨ permit ≠ 0 ∨ job ≠ 0) := by
  omega

/-- The gate word is not 0 exactly if one of its sources is set (Table 6.7). -/
theorem gateSources_ne_zero (s : Blocks) (n : Nat) : gateSources s n ≠ 0 ↔
    (s.objB (0x3000 + n) 0x00 = false ∨ (getI s.scan.chans n).gates.feedback = true ∨ (getI s.scan.chans n).gates.overrun = true ∨
      (getI s.scan.chans n).gates.stop = true ∨ (getI s.scan.chans n).gates.node = true ∨ s.power.gate5 = true ∨
      (getI s.scan.chans n).gates.job = true) := by
  simp only [gateSources, gateWord_ne_zero, b2n_ne_zero, Bool.not_eq_true']

theorem scanEnv_gated (s : Blocks) (err : Nat → Int) (n : Nat) : (scanEnv s err n).gated = true ↔ gateSources s n ≠ 0 :=
  bne_iff_ne

theorem laserCommand_cmdNext_of_gated {e : ScanEnv} (h : e.gated = true) (c : Chan) :
    (laserCommand e c).cmdNext = { start := 0, events := [] } :=
  if_pos h

theorem laserCommand_merged_of_gated {e : ScanEnv} (h : e.gated = true) (c : Chan) :
    (laserCommand e c).counts.merged = c.counts.merged := by
  simp only [laserCommand, h, Bool.not_true, Bool.false_and, Bool.false_eq_true, if_false]

theorem laserCommand_of_gated {e : ScanEnv} (h : e.gated = true) (c : Chan) : laserCommand e c =
    { laserCommand { e with gated := false } c with
      cmdNext := { start := 0, events := [] }
      counts := { (laserCommand { e with gated := false } c).counts with merged := c.counts.merged } } := by
  rw [← laserCommand_cmdNext_of_gated h c, ← laserCommand_merged_of_gated h c]
  rfl

/-- Settles O55: a gate word that is not 0 has a source, and a gated laser command differs from one with light in its light and its count of
merged events alone. -/
theorem gatedChannelsStayDark : Obligations.GatedChannelsStayDark := by
  unfold Obligations.GatedChannelsStayDark
  refine ⟨fun s err n => (scanEnv_gated s err n).trans (gateSources_ne_zero s n), fun e c h => ⟨?_, laserCommand_of_gated h c⟩⟩
  rw [laserCommand_cmdNext_of_gated h c]
  rfl

/-! Events of one tick (R28, R34, R501) -/

/-- Events stand in the order of their posters. -/
def InOrder (l : List Event) : Prop := l.Pairwise (fun x y => x.poster.rank ≤ y.poster.rank)

/-- The events of one poster, as they stand. -/
def ofRank (k : Nat) (l : List Event) : List Event := l.filter (fun e => e.poster.rank == k)

theorem ofRank_append (k : Nat) (l l' : List Event) : ofRank k (l ++ l') = ofRank k l ++ ofRank k l' := List.filter_append ..

theorem ofRank_cons (k : Nat) (x : Event) (l : List Event) : ofRank k (x :: l) = ofRank k [x] ++ ofRank k l := ofRank_append k [x] l

theorem insertEvent_of_le {e x : Event} (l : List Event) (h : x.poster.rank ≤ e.poster.rank) :
    insertEvent e (x :: l) = x :: insertEvent e l := if_pos h

theorem insertEvent_of_lt {e x : Event} (l : List Event) (h : e.poster.rank < x.poster.rank) :
    insertEvent e (x :: l) = e :: x :: l := if_neg (Nat.not_le.mpr h)

theorem insertEvent_perm (e : Event) (l : List Event) : (insertEvent e l).Perm (e :: l) := by
  induction l with
  | nil => exact .refl _
  | cons x l ih =>
    rcases Nat.lt_or_ge e.poster.rank x.poster.rank with h | h
    · rw [insertEvent_of_lt l h]
    · rw [insertEvent_of_le l h]
      exact (ih.cons x).trans (.swap e x l)

theorem insertEvent_inOrder (e : Event) {l : List Event} (hl : InOrder l) : InOrder (insertEvent e l) := by
  induction l with
  | nil => exact List.pairwise_singleton _ e
  | cons x l ih =>
    obtain ⟨hx, htail⟩ := List.pairwise_cons.mp hl
    rcases Nat.lt_or_ge e.poster.rank x.poster.rank with h | h
    · rw [insertEvent_of_lt l h]
      refine List.pairwise_cons.mpr ⟨List.forall_mem_cons.mpr ⟨Nat.le_of_lt h, fun y hy => Nat.le_trans (Nat.le_of_lt h) (hx y hy)⟩, hl⟩
    · rw [insertEvent_of_le l h]
      refine List.pairwise_cons.mpr ⟨fun y hy => ?_, ih htail⟩
      rcases List.mem_cons.mp ((insertEvent_perm e l).mem_iff.mp hy) with rfl | hy
      · exact h
      · exact hx y hy

/-- An event passes events of other ranks, so those of one rank keep their order. -/
theorem ofRank_cons_eq_append {e : Event} {l : List Event} (k : Nat) (h : ∀ y ∈ l, e.poster.rank < y.poster.rank) :
    ofRank k (e :: l) = ofRank k (l ++ [e]) := by
  rw [ofRank_cons, ofRank_append]
  by_cases hk : e.poster.rank = k
  · have hnone : ofRank k l = [] := List.filter_eq_nil_iff.mpr fun y hy => by
      have hlt := h y hy
      rw [beq_iff_eq]
      omega
    rw [hnone, List.append_nil, List.nil_append]
  · have hnone : ofRank k [e] = [] := List.filter_eq_nil_iff.mpr (by simpa using hk)
    rw [hnone, List.append_nil, List.nil_append]

/-- An event comes in behind all events of its poster. -/
theorem ofRank_insertEvent (k : Nat) (e : Event) {l : List Event} (hl : InOrder l) :
    ofRank k (insertEvent e l) = ofRank k (l ++ [e]) := by
  induction l with
  | nil => rfl
  | cons x l ih =>
    obtain ⟨hx, htail⟩ := List.pairwise_cons.mp hl
    rcases Nat.lt_or_ge e.poster.rank x.poster.rank with h | h
    · rw [insertEvent_of_lt l h]
      exact ofRank_cons_eq_append k (List.forall_mem_cons.mpr ⟨h, fun y hy => Nat.lt_of_lt_of_le h (hx y hy)⟩)
    · rw [insertEvent_of_le l h, ofRank_cons, ih htail, List.cons_append, ← ofRank_cons]

/-- `r` holds the events of `l` in the order of their posters, those of one poster as they stand in `l`. -/
def InPosterOrder (l r : List Event) : Prop := r.Perm l ∧ InOrder r ∧ ∀ k, ofRank k r = ofRank k l

theorem inPosterOrder_insertEvent (e : Event) {l r : List Event} (h : InPosterOrder l r) :
    InPosterOrder (l ++ [e]) (insertEvent e r) := by
  obtain ⟨hperm, hord, hrank⟩ := h
  refine ⟨?_, insertEvent_inOrder e hord, fun k => ?_⟩
  · calc
      (insertEvent e r).Perm (e :: r) := insertEvent_perm e r
      (e :: r).Perm (e :: l) := hperm.cons e
      (e :: l).Perm (l ++ [e]) := (List.perm_append_singleton e l).symm
  · rw [ofRank_insertEvent k e hord, ofRank_append, ofRank_append, hrank k]

theorem inPosterOrder_foldl (l : List Event) {done r : List Event} (h : InPosterOrder done r) :
    InPosterOrder (done ++ l) (l.foldl (fun acc e => insertEvent e acc) r) := by
  induction l generalizing done r with
  | nil => rwa [List.append_nil]
  | cons e l ih =>
    have hnext := ih (inPosterOrder_insertEvent e h)
    rwa [List.append_assoc, List.singleton_append] at hnext

theorem inPosterOrder_orderEvents (l : List Event) : InPosterOrder l (orderEvents l) :=
  inPosterOrder_foldl l ⟨.refl _, List.Pairwise.nil, fun _ => rfl⟩

/-- Settles O57: each event is inserted behind those of its poster, before those of the posters after it. -/
theorem eventsAreAdmittedInPosterOrder : Obligations.EventsAreAdmittedInPosterOrder := by
  unfold Obligations.EventsAreAdmittedInPosterOrder
  exact inPosterOrder_orderEvents

/-! The reset state (R31, R489, R491) -/

theorem getI_replicate {α : Type} [Inhabited α] {n : Nat} (x : α) (i : Fin n) : getI (Vector.replicate n x) i = x := by
  simp [getI]

/-- Settles O59: single fields as `State.reset` gives them, and every element of a vector of blocks as the one that the vector repeats. -/
theorem resetStateIsTheTables : Obligations.ResetStateIsTheTables := by
  unfold Obligations.ResetStateIsTheTables
  refine ⟨rfl, rfl, rfl, rfl, rfl, rfl, rfl, rfl, rfl, rfl, rfl, rfl, rfl, rfl, rfl, fun n => ?chan, fun a => ?axis, fun p => ?port,
    fun m => ?stepper, fun l => ?string, fun c => ?camera⟩
  case chan =>
    have h : getI State.reset.scan.chans n = chanReset := getI_replicate chanReset n
    rw [h]
    exact ⟨rfl, rfl, rfl⟩
  case axis =>
    have h : getI State.reset.axes a = axisReset := getI_replicate axisReset a
    rw [h]
    exact ⟨rfl, rfl⟩
  case port => exact congrArg ZlPort.st (getI_replicate _ p)
  case stepper =>
    have h : getI State.reset.steps m = stepReset := getI_replicate stepReset m
    rw [h]
    exact ⟨rfl, rfl⟩
  case string => exact congrArg LedString.st (getI_replicate ledReset l)
  case camera => exact congrArg CamPort.link (getI_replicate camPortReset c)

end Sys2Proof.Proofs.Architecture

/-! Proofs about the tick count, the timebase and the power sequence that starts it (02_tick_and_timebase R41, R42, R50, R52;
17_thermal_and_power R432–R438). -/

namespace Sys2Proof.Proofs.Timebase

open Sys2Proof Sys2Proof.Machine Sys2Proof.Proofs.Architecture

/-! Frames -/

/-- What hiding the parts of a frame does not touch is as it was. -/
theorem eq_of_sameBut {β : Type} {ps : List Part} {s t : State} (part : State → β) (h : sameBut ps s t)
    (hpart : ∀ x, part (x.hide ps) = part x) : part t = part s := by
  rw [← hpart t, ← hpart s, h]

/-! The tick count (R42, R60) -/

/-- Every part but the tick count and the queue of waiting commands. -/
def allButTicks : List Part := everything.erase .ticks

@[simp] theorem mem_allButTicks (p : Part) : p ∈ allButTicks ↔ p ≠ .ticks ∧ p ≠ .pending := by
  cases p <;> decide

/-- The commands that bring values into force outside of a tick boundary and a new start: a Frame Start, the lockstep entry and the end of a
start-up phase. -/
theorem exec_within_of_setsValues_of_not_movesTicks (c : Instr) (s : State) (hvalues : setsValues c = true) (hticks : movesTicks c = false) :
    Within allButTicks s (exec c s) := by
  cases c with
  | frameStart => exact within_next (by simp)
  | lockstepEntry => exact within_next (by simp)
  | startupPhaseComplete => exact within_next (by simp)
  | tickBoundary | powerSequenceStep | dieShutdown | railOutsideWindow | railFaultPersists | vaux33Loss | holdUpExpiry | powerOn | resetN
  | watchdogExpiry | testEnRise | testEnFall => cases hticks
  | _ => cases hvalues

theorem ticks_eq_of_within {ps : List Part} {s t : State} (hps : .ticks ∉ ps) (h : Within ps s (.next t)) : t.time.ticks = s.time.ticks := by
  obtain ⟨_, ⟨⟩, hsame⟩ := h
  exact eq_of_sameBut (·.time.ticks) hsame fun _ => if_neg hps

/-- Settles O6: the tick count is in the frame neither of a command that brings no values into force nor of one that does so outside of a tick
boundary and a new start. -/
theorem onlyBoundariesCountTicks : Obligations.OnlyBoundariesCountTicks := by
  unfold Obligations.OnlyBoundariesCountTicks
  intro c s t hticks ht
  cases hvalues : setsValues c with
  | false => exact ticks_eq_of_within (by decide) (ht ▸ exec_within_of_not_setsValues c s hvalues)
  | true => exact ticks_eq_of_within (by decide) (ht ▸ exec_within_of_setsValues_of_not_movesTicks c s hvalues hticks)

/-- An event takes the tick from local time alone. -/
theorem posts_congr {s t : State} (hfaults : t.faults = s.faults) (hboundary : t.time.boundary = s.time.boundary) (es : List Event) :
    posts t es = posts s es := by
  simp only [posts, Blocks.tickCount, hfaults, hboundary]

/-! Frames of 802.1AS (R50) -/

theorem countReceived_sameBut (s : State) (p : Nat) : sameBut [.host] s (countReceived s p) := countReceived_hide s p [.host] (by decide)

@[simp] theorem countReceived_time (s : State) (p : Nat) : (countReceived s p).time = s.time :=
  eq_of_sameBut (·.time) (countReceived_sameBut s p) fun _ => rfl

@[simp] theorem countReceived_faults (s : State) (p : Nat) : (countReceived s p).faults = s.faults :=
  eq_of_sameBut (·.faults) (countReceived_sameBut s p) fun _ => rfl

@[simp] theorem countReceived_out (s : State) (p : Nat) : (countReceived s p).out = s.out :=
  eq_of_sameBut (·.out) (countReceived_sameBut s p) fun _ => rfl

@[simp] theorem countReceived_objN (s : State) (p index sub : Nat) : (countReceived s p).objN index sub = s.objN index sub :=
  eq_of_sameBut (·.objN index sub) (countReceived_sameBut s p) fun _ => rfl

/-- Of a port only the count of frames received changes. -/
theorem countReceived_port (s : State) (p q : Nat) :
    (getI (countReceived s p).host.ports q).linkUp = (getI s.host.ports q).linkUp ∧
    (getI (countReceived s p).host.ports q).sent = (getI s.host.ports q).sent := by
  unfold countReceived
  split
  · rw [updEth_host, getI_updI]
    split
    · next h => rw [h.1]; exact ⟨rfl, rfl⟩
    · exact ⟨rfl, rfl⟩
  · exact ⟨rfl, rfl⟩

theorem gptpFrame_of_gptpOn {s : State} {p : Nat} (h : gptpOn s.toBlocks p = true) (run : State → State) :
    gptpFrame s p run = run (countReceived s p) := by
  have hon : gptpOn (countReceived s p).toBlocks p = true := by simpa only [gptpOn, countReceived_objN] using h
  exact if_pos hon

/-! A Sync on the slave port (R51–R53, Table 2.3) -/

section

variable {s : State}

theorem syncState_of_free (h : s.time.tb = .free) (inside far : Bool) :
    syncState s inside far = s.updTime (fun t => { t with tb := .acquire, inWindow := 0 }) := by
  simp only [syncState, h]

theorem syncState_of_holdover (h : s.time.tb = .holdover) (inside far : Bool) :
    syncState s inside far = (s.updTime (fun t => { t with tb := .acquire, inWindow := 0 })).post (timeEvent 3 .note []) := by
  simp only [syncState, h]

/-- The sixteenth offset in a row inside the lock window. -/
theorem syncState_of_acquire_of_le (h : s.time.tb = .acquire) (hrow : 15 ≤ s.time.inWindow) (far : Bool) :
    syncState s true far = (s.updTime (fun t => { t with tb := .locked, inWindow := 0, outWindow := 0 })).post (timeEvent 0 .note []) := by
  simp only [syncState, h, if_true]
  exact if_pos (by omega)

theorem syncState_of_acquire_of_lt (h : s.time.tb = .acquire) (hrow : s.time.inWindow < 15) (far : Bool) :
    syncState s true far = s.updTime (fun t => { t with inWindow := s.time.inWindow + 1 }) := by
  simp only [syncState, h, if_true]
  exact if_neg (by omega)

theorem syncState_of_acquire_outside (h : s.time.tb = .acquire) (far : Bool) :
    syncState s false far = s.updTime (fun t => { t with inWindow := 0 }) := by
  simp [syncState, h]

/-- The fourth offset in a row beyond four windows. -/
theorem syncState_of_locked_far (h : s.time.tb = .locked) (hrow : 3 ≤ s.time.outWindow) (inside : Bool) :
    syncState s inside true = (s.updTime (fun t => { t with tb := .acquire, inWindow := 0, outWindow := 0 })).post (timeEvent 1 .warn []) := by
  simp only [syncState, h, if_true]
  exact if_pos (by omega)

theorem syncState_of_locked_near (h : s.time.tb = .locked) (inside : Bool) :
    syncState s inside false = s.updTime (fun t => { t with outWindow := 0 }) := by
  simp [syncState, h]

end

/-- A step of Table 2.3 leaves what the Sync has put down. -/
theorem syncState_keeps (s : State) (inside far : Bool) :
    (syncState s inside far).time.offset = s.time.offset ∧ (syncState s inside far).time.syncTick = s.time.syncTick ∧
    (syncState s inside far).time.ticks = s.time.ticks := by
  unfold syncState
  dsimp only
  (repeat' split) <;> exact ⟨rfl, rfl, rfl⟩

/-- What the tuning, or a step of local time that is put down, leaves of the timebase and the faults. -/
def SyncSettled (s t : State) : Prop :=
  t.faults = s.faults ∧ t.time.tb = s.time.tb ∧ t.time.inWindow = s.time.inWindow ∧ t.time.outWindow = s.time.outWindow ∧
  t.time.offset = s.time.offset ∧ t.time.syncTick = s.time.syncTick ∧ t.time.ticks = s.time.ticks

/-- The state in which the offset of a Sync meets Table 2.3. -/
def withOffset (s : State) (off : Int) : State := s.updTime (fun t => { t with offset := off, syncTick := t.ticks })

/-- The offset that a Sync on a port shows (R51). -/
def syncOff (s : State) (port rxLocal gmTime : Nat) : Int := (rxLocal : Int) - ((gmTime + getI s.time.linkDelay port : Nat) : Int)

theorem syncOffset_settled (s : State) (port rxLocal gmTime : Nat) :
    SyncSettled (syncState (withOffset s (syncOff s port rxLocal gmTime))
        (decide ((syncOff s port rxLocal gmTime).natAbs ≤ s.objN 0x2000 0x05))
        (decide (4 * s.objN 0x2000 0x05 < (syncOff s port rxLocal gmTime).natAbs)))
      (syncOffset s port rxLocal gmTime) := by
  unfold syncOffset
  dsimp only
  split <;> exact ⟨rfl, rfl, rfl, rfl, rfl, rfl, rfl⟩

@[simp] theorem syncOff_countReceived (s : State) (port rxLocal gmTime : Nat) :
    syncOff (countReceived s port) port rxLocal gmTime = syncOff s port rxLocal gmTime := by
  simp only [syncOff, countReceived_time]

theorem execSyncReceived_of_slave {s : State} {port : Fin 2} (hon : gptpOn s.toBlocks port = true) (hslave : s.time.slave = some port)
    (rxLocal gmTime : Nat) :
    exec (.syncReceived port rxLocal gmTime) s = .next (syncOffset (countReceived s port) port rxLocal gmTime) := by
  have hrun := gptpFrame_of_gptpOn hon (fun s => if s.time.slave == some port then syncOffset s port rxLocal gmTime else s)
  rw [countReceived_time, hslave, beq_self_eq_true, if_pos rfl] at hrun
  exact congrArg Host.Outcome.next hrun

/-- What Table 2.3 gives for a Sync with an offset `off` in a lock window `w`, from the state `s` to the state `t`. -/
def FollowsSync (s t : State) (off : Int) (w : Nat) : Prop :=
  (s.time.tb = .free → t.time.tb = .acquire ∧ t.faults = s.faults) ∧
  (s.time.tb = .holdover → t.time.tb = .acquire ∧ t.faults = posts s [timeEvent 3 .note []]) ∧
  (s.time.tb = .acquire → off.natAbs ≤ w → 15 ≤ s.time.inWindow → t.time.tb = .locked ∧ t.faults = posts s [timeEvent 0 .note []]) ∧
  (s.time.tb = .acquire → off.natAbs ≤ w → s.time.inWindow < 15 → t.time.tb = .acquire ∧ t.time.inWindow = s.time.inWindow + 1) ∧
  (s.time.tb = .acquire → w < off.natAbs → t.time.tb = .acquire ∧ t.time.inWindow = 0) ∧
  (s.time.tb = .locked → 4 * w < off.natAbs → 3 ≤ s.time.outWindow → t.time.tb = .acquire ∧ t.faults = posts s [timeEvent 1 .warn []]) ∧
  (s.time.tb = .locked → off.natAbs ≤ 4 * w → t.time.tb = .locked ∧ t.time.outWindow = 0)

theorem syncState_followsSync (s : State) (off : Int) (w : Nat) :
    FollowsSync s (syncState s (decide (off.natAbs ≤ w)) (decide (4 * w < off.natAbs))) off w := by
  refine ⟨fun h => ?free, fun h => ?holdover, fun h hin hrow => ?locks, fun h hin hrow => ?counts, fun h hout => ?outside,
    fun h hfar hrow => ?unlocks, fun h hnear => ?stays⟩
  case free => rw [syncState_of_free h]; exact ⟨rfl, rfl⟩
  case holdover => rw [syncState_of_holdover h]; exact ⟨rfl, rfl⟩
  case locks => rw [decide_eq_true hin, syncState_of_acquire_of_le h hrow]; exact ⟨rfl, rfl⟩
  case counts => rw [decide_eq_true hin, syncState_of_acquire_of_lt h hrow]; exact ⟨h, rfl⟩
  case outside => rw [decide_eq_false (Nat.not_le.mpr hout), syncState_of_acquire_outside h]; exact ⟨h, rfl⟩
  case unlocks => rw [decide_eq_true hfar, syncState_of_locked_far h hrow]; exact ⟨rfl, rfl⟩
  case stays => rw [decide_eq_false (Nat.not_lt.mpr hnear), syncState_of_locked_near h]; exact ⟨h, rfl⟩

theorem followsSync_of_settled {s y t : State} {off : Int} {w : Nat} (hsettled : SyncSettled y t) (h : FollowsSync s y off w) :
    FollowsSync s t off w := by
  obtain ⟨hfaults, htb, hin, hout, -, -, -⟩ := hsettled
  simpa only [FollowsSync, hfaults, htb, hin, hout] using h

/-- Table 2.3 asks nothing of the state that counting the frame or putting down the offset changes. -/
theorem followsSync_withOffset {s t : State} {p : Nat} {x off : Int} {w : Nat} (h : FollowsSync (withOffset (countReceived s p) x) t off w) :
    FollowsSync s t off w := by
  have hposts := posts_congr (s := s) (t := withOffset (countReceived s p) x) (by simp [withOffset]) (by simp [withOffset])
  simp only [FollowsSync, hposts] at h
  simpa [FollowsSync, withOffset] using h

theorem syncOffset_followsSync (s : State) (port rxLocal gmTime : Nat) :
    FollowsSync s (syncOffset (countReceived s port) port rxLocal gmTime) (syncOff s port rxLocal gmTime) (s.objN 0x2000 0x05) := by
  have hsettled := syncOffset_settled (countReceived s port) port rxLocal gmTime
  rw [syncOff_countReceived, countReceived_objN] at hsettled
  exact followsSync_of_settled hsettled (followsSync_withOffset (syncState_followsSync _ _ _))

/-- The Sync puts down its offset and its tick, and counts no tick. -/
theorem syncOffset_time (s : State) (port rxLocal gmTime : Nat) :
    let t := syncOffset (countReceived s port) port rxLocal gmTime
    t.time.offset = syncOff s port rxLocal gmTime ∧ t.time.syncTick = s.time.ticks ∧ t.time.ticks = s.time.ticks := by
  obtain ⟨-, -, -, -, hoff, htick, hticks⟩ := syncOffset_settled (countReceived s port) port rxLocal gmTime
  simp [hoff, htick, hticks, syncState_keeps, withOffset]

/-! Announces and the loss of Syncs (R50, R52) -/

theorem loseSync_of_locked {s : State} (h : s.time.tb = .locked) :
    loseSync s = (s.updTime (fun t => { t with tb := .holdover, holdoverStart := t.ticks })).post (timeEvent 2 .warn []) := by
  simp only [loseSync, h]

theorem loseSync_of_acquire {s : State} (h : s.time.tb = .acquire) : loseSync s = s.updTime (fun t => { t with tb := .free }) := by
  simp only [loseSync, h]

theorem loseSync_of_free {s : State} (h : s.time.tb = .free) : loseSync s = s := by
  simp only [loseSync, h]

theorem loseSync_of_holdover {s : State} (h : s.time.tb = .holdover) : loseSync s = s := by
  simp only [loseSync, h]

/-- A timebase once without Syncs stays as it is. -/
theorem loseSync_loseSync (s : State) : loseSync (loseSync s) = loseSync s := by
  cases h : s.time.tb with
  | free => rw [loseSync_of_free h, loseSync_of_free h]
  | holdover => rw [loseSync_of_holdover h, loseSync_of_holdover h]
  | acquire => rw [loseSync_of_acquire h]; exact loseSync_of_free rfl
  | locked => rw [loseSync_of_locked h]; exact loseSync_of_holdover rfl

@[simp] theorem loseSync_announces (s : State) : (loseSync s).time.announces = s.time.announces := by
  unfold loseSync
  split <;> rfl

/-- Best master selection leaves all but the slave port, the grandmaster and the tick from which Syncs are awaited. -/
theorem selectMaster_keeps (t : TimeState) :
    (selectMaster t).announces = t.announces ∧ (selectMaster t).tb = t.tb ∧ (selectMaster t).ticks = t.ticks ∧
    (selectMaster t).boundary = t.boundary := by
  unfold selectMaster
  split <;> exact ⟨rfl, rfl, rfl, rfl⟩

/-- The state with the Announce of a port replaced and the slave port chosen again. -/
def withAnnounce (s : State) (p : Nat) (a : Option Announce) : State :=
  s.updTime (fun t => selectMaster { t with announces := updI t.announces p (fun _ => a) })

theorem setAnnounce_eq (s : State) (p : Nat) (a : Option Announce) :
    setAnnounce s p a = if (withAnnounce s p a).time.slave.isNone then loseSync (withAnnounce s p a) else withAnnounce s p a := rfl

theorem withAnnounce_keeps (s : State) (p : Nat) (a : Option Announce) :
    (withAnnounce s p a).time.announces = updI s.time.announces p (fun _ => a) ∧ (withAnnounce s p a).time.tb = s.time.tb ∧
    (withAnnounce s p a).time.ticks = s.time.ticks ∧ (withAnnounce s p a).time.boundary = s.time.boundary :=
  selectMaster_keeps _

/-- With Syncs lost after it, an Announce withdrawn loses them no second time. -/
theorem loseSync_setAnnounce (s : State) (p : Nat) (a : Option Announce) :
    loseSync (setAnnounce s p a) = loseSync (withAnnounce s p a) := by
  rw [setAnnounce_eq]
  split
  · exact loseSync_loseSync _
  · rfl

theorem betterAnnounce_isSome_left (x : Announce) (b : Option Announce) : (betterAnnounce (some x) b).isSome = true := by
  cases b with
  | none => rfl
  | some y =>
    unfold betterAnnounce
    dsimp only
    split <;> rfl

theorem betterAnnounce_isSome_right (a : Option Announce) (y : Announce) : (betterAnnounce a (some y)).isSome = true := by
  cases a with
  | none => rfl
  | some x => exact betterAnnounce_isSome_left x (some y)

/-- Any Announce held gives a slave port. -/
theorem selectMaster_slave_isSome {t : TimeState} {p : Fin 2} {a : Announce} (h : getI t.announces p = some a) :
    (selectMaster t).slave.isSome = true := by
  have hbest : (betterAnnounce (getI t.announces 0) (getI t.announces 1)).isSome = true := by
    match p with
    | 0 => rw [show getI t.announces 0 = some a from h]; exact betterAnnounce_isSome_left a _
    | 1 => rw [show getI t.announces 1 = some a from h]; exact betterAnnounce_isSome_right _ a
  obtain ⟨x, hx⟩ := Option.isSome_iff_exists.mp hbest
  simp only [selectMaster, hx, Option.isSome_some]

theorem setAnnounce_some (s : State) (p : Fin 2) (a : Announce) : setAnnounce s p (some a) = withAnnounce s p (some a) := by
  have hslave : (withAnnounce s p (some a)).time.slave.isSome = true := selectMaster_slave_isSome (p := p) (getI_updI_self _ _ p.isLt _)
  rw [setAnnounce_eq, ← Option.not_isSome, hslave]
  rfl

theorem syncTimeout_of_due {s : State} {p : Fin 2} (hslave : s.time.slave = some p) (hdue : s.time.syncTick + 37500 ≤ s.now) :
    syncTimeout s = loseSync (withAnnounce s p none) := by
  rw [← loseSync_setAnnounce]
  simp only [syncTimeout, hslave]
  exact if_pos hdue

theorem holdoverExpire_of_due {s : State} (htb : s.time.tb = .holdover) (hlimit : s.objN 0x2000 0x03 ≠ 0)
    (hdue : s.time.holdoverStart + s.objN 0x2000 0x03 ≤ s.now) :
    holdoverExpire s = (s.updTime (fun t => { t with tb := .free })).post (timeEvent 4 .warn []) := by
  have hcond : (s.time.tb == .holdover && s.objN 0x2000 0x03 != 0 && decide (s.time.holdoverStart + s.objN 0x2000 0x03 ≤ s.now)) = true := by
    rw [htb, decide_eq_true hdue, bne_iff_ne.mpr hlimit]
    rfl
  exact if_pos hcond

/-- Settles O10: a Sync by the cases of `syncState`, the loss of Syncs by those of `loseSync`, the holdover limit by its one branch. -/
theorem timebaseStatesFollowTable23 : Obligations.TimebaseStatesFollowTable23 := by
  unfold Obligations.TimebaseStatesFollowTable23
  refine ⟨fun s port rx gm hon hslave => ?sync, fun s p hslave hdue => ?timeout, fun s htb hlimit hdue => ?limit⟩
  case sync =>
    refine ⟨_, execSyncReceived_of_slave hon hslave rx gm, by simp [sameBut], ?_⟩
    obtain ⟨hoff, htick, hticks⟩ := syncOffset_time s port rx gm
    exact ⟨hoff, htick, hticks, syncOffset_followsSync s port rx gm⟩
  case timeout =>
    obtain ⟨hannounces, htb, hticks, hboundary⟩ := withAnnounce_keeps s p none
    have hexec : exec .syncReceiptTimeout s = .next (loseSync (withAnnounce s p none)) :=
      congrArg Host.Outcome.next (syncTimeout_of_due hslave hdue)
    refine ⟨_, hexec, ?_, ?_, fun h => ?_, fun h => ?_⟩
    · rw [← syncTimeout_of_due hslave hdue]
      exact syncTimeout_hide s _ (by decide) (by decide)
    · rw [loseSync_announces, hannounces, getI_updI_self _ _ p.isLt]
    · rw [loseSync_of_locked (htb.trans h)]
      have hposts := posts_congr (s := s) (t := withAnnounce s p none) rfl hboundary [timeEvent 2 .warn []]
      exact ⟨rfl, hticks, hposts⟩
    · rw [loseSync_of_acquire (htb.trans h)]
      exact ⟨rfl, rfl⟩
  case limit =>
    exact ⟨_, congrArg Host.Outcome.next (holdoverExpire_of_due htb hlimit hdue), by simp [sameBut], rfl, rfl⟩

/-! Announces, requests and responses of 802.1AS (R50) -/

/-- An Announce of the domain, on an enabled port with its link up, is held. -/
theorem execAnnounceReceived_of_stands {s : State} {a : Announce} (hon : gptpOn s.toBlocks a.port = true)
    (hdomain : a.domain = s.objN 0x2000 0x02) (hlink : (getI s.host.ports a.port).linkUp = true) (hsteps : a.stepsRemoved < 255) :
    exec (.announceReceived a) s = .next (withAnnounce (countReceived s a.port) a.port (some a)) := by
  have hon' : gptpOn (countReceived s a.port).toBlocks a.port = true := by simpa only [gptpOn, countReceived_objN] using hon
  have hstands : (announceStands (countReceived s a.port).toBlocks a.port a && (getI (countReceived s a.port).host.ports a.port).linkUp &&
      decide (a.stepsRemoved < 255)) = true := by
    simp only [announceStands, hon', countReceived_objN, hdomain, (countReceived_port s a.port a.port).1, hlink, hsteps, beq_self_eq_true,
      decide_true, Bool.and_true]
  have hrun := gptpFrame_of_gptpOn hon (fun s =>
    if announceStands s.toBlocks a.port a && (getI s.host.ports a.port).linkUp && decide (a.stepsRemoved < 255) then
      setAnnounce s a.port (some a) else s)
  rw [if_pos hstands, setAnnounce_some] at hrun
  exact congrArg Host.Outcome.next hrun

theorem countSent_sent (s : State) (p : Fin 2) :
    (getI (countSent s p).host.ports p).sent = ((getI s.host.ports p).sent + 1) % 2 ^ 32 := by
  rw [countSent, updEth_host, getI_updI_self _ _ p.isLt]

/-- Settles O11: each message runs on the state with its frame counted, of which an Announce replaces one and selects anew, a request sends two
frames, and a response gives one delay. -/
theorem gptpMessagesComplete : Obligations.GptpMessagesComplete := by
  unfold Obligations.GptpMessagesComplete
  refine ⟨fun s a hon hdomain hlink hsteps => ?announce, fun s port sequence hon => ?request, fun s port t1 t2 t3 t4 hon => ?response⟩
  case announce =>
    obtain ⟨hannounces, htb, -, -⟩ := withAnnounce_keeps (countReceived s a.port) a.port (some a)
    have hheld := getI_updI_self s.time.announces a.port a.port.isLt (fun _ => some a)
    rw [countReceived_time] at hannounces htb
    refine ⟨_, execAnnounceReceived_of_stands hon hdomain hlink hsteps, ?_, ?_, ?_, htb, fun p hp => ?_⟩
    · simp [sameBut, withAnnounce, selectMaster_keeps]
    · rw [hannounces, hheld]
    · exact selectMaster_slave_isSome (getI_updI_self _ _ a.port.isLt _)
    · rw [hannounces, getI_updI_ne _ _ _ hp]
  case request =>
    refine ⟨_, congrArg Host.Outcome.next (gptpFrame_of_gptpOn hon _), by simp [sameBut], ?_, ?_⟩
    · simp [countSent]
    · simp only [countSent_sent, send_keeps, (countReceived_port s port port).2]
      omega
  case response =>
    refine ⟨_, congrArg Host.Outcome.next (gptpFrame_of_gptpOn hon _), by simp [sameBut], ?_, fun p hp => ?_⟩
    · rw [updTime_time, getI_updI_self _ _ port.isLt]
    · rw [updTime_time, getI_updI_ne _ _ _ hp, countReceived_time]

/-! Operations over all channels, axes or records -/

/-- What every step of a fold leaves, the fold leaves. -/
theorem foldl_keeps {α β : Type} (l : List α) {f : State → α → State} (g : State → β) (h : ∀ s x, g (f s x) = g s) (s : State) :
    g (l.foldl f s) = g s := by
  induction l generalizing s with
  | nil => rfl
  | cons x l ih => rw [List.foldl_cons, ih, h]

theorem forI_keeps {β : Type} (n : Nat) {f : State → Nat → State} (g : State → β) (h : ∀ s k, g (f s k) = g s) (s : State) :
    g (forI n s f) = g s := foldl_keeps _ g h s

theorem forI_succ (n : Nat) (s : State) (f : State → Nat → State) : forI (n + 1) s f = f (forI n s f) n := by
  simp only [forI, List.range_succ, List.foldl_append, List.foldl_cons, List.foldl_nil]

theorem getI_map {α β : Type} [Inhabited α] [Inhabited β] {n i : Nat} (v : Vector α n) (f : α → β) (h : i < n) :
    getI (v.map f) i = f (getI v i) := by
  simp [getI, h]

theorem setJobGates_job (s : State) {n : Nat} (h : n < 32) : (getI (setJobGates s true).scan.chans n).gates.job = true :=
  congrArg (fun c : Chan => c.gates.job) (getI_map s.scan.chans _ h)

theorem stopAxis_st (e : StepEnv) (ax : StepAxis) (code : Nat) : (stopAxis e ax code).st = .stopped := by
  unfold stopAxis
  split
  · next h => exact eq_of_beq h
  · rfl

/-- Axes are stopped one after another, and no axis that comes later starts an earlier one. -/
theorem stopSteppers_st (s : State) (n : Nat) (hn : n ≤ 8) {m : Nat} (hm : m < n) :
    (getI (forI n s (fun s m => s.updStep m (fun ax => stopAxis (stepEnv s.toBlocks m) ax 0))).steps m).st = .stopped := by
  induction n with
  | zero => omega
  | succ n ih =>
    rw [forI_succ, updStep_steps]
    rcases Nat.lt_succ_iff_lt_or_eq.mp hm with hlt | rfl
    · rw [getI_updI_ne _ _ _ (Nat.ne_of_lt hlt)]
      exact ih (by omega) hlt
    · rw [getI_updI_self _ _ (by omega)]
      exact stopAxis_st _ _ _

theorem stopAllSteppers_st (s : State) {m : Nat} (hm : m < 8) : (getI (stopAllSteppers s).steps m).st = .stopped :=
  stopSteppers_st s 8 (Nat.le_refl 8) hm

theorem endFlashOp_op (s : State) (status : Nat) : (endFlashOp s status).flash.op = .none := by
  unfold endFlashOp
  split
  · next h => exact h
  · rfl
  · rfl

theorem noteRingStall_faults (s : State) : (noteRingStall s).faults = s.faults := by
  unfold noteRingStall
  split <;> rfl

/-- A ring entry is no event. -/
theorem queueRing_posted (s : State) (r : Record) : (queueRing s r).faults.posted = s.faults.posted := by
  unfold queueRing
  dsimp only
  split
  · rw [noteRingStall_faults]
  · rfl

theorem queueOpenRecords_posted (s : State) : (queueOpenRecords s).faults.posted = s.faults.posted :=
  foldl_keeps _ (fun s => s.faults.posted) queueRing_posted s

theorem localFault_faults (s : State) : (localFault s).faults = s.faults :=
  eq_of_sameBut (·.faults) (localFault_hide s [.work] (by decide)) fun _ => rfl

/-- An event posted in the tick of `s`. -/
theorem mem_post_posted {s t : State} (h : t.tickCount = s.tickCount) (e : Event) :
    { e with tick := s.tickCount } ∈ (t.post e).faults.posted := by
  rw [← h]
  exact List.mem_append_right _ (List.mem_singleton_self _)

/-! PF_N (R434, R436) -/

/-- The state once the power manager has seen PF_N low: a start-up in progress is over (R510). -/
def pfSeen (s : State) : State :=
  { s with
    power := { s.power with pfLow := true, pfDetected := some s.now }
    start := { s.start with phaseOver := s.start.phaseOver || s.start.phase != 0 } }

/-- What PF_N stops before its event is posted: the job gates, the steppers, the calibrations and the flash operation. -/
def pfStopped (s : State) : State := endFlashOp (abortAllCalibrations (stopAllSteppers (setJobGates (pfSeen s) true))) 5

/-- The event of PF_N (Table 17.6). -/
def pfEvent : Event := powerEvent 0x1102 .safe .device 0 []

theorem assertPf_of_running {s : State} (hrun : s.time.running = true) (hpf : s.power.pfDetected = none) :
    assertPf s = queueOpenRecords ((pfStopped s).post pfEvent) := by
  have hcond : ((s.updPower (fun p => { p with pfLow := true })).power.pfDetected.isSome ||
      !(s.updPower (fun p => { p with pfLow := true })).time.running) = false := by
    rw [updPower_power, hpf, (updPower_keeps s _).1, hrun]
    rfl
  unfold assertPf beginHoldUp
  rw [hcond, if_neg Bool.false_ne_true]
  rfl

theorem setJobGates_sameBut_pfStopped (s : State) :
    sameBut [.steps, .analog, .faults, .flash, .freeCtr] (setJobGates (pfSeen s) true) (pfStopped s) := by
  simp [sameBut, pfStopped]

theorem pfStopped_power (s : State) : (pfStopped s).power = { s.power with pfLow := true, pfDetected := some s.now } :=
  eq_of_sameBut (·.power) (setJobGates_sameBut_pfStopped s) fun _ => rfl

theorem pfStopped_op (s : State) : (pfStopped s).flash.op = .none := by
  unfold pfStopped
  exact endFlashOp_op _ 5

/-- Neither the event of PF_N nor what is queued for the ring changes more than the faults, Q62 and the pair's work. -/
theorem pfStopped_sameBut (s : State) : sameBut [.faults, .queues, .work] (pfStopped s)
    (localFault (queueOpenRecords ((pfStopped s).post pfEvent))) := by
  simp [sameBut]

theorem stopAllSteppers_sameBut_pfStopped (s : State) :
    sameBut [.analog, .faults, .flash, .freeCtr] (stopAllSteppers (setJobGates (pfSeen s) true)) (pfStopped s) := by
  simp [sameBut, pfStopped]

/-! LPERMIT_N (R437, R438) -/

theorem gates_out (s : State) (n : Nat) :
    (forI n s (fun s n => s.send (.gate n))).out = s.out ++ (List.range n).map Output.gate := by
  induction n with
  | zero => exact (List.append_nil _).symm
  | succ n ih => rw [forI_succ, send_out, ih, List.range_succ, List.map_append, List.append_assoc]; rfl

theorem gates_analog (s : State) (n : Nat) : (forI n s (fun s n => s.send (.gate n))).analog = s.analog :=
  forI_keeps n (fun s => s.analog) (f := fun s n => s.send (.gate n)) (fun _ _ => rfl) s

theorem abortCalibration_channels (s : State) (j : Nat) : (abortCalibration s j).analog.channels = s.analog.channels := by
  unfold abortCalibration
  split <;> rfl

theorem abortLaoCalibrations_channels (s : State) : (abortLaoCalibrations s).analog.channels = s.analog.channels := by
  unfold abortLaoCalibrations
  exact forI_keeps 32 (fun s => s.analog.channels) abortCalibration_channels s

/-- An analog channel with its laser outputs off. -/
theorem analogOff_channel (s : State) {n : Nat} (h : n < 32) :
    (getI (analogOff s).analog.channels n).lao = 0 ∧ (getI (analogOff s).analog.channels n).lg = false := by
  rw [analogOff, getI_map s.analog.channels _ h]
  exact ⟨rfl, rfl⟩

/-- The power manager with gate source [5] set by a negation of LPERMIT_N. -/
def permitNegated (s : State) : State :=
  s.updPower (fun p => { p with permitLow := false, permitSince := none, gate5 := true, negations := inc32 p.negations })

/-- What a negation of LPERMIT_N does before its event is posted: the analog outputs, GATE on the laser ports, the calibrations of LAO. -/
def permitGated (s : State) : State :=
  abortLaoCalibrations (forI 32 (analogOff (permitNegated s)) (fun s n => s.send (.gate n)))

theorem permitNegated_sameBut_permitGated (s : State) : sameBut [.analog, .faults, .out] (permitNegated s) (permitGated s) := by
  simp [sameBut, permitGated]

theorem jobRuns_permitGated (s : State) : (permitGated s).jobRuns = s.jobRuns :=
  eq_of_sameBut (s := permitNegated s) (·.jobRuns) (permitNegated_sameBut_permitGated s) fun _ => rfl

/-- The event of a negation, by whether a job runs. -/
theorem negatePermit_eq (s : State) :
    negatePermit s = (permitGated s).post (powerEvent 0x1103 (if s.jobRuns then .stopJob else .warn) .device 0 []) := by
  rw [← jobRuns_permitGated]
  rfl

theorem permitGated_sameBut_negatePermit (s : State) : sameBut [.faults] (permitGated s) (negatePermit s) := by
  rw [negatePermit_eq]
  exact State_post_hide _ _ _ (by decide)

theorem permitGated_out (s : State) : (permitGated s).out = s.out ++ (List.range 32).map Output.gate := by
  have hcal : (permitGated s).out = (forI 32 (analogOff (permitNegated s)) (fun s n => s.send (.gate n))).out :=
    eq_of_sameBut (·.out) (abortLaoCalibrations_hide _ [.analog, .faults] (by decide) (by decide)) fun _ => rfl
  rw [hcal, gates_out]
  rfl

theorem permitGated_channels (s : State) : (permitGated s).analog.channels = (analogOff (permitNegated s)).analog.channels := by
  rw [permitGated, abortLaoCalibrations_channels, gates_analog]

/-! The power sequence (R41, R432, R433) -/

theorem execPowerSequenceStep_of_lt {s : State} {k : Nat} (hst : s.power.st = .step k) (hreset : s.start.inReset = false) (hk : k < 6) :
    exec .powerSequenceStep s = .next (s.updPower (fun p => { p with st := .step (k + 1) })) := by
  simp [exec, execPowerSequenceStep, hst, hreset, hk]

/-- The state at the end of the power sequence: the timebase starts, BOOT values are in force, CTRIG is driven. -/
def sequenceEnded (s : State) : State :=
  { s with
    power := { s.power with st := .powered, attempts := 0, retried := false }
    time := { s.time with running := true, boundary := 0, clock := 0, ticks := 0 }
    dict := bootInForce s.flash s.dict
    pins := { s.pins with triggers := .driven } }

theorem execPowerSequenceStep_of_le {s : State} {k : Nat} (hst : s.power.st = .step k) (hreset : s.start.inReset = false) (hk : 6 ≤ k)
    (htest : s.start.testMode = false) :
    exec .powerSequenceStep s = .next (if s.power.retried then (sequenceEnded s).post (powerEvent 0x110D .warn .device 0 [])
      else sequenceEnded s) := by
  simp [exec, execPowerSequenceStep, hst, hreset, Nat.not_lt.mpr hk, htest, sequenceEnded]

theorem execPowerSequenceStepTimeout_of_step {s : State} {k : Nat} (hst : s.power.st = .step k) (rail : Fin 6) :
    exec (.powerSequenceStepTimeout rail) s = .next (s.updPower (fun p => { p with
      st := if s.power.attempts < 2 then .retryWait else .off, attempts := s.power.attempts + 1, retried := true
      record := k + 256 * rail.val + 65536 * (s.power.attempts + 1) })) := by
  have hexec : execPowerSequenceStepTimeout rail s = .next (s.updPower (fun p => { p with
      st := if 3 ≤ s.power.attempts + 1 then .off else .retryWait, attempts := s.power.attempts + 1, retried := true
      record := k + 256 * rail.val + 65536 * (s.power.attempts + 1) })) := by
    simp only [execPowerSequenceStepTimeout, hst]
  have hstate : (if 3 ≤ s.power.attempts + 1 then PowerSt.off else .retryWait) = if s.power.attempts < 2 then .retryWait else .off := by
    rcases Nat.lt_or_ge s.power.attempts 2 with h | h
    · rw [if_neg (by omega), if_pos h]
    · rw [if_pos (by omega), if_neg (by omega)]
  rw [← hstate]
  exact hexec

theorem execPowerSequenceRetry_of_retryWait {s : State} (hst : s.power.st = .retryWait) :
    exec .powerSequenceRetry s = .next (s.updPower (fun p => { p with st := .step 1 })) := by
  simp [exec, execPowerSequenceRetry, hst]

/-- A VIN warning that no other came before within its 100,000 ticks. -/
theorem execVinWarning_of_due {s : State} (hdue : ∀ k, s.power.vinPosted = some k → k + 100000 ≤ s.now) :
    exec .vinWarning s = .next ((s.updPower (fun p => { p with vinPosted := some s.now })).post (powerEvent 0x110A .warn .rail 0 [])) := by
  cases h : s.power.vinPosted with
  | none => simp [exec, execVinWarning, h]
  | some k => simp [exec, execVinWarning, h, hdue k h]

theorem execPfNRelease_of_inReset {s : State} (hreset : s.start.inReset = true) (hcause : s.start.cause = 2) :
    exec .pfNRelease s = .next (leaveReset (s.updPower (fun p => { p with pfLow := false }))) := by
  simp [exec, execPfNRelease, hreset, hcause]

/-- LPERMIT_N low for the settle time. -/
theorem execPermitRestored_of_settled {s : State} (hgate : s.power.gate5 = true) (hlow : s.power.permitLow = true)
    (hsettled : ∀ k, s.power.permitSince = some k → k + s.objN 0x2100 0x0D ≤ s.now) :
    exec .permitRestored s =
      .next ((s.updPower (fun p => { p with permitSince := none, gate5 := false })).post (powerEvent 0x1104 .note .device 0 [])) := by
  cases h : s.power.permitSince with
  | none => simp [exec, execPermitRestored, restorePermit, hgate, hlow, h]
  | some k => simp [exec, execPermitRestored, restorePermit, hgate, hlow, h, hsettled k h]

/-- Settles O42: each command by the state that it answers, of which PF_N and LPERMIT_N keep, by their frames, what each of their steps has
made. -/
theorem powerCommandsComplete : Obligations.PowerCommandsComplete := by
  unfold Obligations.PowerCommandsComplete
  refine ⟨fun s k hst hreset hk => ?step, fun s k hst hreset hk htest => ?last, fun s rail k hst => ?timeout, fun s hst => ?retry,
    fun s hdue => ?vin, fun s hrun hpf => ?assert, fun s hreset hcause => ?release, fun s => ?negated,
    fun s hgate hlow hsettled => ?restored⟩
  case step => exact ⟨_, execPowerSequenceStep_of_lt hst hreset hk, by simp [sameBut], rfl⟩
  case last =>
    refine ⟨_, execPowerSequenceStep_of_le hst hreset hk htest, ?_⟩
    cases hretried : s.power.retried with
    | false =>
      exact ⟨by simp [sameBut, State.hide, sequenceEnded], rfl, rfl, rfl, rfl, rfl, rfl, fun _ => rfl, fun h => Bool.noConfusion h⟩
    | true =>
      exact ⟨by simp [sameBut, State.hide, sequenceEnded], rfl, rfl, rfl, rfl, rfl, rfl, fun h => Bool.noConfusion h,
        fun _ => List.length_append⟩
  case timeout => exact ⟨_, execPowerSequenceStepTimeout_of_step hst rail, by simp [sameBut], rfl⟩
  case retry => exact ⟨_, execPowerSequenceRetry_of_retryWait hst, by simp [sameBut], rfl⟩
  case vin => exact ⟨_, execVinWarning_of_due hdue, by simp [sameBut], rfl, rfl⟩
  case assert =>
    have hafter := pfStopped_sameBut s
    have hgates := setJobGates_sameBut_pfStopped s
    have hsteps := stopAllSteppers_sameBut_pfStopped s
    refine ⟨_, congrArg (fun t => Host.Outcome.next (localFault t)) (assertPf_of_running hrun hpf), ?_, ?_, ?_, fun n hn => ?_,
      fun m hm => ?_, ?_⟩
    · rw [← assertPf_of_running hrun hpf]
      simp [sameBut]
    · exact (eq_of_sameBut (·.power) hafter fun _ => rfl).trans (pfStopped_power s)
    · exact (eq_of_sameBut (·.flash.op) hafter fun _ => rfl).trans (pfStopped_op s)
    · rw [eq_of_sameBut (·.scan) hafter fun _ => rfl, eq_of_sameBut (·.scan) hgates fun _ => rfl]
      exact setJobGates_job _ hn
    · rw [eq_of_sameBut (·.steps) hafter fun _ => rfl, eq_of_sameBut (·.steps) hsteps fun _ => rfl]
      exact stopAllSteppers_st _ hm
    · rw [localFault_faults, queueOpenRecords_posted]
      exact mem_post_posted (eq_of_sameBut (·.tickCount) hgates fun _ => rfl) pfEvent
  case release => exact ⟨_, execPfNRelease_of_inReset hreset hcause, by simp [sameBut], rfl, rfl⟩
  case negated =>
    have hgated := permitNegated_sameBut_permitGated s
    have hafter := permitGated_sameBut_negatePermit s
    refine ⟨negatePermit s, rfl, negatePermit_hide s _ (by decide) (by decide) (by decide) (by decide), ?_, ?_, fun n hn => ?_, ?_⟩
    · exact (eq_of_sameBut (·.power) hafter fun _ => rfl).trans (eq_of_sameBut (·.power) hgated fun _ => rfl)
    · exact (eq_of_sameBut (·.out) hafter fun _ => rfl).trans (permitGated_out s)
    · rw [eq_of_sameBut (·.analog) hafter fun _ => rfl, permitGated_channels]
      exact analogOff_channel (permitNegated s) hn
    · rw [negatePermit_eq]
      exact mem_post_posted (eq_of_sameBut (·.tickCount) hgated fun _ => rfl) _
  case restored => exact ⟨_, execPermitRestored_of_settled hgate hlow hsettled, by simp [sameBut], rfl, rfl⟩

end Sys2Proof.Proofs.Timebase

/-! Proofs about the host link (04_host_link): the writes of objects that reach CC0 (R69–R73), and frames, GDP and Layer Stream on the host
ports (R88–R115). -/

namespace Sys2Proof.Proofs.HostLink

open Sys2Proof Sys2Proof.Machine Sys2Proof.Proofs.Scope Sys2Proof.Proofs.Architecture Sys2Proof.Proofs.Timebase

/-! Writes of one object (R69–R73) -/

/-- The object tables give an object its type and its apply class. -/
abbrev Declared (index sub : Nat) (type : ObjType) (apply : Apply) : Prop :=
  (rowFor index sub).map (fun r => (r.type, r.apply)) = some (type, apply)

theorem row_of_declared {index sub : Nat} {type : ObjType} {apply : Apply} (h : Declared index sub type apply) :
    ∃ r, rowFor index sub = some r ∧ r.type = type ∧ r.apply = apply := by
  obtain ⟨r, hrow, hfields⟩ := Option.map_eq_some_iff.mp h
  exact ⟨r, hrow, congrArg Prod.fst hfields, congrArg Prod.snd hfields⟩

theorem applyOf_of_declared {index sub : Nat} {type : ObjType} {apply : Apply} (h : Declared index sub type apply) :
    applyOf index sub = apply := by
  obtain ⟨r, hrow, -, happly⟩ := row_of_declared h
  simp only [applyOf, hrow, Option.map_some, Option.getD_some, happly]

theorem writeVal_of_declared {index sub : Nat} {type : ObjType} {apply : Apply} (h : Declared index sub type apply) (data : Bytes) :
    writeVal (index, sub, data) = (index, sub, decodeVal type data) := by
  obtain ⟨r, hrow, htype, -⟩ := row_of_declared h
  simp only [writeVal, hrow, Option.map_some, Option.getD_some, htype]

theorem isBoot_of_declared {index sub : Nat} {type : ObjType} {apply : Apply} (h : Declared index sub type apply) (hboot : apply ≠ .boot) :
    isBoot index sub = false := by
  rw [isBoot, applyOf_of_declared h]
  exact beq_eq_false_iff_ne.mpr hboot

theorem decodeVal_uint {n v : Nat} (h : v < 256 ^ n) : decodeVal (.uint n) (leBytes n v) = .int v :=
  congrArg (fun k : Nat => Val.int k) (leNat_leBytes_of_lt h)

theorem commitDue_eq (s : Blocks) : commitDue s = s.now + (if s.time.clock < 9000 then 1 else 2) := by
  unfold commitDue
  split <;> rfl

/-- The state in which a write of one object has been committed at a clock of the tick, before the standby hears of it. -/
def lodged (s : State) (index sub : Nat) (apply : Apply) (v : Val) (clk : Nat) : State :=
  ((s.atClock clk).updDict (fun d => { d with
    pending := putPending s.now d.pending (committed s index sub apply v clk)
    commits := (d.commits + 1) % 2 ^ 32
    lastCommit := (s.time.boundary + reached s clk) % 2 ^ 64 })).updMem (fun m =>
      { m with badObjects := m.badObjects.filter (fun o => o != (index, sub)) })

/-- The value of an object that is not a BOOT object waits in the pending store (R72, R73, R79). -/
theorem commitOne_eq_lodged {index sub : Nat} {type : ObjType} {apply : Apply} (hobj : Declared index sub type apply)
    (hboot : apply ≠ .boot) (s : State) (data : Bytes) (clk : Nat) :
    commitOne ((s.atClock clk).updDict (fun d => { d with lastCommit := (s.atClock clk).localTime })) (index, sub, data) =
      lodged s index sub apply (decodeVal type data) clk := by
  unfold commitOne
  simp only [isBoot_of_declared hobj hboot, writeVal_of_declared hobj, newPending, applyOf_of_declared hobj, commitDue_eq,
    Bool.false_eq_true, if_false]
  rfl

/-- A write that passes every check is committed, and goes to the standby as a group of one (R70, R345). -/
theorem hostWrite_of_accepted {s : State} {index sub : Nat} {data : Bytes} {clk : Nat} {type : ObjType} {apply : Apply}
    (hobj : Declared index sub type apply) (hboot : apply ≠ .boot) (hacc : Accepted s index sub data clk) :
    hostWrite s index sub data clk =
      forwardGroup (lodged s index sub apply (decodeVal type data) clk) [(index, sub, data)] none := by
  obtain ⟨hserved, hpass⟩ := hacc
  rw [hostWrite, if_pos hserved, writeGroup, hpass, ← commitOne_eq_lodged hobj hboot]
  rfl

theorem forwardGroup_of_not_active {s : State} (h : s.pair.st ≠ .active) (l : List GroupWrite) (r : Option GdpResponse) :
    forwardGroup s l r = s :=
  if_pos (bne_iff_ne.mpr h)

theorem forwardGroup_sameBut (s : State) (l : List GroupWrite) (r : Option GdpResponse) : sameBut [.pair, .out] s (forwardGroup s l r) :=
  forwardGroup_hide s l r _ (by decide) (by decide)

/-- A command that writes one object, which is not a BOOT object, commits its value once every check has passed. -/
theorem commits_of_accepted {c : Instr} {s : State} {index sub : Nat} {data : Bytes} {clk : Nat} {type : ObjType} {apply : Apply} {v : Val}
    (hobj : Declared index sub type apply) (hboot : apply ≠ .boot) (hval : decodeVal type data = v)
    (hexec : exec c s = .next (hostWrite s index sub data clk)) (hacc : Accepted s index sub data clk) :
    Commits c s index sub apply v clk := by
  subst hval
  have hforward := forwardGroup_sameBut (lodged s index sub apply (decodeVal type data) clk) [(index, sub, data)] none
  refine ⟨_, hexec.trans (congrArg _ (hostWrite_of_accepted hobj hboot hacc)), ?_, ?_, ?_, fun hst => ?_⟩
  · simp [sameBut, lodged]
  · exact eq_of_sameBut (·.time) hforward fun _ => rfl
  · exact eq_of_sameBut (·.dict) hforward fun _ => rfl
  · rw [forwardGroup_of_not_active (s := lodged s index sub apply (decodeVal type data) clk) hst]
    exact ⟨rfl, rfl⟩

theorem execImageUpload_of_match (s : State) (image : Bytes) (clk : Nat) :
    exec (.imageUpload image (crc32c image) clk) s = .next (hostWrite s 0x1202 0x06 image clk) := by
  have hcrc : (served s.toBlocks && crc32c image != crc32c image) = false := by simp
  exact congrArg Host.Outcome.next (if_neg (Bool.eq_false_iff.mp hcrc))

theorem execImageUpload_of_mismatch {s : State} {image : Bytes} {crc : Nat} (hserved : served s.toBlocks = true) (hcrc : crc32c image ≠ crc)
    (clk : Nat) : exec (.imageUpload image crc clk) s = .next (countRefused s 1) := by
  have hcond : (served s.toBlocks && crc32c image != crc) = true := by simp [hserved, hcrc]
  exact congrArg Host.Outcome.next (if_pos hcond)

/-- Settles O13: each command writes one object of the tables, whose type decodes the octets written to the value named; an image with another
check value is counted. -/
theorem deviceCommandsCommit : Obligations.DeviceCommandsCommit := by
  unfold Obligations.DeviceCommandsCommit
  refine ⟨fun s v clk hv => ?localTime, fun s v clk hv => ?reset, fun s clk => ?pair, fun s v clk hv => ?injection, fun s image clk => ?upload,
    fun s image crc clk hserved hcrc => ?mismatch, fun s v clk hv => ?activate, fun s clk => ?save, fun s clk => ?clearObjects,
    fun s clk => ?clearAll, fun s v clk hv => ?acknowledge, fun s clk => ?ring⟩
  case localTime => exact commits_of_accepted (type := .uint 8) (by decide) (by decide) (decodeVal_uint hv) rfl
  case reset => exact commits_of_accepted (type := .uint 4) (by decide) (by decide) (decodeVal_uint hv) rfl
  case pair => exact commits_of_accepted (type := .uint 1) (by decide) (by decide) rfl rfl
  case injection => exact commits_of_accepted (type := .uint 1) (by decide) (by decide) (decodeVal_uint hv) rfl
  case upload =>
    exact commits_of_accepted (type := .table 1 16777216 true) (by decide) (by decide) rfl (execImageUpload_of_match s image clk)
  case mismatch => exact ⟨_, execImageUpload_of_mismatch hserved hcrc clk, by simp [sameBut], rfl⟩
  case activate => exact commits_of_accepted (type := .uint 1) (by decide) (by decide) (decodeVal_uint hv) rfl
  case save | clearObjects | clearAll => exact commits_of_accepted (type := .uint 1) (by decide) (by decide) rfl rfl
  case acknowledge => exact commits_of_accepted (type := .uint 4) (by decide) (by decide) (decodeVal_uint hv) rfl
  case ring => exact commits_of_accepted (type := .uint 1) (by decide) (by decide) rfl rfl

/-! What the host ports count, place and send (R88, R94, R114, R115) -/

/-- A port without its counts of frames and the fill of its receive buffer. -/
def wiring (e : EthPort) : EthPort := { e with received := 0, sent := 0, discards := 0, overflow := 0, high := 0, otherFill := 0 }

/-- The host link without its ports, the messages on their way to the host, the turn of R101 and the responses given: transfers,
subscriptions, waiting requests and the Layer Stream session. -/
def services (x : HostState) : HostState :=
  { x with ports := Vector.replicate 2 default, egress := [], dests := Vector.replicate 4 default, turn := 0, replay := [], served := 0 }

/-- The ports of `t` are those of `s` but for their counts, under the same values in force. -/
structure SamePorts (s t : State) : Prop where
  dict : t.dict = s.dict
  port : ∀ p, wiring (getI t.host.ports p) = wiring (getI s.host.ports p)

namespace SamePorts

variable {s t : State} (h : SamePorts s t)
include h

theorem objB (index sub : Nat) : t.objB index sub = s.objB index sub := by simp only [Blocks.objB, Blocks.objI, h.dict]

theorem objN (index sub : Nat) : t.objN index sub = s.objN index sub := by simp only [Blocks.objN, Blocks.objI, h.dict]

theorem objT (index sub : Nat) : t.objT index sub = s.objT index sub := by simp only [Blocks.objT, h.dict]

/-- A field of a port that is no count is as it was. -/
theorem portField {β : Type} (field : EthPort → β) (hfield : ∀ e, field (wiring e) = field e) (p : Nat) :
    field (getI t.host.ports p) = field (getI s.host.ports p) := by
  rw [← hfield (getI t.host.ports p), h.port, hfield]

theorem linkUp (p : Nat) : (getI t.host.ports p).linkUp = (getI s.host.ports p).linkUp := h.portField EthPort.linkUp (fun _ => rfl) p

theorem arp (p : Nat) : (getI t.host.ports p).arp = (getI s.host.ports p).arp := h.portField EthPort.arp (fun _ => rfl) p

theorem ipv4InUse (p : Nat) : ipv4InUse t.toBlocks p = ipv4InUse s.toBlocks p := h.portField EthPort.ipv4 (fun _ => rfl) p

theorem portReady (p : Nat) : portReady t.toBlocks p = portReady s.toBlocks p := by
  simp only [Machine.portReady, h.objB, h.linkUp]

theorem familyInUse (p : Nat) (v6 : Bool) : familyInUse t.toBlocks p v6 = familyInUse s.toBlocks p v6 := by
  simp only [Machine.familyInUse, h.objN, h.ipv4InUse]

theorem resolved (p hop : Nat) : resolved t.toBlocks p hop = resolved s.toBlocks p hop := by
  simp only [Machine.resolved, h.arp]

theorem nextHop (p : Nat) (v6 : Bool) (addr : Nat) : nextHop t.toBlocks p v6 addr = nextHop s.toBlocks p v6 addr := by
  have hgateway := h.portField EthPort.gateway (fun _ => rfl) p
  have hlen := h.portField EthPort.prefixLen (fun _ => rfl) p
  have hown := h.portField EthPort.ipv4 (fun _ => rfl) p
  simp only [Machine.nextHop, h.objN, h.objT, hgateway, hlen, hown]

theorem vlanTag (p : Nat) : vlanTag t.toBlocks p = vlanTag s.toBlocks p := by
  simp only [Machine.vlanTag, h.objB, h.objN]

theorem ownV6 (p a : Nat) : ownV6 t.toBlocks p a = ownV6 s.toBlocks p a := by
  simp only [Machine.ownV6, h.objN, h.objT]

theorem filterPasses (src : Src) : filterPasses t.toBlocks src = filterPasses s.toBlocks src := by
  simp only [Machine.filterPasses, h.objB, h.objN, h.objT]

theorem vlanPasses (f : EthFrame) : vlanPasses t.toBlocks f = vlanPasses s.toBlocks f := by
  simp only [Machine.vlanPasses, h.objB, h.objN]

theorem frameSupported (f : EthFrame) : frameSupported t.toBlocks f = frameSupported s.toBlocks f := by
  simp only [Machine.frameSupported, h.familyInUse]

end SamePorts

/-- From `s` to `t` the device only receives and sends on its host ports: it counts, places messages and adds to what it has sent. -/
structure Traffic (s t : State) : Prop extends SamePorts s t where
  frame : sameBut [.host, .queues, .out] s t
  rest : services t.host = services s.host
  sent : s.out <+: t.out

namespace Traffic

theorem of_frame {s t : State} (hframe : sameBut [.host, .queues, .out] s t)
    (hport : ∀ p, wiring (getI t.host.ports p) = wiring (getI s.host.ports p)) (hrest : services t.host = services s.host)
    (hsent : s.out <+: t.out) : Traffic s t :=
  ⟨⟨eq_of_sameBut (·.dict) hframe fun _ => rfl, hport⟩, hframe, hrest, hsent⟩

theorem refl (s : State) : Traffic s s := of_frame rfl (fun _ => rfl) rfl List.prefix_rfl

theorem trans {s t u : State} (h : Traffic s t) (h' : Traffic t u) : Traffic s u :=
  of_frame (h'.frame.trans h.frame) (fun p => (h'.port p).trans (h.port p)) (h'.rest.trans h.rest) (h.sent.trans h'.sent)

theorem ite {s t u : State} (c : Prop) [Decidable c] (ht : Traffic s t) (hu : Traffic s u) : Traffic s (if c then t else u) := by
  split
  · exact ht
  · exact hu

theorem foldl {α : Type} {f : State → α → State} {l : List α} {s : State} (h : ∀ s x, Traffic s (f s x)) : Traffic s (l.foldl f s) := by
  induction l generalizing s with
  | nil => exact refl s
  | cons x l ih => exact (h s x).trans ih

theorem forI {f : State → Nat → State} {n : Nat} {s : State} (h : ∀ s k, Traffic s (f s k)) : Traffic s (forI n s f) := foldl h

section

variable {s t : State} (h : Traffic s t)
include h

theorem pair : t.pair = s.pair := eq_of_sameBut (·.pair) h.frame fun _ => rfl

theorem now : t.now = s.now := eq_of_sameBut (fun x => x.now) h.frame fun _ => rfl

theorem served : served t.toBlocks = served s.toBlocks := eq_of_sameBut (fun x => Machine.served x.toBlocks) h.frame fun _ => rfl

theorem hears (p : Nat) (src : Src) : hears t.toBlocks p src = hears s.toBlocks p src := by
  simp only [Machine.hears, h.served, h.portReady, h.familyInUse]

/-- What the host link serves is as it was. -/
theorem service {β : Type} (field : HostState → β) (hfield : ∀ x, field (services x) = field x) : field t.host = field s.host := by
  rw [← hfield t.host, h.rest, hfield]

theorem subs : t.host.subs = s.host.subs := h.service HostState.subs fun _ => rfl

theorem requests : t.host.requests = s.host.requests := h.service HostState.requests fun _ => rfl

theorem session : t.host.session = s.host.session := h.service HostState.session fun _ => rfl

theorem control : t.host.control = s.host.control := h.service HostState.control fun _ => rfl

theorem nak : t.host.nak = s.host.nak := h.service HostState.nak fun _ => rfl

end

end Traffic

theorem traffic_updEth (s : State) (p : Nat) {f : EthPort → EthPort} (hf : ∀ e, wiring (f e) = wiring e) : Traffic s (s.updEth p f) := by
  refine .of_frame (State_updEth_hide s p f _ (by decide)) (fun q => ?_) rfl List.prefix_rfl
  rw [updEth_host, getI_updI]
  split
  · next hq => rw [hq.1]; exact hf _
  · rfl

theorem traffic_updHost (s : State) {f : HostState → HostState} (hports : (f s.host).ports = s.host.ports)
    (hrest : services (f s.host) = services s.host) : Traffic s (s.updHost f) :=
  .of_frame (State_updHost_hide s f _ (by decide)) (fun p => congrArg (fun v => wiring (getI v p)) hports) hrest List.prefix_rfl

theorem traffic_updDest (s : State) (d : Nat) (f : Destination → Destination) : Traffic s (s.updDest d f) :=
  .of_frame (State_updDest_hide s d f _ (by decide)) (fun _ => rfl) rfl List.prefix_rfl

theorem traffic_queues (s : State) (v : Vector QueueStat 64) : Traffic s { s with queues := v } :=
  .of_frame (set_queues_hide s v _ (by decide)) (fun _ => rfl) rfl List.prefix_rfl

theorem traffic_send (s : State) (o : Output) : Traffic s (s.send o) :=
  .of_frame (State_send_hide s o _ (by decide)) (fun _ => rfl) rfl (List.prefix_append _ _)

theorem traffic_countReceived (s : State) (p : Nat) : Traffic s (countReceived s p) := .ite _ (traffic_updEth s p fun _ => rfl) (.refl s)

theorem traffic_sendFrame (s : State) (p : Nat) (f : HostFrame) : Traffic s (sendFrame s p f) :=
  (traffic_send s _).trans (traffic_updEth _ p fun _ => rfl)

theorem traffic_announceAddress (s : State) (p : Nat) : Traffic s (announceAddress s p) := .ite _ (traffic_sendFrame s p _) (.refl s)

theorem traffic_seekLease (s : State) (p : Nat) : Traffic s (seekLease s p) := .ite _ (traffic_sendFrame s p _) (.refl s)

theorem traffic_noteHigh (s : State) (p : Nat) : Traffic s (noteHigh s p) := traffic_updEth s p fun _ => rfl

theorem traffic_placeOther (s : State) (p len : Nat) : Traffic s (placeOther s p len).1 := by
  unfold placeOther
  dsimp only
  split
  · exact traffic_updEth s p fun _ => rfl
  · exact (traffic_updEth s p fun _ => by rfl).trans (traffic_noteHigh _ p)

theorem traffic_placeMessage (s : State) (e : Egress) : Traffic s (placeMessage s e) :=
  .ite _ ((traffic_queues s _).trans (traffic_sendFrame _ _ _))
    ((traffic_updHost s rfl rfl).trans (.ite _ (traffic_queues _ _) (.refl _)))

theorem traffic_askHop (s : State) (p : Nat) (v6 : Bool) (hop : Nat) : Traffic s (askHop s p v6 hop) :=
  .ite _ (.refl s) (traffic_sendFrame s p _)

theorem traffic_sendUdp (s : State) (queue : Nat) (port : Fin 2) (localPort : Nat) (dst : Src) (payload : Bytes) :
    Traffic s (sendUdp s queue port localPort dst payload) :=
  .ite _ (.refl s) (.ite _ (traffic_placeMessage s _) ((traffic_askHop s _ _ _).trans (traffic_updHost _ rfl rfl)))

theorem traffic_emitEvent (s : State) (d type time : Nat) (body : Bytes) : Traffic s (emitEvent s d type time body) :=
  ((traffic_queues s _).trans (traffic_sendFrame _ _ _)).trans (traffic_updDest _ d _)

theorem traffic_eventTo (s : State) (d cls type time : Nat) (body : Bytes) : Traffic s (eventTo s d cls type time body) :=
  .ite _ (.refl s) (.ite _ (traffic_updDest s d _) (.ite _ (traffic_emitEvent s d type time body)
    ((traffic_askHop s _ _ _).trans (traffic_updDest _ d _))))

theorem traffic_releaseEgress (s : State) (p hop : Nat) : Traffic s (releaseEgress s p hop) :=
  (traffic_updHost s rfl rfl).trans (.foldl traffic_placeMessage)

theorem traffic_releaseHeld (s : State) (d : Nat) : Traffic s (releaseHeld s d) :=
  (traffic_updDest s d _).trans (.foldl fun s m => traffic_emitEvent s d m.1 m.2.1 m.2.2)

theorem traffic_hopResolved (s : State) (p hop : Nat) : Traffic s (hopResolved s p hop) :=
  (traffic_releaseEgress s p hop).trans (.forI fun s d => .ite _ (traffic_releaseHeld s d) (.refl s))

theorem traffic_noteServed (s : State) : Traffic s (noteServed s) := traffic_updHost s rfl rfl

theorem traffic_sendGdp (s : State) (port : Fin 2) (r : GdpResponse) : Traffic s (sendGdp s port r) := traffic_sendUdp s _ port _ _ _

theorem traffic_setReplay (s : State) (l : List GdpResponse) : Traffic s (s.updHost (fun h => { h with replay := l })) :=
  traffic_updHost s rfl rfl

theorem traffic_sendResponse (s : State) (r : GdpResponse) : Traffic s (sendResponse s r) :=
  (traffic_sendGdp s r.port r).trans (traffic_setReplay _ _)

theorem traffic_answer (s : State) (h : GdpHead) (type status position : Nat) (body : Bytes) :
    Traffic s (answer s h type status position body) :=
  (traffic_noteServed s).trans (traffic_sendResponse _ _)

theorem traffic_notify (s : State) (d : Nat) (l : List (Nat × Bytes)) : Traffic s (notify s d l) :=
  .foldl fun s _ => traffic_eventTo s d 2 0x83 _ _

@[simp] theorem sendFrame_out (s : State) (p : Fin 2) (f : HostFrame) :
    (sendFrame s p f).out = s.out ++ [.frame p (vlanTag s.toBlocks p) f] := by
  simp [sendFrame, countSent]

/-! Frames and network services on a host port (R88, R89, R94, R96) -/

@[simp] theorem updI_updI {α : Type} {n : Nat} (v : Vector α n) (i : Nat) (f g : α → α) :
    updI (updI v i f) i g = updI v i (fun x => g (f x)) := by
  unfold updI
  split
  · simp
  · rfl

theorem countReceived_of_ready {s : State} {p : Nat} (hserved : served s.toBlocks = true) (hready : portReady s.toBlocks p = true) :
    countReceived s p = s.updEth p (fun e => { e with received := (e.received + 1) % 2 ^ 32 }) :=
  if_pos (by rw [hserved, hready]; rfl)

theorem countReceived_otherFill (s : State) (p q : Nat) :
    (getI (countReceived s p).host.ports q).otherFill = (getI s.host.ports q).otherFill := by
  unfold countReceived
  split
  · rw [updEth_host, getI_updI]
    split
    · next h => rw [h.1]
    · rfl
  · rfl

/-- A frame on a port that serves the host is counted, and discarded where the tag or the kind is not supported. -/
theorem frameArrives_of_discarded {s : State} {f : EthFrame} (hserved : served s.toBlocks = true)
    (hready : portReady s.toBlocks f.port = true) (hdiscard : (vlanPasses s.toBlocks f && frameSupported s.toBlocks f) = false) :
    frameArrives s f = noteDiscard (countReceived s f.port) f.port := by
  have hcounted := traffic_countReceived s f.port
  have hcond : (!vlanPasses (countReceived s f.port).toBlocks f || !frameSupported (countReceived s f.port).toBlocks f) = true := by
    rw [hcounted.vlanPasses, hcounted.frameSupported, ← Bool.not_and, hdiscard]
    rfl
  rw [frameArrives, hserved, hready]
  exact if_pos hcond

/-- A Layer Stream payload over IPv4 is handed on with the port's frame counted. -/
theorem frameArrives_of_stream {s : State} {f : EthFrame} (hserved : served s.toBlocks = true)
    (hready : portReady s.toBlocks f.port = true) (hvlan : vlanPasses s.toBlocks f = true) (hsupported : frameSupported s.toBlocks f = true)
    (hkind : f.kind = .udp4 47411 true false) : frameArrives s f = lsPayload (countReceived s f.port) f := by
  have hcounted := traffic_countReceived s f.port
  rw [frameArrives, hserved, hready]
  simp only [hcounted.vlanPasses, hcounted.frameSupported, hvlan, hsupported, hkind]
  rfl

theorem lsPayload_of_data {f : EthFrame} (htype : fieldU f.payload 1 1 = 2) (s : State) :
    lsPayload s f = dataMessage (lsHeadOf f) (f.payload.drop 24) s := by
  simp only [lsPayload, htype]

theorem placeOther_of_room {s : State} {p len : Nat} (hroom : (getI s.host.ports p).otherFill + len ≤ 32768) :
    placeOther s p len = (noteHigh (s.updEth p (fun e => { e with otherFill := e.otherFill + len })) p, true) :=
  if_neg (Nat.not_lt.mpr hroom)

@[simp] theorem placeOther_out (s : State) (p len : Nat) : (placeOther s p len).1.out = s.out := by
  unfold placeOther
  dsimp only
  split <;> rfl

/-- A network service frame for which the receive buffer has space is handled, with nothing sent before. -/
theorem serviceFrame_of_room {s : State} {p len : Nat} (hserved : served s.toBlocks = true) (hready : portReady s.toBlocks p = true)
    (hroom : (getI s.host.ports p).otherFill + len ≤ 32768) (run : State → State) :
    ∃ x, serviceFrame s p len run = run x ∧ Traffic s x ∧ x.out = s.out := by
  have hroom' : (getI (countReceived s p).host.ports p).otherFill + len ≤ 32768 := by rwa [countReceived_otherFill]
  have hplaced : (placeOther (countReceived s p) p len).2 = true := congrArg Prod.snd (placeOther_of_room hroom')
  have htraffic := (traffic_countReceived s p).trans (traffic_placeOther _ p len)
  have hout : (placeOther (countReceived s p) p len).1.out = s.out := (placeOther_out _ p len).trans (countReceived_out s p)
  rw [serviceFrame, hserved, hready]
  simp only [intoService, hplaced, Bool.not_true, Bool.or_self, Bool.false_eq_true, if_false]
  split
  · exact ⟨_, rfl, htraffic.trans (traffic_queues _ _), hout⟩
  · exact ⟨_, rfl, htraffic.trans (traffic_queues _ _), hout⟩

/-! Address resolution (R88) -/

/-- The state in which port `p` has an address in its cache for 60 s. -/
def cached (s : State) (p addr mac : Nat) : State :=
  s.updEth p (fun e => { e with arp := ((addr, mac, s.now + 6000000) :: e.arp.filter (fun x => x.1 != addr)).take 64 })

theorem learn_eq (s : State) (p addr mac : Nat) : learn s p addr mac = hopResolved (cached s p addr mac) p addr := rfl

theorem learn_arp (s : State) (p : Fin 2) (addr mac : Nat) :
    (getI (learn s p addr mac).host.ports p).arp =
      ((addr, mac, s.now + 6000000) :: (getI s.host.ports p).arp.filter (fun x => x.1 != addr)).take 64 := by
  rw [learn_eq, (traffic_hopResolved _ _ _).arp, cached, updEth_host, getI_updI_self _ _ p.isLt]

theorem learn_sent (s : State) (p addr mac : Nat) : s.out <+: (learn s p addr mac).out := (traffic_hopResolved (cached s p addr mac) p addr).sent

/-- A request for the port's own address is answered, and its sender enters the cache. -/
theorem arpPacket_of_own {s : State} {p : Fin 2} {target : Nat} (hserved : served s.toBlocks = true) (hready : portReady s.toBlocks p = true)
    (hzero : target ≠ 0) (hown : target = ipv4InUse s.toBlocks p) (sender mac : Nat) :
    arpPacket s p true target sender mac = learn (sendFrame s p (.arpReply sender mac target)) p sender mac := by
  simp [arpPacket, hserved, hready, ← hown, hzero]

theorem solicited_of_own {s : State} {p : Fin 2} {target : Nat} (hserved : served s.toBlocks = true) (hready : portReady s.toBlocks p = true)
    (hown : ownV6 s.toBlocks p target = true) : solicited s p target = sendFrame s p (.neighbourAdvertisement target) :=
  if_pos (by rw [hserved, hready, hown]; rfl)

/-- Fewer than 100 Echo Requests of the second have been answered (R88). -/
theorem echoed_out {s : State} {p : Fin 2} {v6 : Bool} {dst len : Nat} (hserved : served s.toBlocks = true)
    (hready : portReady s.toBlocks p = true)
    (hmine : (if v6 then ownV6 s.toBlocks p dst else dst != 0 && dst == ipv4InUse s.toBlocks p) = true) (hlen : len ≤ 1472)
    (hcount : (getI s.host.ports p).echoCount < 100) :
    (echoed s p v6 dst len).out = s.out ++ [.frame p (vlanTag s.toBlocks p) (.echoReply v6 len)] := by
  have hbusy : ¬100 ≤ (if (decide ((getI s.host.ports p).echoSecond + 100000 ≤ s.now) || (getI s.host.ports p).echoCount == 0) = true then 0
      else (getI s.host.ports p).echoCount) := by
    split <;> omega
  unfold echoed
  simp only [hserved, hready, hmine, Nat.not_lt.mpr hlen, hbusy, Bool.not_true, Bool.or_self, Bool.false_eq_true, decide_false, if_false,
    sendFrame_out]
  rfl

/-! Leases and links (R92, R93) -/

theorem leaseBound_port {s : State} {p : Fin 2} (hserved : served s.toBlocks = true) (hready : portReady s.toBlocks p = true)
    (hon : (getI s.host.ports p).dhcp ≠ .off) (addr maskLen gateway t1 t2 lease : Nat) :
    wiring (getI (leaseBound s p addr maskLen gateway t1 t2 lease).host.ports p) = wiring { (getI s.host.ports p) with
      dhcp := .bound, ipv4 := addr, prefixLen := maskLen, gateway, t1 := s.now + 100000 * t1, t2 := s.now + 100000 * t2
      leaseEnd := s.now + 100000 * lease } := by
  unfold leaseBound
  simp only [hserved, hready, beq_false_of_ne hon, Bool.not_true, Bool.or_self, Bool.false_eq_true, if_false]
  split
  · rw [updEth_host, getI_updI_self _ _ p.isLt]
  · rw [(traffic_announceAddress _ _).port, updEth_host, getI_updI_self _ _ p.isLt]

theorem leaseRenew_of_due {s : State} {p : Fin 2} (hbound : (getI s.host.ports p).dhcp = .bound) (hdue : (getI s.host.ports p).t1 ≤ s.now) :
    leaseRenew s p = sendFrame (s.updEth p (fun e => { e with dhcp := .renewing })) p (.dhcp .renew) :=
  if_pos (by rw [hbound, decide_eq_true hdue]; rfl)

theorem leaseRebind_of_due {s : State} {p : Fin 2} (hrenewing : (getI s.host.ports p).dhcp = .renewing)
    (hdue : (getI s.host.ports p).t2 ≤ s.now) :
    leaseRebind s p = sendFrame (s.updEth p (fun e => { e with dhcp := .rebinding })) p (.dhcp .rebind) :=
  if_pos (by rw [hrenewing, decide_eq_true hdue]; rfl)

/-- The lease of port `p` has expired, with its event posted. -/
def leaseLost (s : State) (p : Fin 2) : State :=
  (s.updEth p (fun e => { e with dhcp := .expired, ipv4 := 0 })).post (mkEvent (.block (7 + p)) (openCode 10) .warn .device 0 (leBytes 1 p))

theorem leaseExpire_of_due {s : State} {p : Fin 2} (hrebinding : (getI s.host.ports p).dhcp = .rebinding)
    (hdue : (getI s.host.ports p).leaseEnd ≤ s.now) :
    leaseExpire s p = if familyInUse s.toBlocks p true then leaseLost s p
      else (leaseLost s p).post (mkEvent (.block (7 + p)) (openCode 11) .warn .device 0 (leBytes 1 p)) :=
  if_pos (by rw [hrebinding, decide_eq_true hdue]; rfl)

theorem execHostLinkDown_of_up {s : State} {p : Fin 2} (hup : (getI s.host.ports p).linkUp = true) :
    exec (.hostLinkDown p) s = .next ((setAnnounce (s.updEth p (fun e => { e with linkUp := false })) p none).post
      (mkEvent (.block (7 + p)) (openCode 11) .warn .device 0 (leBytes 1 p))) :=
  congrArg Host.Outcome.next (if_pos hup)

theorem execHostLinkUp_of_down {s : State} {p : Fin 2} (hdown : (getI s.host.ports p).linkUp = false) (hserved : served s.toBlocks = true) :
    exec (.hostLinkUp p) s = .next (seekLease (announceAddress (s.updEth p (fun e => { e with linkUp := true })) p) p) :=
  congrArg Host.Outcome.next (if_neg (by simp [hdown, hserved]))

@[simp] theorem setAnnounce_announces (s : State) (p : Nat) (a : Option Announce) :
    (setAnnounce s p a).time.announces = updI s.time.announces p (fun _ => a) := by
  obtain ⟨hannounces, -⟩ := withAnnounce_keeps s p a
  rw [setAnnounce_eq]
  split
  · rw [loseSync_announces, hannounces]
  · exact hannounces

@[simp] theorem setAnnounce_host (s : State) (p : Nat) (a : Option Announce) : (setAnnounce s p a).host = s.host :=
  eq_of_sameBut (·.host) (setAnnounce_hide s p a [.time, .faults] (by decide) (by decide)) fun _ => rfl

/-- Only a LOCKED timebase posts an event when it loses its slave port (Table 2.3). -/
theorem loseSync_faults_of_not_locked {s : State} (h : s.time.tb ≠ .locked) : (loseSync s).faults = s.faults := by
  unfold loseSync
  split
  · rfl
  · next hlocked => exact absurd hlocked h
  · rfl

/-- With no Announce left on the other port a LOCKED timebase goes to HOLDOVER, with its event posted (R52, Table 2.3). -/
theorem setAnnounce_none_of_locked {s : State} {p : Fin 2} (hlocked : s.time.tb = .locked) (hother : getI s.time.announces (1 - p.val) = none) :
    (setAnnounce s p none).time.tb = .holdover ∧ (setAnnounce s p none).faults = posts s [timeEvent 2 .warn []] := by
  obtain ⟨-, htb, -, hboundary⟩ := withAnnounce_keeps s p none
  have hself := getI_updI_self s.time.announces p p.isLt (fun _ => none)
  have hnone : ∀ q < 2, getI (updI s.time.announces p (fun _ => none)) q = none := by
    intro q hq
    rw [getI_updI]
    split
    · rfl
    · next hne => rw [show q = 1 - p.val by omega, hother]
  have hslave : (withAnnounce s p none).time.slave = none := by
    simp only [withAnnounce, updTime_time, selectMaster, hnone 0 (by decide), hnone 1 (by decide), betterAnnounce]
  rw [setAnnounce_eq, hslave, Option.isNone_none, if_pos rfl, loseSync_of_locked (htb.trans hlocked)]
  exact ⟨rfl, posts_congr (s := s) (t := withAnnounce s p none) rfl hboundary [timeEvent 2 .warn []]⟩

theorem setAnnounce_faults_of_not_locked {s : State} (h : s.time.tb ≠ .locked) (p : Nat) (a : Option Announce) :
    (setAnnounce s p a).faults = s.faults := by
  obtain ⟨-, htb, -, -⟩ := withAnnounce_keeps s p a
  rw [setAnnounce_eq]
  split
  · exact loseSync_faults_of_not_locked (by rwa [htb])
  · rfl

@[simp] theorem loseSync_boundary (s : State) : (loseSync s).time.boundary = s.time.boundary := by
  unfold loseSync
  split <;> rfl

theorem setAnnounce_boundary (s : State) (p : Nat) (a : Option Announce) : (setAnnounce s p a).time.boundary = s.time.boundary := by
  obtain ⟨-, -, -, hboundary⟩ := withAnnounce_keeps s p a
  rw [setAnnounce_eq]
  split
  · rw [loseSync_boundary, hboundary]
  · exact hboundary

theorem posts_nil (s : State) : posts s [] = s.faults := by simp [posts]

theorem leaseLost_faults (s : State) (p : Fin 2) :
    (leaseLost s p).faults = posts s [mkEvent (.block (7 + p)) (openCode 10) .warn .device 0 (leBytes 1 p)] := rfl

/-- One more event behind those posted in the same tick. -/
theorem post_faults_of_posts {s t : State} {es : List Event} (hboundary : t.time.boundary = s.time.boundary) (hfaults : t.faults = posts s es)
    (e : Event) : (t.post e).faults = posts s (es ++ [e]) := by
  have htick : t.tickCount = s.tickCount := by simp only [Blocks.tickCount, hboundary]
  simp only [post_faults, hfaults, htick, posts, List.map_append, List.map_cons, List.map_nil, List.append_assoc]

theorem hopTimeout_of_due {s : State} {d since : Nat} (hwaiting : (getI s.host.dests d).waiting = some since)
    (hdue : since + 100000 ≤ s.now) : hopTimeout s d = s.updDest d (fun x =>
      { x with dropped := satU 16 (x.dropped + x.held.length), held := [], waiting := none }) := by
  simp only [hopTimeout, hwaiting, hdue, if_true]

/-- Settles O18: a frame counted and discarded or handed on, a service frame handled once the receive buffer has taken it, and each deadline
and link change by its one branch; what is sent after it leaves the ports' addresses, caches and leases as they are. -/
theorem hostPortCommandsComplete : Obligations.HostPortCommandsComplete := by
  unfold Obligations.HostPortCommandsComplete
  refine ⟨fun s f hserved hready hdiscard => ?discard, fun s f hserved hready hvlan hsupported hkind htype => ?stream,
    fun s p target sender mac hserved hready hzero hown hroom => ?arp, fun s p addr => ?expiry,
    fun s p target hserved hready hown hroom => ?solicit, fun s p v6 dst len hserved hready hmine hlen hcount hroom => ?echo,
    fun s p addr maskLen gateway t1 t2 lease hserved hready hon => ?bound, fun s p hbound hdue => ?renew,
    fun s p hrenewing hdue => ?rebind, fun s p hrebinding hdue => ?expire, fun s p hup => ?down, fun s p hdown hserved => ?up,
    fun s d since hwaiting hdue => ?hop⟩
  case discard =>
    refine ⟨_, congrArg Host.Outcome.next (frameArrives_of_discarded hserved hready hdiscard), by simp [sameBut], ?_⟩
    simp only [noteDiscard, countReceived_of_ready hserved hready, updEth_host, updI_updI]
  case stream =>
    exact congrArg Host.Outcome.next ((frameArrives_of_stream hserved hready hvlan hsupported hkind).trans (lsPayload_of_data htype _))
  case arp =>
    obtain ⟨x, hrun, hx, hout⟩ := serviceFrame_of_room hserved hready hroom (fun s => arpPacket s p true target sender mac)
    have hreply := traffic_sendFrame x p (.arpReply sender mac target)
    have hlearn := arpPacket_of_own (hx.served.trans hserved) ((hx.portReady p).trans hready) hzero (hown.trans (hx.ipv4InUse p).symm) sender mac
    refine ⟨_, rfl, by simp [sameBut], ?_, ?_⟩
    · obtain ⟨rest, hrest⟩ := learn_sent (sendFrame x p (.arpReply sender mac target)) p sender mac
      refine ⟨rest, ?_⟩
      rw [hrun, hlearn, ← hrest, sendFrame_out, hout, hx.vlanTag, List.append_assoc]
      rfl
    · rw [hrun, hlearn, learn_arp, hreply.arp, hx.arp, hreply.now, hx.now]
  case expiry =>
    refine ⟨_, rfl, by simp [sameBut], fun x => ?_⟩
    rw [updEth_host, getI_updI_self _ _ p.isLt]
    simp only [List.mem_filter, Bool.or_eq_true, bne_iff_ne, decide_eq_true_eq]
    exact and_congr_right fun _ => by omega
  case solicit =>
    obtain ⟨x, hrun, hx, hout⟩ := serviceFrame_of_room hserved hready hroom (fun s => solicited s p target)
    refine ⟨_, rfl, by simp [sameBut], ?_⟩
    dsimp only
    rw [hrun, solicited_of_own (hx.served.trans hserved) ((hx.portReady p).trans hready) ((hx.ownV6 p target).trans hown), sendFrame_out, hout,
      hx.vlanTag]
  case echo =>
    obtain ⟨x, hrun, hx, hout⟩ := serviceFrame_of_room hserved hready hroom (fun s => echoed s p v6 dst len)
    have hcount' : (getI x.host.ports p).echoCount < 100 := by
      rwa [hx.portField EthPort.echoCount (fun _ => rfl)]
    refine ⟨_, rfl, by simp [sameBut], ?_⟩
    dsimp only
    rw [hrun, echoed_out (hx.served.trans hserved) ((hx.portReady p).trans hready) (by rwa [hx.ownV6, hx.ipv4InUse]) hlen hcount', hout,
      hx.vlanTag]
  case bound =>
    have hport := leaseBound_port hserved hready hon addr maskLen gateway t1 t2 lease
    exact ⟨_, rfl, by simp [sameBut], congrArg EthPort.dhcp hport, congrArg EthPort.ipv4 hport, congrArg EthPort.prefixLen hport,
      congrArg EthPort.gateway hport, congrArg EthPort.t1 hport, congrArg EthPort.t2 hport, congrArg EthPort.leaseEnd hport⟩
  case renew =>
    refine ⟨_, congrArg Host.Outcome.next (leaseRenew_of_due hbound hdue), by simp [sameBut], ?_, by rw [sendFrame_out]; rfl⟩
    rw [(traffic_sendFrame _ _ _).portField EthPort.dhcp (fun _ => rfl), updEth_host, getI_updI_self _ _ p.isLt]
  case rebind =>
    refine ⟨_, congrArg Host.Outcome.next (leaseRebind_of_due hrenewing hdue), by simp [sameBut], ?_, by rw [sendFrame_out]; rfl⟩
    rw [(traffic_sendFrame _ _ _).portField EthPort.dhcp (fun _ => rfl), updEth_host, getI_updI_self _ _ p.isLt]
  case expire =>
    have hport : getI (leaseLost s p).host.ports p = { getI s.host.ports p with dhcp := .expired, ipv4 := 0 } :=
      getI_updI_self _ _ p.isLt _
    refine ⟨_, congrArg Host.Outcome.next (leaseExpire_of_due hrebinding hdue), by simp [sameBut, leaseLost], ?_⟩
    split
    · exact ⟨congrArg EthPort.dhcp hport, congrArg EthPort.ipv4 hport, rfl⟩
    · refine ⟨congrArg EthPort.dhcp hport, congrArg EthPort.ipv4 hport, ?_⟩
      exact post_faults_of_posts (s := s) (t := leaseLost s p) rfl (leaseLost_faults s p) _
  case down =>
    refine ⟨_, execHostLinkDown_of_up hup, by simp [sameBut], ?_, ?_, fun hfree => ?_, fun hlocked hother => ?_⟩
    · simp only [post_keeps, setAnnounce_host, updEth_host, getI_updI_self _ _ p.isLt]
    · simp only [post_keeps, setAnnounce_announces, getI_updI_self _ _ p.isLt]
    · have hfaults := setAnnounce_faults_of_not_locked (s := s.updEth p (fun e => { e with linkUp := false })) hfree p none
      exact post_faults_of_posts (setAnnounce_boundary _ _ _) (hfaults.trans (posts_nil s).symm) _
    · obtain ⟨htb, hfaults⟩ := setAnnounce_none_of_locked (s := s.updEth p (fun e => { e with linkUp := false })) hlocked hother
      exact ⟨htb, post_faults_of_posts (setAnnounce_boundary _ _ _) hfaults _⟩
  case up =>
    refine ⟨_, execHostLinkUp_of_down hdown hserved, by simp [sameBut], ?_⟩
    dsimp only
    rw [(traffic_seekLease _ _).linkUp, (traffic_announceAddress _ _).linkUp, updEth_host, getI_updI_self _ _ p.isLt]
  case hop => exact ⟨_, congrArg Host.Outcome.next (hopTimeout_of_due hwaiting hdue), by simp [sameBut], rfl⟩

/-! A message sent at once (R28, R29, R88, R98) -/

/-- Nothing holds back a message whose port, next hop and queue are ready for it. -/
theorem sendUdp_of_sendable {s : State} {queue : Nat} {port : Fin 2} {dst : Src} {payload : Bytes}
    (h : Sendable s.toBlocks queue port dst payload.length) (localPort : Nat) :
    sendUdp s queue port localPort dst payload = sendFrame (s.fillQueue queue payload.length) port (.udp localPort dst payload) := by
  obtain ⟨hready, hfamily, hresolved, hwaiting, hroom⟩ := h
  have hbehind : s.host.egress.any (fun x => x.queue == queue && x.hop.isNone) = false := by
    refine List.any_eq_false.mpr fun e he => ?_
    simp only [Bool.and_eq_true, beq_iff_eq, not_and, Option.isNone_iff_eq_none, ← ne_eq, ← Option.isSome_iff_ne_none]
    exact hwaiting e he
  simp only [sendUdp, placeMessage, hready, hfamily, hresolved, hbehind, hroom, Bool.not_true, Bool.not_false, Bool.or_self, Bool.and_self,
    Bool.false_eq_true, if_false, if_true]

theorem sendable_congr {s t : State} {queue : Nat} {port : Fin 2} {dst : Src} {len : Nat} (hsame : SamePorts s t)
    (hegress : t.host.egress = s.host.egress) (hqueue : getI t.queues queue = getI s.queues queue)
    (h : Sendable s.toBlocks queue port dst len) : Sendable t.toBlocks queue port dst len := by
  unfold Sendable at *
  rwa [hsame.portReady, hsame.familyInUse, hsame.nextHop, hsame.resolved, hegress, roomIn, hqueue]

theorem sendUdp_out {s : State} {queue : Nat} {port : Fin 2} {dst : Src} {payload : Bytes}
    (h : Sendable s.toBlocks queue port dst payload.length) (localPort : Nat) :
    (sendUdp s queue port localPort dst payload).out =
      s.out ++ [.frame port (vlanTag s.toBlocks port) (.udp localPort dst payload)] := by
  rw [sendUdp_of_sendable h, sendFrame_out]
  rfl

@[simp] theorem message_length (type : Nat) (rest : Bytes) : (message type rest).length = 4 + rest.length := by
  simp only [message, List.length_append, leBytes_length]

theorem gdpBytes_length (r : GdpResponse) : (gdpBytes r).length = 16 + r.body.length := by
  simp only [gdpBytes, message_length, List.length_append, leBytes_length]
  omega

/-- Every response but a block-transfer segment leaves through Q49 or Q53 (Table 1.4). -/
theorem responseQueue_of_not_segment {r : GdpResponse} (h : r.type ≠ 0x84 ∨ r.status ≠ 0) (port : Fin 2) :
    responseQueue port r = if port = 0 then 49 else 53 := by
  have hkind : (r.type == 0x84 && r.status == 0) = false := by
    rw [Bool.and_eq_false_iff, beq_eq_false_iff_ne, beq_eq_false_iff_ne]
    exact h
  rw [responseQueue, hkind]
  match port with
  | 0 => rfl
  | 1 => rfl

theorem sendResponse_out (s : State) (r : GdpResponse) : (sendResponse s r).out = (sendGdp s r.port r).out := by
  simp only [sendResponse, updHost_keeps]

theorem answer_out {s : State} {h : GdpHead} {type status position : Nat} {body : Bytes} (hkind : type ||| 0x80 ≠ 0x84 ∨ status ≠ 0)
    (hsend : Answerable s h (16 + body.length)) :
    (answer s h type status position body).out = s.out ++ [answerFrame s h type status position body] := by
  have hqueue := responseQueue_of_not_segment (r := response h type status position body) hkind h.port
  have hsend' : Sendable (noteServed s).toBlocks (responseQueue h.port (response h type status position body)) h.port h.src
      (gdpBytes (response h type status position body)).length := by
    rw [hqueue, gdpBytes_length]
    exact hsend
  rw [answer, sendResponse_out, sendGdp]
  exact sendUdp_out hsend' 47410

/-! A request that reaches its service (R91, R94–R96, R101, R102) -/

theorem updI_eq_self {α : Type} [Inhabited α] {n : Nat} (v : Vector α n) (i : Nat) {f : α → α} (h : f (getI v i) = getI v i) :
    updI v i f = v := by
  rw [updI_congr v i f id h]
  unfold updI
  split
  · exact Vector.set_getElem_self ..
  · rfl

/-- The host link without its ports. -/
def offPorts (x : HostState) : HostState := { x with ports := Vector.replicate 2 default }

theorem countReceived_offPorts (s : State) (p : Nat) : offPorts (countReceived s p).host = offPorts s.host := by
  unfold countReceived
  split <;> rfl

theorem placeOther_offPorts (s : State) (p len : Nat) : offPorts (placeOther s p len).1.host = offPorts s.host := by
  unfold placeOther
  dsimp only
  split <;> rfl

@[simp] theorem placeOther_queues (s : State) (p len : Nat) : (placeOther s p len).1.queues = s.queues := by
  unfold placeOther
  dsimp only
  split <;> rfl

@[simp] theorem countReceived_queues (s : State) (p : Nat) : (countReceived s p).queues = s.queues :=
  eq_of_sameBut (·.queues) (countReceived_sameBut s p) fun _ => rfl

theorem countReceived_atClock (s : State) (p clk : Nat) : (countReceived s p).atClock clk = countReceived (s.atClock clk) p :=
  apply_ite (fun x : State => x.atClock clk) ..

/-- The state with the frame of a request counted, its clock reached and its message placed in the receive buffer. -/
def received (s : State) (h : GdpHead) : State := (placeOther ((countReceived s h.port).atClock h.clk) h.port h.udpLen).1

theorem arrived_eq (s : State) (h : GdpHead) :
    arrived s h = ((received s h).fillQueue (requestQueue h.port) h.udpLen).updHost (fun x => { x with turn := 1 - h.port }) := rfl

theorem traffic_received (s : State) (h : GdpHead) : Traffic (s.atClock h.clk) (received s h) := by
  rw [received, countReceived_atClock]
  exact (traffic_countReceived _ _).trans (traffic_placeOther _ _ _)

/-- Of the host link a request changes only its port until it is served. -/
theorem received_hostField {β : Type} (field : HostState → β) (hfield : ∀ x, field (offPorts x) = field x) (s : State) (h : GdpHead) :
    field (received s h).host = field s.host := by
  have hplaced := placeOther_offPorts ((countReceived s h.port).atClock h.clk) h.port h.udpLen
  have hcounted : offPorts ((countReceived s h.port).atClock h.clk).host = offPorts s.host := countReceived_offPorts s h.port
  rw [← hfield (received s h).host, received, hplaced, hcounted, hfield]

@[simp] theorem received_queues (s : State) (h : GdpHead) : (received s h).queues = s.queues :=
  (placeOther_queues _ _ _).trans (countReceived_queues s h.port)

@[simp] theorem received_out (s : State) (h : GdpHead) : (received s h).out = s.out :=
  (placeOther_out _ _ _).trans (countReceived_out s h.port)

theorem traffic_arrived (s : State) (h : GdpHead) : Traffic (s.atClock h.clk) (arrived s h) :=
  (traffic_received s h).trans ((traffic_queues _ _).trans (traffic_updHost _ rfl rfl))

theorem arrived_out (s : State) (h : GdpHead) : (arrived s h).out = s.out := received_out s h

theorem arrived_subs (s : State) (h : GdpHead) : (arrived s h).host.subs = s.host.subs := (traffic_arrived s h).subs

theorem arrived_egress (s : State) (h : GdpHead) : (arrived s h).host.egress = s.host.egress :=
  received_hostField HostState.egress (fun _ => rfl) s h

@[simp] theorem arrived_hide (s : State) (h : GdpHead) (ps : List Part) (htime : .time ∈ ps) (hqueues : .queues ∈ ps) (hhost : .host ∈ ps) :
    (arrived s h).hide ps = s.hide ps := by
  simp [arrived_eq, received, htime, hqueues, hhost]

/-- The arrival of a request takes no space from the queues of messages to the host. -/
theorem arrived_queue (s : State) (h : GdpHead) {queue : Nat} (hqueue : queue ≠ requestQueue h.port) :
    getI (arrived s h).queues queue = getI s.queues queue := by
  simp only [arrived_eq, updHost_keeps, fillQueue_queues, getI_updI_ne _ _ _ hqueue, received_queues]

theorem requestQueue_ne_answers (p : Fin 2) : (if p = 0 then 49 else 53) ≠ requestQueue p := by
  match p with
  | 0 => decide
  | 1 => decide

/-- The answer to a request whose service changes neither the ports nor the messages on their way. -/
theorem answer_arrived_out {s : State} {h : GdpHead} {f : HostState → HostState} {type status position : Nat} {body : Bytes}
    (hports : ∀ x, (f x).ports = x.ports) (hegress : ∀ x, (f x).egress = x.egress) (hkind : type ||| 0x80 ≠ 0x84 ∨ status ≠ 0)
    (hanswer : Answerable s h (16 + body.length)) :
    (answer ((arrived s h).updHost f) h type status position body).out = s.out ++ [answerFrame s h type status position body] := by
  have harrived := traffic_arrived s h
  have hsame : SamePorts s ((arrived s h).updHost f) := by
    refine ⟨harrived.dict, fun p => ?_⟩
    rw [updHost_host, hports, harrived.port]
    rfl
  have hwaiting : ((arrived s h).updHost f).host.egress = s.host.egress := (hegress _).trans (arrived_egress s h)
  have hqueue := arrived_queue s h (requestQueue_ne_answers h.port)
  have hout : ((arrived s h).updHost f).out = s.out := arrived_out s h
  rw [answer_out hkind (sendable_congr hsame hwaiting hqueue hanswer), answerFrame, hsame.vlanTag, hout]
  rfl

theorem other_port : ∀ {p q : Fin 2}, q ≠ p → 1 - q = p := by decide

/-- The one request that waits is served, whichever port's turn it is (R101). -/
theorem serveRequests_of_one {s : State} (p : Fin 2) (r : GdpRequest) (hempty0 : getI s.host.requests 0 = [])
    (hempty1 : getI s.host.requests 1 = []) (hwaits : writeWaits s.toBlocks = false) :
    serveRequests (s.updHost (fun x => { x with requests := updI x.requests p (fun l => l ++ [r]) })) =
      serveRequest (s.updHost (fun x => { x with turn := 1 - p })) r := by
  have hempty : ∀ q : Fin 2, getI s.host.requests q = [] := fun q => match q with
    | 0 => hempty0
    | 1 => hempty1
  have hqueue : ∀ q : Fin 2, getI (updI s.host.requests p (fun l => l ++ [r])) q = if q = p then [r] else [] := by
    intro q
    rw [getI_updI, hempty p, hempty q, List.nil_append]
    simp only [p.isLt, and_true, Fin.val_inj]
  have hone : (getI (updI s.host.requests p (fun l => l ++ [r])) 0).length + (getI (updI s.host.requests p (fun l => l ++ [r])) 1).length = 1 := by
    rw [show getI _ 0 = _ from hqueue 0, show getI _ 1 = _ from hqueue 1]
    match p with
    | 0 => rfl
    | 1 => rfl
  have hnext : nextQueue (s.updHost (fun x => { x with requests := updI x.requests p (fun l => l ++ [r]) })).toBlocks = some p := by
    simp only [nextQueue, updHost_host, hqueue]
    by_cases hturn : s.host.turn = p
    · simp [hturn]
    · simp [hturn, other_port hturn]
  have hdrained : updI (updI s.host.requests p (fun l => l ++ [r])) p (fun _ => []) = s.host.requests := by
    rw [updI_updI, updI_eq_self _ _ (hempty p).symm]
  unfold serveRequests
  rw [updHost_host, hone]
  unfold serveSome
  rw [hnext, show writeWaits (s.updHost _).toBlocks = false from hwaits]
  simp only [updHost_host, hqueue, if_true, Bool.false_eq_true, if_false, serveSome]
  simp only [State.updHost, hdrained]

/-- A request whose message passes the checks of R95 and that is no repeat is served. -/
theorem serveRequest_of_passing {s : State} {r : GdpRequest} (hlen : 8 ≤ r.head.udpLen)
    (hcode : prefixCode r.head.version r.head.length r.head.udpLen r.known r.min
      (r.reservedZero && r.head.reserved == 0 && r.head.status == 0 && r.head.position == 0xFFFF) = 0)
    (hheld : heldResponses s.toBlocks r.head = []) : serveRequest s r = serveBody r.head r.body s := by
  simp only [serveRequest, hcode, hheld, Nat.not_lt.mpr hlen, bne_self_eq_false, Bool.false_eq_true, if_false]

/-- A request that is heard is served on the state in which it has arrived. -/
theorem gdpFrame_of_heard {s : State} {h : GdpHead} {min : Nat} {zero : Bool} (hheard : Heard s h min zero) (type : Nat) (body : GdpBody) :
    gdpFrame h type min zero body s = serveBody h body (arrived s h) := by
  obtain ⟨hhears, hpasses, hspace, hroom, hlen, hcode, hheld, hempty0, hempty1, hwaits⟩ := hheard
  have hcounted := traffic_countReceived s h.port
  have hspace' : (getI ((countReceived s h.port).atClock h.clk).host.ports h.port).otherFill + h.udpLen ≤ 32768 := by
    rwa [show ((countReceived s h.port).atClock h.clk).host = (countReceived s h.port).host from rfl, countReceived_otherFill]
  have hplaced : (placeOther ((countReceived s h.port).atClock h.clk) h.port h.udpLen).2 = true :=
    congrArg Prod.snd (placeOther_of_room hspace')
  have hpasses' : filterPasses ((countReceived s h.port).atClock h.clk).toBlocks h.src = true := (hcounted.filterPasses h.src).trans hpasses
  have hroom' : roomIn (received s h).toBlocks (requestQueue h.port) h.udpLen = true := by rwa [roomIn, received_queues]
  have hheld' : heldResponses (arrived s h).toBlocks h = [] := by
    rw [heldResponses, show (arrived s h).host.replay = s.host.replay from received_hostField HostState.replay (fun _ => rfl) s h]
    exact hheld
  have hrequests : (received s h).host.requests = s.host.requests := (traffic_received s h).requests
  have hpair : (received s h).pair = s.pair := (traffic_received s h).pair
  simp only [gdpFrame, gdpRequest, hcounted.hears, hhears, hpasses', hplaced, Bool.not_true, Bool.false_eq_true, if_false]
  rw [← received, hroom', if_pos rfl, serveRequests_of_one (s := (received s h).fillQueue _ _) h.port _ ?_ ?_ ?_, ← arrived_eq]
  · exact serveRequest_of_passing hlen hcode hheld'
  · exact (congrArg (getI · 0) hrequests).trans hempty0
  · exact (congrArg (getI · 1) hrequests).trans hempty1
  · exact (congrArg (fun x : PairState => x.st == .active && x.forwarded.any (fun f => f.response.isSome)) hpair).trans hwaits

/-! Subscriptions (R106, R107) -/

theorem getI_eq_toList {α : Type} [Inhabited α] {n i : Nat} (v : Vector α n) (h : i < v.toList.length) : getI v i = v.toList[i] := by
  rw [Vector.length_toList] at h
  simp [getI, h]

theorem getI_of_le {α : Type} [Inhabited α] {n i : Nat} (v : Vector α n) (h : n ≤ i) : getI v i = default := by
  simp [getI, h]

/-- The first element with a property, where one has it. -/
theorem getI_findIdx {α : Type} [Inhabited α] {n : Nat} (v : Vector α n) {p : α → Bool} (h : v.toList.any p = true) :
    v.toList.findIdx p < n ∧ p (getI v (v.toList.findIdx p)) = true ∧ ∀ i < v.toList.findIdx p, p (getI v i) = false := by
  have hlt : v.toList.findIdx p < v.toList.length := List.findIdx_lt_length_of_exists (List.any_eq_true.mp h)
  refine ⟨by simpa using hlt, ?_, fun i hi => ?_⟩
  · rw [getI_eq_toList v hlt]
    exact List.findIdx_getElem
  · rw [getI_eq_toList v (Nat.lt_trans hi hlt)]
    exact List.not_of_lt_findIdx hi

theorem readRow_error_ne_zero {index sub c : Nat} {block : Bool} (h : readRow index sub block = .error c) : c ≠ 0 := by
  unfold readRow at h
  split at h
  · cases h
    split <;> decide
  · (repeat' split at h) <;> cases h <;> decide

/-- A SUBSCRIBE that passes its checks finds a free subscription. -/
theorem free_of_subscribeCode {s : Blocks} {index sub dest period : Nat} (h : subscribeCode s index sub dest period = 0) :
    s.host.subs.toList.any (fun x => x.isNone) = true := by
  unfold subscribeCode at h
  split at h
  · cases h
  · split at h
    · next hrow => exact absurd h (readRow_error_ne_zero hrow)
    · split at h
      · cases h
      · split at h
        · cases h
        · next hfree => simpa using hfree

/-- The subscription that SUBSCRIBE takes: the lowest free one. -/
def lowestFree (s : Blocks) : Nat := s.host.subs.toList.findIdx (fun x => x.isNone)

/-- The state with a subscription taken. -/
def withSub (s : State) (k : Nat) (x : Subscription) : State := s.updHost (fun y => { y with subs := updI y.subs k (fun _ => some x) })

theorem serveSubscribe_of_passing {s : State} {index sub dest period : Nat} (h : subscribeCode s.toBlocks index sub dest period = 0)
    (head : GdpHead) : serveSubscribe head index sub dest period s =
      answer (withSub s (lowestFree s.toBlocks) { src := head.src, index, sub, dest, period, reported := none, sampled := none }) head 8 0 0xFFFF
        (leBytes 1 (lowestFree s.toBlocks) ++ [0, 0, 0]) := by
  unfold serveSubscribe
  rw [h]
  rfl

theorem serveUnsubscribe_of_held {s : State} {id : Nat} (hid : id < 64) (hheld : (getI s.host.subs id).isSome = true) (head : GdpHead) :
    serveUnsubscribe head id s =
      answer (s.updHost (fun x => { x with subs := updI x.subs id (fun _ => none) })) head 9 0 0xFFFF (leBytes 1 id ++ [0, 0, 0]) := by
  have hone : id ≠ 0xFF := by omega
  rw [serveUnsubscribe, if_neg hone, hheld, decide_eq_true hid]
  rfl

theorem serveUnsubscribe_all (s : State) (head : GdpHead) : serveUnsubscribe head 0xFF s =
    answer (s.updHost (fun x => { x with subs := x.subs.map (fun y =>
      y.filter (fun z => !(z.src.v6 == head.src.v6 && z.src.addr == head.src.addr))) })) head 9 0 0xFFFF (handleBytes 0xFF) := rfl

theorem answer_subs (s : State) (h : GdpHead) (type status position : Nat) (body : Bytes) :
    (answer s h type status position body).host.subs = s.host.subs := (traffic_answer s h type status position body).subs

/-- A sample that is due is reported, and its subscription holds it as reported. -/
theorem sampleSubs_of_due {s : State} {id : Nat} {b : Bytes} (hdue : sampleDue s id = some b) :
    ∃ t, sampleSubs s [id] = noteSample t id b ∧ Traffic s t := by
  simp only [sampleSubs, hdue, List.filterMap_cons, List.filterMap_nil, Option.map_some, List.foldl_cons, List.foldl_nil]
  exact ⟨_, rfl, .forI fun t d => .ite _ (.refl t) (traffic_notify t d _)⟩

/-- Settles O21: a request that is heard is served on the state in which it has arrived, whose subscriptions are those before, and the answer
leaves them as served. -/
theorem subscriptionsComplete : Obligations.SubscriptionsComplete := by
  unfold Obligations.SubscriptionsComplete
  refine ⟨fun s h index sub dest period hheard hanswer hcode => ?subscribe, fun s h id hheard hanswer hid hheld => ?unsubscribe,
    fun s h hheard => ?all, fun s id b hdue => ?sample⟩
  case subscribe =>
    have hrun := gdpFrame_of_heard hheard 8 (.subscribe index sub dest period)
    have hserve := serveSubscribe_of_passing hcode h
    have hfree := free_of_subscribeCode hcode
    obtain ⟨hk, hnone, hbelow⟩ := getI_findIdx (arrived s h).host.subs hfree
    rw [arrived_subs] at hk hnone hbelow
    refine ⟨_, congrArg Host.Outcome.next (hrun.trans hserve), by simp [sameBut, withSub], lowestFree (arrived s h).toBlocks, ?_⟩
    rw [lowestFree, arrived_subs]
    refine ⟨hk, Option.isNone_iff_eq_none.mp hnone, fun i hi => ?_, ?_, ?_⟩
    · exact fun hi' => absurd (hbelow i hi) (by rw [hi']; decide)
    · rw [answer_subs, withSub, updHost_host, getI_updI_self _ _ hk]
    · exact answer_arrived_out (fun _ => rfl) (fun _ => rfl) (by decide) hanswer
  case unsubscribe =>
    have hrun := gdpFrame_of_heard hheard 9 (.unsubscribe id)
    have hheld' : (getI (arrived s h).host.subs id).isSome = true := by rwa [arrived_subs]
    refine ⟨_, congrArg Host.Outcome.next (hrun.trans (serveUnsubscribe_of_held hid hheld' h)), by simp [sameBut], ?_, fun k hk => ?_, ?_⟩
    · rw [answer_subs, updHost_host, getI_updI_self _ _ hid]
    · rw [answer_subs, updHost_host, getI_updI_ne _ _ _ hk, arrived_subs]
    · exact answer_arrived_out (fun _ => rfl) (fun _ => rfl) (by decide) hanswer
  case all =>
    have hrun := gdpFrame_of_heard hheard 9 (.unsubscribe 0xFF)
    refine ⟨_, congrArg Host.Outcome.next (hrun.trans (serveUnsubscribe_all _ h)), by simp [sameBut], fun k x => ?_⟩
    rw [answer_subs, updHost_host, arrived_subs]
    rcases Nat.lt_or_ge k 64 with hk | hk
    · rw [getI_map _ _ hk, Option.filter_eq_some_iff]
      exact and_congr_right fun _ => by rw [Bool.not_eq_true', ← Bool.not_eq_true, Bool.and_eq_true, beq_iff_eq, beq_iff_eq]
    · rw [getI_of_le _ hk, getI_of_le _ hk]
      simp [default]
  case sample =>
    obtain ⟨t, hrun, ht⟩ := sampleSubs_of_due hdue
    refine ⟨_, rfl, by simp [sameBut], ?_, fun k hk => ?_⟩
    · rw [hrun, noteSample, updHost_host, getI_updI_self _ _ id.isLt, ht.subs, ht.now]
    · rw [hrun, noteSample, updHost_host, getI_updI_ne _ _ _ hk, ht.subs]

/-! Layer Stream (R109–R111, R113) -/

theorem Traffic.acceptsWrites {s t : State} (h : Traffic s t) : acceptsWrites t.toBlocks = acceptsWrites s.toBlocks := by
  simp only [Machine.acceptsWrites, h.pair]

theorem Traffic.inSession {s t : State} (h : Traffic s t) (head : LsHead) : inSession t.toBlocks head = inSession s.toBlocks head := by
  simp only [Machine.inSession, h.session]

theorem served_and_ready_of_hears {s : Blocks} {p : Nat} {src : Src} (h : hears s p src = true) : served s = true ∧ portReady s p = true := by
  rw [hears, Bool.and_eq_true, Bool.and_eq_true] at h
  obtain ⟨hboth, -⟩ := h
  exact hboth

/-- A message that is heard runs its own checks with its frame counted. -/
theorem lsMessage_of_heard {s : State} {h : LsHead} {min : Nat} {zero : Bool} (hheard : StreamHeard s h min zero) (run : State → State) :
    lsMessage (countReceived s h.port) h true min zero run = run (countReceived s h.port) := by
  obtain ⟨hhears, hpasses, hlen, hcode⟩ := hheard
  have hcounted := traffic_countReceived s h.port
  simp only [lsMessage, hcounted.hears, hhears, hcounted.filterPasses, hpasses, Nat.not_lt.mpr hlen, hcode, Bool.not_true, bne_self_eq_false,
    Bool.false_eq_true, if_false]

/-- The OPEN or CLOSE of a message, as it waits for P4. -/
def control (s : State) (h : LsHead) (close resume : Bool) : LsControl :=
  { port := h.port, src := h.src, session := h.session, close, resume, beforeNak := s.host.nak.isNone }

/-- An OPEN or CLOSE for which the receive buffer has space waits for P4 behind those before it. -/
theorem keepControl_of_room {s : State} {h : LsHead} (hroom : (getI s.host.ports h.port).otherFill + h.udpLen ≤ 32768) (close resume : Bool) :
    (keepControl (countReceived s h.port) h close resume).host.control = s.host.control ++ [control s h close resume] ∧
    (keepControl (countReceived s h.port) h close resume).host.session = s.host.session := by
  have hroom' : (getI (countReceived s h.port).host.ports h.port).otherFill + h.udpLen ≤ 32768 := by rwa [countReceived_otherFill]
  have hplaced : (placeOther (countReceived s h.port) h.port h.udpLen).2 = true := congrArg Prod.snd (placeOther_of_room hroom')
  have htraffic := (traffic_countReceived s h.port).trans (traffic_placeOther _ h.port h.udpLen)
  simp only [keepControl, hplaced, if_true, updHost_host, htraffic.control, htraffic.session, htraffic.nak, control, and_self]

theorem execLsOpen_of_heard {s : State} {h : LsHead} {flags : Nat}
    (hheard : StreamHeard s h 28 (h.sequence == 0 && h.offset == 0 && decide (flags < 2) && h.session != 0)) :
    exec (.lsOpen h flags) s = .next (keepControl (countReceived s h.port) h false (flags == 1)) :=
  congrArg Host.Outcome.next (lsMessage_of_heard hheard _)

theorem execLsClose_of_heard {s : State} {h : LsHead} (hheard : StreamHeard s h 24 (h.sequence == 0 && h.offset == 0))
    (hsession : inSession s.toBlocks h = true) : exec (.lsClose h) s = .next (keepControl (countReceived s h.port) h true false) := by
  have hsession' := ((traffic_countReceived s h.port).inSession h).trans hsession
  exact congrArg Host.Outcome.next ((lsMessage_of_heard hheard _).trans (if_pos hsession'))

/-- DATA of the session goes by the rows of R110. -/
theorem execLsData_of_heard {s : State} {h : LsHead} (hheard : StreamHeard s h 25 true) (haccepts : acceptsWrites s.toBlocks = true)
    (hsession : inSession s.toBlocks h = true) (hclosing : s.host.session.closing = none) (payload : Bytes) :
    exec (.lsData h payload) s = .next (takeData (countReceived s h.port) h payload) := by
  have hcounted := traffic_countReceived s h.port
  refine congrArg Host.Outcome.next ((lsMessage_of_heard hheard _).trans ?_)
  simp only [hcounted.acceptsWrites, haccepts, hcounted.inSession, hsession, hcounted.session, hclosing, Option.isNone_none, Bool.not_true,
    Bool.and_self, Bool.false_eq_true, if_false, if_true]

section

variable {s : State} {h : LsHead}

theorem takeData_of_next (hsequence : h.sequence = s.host.session.sequence) (hoffset : h.offset = s.host.session.offset) {payload : Bytes}
    (hcredit : h.offset + payload.length ≤ creditLimit s.host.session) : takeData s h payload =
      noteHigh (s.updSession (fun y => { y with
        sequence := (y.sequence + 1) % 2 ^ 32, offset := y.offset + payload.length, buffer := y.buffer ++ [(h.offset, payload)]
        changed := true })) h.port := by
  have hlevel : (2 ^ 32 + h.sequence - h.sequence) % 2 ^ 32 = 0 := by omega
  simp only [takeData, ← hsequence, ← hoffset, hlevel, Nat.not_lt.mpr hcredit, bne_self_eq_false, Nat.reduceLeDiff, decide_false,
    Bool.false_and, Bool.or_self, Bool.false_eq_true, if_false]

theorem takeData_of_behind (hlow : h.sequence < s.host.session.sequence) (hhigh : s.host.session.sequence ≤ h.sequence + 2 ^ 31)
    (payload : Bytes) : takeData s h payload = s.updSession (fun y => { y with duplicates := inc32 y.duplicates }) := by
  have hbehind : (2 ^ 32 + s.host.session.sequence - h.sequence) % 2 ^ 32 = s.host.session.sequence - h.sequence := by omega
  have hcond : (decide (1 ≤ s.host.session.sequence - h.sequence) && decide (s.host.session.sequence - h.sequence ≤ 2 ^ 31)) = true := by
    rw [Bool.and_eq_true, decide_eq_true_eq, decide_eq_true_eq]
    omega
  simp only [takeData, hbehind, hcond, if_true]

theorem takeData_of_ahead (hlow : s.host.session.sequence < h.sequence) (hhigh : h.sequence < s.host.session.sequence + 2 ^ 31)
    (payload : Bytes) : takeData s h payload =
      wantNak (s.updSession (fun y => { y with gaps := inc32 y.gaps })) h.port h.src h.session 0x09010003 := by
  have hbehind : (2 ^ 32 + s.host.session.sequence - h.sequence) % 2 ^ 32 = 2 ^ 32 + s.host.session.sequence - h.sequence := by omega
  have hfar : ¬2 ^ 32 + s.host.session.sequence - h.sequence ≤ 2 ^ 31 := by omega
  have hgap : (h.sequence != s.host.session.sequence) = true := bne_iff_ne.mpr (by omega)
  simp only [takeData, hbehind, hfar, hgap, decide_false, Bool.and_false, Bool.true_or, Bool.false_eq_true, if_false, if_true]

end

theorem streamBytes_length (type session sequence status offset : Nat) (body : Bytes) :
    (streamBytes type session sequence status offset body).length = 24 + body.length := by
  simp only [streamBytes, message_length, List.length_append, leBytes_length]
  omega

/-- The octets of CREDIT (Table 4.6). -/
def creditBytes (x : Session) : Bytes :=
  streamBytes 0x81 x.id x.sequence 0 x.offset (leBytes 8 (creditLimit x) ++ leBytes 4 x.accepted ++ leBytes 4 x.rejected)

theorem creditBytes_length (x : Session) : (creditBytes x).length = 40 := by
  simp only [creditBytes, streamBytes_length, List.length_append, leBytes_length]

/-- The message of CREDIT, before the session notes it. -/
def creditSent (s : State) : State :=
  sendUdp s (if s.host.session.port = 0 then 48 else 52) s.host.session.port 47411 s.host.session.src (creditBytes s.host.session)

theorem sendCredit_eq (s : State) :
    sendCredit s = (creditSent s).updSession (fun y => { y with changed := false, lastCredit := (creditSent s).now }) := by
  simp only [sendCredit, sendStream, beq_iff_eq]
  rfl

theorem execCreditPeriodic_of_due {s : State} (hid : s.host.session.id ≠ 0) (hdue : s.host.session.lastCredit + 1000 ≤ s.now) :
    exec .creditPeriodic s = .next (sendCredit s) :=
  congrArg Host.Outcome.next (if_pos (by rw [bne_iff_ne.mpr hid, decide_eq_true hdue]; rfl))

/-- Settles O22: a message that is heard meets its own checks with its frame counted; DATA goes by the distance of its sequence from the one
expected, and CREDIT finds its queue free. -/
theorem layerStreamComplete : Obligations.LayerStreamComplete := by
  unfold Obligations.LayerStreamComplete
  refine ⟨fun s h flags hheard hroom => ?lsOpen, fun s h payload hheard haccepts hsession hclosing hsequence hoffset hcredit => ?next,
    fun s h payload hheard haccepts hsession hclosing hlow hhigh => ?behind,
    fun s h payload hheard haccepts hsession hclosing hlow hhigh => ?ahead, fun s h hheard hsession hroom => ?lsClose,
    fun s hid hdue hsend => ?credit⟩
  case lsOpen => exact ⟨_, execLsOpen_of_heard hheard, by simp [sameBut], keepControl_of_room hroom _ _⟩
  case lsClose => exact ⟨_, execLsClose_of_heard hheard hsession, by simp [sameBut], keepControl_of_room hroom _ _⟩
  case next =>
    have hcounted := (traffic_countReceived s h.port).session
    refine ⟨_, execLsData_of_heard hheard haccepts hsession hclosing payload, by simp [sameBut], ?_⟩
    dsimp only
    rw [takeData_of_next (by rw [hcounted, hsequence]) (by rw [hcounted, hoffset]) (by rwa [hcounted]), (traffic_noteHigh _ _).session,
      updSession_host, hcounted]
  case behind =>
    have hcounted := (traffic_countReceived s h.port).session
    have ⟨hhears, _⟩ := hheard
    obtain ⟨hserved, hready⟩ := served_and_ready_of_hears hhears
    refine ⟨_, execLsData_of_heard hheard haccepts hsession hclosing payload, by simp [sameBut], ?_⟩
    dsimp only
    rw [takeData_of_behind (by rwa [hcounted]) (by rwa [hcounted]), countReceived_of_ready hserved hready]
    rfl
  case ahead =>
    have hcounted := traffic_countReceived s h.port
    refine ⟨_, execLsData_of_heard hheard haccepts hsession hclosing payload, by simp [sameBut], ?_⟩
    rw [takeData_of_ahead (by rwa [hcounted.session]) (by rwa [hcounted.session])]
    simp only [wantNak, updHost_host, updSession_host, hcounted.session, hcounted.nak, true_and]
    intro hnone
    rw [hnone]
    rfl
  case credit =>
    have hsend' := hsend
    rw [← creditBytes_length s.host.session] at hsend'
    have hsent : Traffic s (creditSent s) := traffic_sendUdp s _ _ _ _ _
    refine ⟨_, execCreditPeriodic_of_due hid hdue, by simp [sameBut], ?_⟩
    rw [sendCredit_eq]
    refine ⟨sendUdp_out hsend' 47411, ?_⟩
    rw [updSession_host, hsent.session, hsent.now]

end Sys2Proof.Proofs.HostLink

/-! Proofs about the layer stream (05_layer_stream R136–R138, R140–R142, R145; 20_startup_and_faults R496): package validation, the decision
point and the end of STOPPING. -/

namespace Sys2Proof.Proofs.LayerStream

open Sys2Proof Sys2Proof.Machine Sys2Proof.Proofs.Timebase Sys2Proof.Proofs.HostLink

/-! Package validation (R136–R138, R140) -/

/-- The state in which only the packages of `rest` still wait for their checks. -/
def withArrived (s : State) (rest : List Arrived) : State := s.updJob (fun j => { j with arrived := rest })

/-- The checks of a package do not look at the packages that wait behind it. -/
theorem checkPackage_withArrived (s : State) (rest : List Arrived) (b : Bytes) :
    checkPackage (withArrived s rest).job b = checkPackage s.job b := rfl

theorem checkSequence_withArrived (s : State) (rest : List Arrived) (b : Bytes) :
    checkSequence (withArrived s rest).job b = checkSequence s.job b := rfl

/-- Neither does the grant of a job start. -/
theorem startGranted_withArrived (s : State) (rest : List Arrived) (p : Package) :
    startGranted (withArrived s rest).toBlocks p = startGranted s.toBlocks p := rfl

theorem execPackageValidation_of_arrived {s : State} {a : Arrived} {rest : List Arrived} (h : s.job.arrived = a :: rest) :
    exec .packageValidation s = .next (validatePackage (withArrived s rest) a) := by
  refine congrArg Host.Outcome.next ?_
  simp only [validateNext, h]
  rfl

/-- A package that passes is stored; at an active unit it is passed on to the standby as well, which changes nothing but the pair's sequences
and what has been sent. -/
theorem validatePackage_of_ok {s : State} {a : Arrived} {p : Package} {ends : Vector (Option Pt) 32}
    (hcheck : checkPackage s.job a.bytes = .ok (p, ends)) (hstart : p.first = true → startGranted s.toBlocks p = true) :
    sameBut [.pair, .out] (acceptPackage s p a.bytes ends) (validatePackage s a) := by
  have hgranted : (p.first && !startGranted s.toBlocks p) = false := by
    cases hfirst : p.first with
    | false => rfl
    | true => rw [hstart hfirst]; rfl
  simp only [validatePackage, hcheck, hgranted, Bool.false_eq_true, if_false]
  split
  · exact streamOut_hide _ _ _ _ _ (by decide) (by decide)
  · rfl

/-- The layer that the report of a rejected package names, all ones where its header cannot be read (R138). -/
def reportedLayer (b : Bytes) (e : PkgError) : Nat := if e.reason ≤ 2 then 0xFFFFFFFF else fieldU b 12 4

/-- A package that fails is reported, but for a later one of a job that the device has stopped. -/
theorem validatePackage_of_error {s : State} {a : Arrived} {e : PkgError} (hcheck : checkPackage s.job a.bytes = .error e)
    (hsequence : checkSequence s.job a.bytes ≠ .stopped) :
    validatePackage s a = rejectPackage s (reportedLayer a.bytes e) a.offset e true := by
  simp only [validatePackage, hcheck, beq_false_of_ne hsequence, Bool.and_false, Bool.false_and, Bool.not_false, Bool.false_eq_true, if_false]
  rfl

theorem traffic_packageStatus (s : State) (status layer offset : Nat) : Traffic s (packageStatus s status layer offset) :=
  .ite _ (.refl s) (traffic_sendUdp s _ _ _ _ _)

theorem rejectPackage_job (s : State) (layer offset : Nat) (e : PkgError) (tell : Bool) : (rejectPackage s layer offset e tell).job = s.job :=
  eq_of_sameBut (·.job) (rejectPackage_hide s layer offset e tell [.faults, .queues, .host, .out] (by decide) (by decide) (by decide) (by decide))
    fun _ => rfl

theorem rejectPackage_rejected (s : State) (layer offset : Nat) (e : PkgError) :
    (rejectPackage s layer offset e true).host.session.rejected = (s.host.session.rejected + 1) % 2 ^ 32 :=
  congrArg Session.rejected (traffic_packageStatus (countRejected s) 0x09010001 layer offset).session

theorem rejectPackage_faults (s : State) (layer offset : Nat) (e : PkgError) :
    (rejectPackage s layer offset e true).faults = posts s [rejectEvent layer offset e] := by
  have hframe := (traffic_packageStatus (countRejected s) 0x09010001 layer offset).frame
  have hfaults : (packageStatus (countRejected s) 0x09010001 layer offset).faults = s.faults :=
    eq_of_sameBut (s := countRejected s) (·.faults) hframe fun _ => rfl
  have hboundary : (packageStatus (countRejected s) 0x09010001 layer offset).time.boundary = s.time.boundary :=
    eq_of_sameBut (s := countRejected s) (·.time.boundary) hframe fun _ => rfl
  exact post_faults_of_posts hboundary (hfaults.trans (posts_nil s).symm) _

/-! The decision point (R140, R142, R145) -/

/-- Job control but for the packages of the store. -/
def besideStore (j : JobState) : JobState := { j with store := [] }

theorem refillChan_besideStore (s : State) (n : Nat) : besideStore (refillChan s n).job = besideStore s.job := by
  unfold refillChan
  dsimp only
  split <;> rfl

theorem refillFen_besideStore (s : State) (layer : Nat) (f : FenSection) : besideStore (refillFen s layer f).job = besideStore s.job := by
  unfold refillFen
  dsimp only
  split <;> rfl

theorem refillFens_besideStore (s : State) : besideStore (refillFens s).job = besideStore s.job := by
  unfold refillFens
  refine foldl_keeps _ (fun s => besideStore s.job) (fun s p => ?_) s
  exact foldl_keeps _ (fun s => besideStore s.job) (fun s f => refillFen_besideStore s p.head.layer f) s

/-- Refill moves records and items out of the packages of the store and changes nothing else of job control (R142). -/
theorem refill_besideStore (s : State) : besideStore (refill s).job = besideStore s.job := by
  unfold refill
  split
  · rw [refillFens_besideStore]
    exact forI_keeps 32 (fun s => besideStore s.job) refillChan_besideStore s
  · rfl

/-- Whether a granted job starts at the next tick boundary (R140, R78). -/
def startDue (s : Blocks) : Bool :=
  s.job.granted && s.job.dev == .ready && decide (sevInForce s.faults < 4) &&
    !s.dict.pending.any (fun w => w.apply == .stp && decide (s.now + 1 < w.due)) &&
    (s.job.store.head?.map (fun p => standbyHolds s p.head)).getD false

/-- The state with its decision noted. -/
def decision (s : State) : State :=
  s.updJob (fun j => { j with decided := true, nextStart := startDue s.toBlocks, nextLayer := layerDue s.toBlocks, refill := startDue s.toBlocks })

theorem decidePoint_of_undecided {s : State} (hdecided : s.job.decided = false) (hstandby : s.pair.st ≠ .standby) :
    decidePoint s = if startDue s.toBlocks then refill (decision s) else decision s :=
  if_neg (by rw [hdecided, beq_false_of_ne hstandby]; decide)

/-- A start begins the refill, which leaves the decision as it was noted. -/
theorem decidePoint_besideStore {s : State} (hdecided : s.job.decided = false) (hstandby : s.pair.st ≠ .standby) :
    besideStore (decidePoint s).job = besideStore (decision s).job := by
  rw [decidePoint_of_undecided hdecided hstandby]
  split
  · exact refill_besideStore _
  · rfl

theorem sendWisp_job (s : State) : (sendWisp s).job = s.job :=
  eq_of_sameBut (·.job) (sendWisp_hide s [.pair, .out] (by decide) (by decide)) fun _ => rfl

theorem decisionPoint_job {s : State} (hdecided : s.job.decided = false) :
    (decisionPoint s).job = { (decidePoint s).job with decided := true } := by
  rw [decisionPoint, hdecided, if_neg Bool.false_ne_true, sendWisp_job]
  rfl

theorem execDecisionPoint_of_cutoff {s : State} (hcutoff : s.time.cutoff = true) (hdecided : s.job.decided = false) :
    exec .decisionPoint s = .next (decisionPoint (s.atClock 8500)) :=
  congrArg Host.Outcome.next (if_neg (by rw [hcutoff, hdecided]; decide))

/-! The end of STOPPING (R496, R497) -/

/-- STOPPING left for `dev`, without a layer in progress and with every channel at rest. -/
def stoppingEnded (s : State) (dev : DevState) : State :=
  (idleChannels s).updJob (fun j => { j with layer := none, layerSections := [], completeTick := none, isLast := false, dev })

/-- READY releases the job gates, HELD keeps them (R497). -/
theorem stoppingOver_of_atRest {s : State} (hdev : s.job.dev = .stopping) (hrest : allAtRest s.toBlocks = true) :
    stoppingOver s = if safeOpen s.faults then stoppingEnded s .held else setJobGates (stoppingEnded s .ready) false :=
  if_pos (by rw [hdev, hrest]; rfl)

theorem stoppingEnded_chan (s : State) (dev : DevState) {n : Nat} (h : n < 32) :
    getI (stoppingEnded s dev).scan.chans n = idleChan (getI s.scan.chans n) := getI_map s.scan.chans idleChan h

theorem setJobGates_chan (s : State) (b : Bool) {n : Nat} (h : n < 32) :
    getI (setJobGates s b).scan.chans n = { getI s.scan.chans n with gates := { (getI s.scan.chans n).gates with job := b } } :=
  getI_map s.scan.chans _ h

/-- Settles O23: the oldest package goes by the outcome of its checks, the decision is noted before the refill that it begins, and a stop is
over once everything is at rest. -/
theorem jobCommandsComplete : Obligations.JobCommandsComplete := by
  unfold Obligations.JobCommandsComplete
  refine ⟨fun s a rest p ends harrived hcheck hstart => ?stored, fun s a rest e harrived hcheck hsequence => ?rejected,
    fun s hcutoff hdecided hstandby => ?decision, fun s hdev hrest => ?stopping⟩
  case stored =>
    rw [← checkPackage_withArrived s rest] at hcheck
    rw [← startGranted_withArrived s rest] at hstart
    have hframe := validatePackage_of_ok hcheck hstart
    refine ⟨_, execPackageValidation_of_arrived harrived, by simp [sameBut, withArrived], ?_, ?_, ?_⟩
    · exact eq_of_sameBut (·.job) hframe fun _ => rfl
    · exact eq_of_sameBut (·.host.session.accepted) hframe fun _ => rfl
    · exact eq_of_sameBut (s := acceptPackage (withArrived s rest) p a.bytes ends) (·.faults) hframe fun _ => rfl
  case rejected =>
    rw [← checkPackage_withArrived s rest] at hcheck
    rw [← checkSequence_withArrived s rest] at hsequence
    refine ⟨_, execPackageValidation_of_arrived harrived, by simp [sameBut, withArrived], ?_⟩
    rw [validatePackage_of_error hcheck hsequence]
    exact ⟨rejectPackage_job _ _ _ _ _, rejectPackage_rejected _ _ _ _, rejectPackage_faults _ _ _ _⟩
  case decision =>
    have hkept := decidePoint_besideStore (s := s.atClock 8500) hdecided hstandby
    refine ⟨_, execDecisionPoint_of_cutoff hcutoff hdecided, by simp [sameBut], ?_⟩
    dsimp only
    rw [decisionPoint_job (s := s.atClock 8500) hdecided]
    exact ⟨rfl, congrArg JobState.nextLayer hkept, congrArg JobState.nextStart hkept⟩
  case stopping =>
    refine ⟨stoppingOver s, rfl, stoppingOver_hide s _ (by decide) (by decide), ?_⟩
    rw [stoppingOver_of_atRest hdev hrest]
    split
    · refine ⟨rfl, rfl, fun n hn => ?_⟩
      rw [stoppingEnded_chan s _ hn]
      exact ⟨rfl, rfl⟩
    · refine ⟨rfl, rfl, fun n hn => ?_⟩
      rw [setJobGates_chan _ _ hn, stoppingEnded_chan s _ hn]
      exact ⟨rfl, rfl⟩

end Sys2Proof.Proofs.LayerStream

/-! Proofs about scan execution (06_scan_execution R160, R161, R185, R186; 12_zhomon_link R329): the timers of the channels. -/

namespace Sys2Proof.Proofs.ScanExecution

open Sys2Proof Sys2Proof.Machine Sys2Proof.Proofs.HostLink

/-! An operation of one channel -/

@[simp] theorem onChan_scan (s : State) (err : Nat → Int) (n : Nat) (f : ScanEnv → Chan → Chan × List Event) :
    (onChan s err n f).scan =
      { s.scan with chans := updI s.scan.chans n (fun _ => (f (scanEnv s.toBlocks err n) (getI s.scan.chans n)).1) } := rfl

@[simp] theorem onChan_faults (s : State) (err : Nat → Int) (n : Nat) (f : ScanEnv → Chan → Chan × List Event) :
    (onChan s err n f).faults = posts s (f (scanEnv s.toBlocks err n) (getI s.scan.chans n)).2 := rfl

section

variable {s : State} {err : Nat → Int} {n : Nat} {f : ScanEnv → Chan → Chan × List Event}

theorem onChan_chan (hn : n < 32) :
    getI (onChan s err n f).scan.chans n = (f (scanEnv s.toBlocks err n) (getI s.scan.chans n)).1 :=
  getI_updI_self _ _ hn _

theorem onChan_other {m : Nat} (h : m ≠ n) : getI (onChan s err n f).scan.chans m = getI s.scan.chans m :=
  getI_updI_ne _ _ _ h _

/-- An operation that does the same as `g` to the channel as it stands. -/
theorem onChan_scan_eq_updI {g : Chan → Chan} (h : (f (scanEnv s.toBlocks err n) (getI s.scan.chans n)).1 = g (getI s.scan.chans n)) :
    (onChan s err n f).scan = { s.scan with chans := updI s.scan.chans n g } := by
  rw [onChan_scan, updI_congr _ _ _ g h]

end

/-- The operation of a channel runs in the frame of its faults and its state. -/
theorem does_of_onChan {c : Instr} {s : State} {n : Nat} {f : ScanEnv → Chan → Chan × List Event} {q : State → Prop}
    (hexec : exec c s = .next (onChan s noErr n f)) (h : q (onChan s noErr n f)) : Does c s [.faults, .scan] q :=
  ⟨_, hexec, onChan_hide s noErr n f _ (by decide) (by decide), h⟩

/-! The stop of a channel (R183, R186, R188) -/

/-- A channel that a stop finds at work. -/
def atWork (c : Chan) : Prop := c.state = .run ∨ c.state = .waitEnd ∨ c.state = .waitMark

/-- The events of a claimed item that is abandoned (R183). -/
def abandonEvents (n : Nat) (c : Chan) : List Event :=
  match c.item with
  | some it => [chanEvent n 0x0609 .warn (leBytes 1 it.fen ++ leBytes 4 it.item)]
  | none => []

theorem abandonEvents_of_none {c : Chan} (h : c.item = none) (n : Nat) : abandonEvents n c = [] := by
  rw [abandonEvents, h]

theorem abandonEvents_of_some {c : Chan} {it : Claimed} (h : c.item = some it) (n : Nat) :
    abandonEvents n c = [chanEvent n 0x0609 .warn (leBytes 1 it.fen ++ leBytes 4 it.item)] := by
  rw [abandonEvents, h]

/-- Braking changes the motion and leaves the queue. -/
theorem brake_queue (e : ScanEnv) (c : Chan) (holdNow : Bool) : (brake e c holdNow).queue = c.queue := by
  unfold brake
  dsimp only
  (repeat' split) <;> rfl

/-- What a stop with a cause makes of a channel at work: dark, with the stop gate set and its queue kept. -/
structure Halted (c : Chan) (cause : Nat) (x : Chan) : Prop where
  state : x.state = .stopping
  stopCause : x.stopCause = cause
  gates : x.gates = { c.gates with stop := true }
  edges : x.edges = []
  queue : x.queue = c.queue

/-- STOPPING, STOPPED and IDLE apart, a stop is a fresh one. -/
theorem fresh_of_atWork {c : Chan} (h : atWork c) :
    (!(c.state == .stopping || c.state == .stopped || c.state == .idle)) = true := by
  obtain h | h | h := h <;> rw [h] <;> rfl

section

variable {c : Chan} (hwork : atWork c) (e : ScanEnv) (cause : Nat) (holdNow : Bool)

include hwork

theorem stopChannel_halted : Halted c cause (stopChannel e c cause holdNow).1 := by
  simp only [stopChannel, fresh_of_atWork hwork, Bool.or_true, if_true]
  exact ⟨rfl, rfl, rfl, rfl, brake_queue e c holdNow⟩

theorem stopChannel_events : (stopChannel e c cause holdNow).2 = abandonEvents e.n c := by
  simp only [stopChannel, fresh_of_atWork hwork, if_true]
  rfl

end

/-! What ends at its tick (R160, R161, R185, R329) -/

/-- A settle wait that is over without its run of small errors stops the channel with cause 3. -/
theorem settleOut_of_due {e : ScanEnv} {c : Chan} {since run : Nat} (hact : c.act = .settle since run)
    (hdue : since + e.settleTimeout ≤ e.now) (hrun : run < e.settleCount) :
    settleOut e c = ((stopChannel e c 3 false).1, chanEvent e.n 0x0602 .stopChannel [] :: (stopChannel e c 3 false).2) := by
  simp [settleOut, hact, hdue, hrun]

/-- The channel with its record in execution completed. -/
def completeActive (c : Chan) : Chan :=
  match c.active with
  | some r => complete c (ownEnds c r)
  | none => c

/-- A record of the channel's own leaves its backlog and is counted (R179). -/
theorem completeActive_of_own {c : Chan} {r : QRec} (hactive : c.active = some r) (hitem : c.item = none) :
    completeActive c =
      { c with backlog := c.backlog - r.nominal, counts := { c.counts with completed := satU 32 (c.counts.completed + 1) } } := by
  simp [completeActive, hactive, ownEnds, hitem, complete, sumN]

theorem endDwell_of_due {e : ScanEnv} {c : Chan} {u : Nat} (hact : c.act = .dwell u) (hdue : u ≤ e.now) :
    endDwell e c = ({ completeActive c with active := none, act := .ready }, []) := by
  simp only [endDwell, finishAct, hact, hdue, if_true]
  rfl

theorem endThrottle_of_due {e : ScanEnv} {c : Chan} {u : Nat} (hact : c.act = .throttle u) (hdue : u ≤ e.now) :
    endThrottle e c = ({ c with act := .ready }, []) := by
  simp only [endThrottle, finishAct, hact, hdue, if_true]

theorem releaseNode_of_clean {s : State} {n : Nat} (hgate : (getI s.scan.chans n).gates.node = true)
    (hclean : s.objN (0x3000 + n) 0x06 ≤ (getI s.link.lasers n).clean) :
    releaseNode s n = s.updGates n (fun g => { g with node := false }) :=
  if_pos (by rw [hgate, decide_eq_true hclean]; rfl)

/-- Settles O24: each timer that is due runs its one branch on its own channel, a settle wait by the stop of a channel at work, a dwell by
the completion of its record. -/
theorem channelTimersComplete : Obligations.ChannelTimersComplete := by
  unfold Obligations.ChannelTimersComplete
  refine ⟨fun s n since run hact hdue hrun hwork => does_of_onChan rfl ?settle, fun s n u hact hdue => does_of_onChan rfl ?dwell,
    fun s n u hact hdue => does_of_onChan rfl ?throttle, fun s n hgate hclean => ?node⟩
  case settle =>
    have hout := settleOut_of_due (e := scanEnv s.toBlocks noErr n) hact hdue hrun
    have hchan := onChan_chan (s := s) (err := noErr) (f := settleOut) n.isLt
    rw [hout] at hchan
    have hhalted := stopChannel_halted hwork (scanEnv s.toBlocks noErr n) 3 false
    rw [← hchan] at hhalted
    have hfaults := onChan_faults s noErr n settleOut
    rw [hout, stopChannel_events hwork] at hfaults
    refine ⟨hhalted.state, hhalted.stopCause, hhalted.gates, hhalted.edges, hhalted.queue, fun m hm => onChan_other hm,
      fun hitem => ?_, fun it hitem => ?_⟩
    · rw [hfaults, abandonEvents_of_none hitem]
      rfl
    · rw [hfaults, abandonEvents_of_some hitem]
      rfl
  case dwell =>
    have hend := endDwell_of_due (e := scanEnv s.toBlocks noErr n) hact hdue
    have hchan := onChan_chan (s := s) (err := noErr) (f := endDwell) n.isLt
    rw [hend] at hchan
    refine ⟨?_, fun m hm => onChan_other hm, ?_, ?_, fun r hactive hitem => ?_⟩
    · rw [onChan_faults, hend, posts_nil]
    · rw [hchan]
    · rw [hchan]
    · rw [hchan, completeActive_of_own hactive hitem]
  case throttle =>
    have hend := endThrottle_of_due (e := scanEnv s.toBlocks noErr n) hact hdue
    refine ⟨?_, ?_⟩
    · rw [onChan_faults, hend, posts_nil]
    · exact onChan_scan_eq_updI (congrArg Prod.fst hend)
  case node =>
    refine ⟨_, rfl, releaseNode_hide s n _ (by decide), ?_⟩
    rw [releaseNode_of_clean hgate hclean]
    rfl

end Sys2Proof.Proofs.ScanExecution

/-! Proofs about the scanner servo (07_scanner_servo R207, R208, R210, R211, R213, R215, Table 7.2) -/

namespace Sys2Proof.Proofs.ScannerServo

open Sys2Proof Sys2Proof.Machine Sys2Proof.Proofs.Timebase Sys2Proof.Proofs.HostLink

/-! An operation of one axis -/

@[simp] theorem onAxis_axes (s : State) (a : Nat) (f : ServoEnv → Axis → Axis × List Event) :
    (onAxis s a f).axes = updI s.axes a (fun _ => (f (servoEnv s.toBlocks a) (getI s.axes a)).1) := rfl

@[simp] theorem onAxis_faults (s : State) (a : Nat) (f : ServoEnv → Axis → Axis × List Event) :
    (onAxis s a f).faults = posts s (f (servoEnv s.toBlocks a) (getI s.axes a)).2 := rfl

/-- A command that runs the operation f on axis a, where f does the same as g to the axis as it stands and posts es. -/
theorem does_of_onAxis {c : Instr} {s : State} {a : Nat} {f : ServoEnv → Axis → Axis × List Event} {g : Axis → Axis}
    {es : List Event} (hexec : exec c s = .next (onAxis s a f))
    (h : f (servoEnv s.toBlocks a) (getI s.axes a) = (g (getI s.axes a), es)) :
    Does c s [.axes, .faults] (fun t => t.axes = updI s.axes a g ∧ t.faults = posts s es) := by
  refine ⟨_, hexec, onAxis_hide s a f _ (by decide) (by decide), ?_, ?_⟩
  · rw [onAxis_axes, updI_congr _ _ _ g (congrArg Prod.fst h)]
  · rw [onAxis_faults, h]

/-- A command that only changes axis a, by f, where f does the same as g to the axis as it stands. -/
theorem does_of_updAxis {c : Instr} {s : State} {a : Nat} {f g : Axis → Axis} (hexec : exec c s = .next (s.updAxis a f))
    (h : f (getI s.axes a) = g (getI s.axes a)) : Does c s [.axes] (fun t => t.axes = updI s.axes a g) :=
  ⟨_, hexec, State_updAxis_hide s a f _ (by decide), updI_congr _ _ _ _ h⟩

/-! What falls due on an axis (R207, R210, R213, R215, Table 7.2) -/

theorem completeCapture_of_captured {x : Axis} (hloop : x.loop = .capture) (hcaptured : x.captured = true) :
    completeCapture x = { x with loop := .closed, capture := none, captured := false, captures := inc32 x.captures } := by
  simp [completeCapture, hloop, hcaptured]

theorem endRamp_of_over {x : Axis} (hloop : x.loop = .ramp) (hover : x.rampLen ≤ x.rampStep) :
    endRamp x = { x with loop := .opened, u := 0, rampStep := 0 } := by
  simp [endRamp, hloop, hover]

/-- In CAPTURE and CLOSED a fault starts the ramp, and is latched unless another one is (R213). -/
theorem servoFault_of_running {x : Axis} (hloop : x.loop = .capture ∨ x.loop = .closed) (rampLen code : Nat) :
    servoFault rampLen code x =
      { enterRamp rampLen x with latched := if x.latched = 0 then code else x.latched, fault := true } := by
  obtain h | h := hloop <;> simp only [servoFault, h]

/-- A running axis after the fault 0x0702. -/
def followFaulted (rampLen : Nat) (x : Axis) : Axis :=
  { enterRamp rampLen x with
    latched := if x.latched = 0 then 0x0702 else x.latched, fault := true, followFaults := inc32 x.followFaults }

theorem followFault_of_due {v : ServoEnv} {x : Axis} (hloop : x.loop = .capture ∨ x.loop = .closed) (hcount : 0 < v.feCount)
    (hdue : v.feCount ≤ x.followRun) : followFault v x = (followFaulted v.rampLen x, [axisEvent v.a 0x0702 .stopJob []]) := by
  simp [followFault, followFaulted, servoFault_of_running hloop, hloop, hcount, hdue]

theorem saturated_of_due {v : ServoEnv} {x : Axis} (htime : 0 < v.satTime) (hdue : v.satTime ≤ x.satRun) (hposted : x.satPosted = false) :
    saturated v x = ({ x with satPosted := true }, [axisEvent v.a 0x0704 .warn []]) := by
  simp [saturated, htime, hdue, hposted]

theorem restoreTrust_of_due {v : ServoEnv} {x : Axis} (henable : v.enable = true) (htrusted : x.trusted = false) (hlatched : x.latched = 0)
    (hdue : v.trustCount ≤ x.trustRun) :
    restoreTrust v x = ({ x with trusted := true, trustedOnce := true, sensorFaulted := false },
      if x.sensorFaulted && x.trustedOnce then [axisEvent v.a 0x0707 .note []] else []) := by
  simp [restoreTrust, henable, htrusted, hlatched, hdue]

/-- The enable of an axis, as its engine reads it. -/
theorem servoEnv_enable {s : Blocks} {a : Nat} (h : s.objN (0x3200 + a) 0x00 ≠ 0) : (servoEnv s a).enable = true := bne_iff_ne.mpr h

/-! The close command of start-up (R211) -/

/-- The state in which the close command of axis a has been issued. -/
def closeMarked (s : State) (a : Nat) : State := s.updAxis a (fun x => { x with closeIssued := true })

/-- What R209 says of the close command of axis a, over the values that are pending or in force. -/
def closeCode (s : State) (a : Nat) : Nat := axisCommandCode s.toBlocks (fun i k => pendingVal s.dict i k) a 1

/-- The check of R209 does not look at the mark. -/
theorem closeCode_closeMarked (s : State) (a : Fin 96) : closeCode (closeMarked s a) a = closeCode s a := by
  have hmark : getI (closeMarked s a).axes a = { getI s.axes a with closeIssued := true } := getI_updI_self _ _ a.isLt _
  simp only [closeCode, axisCommandCode, hmark]
  rfl

section

variable {s : State} {a : Fin 96} (hdue : closeDue s.toBlocks a = true)

include hdue

/-- A close command that is due is marked as issued, and then refused with its abort code or staged and forwarded. -/
theorem startUpClose_of_due :
    startUpClose s a =
      if closeCode s a ≠ 0 then (closeMarked s a).post (axisEvent a 0x0708 .warn (leBytes 4 (closeCode s a)))
      else forwardGroup (stageValue (closeMarked s a) (0x3200 + a) 0x02 (.int 1)) [(0x3200 + a, 0x02, leBytes 1 1)] none := by
  simp only [startUpClose, hdue, Bool.not_true, Bool.false_eq_true, if_false, ← closeCode_closeMarked s a, bne_iff_ne]
  rfl

theorem startUpClose_of_accepted (hcode : closeCode s a = 0) (hpair : s.pair.st ≠ .active) :
    startUpClose s a = stageValue (closeMarked s a) (0x3200 + a) 0x02 (.int 1) := by
  rw [startUpClose_of_due hdue, if_neg (absurd hcode)]
  exact forwardGroup_of_not_active (s := stageValue (closeMarked s a) (0x3200 + a) 0x02 (.int 1)) hpair _ _

theorem startUpClose_of_refused {c : Nat} (hcode : closeCode s a = c) (hc : c ≠ 0) :
    startUpClose s a = (closeMarked s a).post (axisEvent a 0x0708 .warn (leBytes 4 c)) := by
  rw [startUpClose_of_due hdue, hcode, if_pos hc]

end

/-- Settles O25: each event that is due runs its one branch on its own axis, and the close of start-up is staged or refused as R209 says
of the axis before it was marked. -/
theorem axisEventsComplete : Obligations.AxisEventsComplete := by
  unfold Obligations.AxisEventsComplete
  refine ⟨fun s a hdue hcode hpair => ?accepted, fun s a c hdue hcode hc => ?refused,
    fun s a hloop hcaptured => does_of_updAxis rfl (completeCapture_of_captured hloop hcaptured),
    fun s a hloop hover => does_of_updAxis rfl (endRamp_of_over hloop hover),
    fun s a hloop hcount hdue => ?following,
    fun s a htime hdue hposted => does_of_onAxis rfl (saturated_of_due htime hdue hposted),
    fun s a henable htrusted hlatched hdue => does_of_onAxis rfl (restoreTrust_of_due (servoEnv_enable henable) htrusted hlatched hdue)⟩
  case accepted =>
    refine ⟨_, congrArg Host.Outcome.next (startUpClose_of_accepted hdue hcode hpair), ?_, rfl, rfl, rfl, rfl, rfl⟩
    exact (stageValue_hide _ _ _ _ _ (by decide)).trans (State_updAxis_hide s a _ _ (by decide))
  case refused =>
    refine ⟨_, congrArg Host.Outcome.next (startUpClose_of_refused hdue hcode hc), ?_, rfl, rfl⟩
    exact (State_post_hide _ _ _ (by decide)).trans (State_updAxis_hide s a _ _ (by decide))
  case following =>
    obtain ⟨t, hexec, hframe, haxes, hfaults⟩ := does_of_onAxis (c := .followingError a)
      (g := followFaulted (s.objN (0x3200 + a) 0x0E)) rfl (followFault_of_due hloop hcount hdue)
    have hself : getI t.axes a = followFaulted (s.objN (0x3200 + a) 0x0E) (getI s.axes a) := by rw [haxes, getI_updI_self _ _ a.isLt]
    have hothers : ∀ b, b ≠ a.val → getI t.axes b = getI s.axes b := fun b hb => by rw [haxes, getI_updI_ne _ _ _ hb]
    refine ⟨t, hexec, hframe, ?_⟩
    simp only [hself]
    exact ⟨rfl, rfl, rfl, rfl, rfl, rfl, rfl, hothers, hfaults⟩

end Sys2Proof.Proofs.ScannerServo

/-! Proofs about the responses of the field nodes (08_position_feedback R221, R224; 12_zhomon_link R302, R312, R314, R333; 13_dual_unit_operation
R343) -/

namespace Sys2Proof.Proofs.PositionFeedback

open Sys2Proof Sys2Proof.Machine Sys2Proof.Proofs.Timebase Sys2Proof.Proofs.ScannerServo

/-! The verdict on a frame of a node (R302) -/

theorem frameFault_of_codeError {h : NodeHead} (hcode : h.codeError = true) (p : Nat) (want : List Nat) : frameFault p want h = 1 :=
  if_pos hcode

theorem frameFault_of_crc {h : NodeHead} (hcode : h.codeError = false) (hcrc : h.crcOk = false) (p : Nat) (want : List Nat) :
    frameFault p want h = 2 := by
  simp [frameFault, hcode, hcrc]

/-- A response that fails a check is counted, and nothing else. -/
theorem execSensorResponse_of_fault {s : State} {n : Fin 32} {h : NodeHead} {k : Nat}
    (hfault : frameFault (32 + n) (requestSequences s.toBlocks (32 + n)) h = k) (hk : k ≠ 0) (p : SensorPayload) :
    exec (.sensorResponse n h p) s = .next (countFrame s (32 + n) k h) := by
  subst hfault
  exact congrArg Host.Outcome.next (if_pos (bne_iff_ne.mpr hk))

theorem execLaserStatus_of_fault {s : State} {n : Fin 32} {h : NodeHead} {k : Nat}
    (hfault : frameFault n (requestSequences s.toBlocks n) h = k) (hk : k ≠ 0) (p : LaserPayload) :
    exec (.laserStatus n h p) s = .next (countFrame s n k h) := by
  subst hfault
  exact congrArg Host.Outcome.next (if_pos (bne_iff_ne.mpr hk))

/-- A conditional is one of its two branches. -/
theorem ite_or {α : Type} (c : Prop) [Decidable c] (a b : α) : (if c then a else b) = a ∨ (if c then a else b) = b := by
  by_cases h : c
  · exact .inl (if_pos h)
  · exact .inr (if_neg h)

/-! What a valid response leaves in its port (R302, Tables 12.14, 12.15) -/

/-- A port without its record of the events posted. -/
def unposted (x : ZlPort) : ZlPort := { x with posted := [] }

/-- The event of a port is posted and recorded in its port, or held back (R331). -/
theorem portPost_eq (s : State) (p code : Nat) (sev : Severity) :
    portPost s p code sev =
        (s.updPort p (fun x => { x with posted := (code, s.now) :: x.posted.filter (fun e => e.1 != code) })).post
          (mkEvent (.zl p) code sev .zlPort p []) ∨
      portPost s p code sev = s :=
  ite_or _ _ _

theorem portPost_port (s : State) (p code : Nat) (sev : Severity) (q : Nat) :
    unposted (getI (portPost s p code sev).link.ports q) = unposted (getI s.link.ports q) := by
  obtain h | h := portPost_eq s p code sev
  · simp only [h, post_keeps, updPort_link, getI_updI]
    split
    · next hq => rw [hq.1]; rfl
    · rfl
  · rw [h]

theorem portPost_lasers (s : State) (p code : Nat) (sev : Severity) : (portPost s p code sev).link.lasers = s.link.lasers := by
  obtain h | h := portPost_eq s p code sev <;> rw [h]
  rfl

/-- The port x after a valid response with a temperature and a count of missed commands: counted, no longer waiting for slot 0. -/
structure Answered (x : ZlPort) (temperature : Int) (missed : Nat) (y : ZlPort) : Prop where
  valid : y.counts.valid = (x.counts.valid + 1) % 2 ^ 32
  slot0 : y.slot0 = none
  answered : y.answered = true
  temperature : y.temperature = temperature
  missedCount : y.missedCount = missed

/-- None of it is in the record of the events posted. -/
theorem Answered.of_unposted {x y z : ZlPort} {temperature : Int} {missed : Nat} (h : Answered x temperature missed y)
    (heq : unposted z = unposted y) : Answered x temperature missed z where
  valid := (congrArg (fun z : ZlPort => z.counts.valid) heq).trans h.valid
  slot0 := (congrArg ZlPort.slot0 heq).trans h.slot0
  answered := (congrArg ZlPort.answered heq).trans h.answered
  temperature := (congrArg ZlPort.temperature heq).trans h.temperature
  missedCount := (congrArg ZlPort.missedCount heq).trans h.missedCount

/-- A port whose node has reported its temperature and its count of missed commands, which rose or not. -/
def noted (temperature : Int) (missed : Nat) (rose : Bool) (x : ZlPort) : ZlPort :=
  { x with
    temperature, missedCount := missed, missedKnown := true, missedPosted := x.missedPosted || rose, slot0 := none, answered := true }

/-- The report is noted, and event 0x0C07 posted where it is due. -/
theorem noteNode_eq (s : State) (p : Nat) (temperature : Int) (missed : Nat) :
    ∃ rose, noteNode s p temperature missed = portPost (s.updPort p (noted temperature missed rose)) p 0x0C07 .note ∨
      noteNode s p temperature missed = s.updPort p (noted temperature missed rose) :=
  ⟨_, ite_or _ _ _⟩

theorem noteNode_lasers (s : State) (p : Nat) (temperature : Int) (missed : Nat) :
    (noteNode s p temperature missed).link.lasers = s.link.lasers := by
  obtain ⟨rose, h | h⟩ := noteNode_eq s p temperature missed
  · rw [h, portPost_lasers]
    rfl
  · rw [h]
    rfl

/-- The port holds the report, whatever has been posted. -/
theorem noteNode_port (s : State) {p : Nat} (hp : p < 64) (temperature : Int) (missed : Nat) :
    ∃ rose, unposted (getI (noteNode s p temperature missed).link.ports p) =
      unposted (noted temperature missed rose (getI s.link.ports p)) := by
  obtain ⟨rose, h⟩ := noteNode_eq s p temperature missed
  refine ⟨rose, ?_⟩
  obtain h | h := h
  · rw [h, portPost_port, updPort_link, getI_updI_self _ _ hp]
  · rw [h, updPort_link, getI_updI_self _ _ hp]

/-- The state in which a valid response has been counted, noted and mirrored, before its own values are put down. -/
def responded (s : State) (p : Nat) (h : NodeHead) (temperature : Int) (missed : Nat) (e : MirrorEntry) : State :=
  mirrorOut (noteNode (countFrame s p 0 h) p temperature missed) e

section

variable (s : State) (p : Nat) (h : NodeHead) (temperature : Int) (missed : Nat) (e : MirrorEntry)

theorem responded_sameBut : sameBut [.faults, .link, .out, .pair] s (responded s p h temperature missed e) := by
  simp [sameBut, responded]

theorem responded_link : (responded s p h temperature missed e).link = (noteNode (countFrame s p 0 h) p temperature missed).link :=
  eq_of_sameBut (ps := [.pair, .out]) (·.link) (mirrorOut_hide _ e _ (by decide) (by decide)) fun _ => rfl

theorem responded_lasers : (responded s p h temperature missed e).link.lasers = s.link.lasers := by
  rw [responded_link, noteNode_lasers]
  rfl

theorem countFrame_valid_port (hp : p < 64) :
    getI (countFrame s p 0 h).link.ports p =
      { getI s.link.ports p with
        freed := ((getI s.link.ports p).freed + 1) % 256, echoUnit := h.unit, echoClaim := h.claim
        counts := { (getI s.link.ports p).counts with valid := ((getI s.link.ports p).counts.valid + 1) % 2 ^ 32 } } :=
  getI_updI_self _ _ hp _

theorem responded_port (hp : p < 64) :
    Answered (getI s.link.ports p) temperature missed (getI (responded s p h temperature missed e).link.ports p) := by
  rw [responded_link]
  obtain ⟨rose, hnoted⟩ := noteNode_port (countFrame s p 0 h) hp temperature missed
  refine Answered.of_unposted ?_ hnoted
  rw [countFrame_valid_port s p h hp]
  exact ⟨rfl, rfl, rfl, rfl, rfl⟩

end

/-! A word of an axis (R221, R224–R229) -/

/-- A word that passes every check gives its position. -/
theorem checkWord_of_passes {v : ServoEnv} {x : Axis} {w : SensorWord} (hpass : wordReason v x.fb w = 0) :
    (checkWord v x w).1.y = ofBits 24 (swPosition w) ∧ (checkWord v x w).1.fb.valid = true := by
  simp [checkWord, hpass]

/-- The checks of a word read objects in force and nothing else of the device. -/
theorem wordReason_congr {s t : Blocks} (hdict : t.dict = s.dict) (a : Nat) (fb : Feedback) (w : SensorWord) :
    wordReason (servoEnv t a) fb w = wordReason (servoEnv s a) fb w := by
  have hcorrected : ∀ w, corrected (servoEnv t a) w = corrected (servoEnv s a) w := fun w => by
    simp only [corrected, servoEnv, Blocks.objI, hdict]
  have hquadrant : quadrantFails (servoEnv t a) fb w = quadrantFails (servoEnv s a) fb w := by simp only [quadrantFails, hcorrected]
  have hlimits : (servoEnv t a).statusMask = (servoEnv s a).statusMask ∧ (servoEnv t a).ampMin = (servoEnv s a).ampMin ∧
      (servoEnv t a).ampMax = (servoEnv s a).ampMax := by
    simp only [servoEnv, Blocks.objI, hdict, and_self]
  obtain ⟨hmask, hmin, hmax⟩ := hlimits
  simp only [wordReason, hcorrected, hquadrant, hmask, hmin, hmax]

theorem axisEnabled_congr {s t : Blocks} (hdict : t.dict = s.dict) (a : Nat) : axisEnabled t a = axisEnabled s a := by
  simp only [axisEnabled, Blocks.objB, Blocks.objI, hdict]

/-- The first word of an axis moves its set-points and no axis (R491). -/
theorem wordArrives_axes_of_enabled {s : State} {a : Nat} (henabled : axisEnabled s.toBlocks a = true) (w : SensorWord) :
    (wordArrives s a w).axes = updI s.axes a (fun _ => (checkWord (servoEnv s.toBlocks a) (getI s.axes a) w).1) := by
  simp only [wordArrives, henabled, if_true]
  split <;> rfl

theorem wordArrives_other {s : State} {a b : Nat} (hb : b ≠ a) (w : SensorWord) : getI (wordArrives s a w).axes b = getI s.axes b := by
  cases henabled : axisEnabled s.toBlocks a with
  | true => rw [wordArrives_axes_of_enabled henabled, getI_updI_ne _ _ _ hb]
  | false => simp [wordArrives, henabled]

theorem wordArrives_of_passes {s : State} {a : Nat} {w : SensorWord} (ha : a < 96) (henabled : axisEnabled s.toBlocks a = true)
    (hpass : wordReason (servoEnv s.toBlocks a) (getI s.axes a).fb w = 0) :
    (getI (wordArrives s a w).axes a).y = ofBits 24 (swPosition w) ∧ (getI (wordArrives s a w).axes a).fb.valid = true := by
  rw [wordArrives_axes_of_enabled henabled, getI_updI_self _ _ ha]
  exact checkWord_of_passes hpass

/-! Operations on the axes of one scanner, one after another -/

section

variable {f : State → Nat → State} {base : Nat} (hother : ∀ s q b, b ≠ base + q → getI (f s q).axes b = getI s.axes b)

include hother

theorem forI_axes_other (s : State) (k b : Nat) (hb : ∀ q < k, b ≠ base + q) : getI (forI k s f).axes b = getI s.axes b := by
  induction k with
  | zero => rfl
  | succ k ih => rw [forI_succ, hother _ _ _ (hb k k.lt_succ_self), ih fun q hq => hb q (Nat.lt_succ_of_lt hq)]

/-- The step of an axis finds it as it was, and those that come later leave it. -/
theorem forI_axes_own (s : State) {k q : Nat} (hq : q < k) :
    getI (forI k s f).axes (base + q) = getI (f (forI q s f) q).axes (base + q) ∧
      getI (forI q s f).axes (base + q) = getI s.axes (base + q) := by
  refine ⟨?_, forI_axes_other hother s q _ fun r hr => by omega⟩
  induction k with
  | zero => omega
  | succ k ih =>
    rw [forI_succ]
    obtain hlt | rfl := Nat.lt_succ_iff_lt_or_eq.mp hq
    · rw [hother _ _ _ (by omega), ih hlt]
    · rfl

end

/-! A sensor response (R312) -/

/-- The word of axis q of the scanner (Table 12.7). -/
def wordOf (p : SensorPayload) (q : Nat) : SensorWord := if q = 0 then p.wordX else if q = 1 then p.wordY else p.wordF

/-- The word of axis q of scanner n, where the response holds one. -/
def takeWord (n : Nat) (p : SensorPayload) (s : State) (q : Nat) : State :=
  if bit p.wordMask q then wordArrives s (3 * n + q) (wordOf p q) else s

section

variable (n : Nat) (p : SensorPayload) (s : State)

theorem takeWord_hide (q : Nat) (ps : List Part) (hfaults : .faults ∈ ps) (hscan : .scan ∈ ps) (haxes : .axes ∈ ps) :
    (takeWord n p s q).hide ps = s.hide ps := by
  unfold takeWord
  split
  · exact wordArrives_hide s _ _ ps hfaults hscan haxes
  · rfl

theorem takeWord_other (q b : Nat) (hb : b ≠ 3 * n + q) : getI (takeWord n p s q).axes b = getI s.axes b := by
  unfold takeWord
  split
  · exact wordArrives_other hb _
  · rfl

theorem takeWords_hide (k : Nat) (ps : List Part) (hfaults : .faults ∈ ps) (hscan : .scan ∈ ps) (haxes : .axes ∈ ps) :
    (forI k s (takeWord n p)).hide ps = s.hide ps :=
  forI_hide k s ps _ fun s q => takeWord_hide n p s q ps hfaults hscan haxes

theorem takeWords_sameBut (k : Nat) : sameBut [.faults, .scan, .axes] s (forI k s (takeWord n p)) :=
  takeWords_hide n p s k _ (by decide) (by decide) (by decide)

theorem takeWords_dict (k : Nat) : (forI k s (takeWord n p)).dict = s.dict :=
  eq_of_sameBut (·.dict) (takeWords_sameBut n p s k) fun _ => rfl

theorem takeWords_other {a : Nat} (ha : a / 3 ≠ n) : getI (forI 3 s (takeWord n p)).axes a = getI s.axes a :=
  forI_axes_other (takeWord_other n p) s 3 a fun q hq => by omega

variable {q : Nat} (hq : q < 3)

include hq

theorem takeWords_of_absent (hmask : bit p.wordMask q = false) :
    getI (forI 3 s (takeWord n p)).axes (3 * n + q) = getI s.axes (3 * n + q) := by
  obtain ⟨hown, hbefore⟩ := forI_axes_own (takeWord_other n p) s hq
  rw [hown, takeWord, hmask, if_neg Bool.false_ne_true, hbefore]

theorem takeWords_of_passes (hn : n < 32) (hmask : bit p.wordMask q = true) (henabled : axisEnabled s.toBlocks (3 * n + q) = true)
    (hpass : wordReason (servoEnv s.toBlocks (3 * n + q)) (getI s.axes (3 * n + q)).fb (wordOf p q) = 0) :
    (getI (forI 3 s (takeWord n p)).axes (3 * n + q)).y = ofBits 24 (swPosition (wordOf p q)) ∧
      (getI (forI 3 s (takeWord n p)).axes (3 * n + q)).fb.valid = true := by
  obtain ⟨hown, hbefore⟩ := forI_axes_own (takeWord_other n p) s hq
  have hdict := takeWords_dict n p s q
  rw [hown, takeWord, hmask, if_pos rfl]
  refine wordArrives_of_passes (by omega) ?_ ?_
  · rw [axisEnabled_congr hdict, henabled]
  · rw [wordReason_congr hdict, hbefore, hpass]

end

/-- The state in which the words of a valid sensor response are checked. -/
def sensed (s : State) (n : Nat) (h : NodeHead) (p : SensorPayload) (e : MirrorEntry) : State :=
  (responded s (32 + n) h p.temperature p.missed e).updLaser n (fun x => { x with amp := some p.ampStatus })

theorem execSensorResponse_of_valid {s : State} {n : Fin 32} {h : NodeHead}
    (hvalid : frameFault (32 + n) (requestSequences s.toBlocks (32 + n)) h = 0) (p : SensorPayload) :
    exec (.sensorResponse n h p) s = .next
      (forI 3 (sensed s n h p (.scanner n p.wordMask p.ampStatus p.wordX p.wordY p.wordF)) (takeWord n p)) := by
  change execSensorResponse n h p s = _
  simp only [execSensorResponse, hvalid, bne_self_eq_false, Bool.false_eq_true, if_false, beq_iff_eq]
  rfl

section

variable (s : State) (n : Nat) (h : NodeHead) (p : SensorPayload) (e : MirrorEntry)

theorem sensed_sameBut : sameBut [.faults, .link, .out, .pair] s (sensed s n h p e) :=
  (State_updLaser_hide _ _ _ _ (by decide)).trans (responded_sameBut s _ h _ _ e)

theorem sensed_axes : (sensed s n h p e).axes = s.axes := eq_of_sameBut (·.axes) (sensed_sameBut s n h p e) fun _ => rfl

theorem sensed_dict : (sensed s n h p e).dict = s.dict := eq_of_sameBut (·.dict) (sensed_sameBut s n h p e) fun _ => rfl

theorem sensed_amp (hn : n < 32) : (getI (sensed s n h p e).link.lasers n).amp = some p.ampStatus :=
  congrArg LaserNode.amp (getI_updI_self _ _ hn _)

/-- The words of a response leave what it has put down in the link. -/
theorem takeWords_sensed_link : (forI 3 (sensed s n h p e) (takeWord n p)).link = (sensed s n h p e).link :=
  eq_of_sameBut (·.link) (takeWords_sameBut n p _ 3) fun _ => rfl

theorem takeWords_sensed_frame :
    sameBut [.axes, .faults, .link, .out, .pair, .scan] s (forI 3 (sensed s n h p e) (takeWord n p)) := by
  refine (takeWords_hide n p _ 3 _ (by decide) (by decide) (by decide)).trans ?_
  simp [sensed, responded]

end

/-! A status of a laser node (R314, R333) -/

/-- What is held of a laser node after its status, whose alarm bit is counted. -/
def reported (p : LaserPayload) (x : LaserNode) : LaserNode :=
  { x with
    power := p.power, backReflection := p.backReflection, last := p.status, status := some p.status
    alarms := if bit p.status 1 then inc32 x.alarms else x.alarms }

/-- The state that a valid status of a laser node leaves. -/
def lased (s : State) (n : Nat) (h : NodeHead) (p : LaserPayload) (e : MirrorEntry) : State :=
  (responded s n h p.temperature p.missed e).updLaser n (reported p)

theorem execLaserStatus_of_valid {s : State} {n : Fin 32} {h : NodeHead}
    (hvalid : frameFault n (requestSequences s.toBlocks n) h = 0) (p : LaserPayload) :
    exec (.laserStatus n h p) s = .next (lased s n h p (.laser n p.status)) := by
  change execLaserStatus n h p s = _
  simp only [execLaserStatus, hvalid, bne_self_eq_false, Bool.false_eq_true, if_false]
  rfl

theorem lased_sameBut (s : State) (n : Nat) (h : NodeHead) (p : LaserPayload) (e : MirrorEntry) :
    sameBut [.faults, .link, .out, .pair] s (lased s n h p e) :=
  (State_updLaser_hide _ _ _ _ (by decide)).trans (responded_sameBut s n h _ _ e)

theorem lased_laser (s : State) {n : Nat} (hn : n < 32) (h : NodeHead) (p : LaserPayload) (e : MirrorEntry) :
    getI (lased s n h p e).link.lasers n = reported p (getI s.link.lasers n) := by
  rw [lased, updLaser_link, getI_updI_self _ _ hn, responded_lasers]

/-- Settles O26: a valid response is counted and noted in its port, then puts its values down, a sensor response its words axis by axis,
of which none looks at what those before it have changed; a faulty one ends with its count. -/
theorem nodeResponsesComplete : Obligations.NodeResponsesComplete := by
  unfold Obligations.NodeResponsesComplete
  refine ⟨fun s n h p hvalid => ?sensor, fun s n h p hcode hcrc => ?sensorFault, fun s n h p hvalid => ?laser, fun s n h p hcode => ?laserFault⟩
  case sensor =>
    refine ⟨_, execSensorResponse_of_valid hvalid p, takeWords_sensed_frame s n h p _, ?_⟩
    have hn := n.isLt
    obtain ⟨hcount, hslot, hanswered, htemperature, hmissed⟩ := responded_port s (32 + n) h p.temperature p.missed
      (.scanner n p.wordMask p.ampStatus p.wordX p.wordY p.wordF) (by omega)
    simp only [takeWords_sensed_link]
    refine ⟨hcount, hslot, hanswered, htemperature, hmissed, sensed_amp s n h p _ hn, fun a ha => ?_, fun q hq => ⟨fun hmask => ?_,
      fun hmask henabled hpass => ?_⟩⟩
    · rw [takeWords_other n p _ ha, sensed_axes]
    · rw [takeWords_of_absent n p _ hq hmask, sensed_axes]
    · refine takeWords_of_passes n p _ hq hn hmask ?_ ?_
      · rw [axisEnabled_congr (sensed_dict s n h p _), henabled]
      · rw [wordReason_congr (sensed_dict s n h p _), sensed_axes]
        exact hpass
  case sensorFault =>
    refine ⟨_, execSensorResponse_of_fault (frameFault_of_crc hcode hcrc _ _) (by decide) p, ?_, rfl, rfl⟩
    exact countFrame_hide s _ _ h _ (by decide) (by decide)
  case laser =>
    refine ⟨_, execLaserStatus_of_valid hvalid p, lased_sameBut s n h p _, ?_⟩
    obtain ⟨hcount, hslot, hanswered, htemperature, hmissed⟩ := responded_port s n h p.temperature p.missed (.laser n p.status) (by omega)
    have hlaser := lased_laser s n.isLt h p (.laser n p.status)
    exact ⟨hcount, hslot, hanswered, htemperature, hmissed, congrArg LaserNode.power hlaser, congrArg LaserNode.backReflection hlaser,
      congrArg LaserNode.status hlaser, congrArg LaserNode.alarms hlaser⟩
  case laserFault =>
    refine ⟨_, execLaserStatus_of_fault (frameFault_of_codeError hcode _ _) (by decide) p, ?_, rfl, rfl⟩
    exact countFrame_hide s _ _ h _ (by decide) (by decide)

end Sys2Proof.Proofs.PositionFeedback

/-! Proofs about the camera pipeline (09_camera_pipeline R233, R235–R238, R243–R245, R247, R248, R255, R256): packets and frames of the camera
streams, and pulses, deliveries, link errors and control transactions of the ports. -/

namespace Sys2Proof.Proofs.CameraPipeline

open Sys2Proof Sys2Proof.Machine Sys2Proof.Proofs.Timebase Sys2Proof.Proofs.HostLink

/-! Settings of contexts and streams (R240) -/

section

variable {s t : Blocks} (hdict : t.dict = s.dict)

include hdict

theorem objN_congr (index sub : Nat) : t.objN index sub = s.objN index sub := by simp only [Blocks.objN, Blocks.objI, hdict]

theorem boundCtxs_congr (c v : Nat) : boundCtxs t c v = boundCtxs s c v := by simp only [boundCtxs, ctxN, objN_congr hdict]

theorem streamCtxs_congr (c v : Nat) : streamCtxs t c v = streamCtxs s c v := by
  simp only [streamCtxs, boundCtxs_congr hdict, Blocks.objB, Blocks.objI, hdict]

end

theorem streamCtxs_nodup (s : Blocks) (c v : Nat) : (streamCtxs s c v).Nodup := (List.nodup_range.filter _).filter _

/-! An event of the pipeline (R257) -/

section

variable (s : State) (code : Nat) (sev : Severity) (kind : SourceKind) (inst frame : Nat)

/-- Of the cameras an event changes the time of its last post. -/
theorem camPost_cams :
    (camPost s code sev kind inst frame).cams = { s.cams with posted := (camPost s code sev kind inst frame).cams.posted } := by
  unfold camPost
  dsimp only
  split <;> rfl

@[simp] theorem camPost_ports : (camPost s code sev kind inst frame).cams.ports = s.cams.ports := by
  rw [camPost_cams]

@[simp] theorem camPost_ctxs : (camPost s code sev kind inst frame).cams.ctxs = s.cams.ctxs := by
  rw [camPost_cams]

@[simp] theorem camPost_melt : (camPost s code sev kind inst frame).melt = s.melt :=
  eq_of_sameBut (·.melt) (camPost_hide s code sev kind inst frame [.faults, .cams] (by decide) (by decide)) fun _ => rfl

end

/-! What the close of a frame does to its context (R245, R246, R252–R256) -/

/-- The features of a closed frame as its context keeps them. -/
def featured (i : Nat) (f : FrameAcc) (flags : Nat) (set : FeatureSet) (x : ImageCtx) : ImageCtx :=
  { x with
    lastRecord := featureRecord i set
    ready := if bit flags flagLATE || decide (32 ≤ f.cfg.channel) then x.ready else x.ready ++ [(f.cfg.channel, set)] }

theorem takeFeatures_of_none {f : FrameAcc} (h : bit f.cfg.stats 2 = false) (s : State) (i flags : Nat) : takeFeatures s i f flags = s := by
  simp [takeFeatures, h]

theorem takeFeatures_cams {f : FrameAcc} (h : bit f.cfg.stats 2 = true) (s : State) (i flags : Nat) :
    (takeFeatures s i f flags).cams = (s.updCtx i (featured i f flags (closedSet s f flags))).cams := by
  simp only [takeFeatures, h, Bool.not_true, Bool.false_eq_true, if_false]
  split <;> rfl

/-- The context of a frame that closes with these flags, but for its features. -/
def closedCtx (f : FrameAcc) (flags : Nat) (x : ImageCtx) : ImageCtx :=
  let y := countFrameClosed { x with frames := x.frames.filter (fun g => g.serial != f.serial)
                                     late := x.late.filter (fun k => k != f.index) } f flags
  if bit flags 0 then takeImage (takeStats y f) f else y

/-- What an image output leaves of its context. -/
theorem takeImage_eq (x : ImageCtx) (f : FrameAcc) :
    takeImage x f = { x with images := (takeImage x f).images, armed := (takeImage x f).armed } := by
  unfold takeImage
  split <;> rfl

/-- The frames and the counts of a context after the close. -/
theorem closedCtx_counts (f : FrameAcc) (flags : Nat) (x : ImageCtx) :
    (closedCtx f flags x).frames = x.frames.filter (fun g => g.serial != f.serial) ∧ (closedCtx f flags x).duplicates = x.duplicates ∧
    (closedCtx f flags x).received = inc32 x.received ∧
    (closedCtx f flags x).truncated = if bit flags flagTRUNCATED then inc32 x.truncated else x.truncated := by
  unfold closedCtx
  dsimp only
  split
  · rw [takeImage_eq]
    exact ⟨rfl, rfl, rfl, rfl⟩
  · exact ⟨rfl, rfl, rfl, rfl⟩

/-- The state in which a frame is closed but for its features. -/
def closeNoted (s : State) (i : Nat) (f : FrameAcc) (flags : Nat) : State :=
  let s := s.updCtx i (closedCtx f flags)
  let s := if bit flags flagTRUNCATED then camPost s 0x0902 .warn .imageContext i f.index else s
  let s := if bit flags flagLONG then camPost s 0x0903 .note .imageContext i f.index else s
  if bit flags flagBAD then camPost s 0x0904 .warn .imageContext i f.index else s

/-- The flags with which a frame of context i closes. -/
def flagsAtClose (s : State) (i : Nat) (f : FrameAcc) : Nat := closedFlags f ((getI s.cams.ctxs i).late.contains f.index)

theorem closeFrame_eq (s : State) (i : Nat) (f : FrameAcc) :
    closeFrame s i f = takeFeatures (closeNoted s i f (flagsAtClose s i f)) i f (flagsAtClose s i f) := rfl

theorem closeNoted_ctxs (s : State) (i : Nat) (f : FrameAcc) (flags : Nat) :
    (closeNoted s i f flags).cams.ctxs = updI s.cams.ctxs i (closedCtx f flags) := by
  unfold closeNoted
  dsimp only
  (repeat' split) <;> simp

/-- A part of a context that an update of one context leaves. -/
theorem getI_updI_keeps {α β : Type} [Inhabited α] {n : Nat} (v : Vector α n) (i k : Nat) {f : α → α} {g : α → β}
    (h : ∀ x, g (f x) = g x) : g (getI (updI v i f) k) = g (getI v k) := by
  rw [getI_updI]
  split
  · next hk =>
    obtain ⟨rfl, -⟩ := hk
    exact h _
  · rfl

section

variable {β : Type} {g : ImageCtx → β}
  (hg : ∀ (x : ImageCtx) (b : Bytes) (l : List (Nat × FeatureSet)), g { x with lastRecord := b, ready := l } = g x)

include hg

/-- What is no feature of a context stays as its features are taken. -/
theorem takeFeatures_ctx (s : State) (i : Nat) (f : FrameAcc) (flags k : Nat) :
    g (getI (takeFeatures s i f flags).cams.ctxs k) = g (getI s.cams.ctxs k) := by
  cases h : bit f.cfg.stats 2 with
  | false => rw [takeFeatures_of_none h]
  | true =>
    rw [takeFeatures_cams h, updCtx_cams]
    exact getI_updI_keeps _ _ _ fun x => hg x _ _

theorem closeFrame_ctx (s : State) (i : Nat) (f : FrameAcc) (k : Nat) :
    g (getI (closeFrame s i f).cams.ctxs k) = g (getI (updI s.cams.ctxs i (closedCtx f (flagsAtClose s i f))) k) := by
  rw [closeFrame_eq, takeFeatures_ctx hg, closeNoted_ctxs]

end

section

variable (s : State) (i : Nat) (f : FrameAcc)

theorem closeFrame_duplicates (k : Nat) : (getI (closeFrame s i f).cams.ctxs k).duplicates = (getI s.cams.ctxs k).duplicates := by
  rw [closeFrame_ctx (g := (·.duplicates)) fun _ _ _ => rfl]
  refine getI_updI_keeps (g := ImageCtx.duplicates) _ _ _ fun x => ?_
  obtain ⟨-, hduplicates, -⟩ := closedCtx_counts f (flagsAtClose s i f) x
  exact hduplicates

variable (hi : i < 128)

include hi

theorem closeFrame_frames :
    (getI (closeFrame s i f).cams.ctxs i).frames = (getI s.cams.ctxs i).frames.filter (fun g => g.serial != f.serial) := by
  rw [closeFrame_ctx (g := (·.frames)) fun _ _ _ => rfl, getI_updI_self _ _ hi]
  obtain ⟨hframes, -⟩ := closedCtx_counts f (flagsAtClose s i f) (getI s.cams.ctxs i)
  exact hframes

theorem closeFrame_received : (getI (closeFrame s i f).cams.ctxs i).received = inc32 (getI s.cams.ctxs i).received := by
  rw [closeFrame_ctx (g := (·.received)) fun _ _ _ => rfl, getI_updI_self _ _ hi]
  obtain ⟨-, -, hreceived, -⟩ := closedCtx_counts f (flagsAtClose s i f) (getI s.cams.ctxs i)
  exact hreceived

theorem closeFrame_truncated (h : bit (flagsAtClose s i f) flagTRUNCATED = true) :
    (getI (closeFrame s i f).cams.ctxs i).truncated = inc32 (getI s.cams.ctxs i).truncated := by
  rw [closeFrame_ctx (g := (·.truncated)) fun _ _ _ => rfl, getI_updI_self _ _ hi]
  obtain ⟨-, -, -, htruncated⟩ := closedCtx_counts f (flagsAtClose s i f) (getI s.cams.ctxs i)
  rw [htruncated, if_pos h]

end

/-! What work on contexts leaves of the ports -/

/-- The cameras but for their contexts and the times of the last posts: the ports, and the port whose turn it is. -/
def portSide (s : State) : Vector CamPort 20 × Nat := (s.cams.ports, s.cams.turn)

theorem updCtx_portSide (s : State) (i : Nat) (f : ImageCtx → ImageCtx) : portSide (s.updCtx i f) = portSide s := rfl

theorem camPost_portSide (s : State) (code : Nat) (sev : Severity) (kind : SourceKind) (inst frame : Nat) :
    portSide (camPost s code sev kind inst frame) = portSide s := by rw [portSide, camPost_cams]; rfl

theorem closeNoted_portSide (s : State) (i : Nat) (f : FrameAcc) (flags : Nat) : portSide (closeNoted s i f flags) = portSide s := by
  unfold closeNoted
  dsimp only
  (repeat' split) <;> simp only [camPost_portSide, updCtx_portSide]

theorem takeFeatures_portSide (s : State) (i : Nat) (f : FrameAcc) (flags : Nat) : portSide (takeFeatures s i f flags) = portSide s := by
  cases h : bit f.cfg.stats 2 with
  | false => rw [takeFeatures_of_none h]
  | true => rw [portSide, takeFeatures_cams h]; rfl

theorem closeFrame_portSide (s : State) (i : Nat) (f : FrameAcc) : portSide (closeFrame s i f) = portSide s := by
  rw [closeFrame_eq, takeFeatures_portSide, closeNoted_portSide]

theorem closeEnded_portSide (s : State) (c v i : Nat) : portSide (closeEnded s c v i) = portSide s :=
  foldl_keeps _ portSide (fun s f => closeFrame_portSide s i f) s

theorem closeStream_portSide (s : State) (c v : Nat) : portSide (closeStream s c v) = portSide s :=
  foldl_keeps _ portSide (fun s i => closeEnded_portSide s c v i) s

theorem flagFrames_portSide (s : State) (c v k : Nat) : portSide (flagFrames s c v k) = portSide s :=
  foldl_keeps _ portSide (fun s i => updCtx_portSide s i _) s

theorem endFrames_portSide (s : State) (c v : Nat) : portSide (endFrames s c v) = portSide s :=
  foldl_keeps _ portSide (fun s i => updCtx_portSide s i _) s

theorem truncateOpen_portSide (s : State) (c v : Nat) : portSide (truncateOpen s c v) = portSide s := by
  unfold truncateOpen
  dsimp only
  split
  · rw [closeStream_portSide, endFrames_portSide, flagFrames_portSide]
  · rfl

theorem frameValues_cams (s : State) (i : Nat) : (frameValues s i).cams = s.cams := rfl

theorem frameValues_portSide (s : State) (i : Nat) : portSide (frameValues s i) = portSide s := by rw [portSide, frameValues_cams]; rfl

theorem beginFrame_portSide (s : State) (i serial index start : Nat) (untriggered : Bool) :
    portSide (beginFrame s i serial index start untriggered) = portSide s := rfl

theorem ports_eq {s t : State} (h : portSide t = portSide s) : t.cams.ports = s.cams.ports := congrArg Prod.fst h

theorem turn_eq {s t : State} (h : portSide t = portSide s) : t.cams.turn = s.cams.turn := congrArg Prod.snd h

/-! A packet of a stream (R232, R233, R245, Table 9.2) -/

/-- The state in which a readable packet header has been counted. -/
def headed (s : State) (c : Nat) (h : CsiHeader) : State :=
  s.updPortC c (fun p => { p with link := 3, ecc := if h.corrected then inc32 p.ecc else p.ecc })

theorem checkHeader_of_good {c v : Nat} {h : CsiHeader} (hbad : h.bad = false) (hvcx : h.vcx = false) (hvc : vcAccepted c v = true) (s : State) :
    checkHeader s c v h = (headed s c h, true) := by
  simp [checkHeader, hbad, hvcx, hvc, headed]

theorem checkHeader_of_ignored {c v : Nat} {h : CsiHeader} (hbad : h.bad = false) (hignored : h.vcx = true ∨ vcAccepted c v = false) (s : State) :
    checkHeader s c v h = (ignorePacket (headed s c h) c, false) := by
  obtain hvcx | hvc := hignored
  · simp [checkHeader, hbad, hvcx, headed, ignorePacket]
  · simp [checkHeader, hbad, hvc, headed, ignorePacket]

/-- A header beyond correction is counted, and drops the rest of a frame in progress (R245). -/
theorem checkHeader_of_bad {h : CsiHeader} (hbad : h.bad = true) (s : State) (c v : Nat) :
    checkHeader s c v h =
      (let t := (headed s c h).updPortC c (fun p => { p with headers := inc32 p.headers })
       (if (getI (getI t.cams.ports c).streams v).isOpen then dropRest t c v flagBAD else t, false)) := by
  simp [checkHeader, hbad, headed]

/-- What a packet on port c does: a port that takes none leaves s, and on s' its header is checked before its work is done. -/
def packetWork (s s' : State) (c v : Nat) (h : CsiHeader) (work : State → State) : State :=
  if portAccepts s.toBlocks c then
    if (checkHeader s' c v h).2 then work (checkHeader s' c v h).1 else (checkHeader s' c v h).1
  else s

theorem execFrameStart_eq (s : State) (c : Fin 20) (vc : Fin 4) (h : CsiHeader) :
    exec (.frameStart c vc h) s = .next (packetWork s (s.atClock h.clk) c vc h (frameStarts · c vc)) := rfl

theorem execLongPacket_eq (s : State) (c : Fin 20) (vc : Fin 4) (h : CsiHeader) (dataType : Nat) (payload : Bytes) (crcOk : Bool) :
    exec (.longPacket c vc h dataType payload crcOk) s = .next (packetWork s s c vc h (linePacket · c vc dataType payload crcOk)) := rfl

theorem execFrameEnd_eq (s : State) (c : Fin 20) (vc : Fin 4) (h : CsiHeader) :
    exec (.frameEnd c vc h) s = .next (packetWork s s c vc h (frameEnds · c vc)) := rfl

section

variable {s : State} {c v : Nat} {h : CsiHeader} (haccepts : portAccepts s.toBlocks c = true) (s' : State) (work : State → State)

include haccepts

/-- A packet with a good header on an accepted channel is worked on once its header is counted. -/
theorem packetWork_of_good (hbad : h.bad = false) (hvcx : h.vcx = false) (hvc : vcAccepted c v = true) :
    packetWork s s' c v h work = work (headed s' c h) := by
  rw [packetWork, if_pos haccepts, checkHeader_of_good hbad hvcx hvc, if_pos rfl]

theorem packetWork_of_stopped (hstop : (checkHeader s' c v h).2 = false) : packetWork s s' c v h work = (checkHeader s' c v h).1 := by
  rw [packetWork, if_pos haccepts, hstop, if_neg Bool.false_ne_true]

end

/-- The port of a packet after its header. -/
theorem headed_port (s : State) (c : Fin 20) (h : CsiHeader) :
    getI (headed s c h).cams.ports c =
      { getI s.cams.ports c with link := 3, ecc := if h.corrected then inc32 (getI s.cams.ports c).ecc else (getI s.cams.ports c).ecc } :=
  getI_updI_self _ _ c.isLt _

/-- The port of a packet whose header is beyond correction. -/
theorem badHeader_port (s : State) (c : Fin 20) (v : Nat) {h : CsiHeader} (hbad : h.bad = true) :
    (getI (checkHeader s c v h).1.cams.ports c).link = 3 ∧
      (getI (checkHeader s c v h).1.cams.ports c).headers = inc32 (getI s.cams.ports c).headers := by
  rw [checkHeader_of_bad hbad]
  dsimp only
  split
  · rw [dropRest, updStream_cams, updPortC_cams, getI_updI_self _ _ c.isLt, ports_eq (flagFrames_portSide _ _ _ _), updPortC_cams,
      getI_updI_self _ _ c.isLt, headed_port]
    exact ⟨rfl, rfl⟩
  · rw [updPortC_cams, getI_updI_self _ _ c.isLt, headed_port]
    exact ⟨rfl, rfl⟩

/-! A Frame Start (R242, R243, R245) -/

/-- Operations on contexts one after another: the step of a context finds it as it was, and those that come later leave it. -/
theorem foldl_ctx_own {f : State → Nat → State} (hother : ∀ s k i, i ≠ k → getI (f s k).cams.ctxs i = getI s.cams.ctxs i) {l : List Nat}
    (hl : l.Nodup) {i : Nat} (hi : i ∈ l) (s : State) :
    ∃ s', getI s'.cams.ctxs i = getI s.cams.ctxs i ∧ getI (l.foldl f s).cams.ctxs i = getI (f s' i).cams.ctxs i := by
  have hrest : ∀ (l : List Nat) (s : State), i ∉ l → getI (l.foldl f s).cams.ctxs i = getI s.cams.ctxs i := fun l => by
    induction l with
    | nil => exact fun _ _ => rfl
    | cons k l ih =>
      intro s hi
      rw [List.foldl_cons, ih _ (List.not_mem_of_not_mem_cons hi), hother _ _ _ (List.ne_of_not_mem_cons hi)]
  induction l generalizing s with
  | nil => exact absurd hi List.not_mem_nil
  | cons k l ih =>
    obtain ⟨hk, hl⟩ := List.nodup_cons.mp hl
    obtain rfl | hi := List.mem_cons.mp hi
    · exact ⟨s, rfl, hrest l _ hk⟩
    · obtain ⟨s', hs', hown⟩ := ih hl hi (f s k)
      exact ⟨s', hs'.trans (hother s k i fun h => hk (h ▸ hi)), hown⟩

/-- The frame index of a Frame Start is a matter of the last two pulses of the port and of the time. -/
theorem frameIndexOf_congr {s t : Blocks} {c : Nat} (htime : t.time = s.time) (hpulse : (getI t.cams.ports c).pulse = (getI s.cams.ports c).pulse)
    (hearlier : (getI t.cams.ports c).earlier = (getI s.cams.ports c).earlier) : frameIndexOf t c = frameIndexOf s c := by
  unfold frameIndexOf hasRisen Blocks.frameIndex Blocks.tickCount Blocks.now
  dsimp only
  rw [htime, hpulse, hearlier]

/-- The Frame Starts counted as duplicates on context i. -/
def duplicatesOf (i : Nat) (s : State) : Nat := (getI s.cams.ctxs i).duplicates

section

variable (s : State) (c v i : Nat)

theorem updFrames_duplicates (k : Nat) (f : List FrameAcc → List FrameAcc) :
    duplicatesOf i (s.updCtx k (fun x => { x with frames := f x.frames })) = duplicatesOf i s :=
  getI_updI_keeps (g := (·.duplicates)) s.cams.ctxs k i fun _ => rfl

theorem closeStream_duplicates : duplicatesOf i (closeStream s c v) = duplicatesOf i s :=
  foldl_keeps _ (duplicatesOf i) (fun s k => foldl_keeps _ (duplicatesOf i) (fun s f => closeFrame_duplicates s k f i) s) s

theorem flagFrames_duplicates (k : Nat) : duplicatesOf i (flagFrames s c v k) = duplicatesOf i s :=
  foldl_keeps _ (duplicatesOf i) (fun s j => updFrames_duplicates s i j _) s

theorem endFrames_duplicates : duplicatesOf i (endFrames s c v) = duplicatesOf i s :=
  foldl_keeps _ (duplicatesOf i) (fun s j => updFrames_duplicates s i j _) s

theorem truncateOpen_duplicates : duplicatesOf i (truncateOpen s c v) = duplicatesOf i s := by
  unfold truncateOpen
  dsimp only
  split
  · rw [closeStream_duplicates, endFrames_duplicates, flagFrames_duplicates]
  · rfl

end

/-- The stream of port c on virtual channel v. -/
def streamOf (s : State) (c v : Nat) : CamStream := getI (getI s.cams.ports c).streams v

/-- The state in which a Frame Start finds its index: the frame before is closed, and the values that were due are in force. -/
def frameReady (s : State) (c v : Nat) : State := (boundCtxs s.toBlocks c v).foldl frameValues (truncateOpen s c v)

/-- A stream after a Frame Start with an index. -/
def startedStream (y : CamStream) (index : Nat) : CamStream :=
  { isOpen := true, serial := y.serial + 1, index, duplicate := y.lastIndex == some index, lines := 0, dropping := false, lastIndex := some index }

/-- The state in which the contexts of a stream begin a frame or count a duplicate. -/
def frameOpened (s : State) (c v : Nat) : State :=
  (frameReady s c v).updStream c v (fun _ => startedStream (streamOf s c v) (frameIndexOf s.toBlocks c).1)

/-- A duplicate counted on context i. -/
def countDuplicate (index : Nat) (s : State) (i : Nat) : State :=
  camPost (s.updCtx i (fun x => { x with duplicates := inc32 x.duplicates })) 0x0909 .note .imageContext i index

section

variable (s : State) (c v : Nat)

theorem frameReady_portSide : portSide (frameReady s c v) = portSide s :=
  (foldl_keeps _ portSide frameValues_portSide _).trans (truncateOpen_portSide s c v)

theorem frameReady_duplicates (i : Nat) : duplicatesOf i (frameReady s c v) = duplicatesOf i s :=
  (foldl_keeps _ (duplicatesOf i) (fun s k => congrArg (fun x : CamState => (getI x.ctxs i).duplicates) (frameValues_cams s k)) _).trans
    (truncateOpen_duplicates s c v i)

theorem frameReady_sameBut : sameBut [.cams, .dict, .values, .faults, .freeCtr, .melt, .reg] s (frameReady s c v) := by
  simp [sameBut, frameReady]

theorem frameReady_streamOf (c' v' : Nat) : streamOf (frameReady s c v) c' v' = streamOf s c' v' := by
  rw [streamOf, ports_eq (frameReady_portSide s c v)]
  rfl

theorem frameReady_index (c' : Nat) : frameIndexOf (frameReady s c v).toBlocks c' = frameIndexOf s.toBlocks c' := by
  have hports := ports_eq (frameReady_portSide s c v)
  refine frameIndexOf_congr ?_ (by rw [hports]) (by rw [hports])
  exact eq_of_sameBut (·.time) (frameReady_sameBut s c v) fun _ => rfl

end

/-- Context i at a Frame Start of its stream, which stood as y, with the index, its trigger and the start of its timeout. -/
def startContext (y : CamStream) (start : Nat × Bool × Nat) (s : State) (i : Nat) : State :=
  if y.lastIndex = some start.1 then countDuplicate start.1 s i else beginFrame s i (y.serial + 1) start.1 start.2.2 start.2.1

theorem startContext_of_duplicate {y : CamStream} {start : Nat × Bool × Nat} (h : y.lastIndex = some start.1) :
    startContext y start = countDuplicate start.1 := funext fun _ => funext fun _ => if_pos h

theorem startContext_of_new {y : CamStream} {start : Nat × Bool × Nat} (h : y.lastIndex ≠ some start.1) :
    startContext y start = fun s i => beginFrame s i (y.serial + 1) start.1 start.2.2 start.2.1 := funext fun _ => funext fun _ => if_neg h

section

variable (y : CamStream) (start : Nat × Bool × Nat) (s : State) (i : Nat)

theorem startContext_portSide : portSide (startContext y start s i) = portSide s := by
  unfold startContext
  split
  · rw [countDuplicate, camPost_portSide, updCtx_portSide]
  · rw [beginFrame_portSide]

theorem startContext_hide (ps : List Part) (hfaults : .faults ∈ ps) (hcams : .cams ∈ ps) : (startContext y start s i).hide ps = s.hide ps := by
  unfold startContext countDuplicate
  split <;> simp [hfaults, hcams]

theorem startContext_other (k : Nat) (h : k ≠ i) : getI (startContext y start s i).cams.ctxs k = getI s.cams.ctxs k := by
  unfold startContext countDuplicate
  split
  · rw [camPost_ctxs, updCtx_cams, getI_updI_ne _ _ _ h]
  · exact getI_updI_ne _ _ _ h _

end

section

variable (s : State) (c v : Nat)

/-- A Frame Start begins a frame on every enabled context of its stream, unless its index is that of the one before. -/
theorem frameStarts_eq :
    frameStarts s c v = (streamCtxs (frameOpened s c v).toBlocks c v).foldl (startContext (streamOf s c v) (frameIndexOf s.toBlocks c))
      (frameOpened s c v) := by
  rw [frameOpened, ← frameReady_streamOf s c v, ← frameReady_index s c v]
  by_cases h : (streamOf (frameReady s c v) c v).lastIndex = some (frameIndexOf (frameReady s c v).toBlocks c).1
  · rw [startContext_of_duplicate h]
    exact if_pos (beq_iff_eq.mpr h)
  · rw [startContext_of_new h]
    exact if_neg (mt beq_iff_eq.mp h)

theorem frameStarts_ports : (frameStarts s c v).cams.ports = (frameOpened s c v).cams.ports := by
  rw [frameStarts_eq]
  exact ports_eq (foldl_keeps _ portSide (startContext_portSide _ _) _)

theorem frameStarts_streamCtxs : streamCtxs (frameStarts s c v).toBlocks c v = streamCtxs (frameOpened s c v).toBlocks c v := by
  refine streamCtxs_congr (eq_of_sameBut (ps := [.faults, .cams]) (·.dict) ?_ fun _ => rfl) c v
  rw [frameStarts_eq]
  exact foldl_hide _ _ _ _ fun t i => startContext_hide _ _ t i _ (by decide) (by decide)

theorem frameOpened_port {c : Nat} (hc : c < 20) :
    getI (frameOpened s c v).cams.ports c = { getI s.cams.ports c with
      streams := updI (getI s.cams.ports c).streams v (fun _ => startedStream (streamOf s c v) (frameIndexOf s.toBlocks c).1) } := by
  rw [frameOpened, updStream_cams, updPortC_cams, getI_updI_self _ _ hc, ports_eq (frameReady_portSide s c v)]

theorem frameStarts_stream {c v : Nat} (hc : c < 20) (hv : v < 4) :
    streamOf (frameStarts s c v) c v = startedStream (streamOf s c v) (frameIndexOf s.toBlocks c).1 := by
  rw [streamOf, frameStarts_ports, frameOpened_port s v hc, getI_updI_self _ _ hv]

/-- An enabled context of the stream takes its step from where it stood before those of the stream began. -/
theorem frameStarts_ctx {i : Nat} (hi : i ∈ streamCtxs (frameStarts s c v).toBlocks c v) :
    ∃ s', getI s'.cams.ctxs i = getI (frameOpened s c v).cams.ctxs i ∧
      getI (frameStarts s c v).cams.ctxs i = getI (startContext (streamOf s c v) (frameIndexOf s.toBlocks c) s' i).cams.ctxs i := by
  rw [frameStarts_streamCtxs] at hi
  rw [frameStarts_eq]
  exact foldl_ctx_own (fun t k i h => startContext_other _ _ t k i h) (streamCtxs_nodup _ c v) hi _

variable {s c v} {i : Nat} (hi : i < 128) (hctx : i ∈ streamCtxs (frameStarts s c v).toBlocks c v)

include hi hctx

theorem frameStarts_ctx_of_duplicate (h : (streamOf s c v).lastIndex = some (frameIndexOf s.toBlocks c).1) :
    (getI (frameStarts s c v).cams.ctxs i).duplicates = inc32 (getI s.cams.ctxs i).duplicates := by
  obtain ⟨s', hs', hown⟩ := frameStarts_ctx s c v hctx
  rw [hown, startContext_of_duplicate h, countDuplicate, camPost_ctxs, updCtx_cams, getI_updI_self _ _ hi, hs']
  exact congrArg inc32 (frameReady_duplicates s c v i)

theorem frameStarts_ctx_of_new (h : (streamOf s c v).lastIndex ≠ some (frameIndexOf s.toBlocks c).1) :
    (frameIndexOf s.toBlocks c).1 ∉ (getI (frameStarts s c v).cams.ctxs i).expected ∧
      ∃ f ∈ (getI (frameStarts s c v).cams.ctxs i).frames,
        f.index = (frameIndexOf s.toBlocks c).1 ∧ f.serial = (streamOf s c v).serial + 1 ∧ f.ended = false := by
  obtain ⟨s', -, hown⟩ := frameStarts_ctx s c v hctx
  simp only [hown, startContext_of_new h, beginFrame, updCtx_cams, getI_updI_self _ _ hi]
  refine ⟨by simp, _, List.mem_append_right _ (List.mem_singleton_self _), rfl, rfl, rfl⟩

end

theorem frameStarts_time (s : State) (c v : Nat) : (frameStarts s c v).time = s.time :=
  eq_of_sameBut (ps := [.cams, .dict, .values, .faults, .freeCtr, .melt, .reg]) (·.time) (by simp [sameBut]) fun _ => rfl

theorem frameStarts_link (s : State) (c : Fin 20) (h : CsiHeader) (v : Nat) : (getI (frameStarts (headed s c h) c v).cams.ports c).link = 3 := by
  rw [frameStarts_ports, frameOpened_port _ _ c.isLt, headed_port]

theorem startedStream_fields {x y : CamStream} {index : Nat} (h : x = startedStream y index) :
    x.isOpen = true ∧ x.serial = y.serial + 1 ∧ x.index = index ∧ (x.duplicate = true ↔ y.lastIndex = some index) ∧ x.lines = 0 := by
  subst h
  exact ⟨rfl, rfl, rfl, beq_iff_eq, rfl⟩

/-! A line and a Frame End (R233, R245, R248) -/

theorem headed_stream (s : State) (c : Fin 20) (v : Nat) (h : CsiHeader) : streamOf (headed s c h) c v = streamOf s c v := by
  rw [streamOf, headed_port]
  rfl

/-- The state in which the payload CRC of a line has been counted. -/
def crcCounted (s : State) (c : Nat) (crcOk : Bool) : State :=
  if crcOk then s else s.updPortC c (fun p => { p with crc := inc32 p.crc })

theorem crcCounted_dict (s : State) (c : Nat) (crcOk : Bool) : (crcCounted s c crcOk).dict = s.dict := by
  unfold crcCounted
  split <;> rfl

theorem crcCounted_port (s : State) {c : Nat} (hc : c < 20) (crcOk : Bool) :
    getI (crcCounted s c crcOk).cams.ports c =
      { getI s.cams.ports c with crc := if crcOk then (getI s.cams.ports c).crc else inc32 (getI s.cams.ports c).crc } := by
  cases crcOk with
  | true => rfl
  | false => exact getI_updI_self _ _ hc _

/-- A line as it enters the buffer of its port, for the first context of its stream. -/
def storedLine (s : State) (c v i : Nat) (payload : Bytes) : CamLine :=
  { vc := v, serial := (streamOf s c v).serial, number := (streamOf s c v).lines
    codes := fitLine (ctxN s.toBlocks i 0x04) (unpackRaw (dataTypeBits (ctxN s.toBlocks i 0x03)) payload), done := 0 }

theorem storeLine_ports (s : State) (c v i : Nat) (payload : Bytes) (crcOk : Bool) :
    (storeLine s c v i payload crcOk).cams.ports =
      updI s.cams.ports c (fun p => { p with
        lines := p.lines ++ [storedLine s c v i payload], high := Nat.max p.high (p.lines.length + 1) }) := by
  unfold storeLine
  dsimp only
  split
  · rw [updPortC_cams, ports_eq (flagFrames_portSide s c v flagBAD)]
    rfl
  · rfl

/-- A stream that stores the next line of its data type: its first context is i. -/
structure Storing (s : State) (c v i dataType : Nat) : Prop where
  bound : ∃ rest, boundCtxs s.toBlocks c v = i :: rest
  enabled : streamCtxs s.toBlocks c v ≠ []
  type : dataType = ctxN s.toBlocks i 0x03
  isOpen : (streamOf s c v).isOpen = true
  single : (streamOf s c v).duplicate = false
  taking : (streamOf s c v).dropping = false
  height : (streamOf s c v).lines < ctxN s.toBlocks i 0x05
  room : (getI s.cams.ports c).lines.length < 8

theorem linePacket_of_storing {s : State} {c v i dataType : Nat} (hc : c < 20) (h : Storing s c v i dataType) (payload : Bytes) (crcOk : Bool) :
    linePacket s c v dataType payload crcOk =
      (storeLine (crcCounted s c crcOk) c v i payload crcOk).updStream c v (fun x => { x with lines := x.lines + 1 }) := by
  obtain ⟨⟨rest, hbound⟩, henabled, rfl, hopen, hsingle, htaking, hheight, hroom⟩ := h
  have hlines : (getI (crcCounted s c crcOk).cams.ports c).lines = (getI s.cams.ports c).lines := by rw [crcCounted_port s hc]
  have hdict := crcCounted_dict s c crcOk
  rw [← streamCtxs_congr hdict] at henabled
  rw [← hlines] at hroom
  have hheight' : ¬ctxN (crcCounted s c crcOk).toBlocks i 0x05 ≤ (streamOf s c v).lines := by
    rw [ctxN, objN_congr hdict]
    exact Nat.not_le.mpr hheight
  unfold streamOf at *
  unfold crcCounted at *
  simp only [linePacket, hbound, bne_self_eq_false, hopen, hsingle, htaking, Bool.not_true, Bool.or_self, Bool.false_eq_true, if_false, hheight',
    Nat.not_le.mpr hroom, List.isEmpty_iff, henabled]

/-- A line that is stored, with its payload error counted, as its port holds it. -/
theorem linePacket_port_of_storing {s : State} {c v i dataType : Nat} (hc : c < 20) (h : Storing s c v i dataType) (payload : Bytes)
    (crcOk : Bool) : getI (linePacket s c v dataType payload crcOk).cams.ports c = { getI s.cams.ports c with
      crc := if crcOk then (getI s.cams.ports c).crc else inc32 (getI s.cams.ports c).crc
      lines := (getI s.cams.ports c).lines ++ [storedLine s c v i payload]
      high := Nat.max (getI s.cams.ports c).high ((getI s.cams.ports c).lines.length + 1)
      streams := updI (getI s.cams.ports c).streams v (fun x => { x with lines := x.lines + 1 }) } := by
  have hline : storedLine (crcCounted s c crcOk) c v i payload = storedLine s c v i payload := by
    simp only [storedLine, streamOf, crcCounted_port s hc, ctxN, objN_congr (crcCounted_dict s c crcOk)]
  rw [linePacket_of_storing hc h, updStream_cams, updPortC_cams, getI_updI_self _ _ hc, storeLine_ports, getI_updI_self _ _ hc,
    crcCounted_port s hc, hline]

theorem linePacket_sameBut_of_storing {s : State} {c v i dataType : Nat} (hc : c < 20) (h : Storing s c v i dataType) (payload : Bytes)
    (crcOk : Bool) : sameBut [.cams] s (linePacket s c v dataType payload crcOk) := by
  rw [linePacket_of_storing hc h]
  simp [sameBut, crcCounted]

theorem frameEnds_ports {s : State} {c v : Nat} (hopen : (streamOf s c v).isOpen = true) :
    (frameEnds s c v).cams.ports = (s.updStream c v (fun x => { x with isOpen := false })).cams.ports := by
  unfold streamOf at hopen
  simp only [frameEnds, hopen, Bool.not_true, Bool.false_eq_true, if_false, updStream_cams, updPortC_cams]
  refine congrArg (updI · c _) (ports_eq ?_)
  (repeat' split) <;> simp only [closeStream_portSide, endFrames_portSide, flagFrames_portSide]

/-! The image pipelines (R247) -/

/-- The state in which a unit of port c is processed: the next turn is that of the port behind it. -/
def turned (s : State) (c : Nat) : State := { s with cams := { s.cams with turn := (c + 1) % 20 } }

theorem pipelineUnit_of_turn {s : State} {c : Nat} {l : CamLine} {rest : List CamLine} (hturn : turnPort s.toBlocks = some c)
    (hlines : (getI s.cams.ports c).lines = l :: rest) :
    pipelineUnit s c =
      if c < 16 ∨ l.codes.length ≤ l.done + 256 then processLine (turned s c) c l
      else (turned s c).updPortC c (fun p => { p with lines := { l with done := l.done + 256 } :: rest }) := by
  simp only [pipelineUnit, hturn, beq_self_eq_true, if_true, hlines, Bool.or_eq_true, decide_eq_true_eq]
  rfl

/-- A line added to its frame in every context of its stream. -/
def lineAdded (s : State) (c : Nat) (l : CamLine) : State :=
  (boundCtxs s.toBlocks c l.vc).foldl (fun s i => s.updCtx i (fun x => { x with
    frames := x.frames.map (fun f => if f.serial == l.serial then addLine f l.number l.codes else f) })) s

theorem lineAdded_portSide (s : State) (c : Nat) (l : CamLine) : portSide (lineAdded s c l) = portSide s :=
  foldl_keeps _ portSide (fun s i => updCtx_portSide s i _) s

theorem processLine_eq (s : State) (c : Nat) (l : CamLine) :
    processLine s c l = closeStream ((lineAdded s c l).updPortC c (fun p => { p with lines := p.lines.drop 1 })) c l.vc := rfl

theorem processLine_portSide (s : State) (c : Nat) (l : CamLine) :
    portSide (processLine s c l) = portSide (s.updPortC c (fun p => { p with lines := p.lines.drop 1 })) := by
  have hside := lineAdded_portSide s c l
  rw [processLine_eq, closeStream_portSide, portSide, updPortC_cams, ports_eq hside, turn_eq hside]
  rfl

theorem pipelineUnit_portSide {s : State} {c : Nat} {l : CamLine} {rest : List CamLine} (hturn : turnPort s.toBlocks = some c)
    (hlines : (getI s.cams.ports c).lines = l :: rest) :
    portSide (pipelineUnit s c) = portSide ((turned s c).updPortC c (fun p => { p with
      lines := if c < 16 ∨ l.codes.length ≤ l.done + 256 then rest else { l with done := l.done + 256 } :: rest })) := by
  rw [pipelineUnit_of_turn hturn hlines]
  split
  · rw [processLine_portSide, portSide, updPortC_cams, updI_congr _ _ _ (fun p => { p with lines := rest })]
    · rfl
    · change { getI s.cams.ports c with lines := (getI s.cams.ports c).lines.drop 1 } = _
      rw [hlines]
      rfl
  · rfl

/-! Frames without end, and pulses without a frame (R244, R245) -/

theorem foldl_closeFrame_frames {i : Nat} (hi : i < 128) (l : List FrameAcc) (s : State) {g : FrameAcc}
    (hg : g ∈ (getI (l.foldl (fun s f => closeFrame s i f) s).cams.ctxs i).frames) :
    g ∈ (getI s.cams.ctxs i).frames ∧ ∀ f ∈ l, g.serial ≠ f.serial := by
  induction l generalizing s with
  | nil => exact ⟨hg, fun f hf => absurd hf List.not_mem_nil⟩
  | cons f l ih =>
    obtain ⟨hmem, hl⟩ := ih _ hg
    rw [closeFrame_frames s i f hi] at hmem
    obtain ⟨hmem, hf⟩ := List.mem_filter.mp hmem
    refine ⟨hmem, fun f' hf' => ?_⟩
    obtain rfl | hf' := List.mem_cons.mp hf'
    · exact bne_iff_ne.mp hf
    · exact hl f' hf'

/-- A frame that its timeout closes. -/
def cutOff (f : FrameAcc) : FrameAcc := { f with flags := setBit f.flags flagTRUNCATED true }

/-- The frames of context i whose timeout is over. -/
def overdue (s : State) (i : Nat) : List FrameAcc :=
  (getI s.cams.ctxs i).frames.filter (fun f => !f.ended && decide (f.start + ctxN s.toBlocks i 0x0B ≤ s.now))

theorem mem_overdue {s : State} {i : Nat} {f : FrameAcc} (hmem : f ∈ (getI s.cams.ctxs i).frames) (hended : f.ended = false)
    (hdue : f.start + ctxN s.toBlocks i 0x0B ≤ s.now) : f ∈ overdue s i := by
  simp [overdue, hmem, hended, hdue]

/-- The end of a stream's last open frame is no matter of its contexts. -/
theorem frameTimeout_ctxs (s : State) (i : Nat) :
    (frameTimeout s i).cams.ctxs = (((overdue s i).map cutOff).foldl (fun s f => closeFrame s i f) s).cams.ctxs := by
  rw [List.foldl_map]
  unfold frameTimeout
  dsimp only
  split <;> rfl

theorem bit_setBit_true (x k : Nat) : bit (setBit x k true) k = true := by
  unfold bit setBit
  cases h : x.testBit k with
  | true => simpa using h
  | false => simp [Nat.add_comm x, Nat.testBit_two_pow_add_eq, h]

/-- A truncated frame is not valid, and the other flags of its close stand above bit 1 (Table 9.5). -/
theorem closedFlags_of_truncated {f : FrameAcc} (h : bit f.flags flagTRUNCATED = true) (late : Bool) :
    bit (closedFlags f late) flagTRUNCATED = true := by
  have hvalid : frameValid f.flags = false := by
    have h' : bit f.flags 1 = true := h
    simp [frameValid, h']
  unfold closedFlags
  dsimp only
  rw [hvalid]
  simp only [bit, flagTRUNCATED, Nat.testBit_eq_decide_div_mod_eq, decide_eq_true_eq, b2n, Bool.false_eq_true, if_false] at h ⊢
  omega

section

variable {s : State} {i : Nat} {f : FrameAcc} (hi : i < 128)

include hi

theorem frameTimeout_not_mem (hmem : f ∈ (getI s.cams.ctxs i).frames) (hended : f.ended = false)
    (hdue : f.start + ctxN s.toBlocks i 0x0B ≤ s.now) : f ∉ (getI (frameTimeout s i).cams.ctxs i).frames := by
  rw [frameTimeout_ctxs]
  intro hleft
  obtain ⟨-, hserial⟩ := foldl_closeFrame_frames hi _ _ hleft
  exact hserial (cutOff f) (List.mem_map_of_mem (mem_overdue hmem hended hdue)) rfl

/-- The only frame of a context, closed by its timeout, is counted as truncated. -/
theorem frameTimeout_counts (honly : (getI s.cams.ctxs i).frames = [f]) (hended : f.ended = false)
    (hdue : f.start + ctxN s.toBlocks i 0x0B ≤ s.now) :
    (getI (frameTimeout s i).cams.ctxs i).received = inc32 (getI s.cams.ctxs i).received ∧
      (getI (frameTimeout s i).cams.ctxs i).truncated = inc32 (getI s.cams.ctxs i).truncated := by
  have hover : overdue s i = [f] := by simp [overdue, honly, hended, hdue]
  rw [frameTimeout_ctxs, hover]
  exact ⟨closeFrame_received s i _ hi, closeFrame_truncated s i _ hi (closedFlags_of_truncated (bit_setBit_true _ _) _)⟩

/-- The only pulse that waits for its frame, missed. -/
theorem missingFrames_ctx {k : Nat} (honly : (getI s.cams.ctxs i).expected = [k])
    (hgone : ctxN s.toBlocks i 0x0B ≤ (2 ^ 48 + s.tickCount - 4 * k) % 2 ^ 48) :
    (getI (missingFrames s i).cams.ctxs i).expected = [] ∧
      (getI (missingFrames s i).cams.ctxs i).missing = inc32 (getI s.cams.ctxs i).missing := by
  simp only [missingFrames, honly, List.filter_cons, List.filter_nil, hgone, decide_true, if_true, List.foldl_cons, List.foldl_nil, camPost_ctxs,
    updCtx_cams, getI_updI_self _ _ hi, bne_self_eq_false, Bool.false_eq_true, if_false, and_self]

end

/-- Settles O27: a packet is worked on once its header is counted; the work on contexts, the close of a frame too, leaves the ports, and each
context of a stream takes its own step. -/
theorem frameCommandsComplete : Obligations.FrameCommandsComplete := by
  unfold Obligations.FrameCommandsComplete
  refine ⟨fun s c vc h haccepts hbad hvcx hvc => ?start, fun s c vc h haccepts hbad => ?bad, fun s c vc h haccepts hbad hignored => ?ignored,
    fun s c vc h dataType payload crcOk i rest haccepts hbad hvcx hvc hbound htype hopen hsingle htaking hheight hroom henabled => ?line,
    fun s c l rest hturn hlines => ?unit, fun s c vc h haccepts hbad hvcx hvc hopen => ?frameEnd,
    fun s i f hmem hended hdue => ?timeout, fun s i f honly hgone => ?missing⟩
  case start =>
    have hindex : frameIndexOf (headed (s.atClock h.clk) c h).toBlocks c = frameIndexOf (s.atClock h.clk).toBlocks c :=
      frameIndexOf_congr rfl (by rw [headed_port]) (by rw [headed_port])
    have hbefore : streamOf (headed (s.atClock h.clk) c h) c vc = streamOf s c vc := headed_stream (s.atClock h.clk) c vc h
    have hstream := frameStarts_stream (headed (s.atClock h.clk) c h) c.isLt vc.isLt
    rw [hindex, hbefore] at hstream
    obtain ⟨hopen, hserial, hnumber, hduplicate, hlines⟩ := startedStream_fields hstream
    rw [Does, execFrameStart_eq, packetWork_of_good haccepts _ _ hbad hvcx hvc]
    refine ⟨_, rfl, by simp [sameBut, headed], frameStarts_time _ c vc, frameStarts_link _ c h vc, hopen, hlines, hnumber, hserial, hduplicate,
      fun i hi hctx hdup => ?_, fun i hi hctx hnew => ?_⟩
    · exact frameStarts_ctx_of_duplicate hi hctx (by rw [hindex, hbefore]; exact hdup)
    · have hframe := frameStarts_ctx_of_new hi hctx (by rw [hindex, hbefore]; exact hnew)
      rw [hindex, hbefore] at hframe
      exact hframe
  case bad =>
    have hstop := congrArg Prod.snd (checkHeader_of_bad hbad (s.atClock h.clk) c vc)
    rw [Does, execFrameStart_eq, packetWork_of_stopped haccepts _ _ hstop]
    exact ⟨_, rfl, by simp [sameBut], badHeader_port (s.atClock h.clk) c vc hbad⟩
  case ignored =>
    have hheader := checkHeader_of_ignored hbad hignored (s.atClock h.clk)
    rw [Does, execFrameStart_eq, packetWork_of_stopped haccepts _ _ (congrArg Prod.snd hheader), hheader]
    refine ⟨_, rfl, by simp [sameBut, headed], ?_⟩
    dsimp only
    rw [ignorePacket, headed, updPortC_cams, updPortC_cams, updI_updI]
    rfl
  case line =>
    subst htype
    have hstream := headed_stream s c vc h
    have hport := headed_port s c h
    have hstoring : Storing (headed s c h) c vc i (ctxN s.toBlocks i 0x03) := by
      rw [← streamOf, ← hstream] at hopen hsingle htaking hheight
      refine ⟨⟨rest, hbound⟩, henabled, rfl, hopen, hsingle, htaking, hheight, ?_⟩
      rw [hport]
      exact hroom
    have hfaults : (linePacket (headed s c h) c vc (ctxN s.toBlocks i 0x03) payload crcOk).faults = s.faults :=
      eq_of_sameBut (s := headed s c h) (·.faults) (linePacket_sameBut_of_storing c.isLt hstoring payload crcOk) fun _ => rfl
    rw [Does, execLongPacket_eq, packetWork_of_good haccepts _ _ hbad hvcx hvc]
    refine ⟨_, rfl, by simp [sameBut, headed], ?_⟩
    dsimp only
    rw [linePacket_port_of_storing c.isLt hstoring, hport, storedLine, hstream]
    exact ⟨rfl, rfl, rfl, hfaults⟩
  case unit =>
    have hside := pipelineUnit_portSide hturn hlines
    refine ⟨_, rfl, pipelineUnit_hide _ _ _ (by decide) (by decide) (by decide) (by decide) (by decide), turn_eq hside, ?_⟩
    rw [ports_eq hside, updPortC_cams, getI_updI_self _ _ c.isLt]
  case frameEnd =>
    have hport := headed_port s c h
    rw [← streamOf, ← headed_stream s c vc h] at hopen
    rw [Does, execFrameEnd_eq, packetWork_of_good haccepts _ _ hbad hvcx hvc]
    refine ⟨_, rfl, by simp [sameBut, headed], ?_⟩
    rw [frameEnds_ports hopen, updStream_cams, updPortC_cams, getI_updI_self _ _ c.isLt, hport]
    exact ⟨rfl, rfl⟩
  case timeout =>
    refine ⟨_, rfl, frameTimeout_hide _ _ _ (by decide) (by decide) (by decide) (by decide) (by decide), ?_⟩
    exact ⟨frameTimeout_not_mem i.isLt hmem hended hdue, fun honly => frameTimeout_counts i.isLt honly hended hdue⟩
  case missing =>
    exact ⟨_, rfl, missingFrames_hide _ _ _ (by decide) (by decide), missingFrames_ctx i.isLt honly hgone⟩

/-! A pulse of a port (R238, R244) -/

/-- A port fires at a frame boundary only (R238). -/
theorem frameBoundary_of_fires {s : Blocks} {c : Nat} (h : firesNow s c = true) : s.tickCount % 4 = 0 := by
  simp only [firesNow, Bool.and_eq_true, beq_iff_eq] at h
  obtain ⟨⟨⟨hboundary, -⟩, -⟩, -⟩ := h
  exact hboundary

/-- The rising edge of a pulse of port c in the present tick's frame, in 1/1024 tick since start. -/
def riseOf (s : State) (c : Nat) : Nat := s.now * 1024 + s.objN (0x3500 + c) 0x09

/-- A port without its reasons to fire that are over. -/
def spentPort (s : State) (p : CamPort) : CamPort :=
  { p with manual := p.manual.filter (fun k => decide (s.now < k)), layerDue := p.layerDue.filter (fun k => decide (s.now < k)) }

theorem spendReasons_of_frameBoundary {s : State} (h : s.tickCount % 4 = 0) (c : Nat) : spendReasons s c = s.updPortC c (spentPort s) := if_pos h

/-- Port c with its pulse of the frame, whose width is not yet fixed, and without the reasons that are spent. -/
def pulsedPort (s : State) (c : Nat) (p : CamPort) : CamPort :=
  { spentPort s p with
    pulse := some (s.frameIndex, riseOf s c, 0), earlier := p.pulse
    rises := riseOf s c :: p.rises.filter (fun r => decide (riseOf s c < r + 135168)) }

/-- The contexts that wait for the frame of a pulse of port c. -/
def waitingCtxs (s : Blocks) (c : Nat) : List Nat :=
  (List.range 128).filter (fun i => ctxN s i 0x01 == c && s.objB (0x3400 + i) 0x00)

/-- The state in which a pulse of port c has been noted, and waits for its rising edge. -/
def pulsed (s : State) (c : Nat) : State :=
  (waitingCtxs s.toBlocks c).foldl (fun t i => t.updCtx i (fun x => { x with expected := x.expected ++ [s.frameIndex] }))
    (s.updPortC c (pulsedPort s c))

theorem firePulse_of_fires {s : State} {c : Nat} (h : firesNow s.toBlocks c = true) : firePulse s c = risePulse (pulsed s c) c := by
  simp only [firePulse, h, if_true, spendReasons_of_frameBoundary (frameBoundary_of_fires h), State.updPortC, updI_updI]
  rfl

theorem pulsed_portSide (s : State) (c : Nat) : portSide (pulsed s c) = portSide (s.updPortC c (pulsedPort s c)) :=
  foldl_keeps _ portSide (fun t i => updCtx_portSide t i _) _

theorem pulsed_sameBut (s : State) (c : Nat) : sameBut [.cams] s (pulsed s c) := by simp [sameBut, pulsed]

/-- A pulse rises in the tick of its edge, with the width in force. -/
theorem risePulse_of_now {s : State} {c f rise : Nat} (hpulse : (getI s.cams.ports c).pulse = some (f, rise, 0)) (hnow : rise / 1024 = s.now) :
    risePulse s c = (s.updPortC c (fun p => { p with pulse := some (f, rise, rise + s.objN (0x3500 + c) 0x0A) })).send
      (.trigger c (rise % 1024) (s.objN (0x3500 + c) 0x0A)) := by
  simp only [risePulse, hpulse, hnow, if_true]

theorem risePulse_of_later {s : State} {c f rise : Nat} (hpulse : (getI s.cams.ports c).pulse = some (f, rise, 0))
    (hlater : rise / 1024 ≠ s.now) : risePulse s c = s := by
  simp only [risePulse, hpulse, hlater, if_false]

section

variable {s : State} {c : Nat} (hc : c < 20) (hfires : firesNow s.toBlocks c = true)

include hc

theorem pulsed_port : getI (pulsed s c).cams.ports c = pulsedPort s c (getI s.cams.ports c) := by
  rw [ports_eq (pulsed_portSide s c), updPortC_cams, getI_updI_self _ _ hc]

include hfires

/-- With a delay below one tick the pulse rises in the tick of the frame boundary. -/
theorem firePulse_of_soon (hsoon : s.objN (0x3500 + c) 0x09 < 1024) :
    (firePulse s c).out = s.out ++ [.trigger c (s.objN (0x3500 + c) 0x09) (s.objN (0x3500 + c) 0x0A)] ∧
      (firePulse s c).cams.ports = updI s.cams.ports c (fun p =>
        { pulsedPort s c p with pulse := some (s.frameIndex, riseOf s c, riseOf s c + s.objN (0x3500 + c) 0x0A) }) := by
  have hpulse : (getI (pulsed s c).cams.ports c).pulse = some (s.frameIndex, riseOf s c, 0) := by rw [pulsed_port hc]; rfl
  have hnow : (pulsed s c).now = s.now := eq_of_sameBut (fun x => x.now) (pulsed_sameBut s c) fun _ => rfl
  have hout : (pulsed s c).out = s.out := eq_of_sameBut (·.out) (pulsed_sameBut s c) fun _ => rfl
  have hdict : (pulsed s c).dict = s.dict := eq_of_sameBut (·.dict) (pulsed_sameBut s c) fun _ => rfl
  have hrise : riseOf s c / 1024 = (pulsed s c).now := by
    rw [hnow, riseOf]
    omega
  have hedge : riseOf s c % 1024 = s.objN (0x3500 + c) 0x09 := by
    rw [riseOf]
    omega
  rw [firePulse_of_fires hfires, risePulse_of_now hpulse hrise, hedge, objN_congr hdict]
  refine ⟨congrArg (· ++ _) hout, ?_⟩
  simp only [send_keeps, updPortC_cams, ports_eq (pulsed_portSide s c), updI_updI]

/-- With a longer delay its rising edge is still to come. -/
theorem firePulse_of_late (hlate : 1024 ≤ s.objN (0x3500 + c) 0x09) :
    (firePulse s c).out = s.out ∧ (firePulse s c).cams.ports = updI s.cams.ports c (pulsedPort s c) := by
  have hpulse : (getI (pulsed s c).cams.ports c).pulse = some (s.frameIndex, riseOf s c, 0) := by rw [pulsed_port hc]; rfl
  have hnow : (pulsed s c).now = s.now := eq_of_sameBut (fun x => x.now) (pulsed_sameBut s c) fun _ => rfl
  have hrise : riseOf s c / 1024 ≠ (pulsed s c).now := by
    rw [hnow, riseOf]
    omega
  rw [firePulse_of_fires hfires, risePulse_of_later hpulse hrise]
  exact ⟨eq_of_sameBut (·.out) (pulsed_sameBut s c) fun _ => rfl, ports_eq (pulsed_portSide s c)⟩

end

/-! A delivery point (R255) -/

theorem deliver_of_due {s : State} {i f n : Nat} (hdue : deliveryFrame s.toBlocks i s.tickCount = some (f, n))
    (hfree : (getI s.melt.chans n).delivery = none) : deliver s i = deliverFrame s i f n := by
  simp only [deliver, hdue, hfree, Option.isSome_none, Bool.false_eq_true, if_false]

section

variable (s : State) (i f n : Nat)

/-- The state in which channel n holds the delivery of frame f. -/
def delivered : State :=
  s.updMelt n (fun m => { m with
    delivery := some { ctx := i, frame := f, latency := ctxN s.toBlocks i 0x19, set := deliveredSet s.toBlocks i f } })

theorem deliverFrame_melt : (deliverFrame s i f n).melt = (delivered s i f n).melt := by
  unfold deliverFrame
  dsimp only
  split
  · rfl
  · rw [camPost_melt]
    rfl

variable {s i f n}

theorem deliverFrame_of_ready (h : deliveredSet s.toBlocks i f ≠ none) :
    deliverFrame s i f n = (delivered s i f n).updCtx i (fun x => { x with ready := x.ready.filter (fun r => decide (f < r.2.frame)) }) :=
  if_pos (Option.isSome_iff_ne_none.mpr h)

theorem deliverFrame_lateSets (hi : i < 128) (h : deliveredSet s.toBlocks i f = none) :
    (getI (deliverFrame s i f n).cams.ctxs i).lateSets = inc32 (getI s.cams.ctxs i).lateSets := by
  simp only [deliverFrame, h, Option.isSome_none, Bool.false_eq_true, if_false, camPost_ctxs, updCtx_cams, getI_updI_self _ _ hi]
  rfl

end

/-! A link error (Table 9.8) -/

/-- The frame in progress of stream v of port c cut off by a link error. -/
def cutStream (c : Nat) (s : State) (v : Nat) : State := (truncateOpen s c v).updStream c v (fun x => { x with isOpen := false })

theorem cutStream_port (s : State) {c : Nat} (hc : c < 20) (v : Nat) :
    getI (cutStream c s v).cams.ports c =
      { getI s.cams.ports c with streams := updI (getI s.cams.ports c).streams v (fun x => { x with isOpen := false }) } := by
  rw [cutStream, updStream_cams, updPortC_cams, getI_updI_self _ _ hc, ports_eq (truncateOpen_portSide s c v)]

/-- Cutting off the streams changes nothing else of their port. -/
theorem cutStreams_port (s : State) {c : Nat} (hc : c < 20) (k : Nat) :
    getI (forI k s (cutStream c)).cams.ports c =
      { getI s.cams.ports c with streams := (getI (forI k s (cutStream c)).cams.ports c).streams } := by
  induction k with
  | zero => rfl
  | succ k ih =>
    rw [forI_succ, cutStream_port _ hc, ih]

theorem cutStreams_closed (s : State) {c : Nat} (hc : c < 20) {k v : Nat} (hk : k ≤ 4) (hv : v < k) :
    (streamOf (forI k s (cutStream c)) c v).isOpen = false := by
  induction k with
  | zero => omega
  | succ k ih =>
    rw [streamOf, forI_succ, cutStream_port _ hc]
    obtain hlt | rfl := Nat.lt_succ_iff_lt_or_eq.mp hv
    · rw [getI_updI_ne _ _ _ (by omega)]
      exact ih (by omega) hlt
    · rw [getI_updI_self _ _ (by omega)]

/-- The state of a link error but for its event. -/
def linkCut (s : State) (c : Nat) : State := forI 4 (s.updPortC c (fun p => { p with linkErrors := inc32 p.linkErrors })) (cutStream c)

theorem linkError_ports {s : State} {c : Nat} (hlink : (getI s.cams.ports c).link ≠ 0) :
    (linkError s c).cams.ports = (linkCut s c).cams.ports := by
  rw [linkError, if_neg (mt beq_iff_eq.mp hlink)]
  exact camPost_ports _ _ _ _ _ _

theorem linkCut_port (s : State) {c : Nat} (hc : c < 20) :
    getI (linkCut s c).cams.ports c = { getI s.cams.ports c with
      linkErrors := inc32 (getI s.cams.ports c).linkErrors, streams := (getI (linkCut s c).cams.ports c).streams } := by
  have hport := cutStreams_port (s.updPortC c (fun p => { p with linkErrors := inc32 p.linkErrors })) hc 4
  rw [updPortC_cams, getI_updI_self _ _ hc] at hport
  exact hport

/-! Control transactions (R235–R237, Table 9.4) -/

/-- A request that ends while no init script waits for the bus. -/
theorem endRequest_of_free {s : State} {c : Nat} (hc : c < 20) (hlink : (getI s.cams.ports c).link ≠ 1) (status count : Nat) (data : Bytes) :
    endRequest s c status count data = s.updPortC c (fun p =>
      { p with status, use := .none, response := if status = 2 then padTo 32 (data.take count) else p.response }) := by
  unfold endRequest
  dsimp only
  rw [updPortC_cams, getI_updI_self _ _ hc, beq_false_of_ne hlink, if_neg Bool.false_ne_true]

theorem scriptFailed_cams (s : State) (c : Nat) :
    (scriptFailed s c).cams = { s.cams with ports := updI s.cams.ports c (fun p => { p with link := 4, use := .none }) } := rfl

theorem scriptFailed_faults (s : State) (c : Nat) :
    (scriptFailed s c).faults = posts s [mkEvent (.block 0) 0x0908 .warn .cameraPort c (leBytes 8 s.frameIndex)] := rfl

theorem execI2cTransactionComplete_of_request {s : State} {c : Fin 20} {status : Nat} {data : Bytes}
    (huse : (getI s.cams.ports c).use = .request data) (hlow : 2 ≤ status) (hhigh : status ≤ 6) (bytes : Bytes) :
    exec (.i2cTransactionComplete c status bytes) s = .next (endRequest s c status (fieldU data 2 1) bytes) := by
  refine congrArg Host.Outcome.next ?_
  simp only [huse, hlow, hhigh, decide_true, Bool.and_self, if_true]

theorem execClockStretchTimeout_of_request {s : State} {c : Fin 20} {data : Bytes} (huse : (getI s.cams.ports c).use = .request data) :
    exec (.clockStretchTimeout c) s = .next (endRequest s c 5 0 []) := by
  refine congrArg Host.Outcome.next ?_
  simp only [huse]

theorem execClockStretchTimeout_of_script {s : State} {c : Fin 20} {k u : Nat} (huse : (getI s.cams.ports c).use = .script k u)
    (hwrite : isDelay s.toBlocks c k = false) : exec (.clockStretchTimeout c) s = .next (scriptFailed s c) := by
  refine congrArg Host.Outcome.next ?_
  simp only [huse, hwrite, Bool.false_eq_true, if_false]

theorem execInitScriptEntryDone_of_write {s : State} {c : Fin 20} {k u : Nat} (huse : (getI s.cams.ports c).use = .script k u)
    (hwrite : isDelay s.toBlocks c k = false) (status : Nat) :
    exec (.initScriptEntryDone c status) s = .next (scriptEntry s c k status) := by
  refine congrArg Host.Outcome.next ?_
  simp only [huse, hwrite, Bool.false_eq_true, if_false]

/-- An entry that is done well: a write with status 2, or a delay whose time ends in the tick. -/
theorem execInitScriptEntryDone_of_done {s : State} {c : Fin 20} {k u status : Nat} (huse : (getI s.cams.ports c).use = .script k u)
    (hdone : isDelay s.toBlocks c k = false ∧ status = 2 ∨ isDelay s.toBlocks c k = true ∧ u < microTime s.toBlocks + 10) :
    exec (.initScriptEntryDone c status) s = .next (scriptEntry s c k 2) := by
  obtain ⟨hwrite, rfl⟩ | ⟨hdelay, hover⟩ := hdone
  · exact execInitScriptEntryDone_of_write huse hwrite 2
  · refine congrArg Host.Outcome.next ?_
    simp only [huse, hdelay, hover, if_true]

theorem scriptEntry_of_last {s : State} {c k : Nat} (h : scriptLength s.toBlocks c ≤ k + 1) :
    scriptEntry s c k 2 = s.updPortC c (fun p => { p with link := 2, use := .none }) := if_pos h

theorem scriptEntry_of_more {s : State} {c k : Nat} (h : k + 1 < scriptLength s.toBlocks c) : scriptEntry s c k 2 = runEntry s c (k + 1) :=
  if_neg (Nat.not_le.mpr h)

theorem scriptEntry_of_failed {s : State} {c k status : Nat} (h : status ≠ 2) : scriptEntry s c k status = scriptFailed s c :=
  if_pos (bne_iff_ne.mpr h)

theorem runEntry_of_delay {s : State} {c k : Nat} (h : isDelay s.toBlocks c k = true) :
    runEntry s c k = s.updPortC c (fun p =>
      { p with use := .script k (microTime s.toBlocks + fieldU (scriptBytes s.toBlocks c k) 4 4) }) := if_pos h

theorem runEntry_of_write {s : State} {c k : Nat} (h : isDelay s.toBlocks c k = false) :
    runEntry s c k = busTransaction (s.updPortC c (fun p => { p with use := .script k 0 })) c
      [.start (fieldU (scriptBytes s.toBlocks c k) 0 1) false,
        .write (slice (scriptBytes s.toBlocks c k) 2 (fieldU (scriptBytes s.toBlocks c k) 1 1)), .stop] := if_neg (Bool.eq_false_iff.mp h)

/-- Settles O28: a pulse by the tick of its rising edge, a delivery by the set that is there or late, a link error by its streams one after
another, and the end of a transaction or of a script entry by the one branch that takes it. -/
theorem cameraControlCompletes : Obligations.CameraControlCompletes := by
  unfold Obligations.CameraControlCompletes
  refine ⟨fun s c hfires => ?pulse, fun s i f n hdue hfree => ?delivery, fun s c hlink => ?linkError,
    fun s c status bytes data huse hlow hhigh hlink => ?request, fun s c data huse hlink => ?stretchedRequest,
    fun s c k u huse hwrite => ?stretchedScript, fun s c k u status huse hdone hlast => ?lastEntry,
    fun s c k u status huse hdone hmore => ?nextEntry, fun s c k u status huse hwrite hstatus => ?failedEntry,
    fun s i m rest himages => ?image⟩
  case pulse =>
    refine ⟨_, rfl, firePulse_hide _ _ _ (by decide) (by decide), ?_⟩
    dsimp only
    obtain hsoon | hlate := Nat.lt_or_ge (s.objN (0x3500 + c) 0x09) 1024
    · obtain ⟨hout, hports⟩ := firePulse_of_soon c.isLt hfires hsoon
      rw [hout, hports, getI_updI_self _ _ c.isLt]
      exact ⟨fun _ => ⟨rfl, rfl⟩, fun h => absurd h (Nat.not_le.mpr hsoon), rfl, rfl, fun d hd => getI_updI_ne _ _ _ hd _⟩
    · obtain ⟨hout, hports⟩ := firePulse_of_late c.isLt hfires hlate
      rw [hout, hports, getI_updI_self _ _ c.isLt]
      exact ⟨fun h => absurd h (Nat.not_lt.mpr hlate), fun _ => ⟨rfl, rfl⟩, rfl, rfl, fun d hd => getI_updI_ne _ _ _ hd _⟩
  case delivery =>
    refine ⟨_, congrArg Host.Outcome.next (deliver_of_due hdue hfree), deliverFrame_hide _ _ _ _ _ (by decide) (by decide) (by decide), ?_⟩
    refine ⟨deliverFrame_melt s i f n, deliverFrame_lateSets i.isLt, fun hready => ?_⟩
    rw [deliverFrame_of_ready hready]
    refine ⟨rfl, ?_⟩
    rw [updCtx_cams, getI_updI_self _ _ i.isLt]
    exact fun r hr => of_decide_eq_true (List.mem_filter.mp hr).2
  case linkError =>
    refine ⟨_, rfl, linkError_hide _ _ _ (by decide) (by decide) (by decide) (by decide) (by decide), ?_⟩
    dsimp only
    rw [linkError_ports hlink]
    have hport := linkCut_port s c.isLt
    exact ⟨by rw [hport], by rw [hport], fun v hv => cutStreams_closed _ c.isLt (Nat.le_refl 4) hv⟩
  case request =>
    refine ⟨_, execI2cTransactionComplete_of_request huse hlow hhigh bytes, ?_⟩
    rw [endRequest_of_free c.isLt hlink]
    exact ⟨State_updPortC_hide _ _ _ _ (by decide), rfl⟩
  case stretchedRequest =>
    refine ⟨_, execClockStretchTimeout_of_request huse, ?_⟩
    rw [endRequest_of_free c.isLt hlink]
    exact ⟨State_updPortC_hide _ _ _ _ (by decide), rfl⟩
  case stretchedScript =>
    exact ⟨_, execClockStretchTimeout_of_script huse hwrite, scriptFailed_hide _ _ _ (by decide) (by decide), scriptFailed_cams s c,
      scriptFailed_faults s c⟩
  case lastEntry =>
    refine ⟨_, execInitScriptEntryDone_of_done huse hdone, ?_⟩
    rw [scriptEntry_of_last hlast]
    exact ⟨State_updPortC_hide _ _ _ _ (by decide), rfl⟩
  case nextEntry =>
    refine ⟨_, execInitScriptEntryDone_of_done huse hdone, ?_⟩
    rw [scriptEntry_of_more hmore]
    refine ⟨runEntry_hide _ _ _ _ (by decide) (by decide), fun hdelay => ?_, fun hwrite => ?_⟩
    · rw [runEntry_of_delay hdelay]
      exact ⟨rfl, rfl⟩
    · rw [runEntry_of_write hwrite]
      exact ⟨rfl, rfl⟩
  case failedEntry =>
    refine ⟨_, execInitScriptEntryDone_of_write huse hwrite status, ?_⟩
    rw [scriptEntry_of_failed hstatus]
    exact ⟨scriptFailed_hide _ _ _ (by decide) (by decide), scriptFailed_cams s c, scriptFailed_faults s c⟩
  case image =>
    refine ⟨_, rfl, State_updCtx_hide _ _ _ _ (by decide), ?_⟩
    dsimp only
    rw [updCtx_cams, updI_congr _ _ _ (fun x => { x with images := rest, image := m.data, imageIndex := m.index, geometry := m.geometry })]
    simp only [himages]

end Sys2Proof.Proofs.CameraPipeline

/-! Proofs about melt-pool control (10_melt_pool_control R268, R272, R277, R280, Table 10.2): the conditions of the power law, heat grids and
quality maps. -/

namespace Sys2Proof.Proofs.MeltPoolControl

open Sys2Proof Sys2Proof.Machine

/-! The conditions of the power law (R268, Table 10.2) -/

/-- A command that runs the operation f on the power control of channel n, where f does the same as g to it as it stands and posts es. -/
theorem does_of_updMelt {c : Instr} {s : State} {n : Nat} {f : LawEnv → Melt → Melt × List Event} {g : Melt → Melt} {es : List Event}
    (hexec : exec c s = .next ((s.updMelt n (fun _ => (f (lawEnv s.toBlocks n) (getI s.melt.chans n)).1)).postAll
      (f (lawEnv s.toBlocks n) (getI s.melt.chans n)).2))
    (h : f (lawEnv s.toBlocks n) (getI s.melt.chans n) = (g (getI s.melt.chans n), es)) :
    Does c s [.faults, .melt] (fun t => t.melt = { s.melt with chans := updI s.melt.chans n g } ∧ t.faults = posts s es) := by
  rw [h] at hexec
  refine ⟨_, hexec, (State_postAll_hide _ _ _ (by decide)).trans (State_updMelt_hide _ _ _ _ (by decide)), ?_, rfl⟩
  rw [← updI_congr s.melt.chans n (fun _ => g (getI s.melt.chans n)) g rfl]
  rfl

theorem loseSignal_of_due {v : LawEnv} {m : Melt} (hdue : v.lossCount ≤ m.lowRun) (hlost : m.lost = false) :
    loseSignal v m = ({ m with lost := true, lostPosted := true }, if m.lostPosted then [] else [chanEvent v.n 0x0A02 .warn []]) := by
  simp [loseSignal, hdue, hlost]

theorem starveCamera_of_due {v : LawEnv} {m : Melt} (hdue : v.absentCount ≤ m.absentRun) (hposted : m.starvedPosted = false) :
    starveCamera v m = ({ m with starvedPosted := true }, [chanEvent v.n 0x0A04 .warn []]) := by
  simp [starveCamera, hdue, hposted]

theorem limitCorrection_of_due {v : LawEnv} {m : Melt} (hdue : v.holdCount ≤ m.limitRun) (hposted : m.limitPosted = false) :
    limitCorrection v m = ({ m with limitPosted := true }, [chanEvent v.n 0x0A01 .warn []]) := by
  simp [limitCorrection, hdue, hposted]

/-! Heat grids (R272) -/

theorem mapIdx_eq_self {α : Type} {l : List α} {f : Nat → α → α} (h : ∀ i < l.length, ∀ x, f i x = x) : l.mapIdx f = l :=
  List.ext_getElem List.length_mapIdx fun i hi _ => List.getElem_mapIdx.trans (h i (List.length_mapIdx ▸ hi) _)

section

variable {α : Type} {pre post : List α} {x : α}

theorem findIdx_append_cons {p : α → Bool} (hpre : ∀ y ∈ pre, p y = false) (hx : p x = true) : (pre ++ x :: post).findIdx p = pre.length := by
  simp [List.findIdx_append, List.findIdx_eq_length_of_false hpre, List.findIdx_cons, hx]

theorem mapIdx_append_cons (f : α → α) :
    (pre ++ x :: post).mapIdx (fun i y => if i = pre.length then f y else y) = pre ++ f x :: post := by
  rw [List.mapIdx_append, List.mapIdx_cons, if_pos (Nat.zero_add _),
    mapIdx_eq_self (l := pre) fun i hi y => if_neg (Nat.ne_of_lt hi),
    mapIdx_eq_self (l := post) fun i _ y => if_neg (by omega)]

end

/-- A completed layer with its heat grid computed on the grid `base`. -/
def withGrid (base : HeatGrid) (d : HeatDue) : HeatDue := { d with grid := some (heatUpdate base d.decay d.ref d.layer d.energy) }

/-- The heat grid of the first layer without one is computed, on the newest one there is. -/
theorem computeHeat_of_first {x : MeltState} {pre post : List HeatDue} {d : HeatDue} (hdue : x.heatDue = pre ++ d :: post)
    (hpre : ∀ y ∈ pre, y.grid.isNone = false) (hd : d.grid.isNone = true) :
    computeHeat x = { x with heatDue := pre ++ withGrid (lastGrid x) d :: post } := by
  have hindex : x.heatDue.findIdx (fun y => y.grid.isNone) = pre.length := by rw [hdue, findIdx_append_cons hpre hd]
  simp only [computeHeat, hindex]
  rw [hdue]
  exact congrArg (fun l => { x with heatDue := l }) (mapIdx_append_cons (withGrid (lastGrid x)))

theorem updateHeat_of_first {s : State} {pre post : List HeatDue} {d : HeatDue} (hdue : s.melt.heatDue = pre ++ d :: post)
    (hpre : ∀ y ∈ pre, y.grid.isNone = false) (hd : d.grid.isNone = true) (hread : recordsRead s.toBlocks (d.c + 9) = true) :
    updateHeat s = s.updMeltState computeHeat := by
  have hfind : s.melt.heatDue.find? (fun y => y.grid.isNone) = some d :=
    List.find?_eq_some_iff_append.mpr ⟨hd, pre, post, hdue, fun y hy => by rw [hpre y hy]; rfl⟩
  simp only [updateHeat, hfind, hread, if_true]

/-! Quality maps (R276, R277, R280) -/

/-- A map on its way to the run-length engine, but for the blocks it still has to pass to Q46. -/
def mapBehindFeed (c : MapClosing) : Nat × Nat × MapAcc × Nat × List (Bytes × Nat) := (c.serial, c.since, c.map, c.left, c.planes)

/-- Passing cells to Q46 takes from a closed map only the blocks it still has to pass. -/
theorem feedAll_mapBehindFeed (free : Nat) (l : List MapClosing) : (feedAll free l).2.map mapBehindFeed = l.map mapBehindFeed := by
  induction l generalizing free with
  | nil => rfl
  | cons c l ih =>
    simp only [feedAll]
    split
    · exact congrArg (mapBehindFeed c :: ·) (ih _)
    · rfl

/-- The maps whose records are read. -/
def readyMaps (s : State) : List MapAcc := s.melt.maps.filter (mapReady s.toBlocks)

/-- The closed maps once those whose records are read are closed too, before their cells go to Q46. -/
def withReadyMaps (s : State) : List MapClosing :=
  s.melt.closing ++ (readyMaps s).mapIdx (fun k m => startClosing (s.melt.held.closed + k) s.now m)

theorem closeMaps_closing (s : State) : (closeMaps s).melt.closing = (feedAll (524288 - cellBytes s.melt.q46) (withReadyMaps s)).2 := rfl

theorem closeMaps_faults (s : State) :
    (closeMaps s).faults = posts s (((readyMaps s).filter (fun m => decide (m.outside ≠ 0))).map
      (fun m => layerEvent 0x0A06 .note m.layer (leBytes 4 m.outside))) := rfl

theorem takeBlocks_melt (s : State) :
    (takeBlocks s).melt = { s.melt with closing := s.melt.q47.foldl placeBlock s.melt.closing, q47 := [] } := rfl

section

variable {s : State} {c : MapClosing} {rest : List MapClosing} (hclosing : s.melt.closing = c :: rest)

include hclosing

theorem replacePlanes_of_compressed (hleft : c.left = 0) :
    replacePlanes s = s.updMeltState (fun x => { x with
      closing := rest
      held := { x.held with
        layer := c.map.layer, job := c.map.job, completion := c.map.completion.getD 0, planes := planeObjects c } }) := by
  simp only [replacePlanes, hclosing, hleft, if_true]

theorem replacePlanes_of_waiting (hleft : c.left ≠ 0) : replacePlanes s = s := by simp only [replacePlanes, hclosing, hleft, if_false]

end

/-- Settles O29: each condition by its one branch on its own channel, the heat grid by the place of the first layer without one, closed maps
by what the feed of Q46 leaves of them, and the plane objects by whether the oldest closed map has blocks to come. -/
theorem meltPoolCommandsComplete : Obligations.MeltPoolCommandsComplete := by
  unfold Obligations.MeltPoolCommandsComplete
  refine ⟨fun s n hdue hlost => does_of_updMelt rfl (loseSignal_of_due hdue hlost),
    fun s n hdue hposted => does_of_updMelt rfl (starveCamera_of_due hdue hposted),
    fun s n hdue hposted => does_of_updMelt rfl (limitCorrection_of_due hdue hposted),
    fun s pre post d hdue hpre hd hread => ?heat, fun s => ?close, fun s c rest hblocks => ?planes⟩
  case heat =>
    have hcomputed : ∀ y ∈ pre, y.grid.isNone = false := fun y hy => Option.isNone_eq_false_iff.mpr (hpre y hy)
    have hnone : d.grid.isNone = true := Option.isNone_iff_eq_none.mpr hd
    refine ⟨_, congrArg Host.Outcome.next (updateHeat_of_first hdue hcomputed hnone hread), State_updMeltState_hide _ _ _ (by decide), ?_⟩
    exact computeHeat_of_first hdue hcomputed hnone
  case close =>
    refine ⟨_, rfl, closeMaps_hide s _ (by decide) (by decide) (by decide), rfl, ?_, rfl, rfl, closeMaps_faults s⟩
    exact (congrArg _ (closeMaps_closing s)).trans (feedAll_mapBehindFeed _ _)
  case planes =>
    refine ⟨_, rfl, (replacePlanes_hide _ _ (by decide)).trans (takeBlocks_hide s _ (by decide)), fun hleft => ?_, fun hleft => ?_⟩
    · rw [replacePlanes_of_compressed hblocks hleft, updMeltState_melt, takeBlocks_melt]
    · rw [replacePlanes_of_waiting hblocks hleft, takeBlocks_melt, hblocks]

end Sys2Proof.Proofs.MeltPoolControl

/-! Proofs about the step (01_architecture) and the commands of the units, which write one object each (06 Tables 6.7 and 6.8, 07 Table 7.4,
08 Table 8.3, 09 Tables 9.9 and 9.10, 12 Table 12.15, 14 Table 14.6, 15 Table 15.6, 16 Table 16.5, 17 Table 17.10, 18 Table 18.5). -/

namespace Sys2Proof.Proofs.UnitCommands

open Sys2Proof Sys2Proof.Machine Sys2Proof.Proofs.Scope Sys2Proof.Proofs.HostLink

/-! The step -/

theorem step_of_nil {s : State} (h : s.pending = []) : step s = .next s := by
  simp only [step, h]

theorem step_of_cons {s : State} {c : Instr} {q : List Instr} (h : s.pending = c :: q) : step s = exec c (s.withPending q) := by
  simp only [step, h]

/-- Settles O1: the front command is taken from the queue, and the queue it had stood in is replaced by the rest. -/
theorem stepRunsTheFrontCommand : Obligations.StepRunsTheFrontCommand := by
  unfold Obligations.StepRunsTheFrontCommand
  intro c q s
  exact step_of_cons (s := s.withPending (c :: q)) rfl

/-- Settles O2, by the branch of the step that finds no command. -/
theorem emptyQueueIdles : Obligations.EmptyQueueIdles := by
  unfold Obligations.EmptyQueueIdles
  exact fun s => step_of_nil

/-! Values that a type decodes (R66, Table 3.1) -/

theorem decodeVal_bool {v : Nat} (h : v < 2) : decodeVal .bool (leBytes 1 v) = .int v :=
  congrArg (fun k : Nat => Val.int k) (leNat_leBytes_of_lt (by omega))

theorem decodeVal_sint {n : Nat} {x : Int} (hn : 0 < n) (hlo : -2 ^ (8 * n - 1) ≤ x) (hhi : x < 2 ^ (8 * n - 1)) :
    decodeVal (.sint n) (leBytesI n x) = .int x := by
  have hint := leInt_leBytesI hn hlo hhi
  rw [leInt, leBytesI, leBytes_length] at hint
  exact congrArg Val.int hint

/-- An object of its own for each of `count` units stands in the tables, at the unit's index. -/
abbrev DeclaredEach (count base sub : Nat) (type : ObjType) (apply : Apply) : Prop := ∀ n : Fin count, Declared (base + n) sub type apply

/-- Settles O14: each command writes the object of its channel or axis, whose type decodes the octets written to the value named. -/
theorem scannerCommandsCommit : Obligations.ScannerCommandsCommit := by
  unfold Obligations.ScannerCommandsCommit
  have henable : DeclaredEach 32 0x3000 0x00 .bool .imm := by decide
  have hchannel : DeclaredEach 32 0x3100 0x0C (.uint 1) .imm := by decide
  have haxis : DeclaredEach 96 0x3200 0x02 (.uint 1) .imm := by decide
  have hmarks : DeclaredEach 96 0x3300 0x2C .bool .imm := by decide
  exact ⟨fun s n v clk hv => commits_of_accepted (henable n) (by decide) (decodeVal_bool hv) rfl,
    fun s n clk => commits_of_accepted (hchannel n) (by decide) rfl rfl,
    fun s n clk => commits_of_accepted (hchannel n) (by decide) rfl rfl,
    fun s a clk => commits_of_accepted (haxis a) (by decide) rfl rfl,
    fun s a clk => commits_of_accepted (haxis a) (by decide) rfl rfl,
    fun s a clk => commits_of_accepted (haxis a) (by decide) rfl rfl,
    fun s a v clk hv => commits_of_accepted (hmarks a) (by decide) (decodeVal_bool hv) rfl⟩

/-- Settles O15: each command writes the object of its camera, context or port, whose type decodes the octets written to the value named. -/
theorem cameraAndPortCommandsCommit : Obligations.CameraAndPortCommandsCommit := by
  unfold Obligations.CameraAndPortCommandsCommit
  have htrigger : DeclaredEach 20 0x3500 0x0B .bool .imm := by decide
  have hi2c : DeclaredEach 20 0x3500 0x10 (.octets 40) .imm := by decide
  have hstreaming : DeclaredEach 20 0x3500 0x00 .bool .imm := by decide
  have hsnapshot : DeclaredEach 128 0x3400 0x1D .bool .imm := by decide
  have hport : DeclaredEach 64 0x5000 0x00 .bool .stp := by decide
  have hretrain : DeclaredEach 64 0x5000 0x03 (.uint 1) .imm := by decide
  have hrequest : DeclaredEach 64 0x5000 0x04 (.octets 40) .imm := by decide
  exact ⟨fun s c v clk hv => commits_of_accepted (htrigger c) (by decide) (decodeVal_bool hv) rfl,
    fun s c data clk => commits_of_accepted (hi2c c) (by decide) rfl rfl,
    fun s c v clk hv => commits_of_accepted (hstreaming c) (by decide) (decodeVal_bool hv) rfl,
    fun s i v clk hv => commits_of_accepted (hsnapshot i) (by decide) (decodeVal_bool hv) rfl,
    fun s p v clk hv => commits_of_accepted (hport p) (by decide) (decodeVal_bool hv) rfl,
    fun s p clk => commits_of_accepted (hretrain p) (by decide) rfl rfl,
    fun s p data clk => commits_of_accepted (hrequest p) (by decide) rfl rfl⟩

/-- Settles O16: each command writes the object of its axis, a target or a position as a signed number of four octets. -/
theorem stepperCommandsCommit : Obligations.StepperCommandsCommit := by
  unfold Obligations.StepperCommandsCommit
  have hcommand : DeclaredEach 8 0x4000 0x40 (.uint 1) .imm := by decide
  have hmove : DeclaredEach 8 0x4000 0x41 (.octets 16) .imm := by decide
  have hretarget : DeclaredEach 8 0x4000 0x42 (.sint 4) .imm := by decide
  have hposition : DeclaredEach 8 0x4000 0x43 (.sint 4) .imm := by decide
  exact ⟨fun s m data clk => commits_of_accepted (hmove m) (by decide) rfl rfl,
    fun s m x clk hlo hhi => commits_of_accepted (hretarget m) (by decide) (decodeVal_sint (by decide) hlo hhi) rfl,
    fun s m x clk hlo hhi => commits_of_accepted (hposition m) (by decide) (decodeVal_sint (by decide) hlo hhi) rfl,
    fun s m clk => commits_of_accepted (hcommand m) (by decide) rfl rfl,
    fun s m clk => commits_of_accepted (hcommand m) (by decide) rfl rfl,
    fun s m clk => commits_of_accepted (hcommand m) (by decide) rfl rfl,
    fun s m clk => commits_of_accepted (hcommand m) (by decide) rfl rfl⟩

/-- Settles O17: each command writes the object of its string, engine, switch or trim, whose type decodes the octets written to the value
named. -/
theorem lightAndPowerCommandsCommit : Obligations.LightAndPowerCommandsCommit := by
  unfold Obligations.LightAndPowerCommandsCommit
  have hstring : DeclaredEach 16 0x4100 0x00 .bool .imm := by decide
  have hlamps : DeclaredEach 16 0x4100 0x0C .bool .imm := by decide
  have hengine : Declared 0x4200 0x00 (.uint 1) .imm := by decide
  have hswitch : DeclaredEach 16 0x2110 0x00 (.uint 1) .imm := by decide
  have htrim : DeclaredEach 81 0x4300 0x02 (.uint 1) .stp := by decide
  exact ⟨fun s l v clk hv => commits_of_accepted (hstring l) (by decide) (decodeVal_bool hv) rfl,
    fun s l v clk hv => commits_of_accepted (hlamps l) (by decide) (decodeVal_bool hv) rfl,
    fun s clk => commits_of_accepted hengine (by decide) rfl rfl,
    fun s clk => commits_of_accepted hengine (by decide) rfl rfl,
    fun s clk => commits_of_accepted hengine (by decide) rfl rfl,
    fun s k clk => commits_of_accepted (hswitch k) (by decide) rfl rfl,
    fun s k clk => commits_of_accepted (hswitch k) (by decide) rfl rfl,
    fun s k clk => commits_of_accepted (hswitch k) (by decide) rfl rfl,
    fun s j v clk hv => commits_of_accepted (htrim j) (by decide) (decodeVal_uint hv) rfl⟩

end Sys2Proof.Proofs.UnitCommands

/-! Proofs about the instances of a unit: an operation carried out on one after another, and the elements of their vectors. -/

namespace Sys2Proof.Proofs.Instances

open Sys2Proof Sys2Proof.Machine Sys2Proof.Proofs.Timebase

section

variable {α : Type} {f : State → Nat → State} {get : State → Nat → α} (hother : ∀ s k i, i ≠ k → get (f s k) i = get s i)

include hother

/-- An operation on each unit below `n` leaves the units from `n` on. -/
theorem forI_above {n i : Nat} (s : State) (hi : n ≤ i) : get (forI n s f) i = get s i := by
  induction n with
  | zero => rfl
  | succ n ih => rw [forI_succ, hother _ _ _ (by omega), ih (by omega)]

/-- What an operation on each unit makes of one is what its own turn makes of it, as the turns before have left the state. -/
theorem forI_own {n i : Nat} (s : State) (hi : i < n) : get (forI n s f) i = get (f (forI i s f) i) i := by
  induction n with
  | zero => omega
  | succ n ih =>
    rw [forI_succ]
    rcases Nat.lt_or_eq_of_le (Nat.lt_succ_iff.mp hi) with h | rfl
    · rw [hother _ _ _ (by omega), ih h]
    · rfl

end

theorem getI_fin {α : Type} [Inhabited α] {n : Nat} (v : Vector α n) (i : Fin n) : getI v i = v[i] := by
  simp [getI]

end Sys2Proof.Proofs.Instances

/-! Proofs about seam registration (11_seam_registration R282, R286, R290): observations, the solve of a fen and the commit of the grids. -/

namespace Sys2Proof.Proofs.SeamRegistration

open Sys2Proof Sys2Proof.Machine Sys2Proof.Proofs.Architecture Sys2Proof.Proofs.Timebase Sys2Proof.Proofs.MeltPoolControl
  Sys2Proof.Proofs.Instances

/-! The solve of a fen (R286) -/

/-- A layer with the solution of a fen, if it holds an observation of it and has no solution yet. -/
def withSolution (x : FenState) (z : Nat) (l : LayerSolve) : LayerSolve :=
  if l.solved.any (fun r => r.fen == z) then l
  else
    match l.fens.find? (fun c => c.fen == z), layerObs x l z with
    | some c, o :: os => { l with solved := l.solved ++ [solveFen c l.mats (o :: os)] }
    | _, _ => l

/-- The solution joins the oldest undecided layer. -/
theorem solveOne_eq (x : FenState) (z : Nat) :
    solveOne x z = { x with layers := x.layers.mapIdx (fun i l =>
      if i = x.layers.findIdx (fun l => !l.decided) then withSolution x z l else l) } := by
  refine congrArg (fun f => { x with layers := x.layers.mapIdx f }) (funext fun i => funext fun l => ?_)
  rcases Decidable.em (i = x.layers.findIdx (fun l => !l.decided)) with hi | hi
  · cases hsolved : l.solved.any (fun r => r.fen == z)
    · simp only [hi, withSolution, hsolved, decide_true, Bool.not_false, Bool.and_self, if_true, Bool.false_eq_true, if_false] <;> rfl
    · simp only [hi, withSolution, hsolved, decide_true, Bool.not_true, Bool.and_false, if_true, Bool.false_eq_true, if_false]
  · simp only [hi, decide_false, Bool.false_and, Bool.false_eq_true, if_false]

theorem withSolution_of_observed {x : FenState} {z : Nat} {l : LayerSolve} {c : FenCfg} (hsolved : ∀ r ∈ l.solved, r.fen ≠ z)
    (hfen : l.fens.find? (fun x => x.fen == z) = some c) (hobs : layerObs x l z ≠ []) :
    withSolution x z l = { l with solved := l.solved ++ [solveFen c l.mats (layerObs x l z)] } := by
  have hnone : l.solved.any (fun r => r.fen == z) = false := by simpa using hsolved
  obtain ⟨o, os, hcons⟩ := List.exists_cons_of_ne_nil hobs
  simp only [withSolution, hnone, Bool.false_eq_true, if_false, hfen, hcons]

theorem solveOne_of_oldest {x : FenState} {z : Nat} {pre post : List LayerSolve} {l : LayerSolve} (hlayers : x.layers = pre ++ l :: post)
    (hpre : ∀ y ∈ pre, y.decided = true) (hl : l.decided = false) : solveOne x z = { x with layers := pre ++ withSolution x z l :: post } := by
  have hindex : x.layers.findIdx (fun l => !l.decided) = pre.length := by
    rw [hlayers, findIdx_append_cons (fun y hy => by rw [hpre y hy]; rfl) (by rw [hl]; rfl)]
  rw [solveOne_eq, hindex, hlayers]
  exact congrArg (fun l => { x with layers := l }) (mapIdx_append_cons (withSolution x z))

theorem execFenSolve_of_known {s : State} {z : Fin 256} (hwaiting : ∀ x ∈ s.reg.waiting, x.fen ≠ z.val) :
    exec (.fenSolve z) s = .next (s.updReg (fun x => solveOne x z)) := by
  have hknown : ¬fenWaits s.reg z = true := by simpa [fenWaits] using hwaiting
  exact congrArg Host.Outcome.next (if_neg hknown)

/-! The judgement of the grids (R290) -/

/-- Of what the grids are judged by, and of the refusals of grid `k`, `x` holds what `s` does. -/
structure JudgedAs (s : State) (k : Nat) (x : State × LayerSolve) : Prop where
  dict : x.1.dict = s.dict
  generation : ∀ i, (getI x.1.reg.scanners i).generation = (getI s.reg.scanners i).generation
  clear : x.2.refused.any (fun r => r.1 == k) = false

theorem correctors_congr {s t : Blocks} (hvals : t.dict.vals = s.dict.vals) (l : LayerSolve) (k : Nat) : correctors t l k = correctors s l k := by
  have hobjI (index sub : Nat) : t.objI index sub = s.objI index sub := by simp only [Blocks.objI, objVal, hvals]
  have hstep (c : FenCfg) (r : Solved) : stepOver t c r = stepOver s c r := by simp only [stepOver, gridFrame, Blocks.objN, hobjI]
  simp only [correctors, hstep]

theorem refusal_congr {s t : Blocks} (hdict : t.dict = s.dict)
    (hgen : ∀ i, (getI t.reg.scanners i).generation = (getI s.reg.scanners i).generation) (l : LayerSolve) (k : Nat) :
    refusal t l k = refusal s l k := by
  have hobjB (index sub : Nat) : t.objB index sub = s.objB index sub := by simp only [Blocks.objB, Blocks.objI, hdict]
  simp only [refusal, hobjB, hdict, hgen]

theorem updFens_keeps (zs : List Nat) (f : FenStatus → FenStatus) (s : State) :
    (zs.foldl (fun s z => s.updFen z f) s).reg.layers = s.reg.layers ∧
    (zs.foldl (fun s z => s.updFen z f) s).reg.scanners = s.reg.scanners :=
  ⟨foldl_keeps zs (f := fun s z => s.updFen z f) (·.reg.layers) (fun _ _ => rfl) s,
    foldl_keeps zs (f := fun s z => s.updFen z f) (·.reg.scanners) (fun _ _ => rfl) s⟩

theorem refuseGrid_keeps (l : LayerSolve) (s : State) (k status : Nat) :
    (refuseGrid l s k status).dict = s.dict ∧ (refuseGrid l s k status).reg.layers = s.reg.layers ∧
    ∀ i, (getI (refuseGrid l s k status).reg.scanners i).generation = (getI s.reg.scanners i).generation := by
  let x := s.updGrid k (fun g => { g with unstaged := inc32 g.unstaged })
  obtain ⟨hlayers, hscanners⟩ := updFens_keeps ((correctors s.toBlocks l k).map (fun c => c.1.fen)) (fun f => { f with update := status }) x
  refine ⟨eq_of_sameBut (·.dict) (refuseGrid_hide l s k status [.faults, .reg] (by decide) (by decide)) fun _ => rfl, hlayers, fun i => ?_⟩
  have hgrids : (refuseGrid l s k status).reg.scanners = updI s.reg.scanners k (fun g => { g with unstaged := inc32 g.unstaged }) := hscanners
  rw [hgrids, getI_updI]
  split
  · next h => rw [h.1]
  · rfl

/-- Grid `j` judged: refused under its reason, or left. -/
def judge (l : LayerSolve) (x : State × LayerSolve) (j : Nat) : State × LayerSolve :=
  if (correctors x.1.toBlocks l j).isEmpty || x.2.refused.any (fun r => r.1 == j) then x
  else
    match refusal x.1.toBlocks l j with
    | some st => (refuseGrid l x.1 j st, { x.2 with refused := x.2.refused ++ [(j, st)] })
    | none => x

theorem judge_of_refused {l : LayerSolve} {x : State × LayerSolve} {j st : Nat} (h : refusal x.1.toBlocks l j = some st) :
    judge l x j = x ∨ judge l x j = (refuseGrid l x.1 j st, { x.2 with refused := x.2.refused ++ [(j, st)] }) := by
  simp only [judge, h]
  split
  · exact .inl rfl
  · exact .inr rfl

theorem judge_of_granted {l : LayerSolve} {x : State × LayerSolve} {j : Nat} (h : refusal x.1.toBlocks l j = none) : judge l x j = x := by
  simp only [judge, h, ite_self]

/-- Judging a grid keeps what the next one is judged by, and refuses no grid for which there is no reason. -/
theorem judgedAs_judge {s : State} {l : LayerSolve} {k : Nat} (hgranted : refusal s.toBlocks l k = none) {x : State × LayerSolve}
    (hx : JudgedAs s k x) (j : Nat) : JudgedAs s k (judge l x j) := by
  cases h : refusal x.1.toBlocks l j with
  | none => rwa [judge_of_granted h]
  | some st =>
    have hj : j ≠ k := by
      rintro rfl
      rw [refusal_congr hx.dict hx.generation, hgranted] at h
      cases h
    rcases judge_of_refused h with h | h
    · rwa [h]
    · obtain ⟨hdict, -, hgen⟩ := refuseGrid_keeps l x.1 j st
      rw [h]
      refine ⟨hdict.trans hx.dict, fun i => (hgen i).trans (hx.generation i), ?_⟩
      simp [List.any_append, hx.clear, hj]

theorem judgedAs_refuseGrids {s : State} {l : LayerSolve} {k : Nat} (hclear : ∀ r ∈ l.refused, r.1 ≠ k)
    (hgranted : refusal s.toBlocks l k = none) : JudgedAs s k (refuseGrids s l) := by
  have hfold : ∀ (js : List Nat) (x : State × LayerSolve), JudgedAs s k x → JudgedAs s k (js.foldl (judge l) x) := by
    intro js
    induction js with
    | nil => exact fun x hx => hx
    | cons j js ih => exact fun x hx => ih _ (judgedAs_judge hgranted hx j)
  exact hfold _ (s, l) ⟨rfl, fun _ => rfl, by simpa using hclear⟩

theorem judge_layers (l : LayerSolve) (x : State × LayerSolve) (j : Nat) : (judge l x j).1.reg.layers = x.1.reg.layers := by
  cases h : refusal x.1.toBlocks l j with
  | none => rw [judge_of_granted h]
  | some st =>
    rcases judge_of_refused h with h | h
    · rw [h]
    · rw [h]
      exact (refuseGrid_keeps l x.1 j st).2.1

theorem refuseGrids_layers (s : State) (l : LayerSolve) : (refuseGrids s l).1.reg.layers = s.reg.layers := by
  have hfold : ∀ (js : List Nat) (x : State × LayerSolve), (js.foldl (judge l) x).1.reg.layers = x.1.reg.layers := by
    intro js
    induction js with
    | nil => exact fun x => rfl
    | cons j js ih => exact fun x => (ih _).trans (judge_layers l x j)
  exact hfold _ (s, l)

/-! The commit of the grids (R290) -/

/-- The pending writes of the objects of grid `k`. -/
def gridWrites (s : State) (k : Nat) : List PendingWrite := s.dict.pending.filter (fun w => w.index == 0x3800 + k)

/-- A grid in its turn: corrected by a fen and not refused, it is staged. -/
def stageTurn (l refused : LayerSolve) (s : State) (k : Nat) : State :=
  if (correctors s.toBlocks l k).isEmpty || refused.refused.any (fun x => x.1 == k) then s else stageGrid l s k

theorem commitGrids_of_decided {s : State} {l : LayerSolve} {rest : List LayerSolve} (hlayers : s.reg.layers = l :: rest)
    (hdecided : l.decided = true) : commitGrids s =
      (forI 32 (refuseGrids s l).1 (stageTurn l (refuseGrids s l).2)).updReg (fun x => { x with layers := x.layers.drop 1 }) := by
  simp only [commitGrids, hlayers, hdecided, if_true]
  rfl

theorem stageGrid_keeps (l : LayerSolve) (s : State) (k : Nat) :
    (stageGrid l s k).reg.layers = s.reg.layers ∧ (stageGrid l s k).dict.vals = s.dict.vals := ⟨rfl, rfl⟩

theorem stageTurn_keeps (l r : LayerSolve) (s : State) (k : Nat) :
    (stageTurn l r s k).reg.layers = s.reg.layers ∧ (stageTurn l r s k).dict.vals = s.dict.vals := by
  unfold stageTurn
  split
  · exact ⟨rfl, rfl⟩
  · exact stageGrid_keeps l s k

theorem filter_putPending_of_other {p : PendingWrite → Bool} {w : PendingWrite} (hw : p w = false)
    (hp : ∀ x : PendingWrite, x.index = w.index → p x = false) (now : Nat) (l : List PendingWrite) : (putPending now l w).filter p = l.filter p := by
  rw [putPending, List.filter_append, List.filter_filter, List.filter_singleton, hw, cond_false, List.append_nil]
  refine List.filter_congr fun x _ => ?_
  by_cases h : x.index = w.index
  · rw [hp x h, Bool.false_and]
  · simp [h]

/-- Staging a grid leaves the pending writes of the others. -/
theorem stageTurn_other (l r : LayerSolve) (s : State) (k i : Nat) (h : i ≠ k) : gridWrites (stageTurn l r s k) i = gridWrites s i := by
  unfold stageTurn
  split
  · rfl
  · refine filter_putPending_of_other ?_ (fun x hx => ?_) _ _
    · simpa [newPending] using fun e : k = i => h e.symm
    · simpa [hx, newPending] using fun e : k = i => h e.symm

/-- A grid that is staged waits for the next boundary. -/
theorem stageGrid_waits (l : LayerSolve) (s : State) (k : Nat) :
    ∃ w ∈ gridWrites (stageGrid l s k) k, w.index = 0x3800 + k ∧ w.sub = 3 ∧ w.due = s.now + 1 := by
  refine ⟨_, List.mem_filter.mpr ⟨List.mem_append_right _ (List.mem_singleton_self _), ?_⟩, rfl, rfl, rfl⟩
  exact beq_self_eq_true _

/-- The state in which the grids are judged: the engine clock at 8,800. -/
def gridsJudged (s : State) (l : LayerSolve) : State × LayerSolve := refuseGrids (s.atClock 8800) l

theorem gridsJudged_sameBut (s : State) (l : LayerSolve) : sameBut [.faults, .reg] (s.atClock 8800) (gridsJudged s l).1 :=
  refuseGrids_hide _ _ _ (by decide) (by decide)

/-- Every turn leaves the layers, the values in force and the tick count as they were before any grid was judged. -/
theorem stageTurns_keep (s : State) (l : LayerSolve) (n : Nat) :
    let t := forI n (gridsJudged s l).1 (stageTurn l (gridsJudged s l).2)
    t.dict.vals = s.dict.vals ∧ t.now = s.now ∧ t.time = (s.atClock 8800).time := by
  have hturns : sameBut [.dict, .faults, .reg] (gridsJudged s l).1 (forI n (gridsJudged s l).1 (stageTurn l (gridsJudged s l).2)) :=
    forI_hide _ _ _ _ fun s k => by simp [stageTurn]
  have hjudged := gridsJudged_sameBut s l
  have hvals : (gridsJudged s l).1.dict.vals = (s.atClock 8800).dict.vals := eq_of_sameBut (·.dict.vals) hjudged fun _ => rfl
  have htime : (forI n (gridsJudged s l).1 (stageTurn l (gridsJudged s l).2)).time = (s.atClock 8800).time :=
    (eq_of_sameBut (·.time) hturns fun _ => rfl).trans (eq_of_sameBut (·.time) hjudged fun _ => rfl)
  exact ⟨(eq_of_sameBut (·.dict.vals) hturns fun _ => rfl).trans hvals, (congrArg TimeState.ticks htime :), htime⟩

/-- A grid that a fen corrects and that nothing refuses is staged in its turn. -/
theorem gridsStaged_waits {s : State} {l : LayerSolve} {k : Nat} (hk : k < 32) (hcorrected : correctors s.toBlocks l k ≠ [])
    (hclear : ∀ r ∈ l.refused, r.1 ≠ k) (hgranted : refusal s.toBlocks l k = none) :
    ∃ w ∈ (forI 32 (gridsJudged s l).1 (stageTurn l (gridsJudged s l).2)).dict.pending,
      w.index = 0x3800 + k ∧ w.sub = 3 ∧ w.due = s.now + 1 := by
  let x := forI k (gridsJudged s l).1 (stageTurn l (gridsJudged s l).2)
  obtain ⟨hvals, hnow, -⟩ := stageTurns_keep s l k
  have hjudged : JudgedAs (s.atClock 8800) k (gridsJudged s l) := judgedAs_refuseGrids hclear hgranted
  have hturn : stageTurn l (gridsJudged s l).2 x k = stageGrid l x k := by
    refine if_neg ?_
    rw [correctors_congr hvals, hjudged.clear, Bool.or_false, List.isEmpty_iff]
    exact hcorrected
  obtain ⟨w, hw, hindex, hsub, hdue⟩ := stageGrid_waits l x k
  rw [← hturn, ← forI_own (get := gridWrites) (stageTurn_other l _) _ hk] at hw
  exact ⟨w, (List.mem_filter.mp hw).1, hindex, hsub, hdue.trans (by rw [hnow])⟩

theorem execGridUpdateCommit_of_decided {s : State} {l : LayerSolve} {rest : List LayerSolve} (hlayers : s.reg.layers = l :: rest)
    (hdecided : l.decided = true) : exec .gridUpdateCommit s = .next (commitGrids (s.atClock 8800)) := by
  simp only [exec, execGridUpdateCommit, hlayers, hdecided, if_true]

/-- Settles O30: observations by the one equation of their command, a solve by the place of the oldest undecided layer, the grids by the turn
that each of them has. -/
theorem registrationCommandsComplete : Obligations.RegistrationCommandsComplete := by
  unfold Obligations.RegistrationCommandsComplete
  refine ⟨fun s n => ⟨_, rfl, postObservations_hide s _ _ (by decide), rfl⟩,
    fun s z pre post l c hwaiting hlayers hpre hl hsolved hfen hobs => ?solve, fun s l rest hlayers hdecided => ?grids⟩
  case solve =>
    refine ⟨_, execFenSolve_of_known hwaiting, State_updReg_hide s _ _ (by decide), ?_⟩
    rw [← withSolution_of_observed hsolved hfen hobs]
    exact solveOne_of_oldest hlayers hpre hl
  case grids =>
    obtain ⟨hvals, -, htime⟩ := stageTurns_keep s l 32
    refine ⟨_, execGridUpdateCommit_of_decided hlayers hdecided, by simp [sameBut], ?_⟩
    rw [commitGrids_of_decided (s := s.atClock 8800) hlayers hdecided]
    refine ⟨htime, ?_, hvals, fun k hk hcorrected hclear hgranted => gridsStaged_waits hk hcorrected hclear hgranted⟩
    show (forI 32 (gridsJudged s l).1 (stageTurn l (gridsJudged s l).2)).reg.layers.drop 1 = rest
    rw [forI_keeps (f := stageTurn l _) 32 (·.reg.layers) (fun s k => (stageTurn_keeps l _ s k).1),
      show (gridsJudged s l).1.reg.layers = s.reg.layers from refuseGrids_layers _ l, hlayers]
    rfl

end Sys2Proof.Proofs.SeamRegistration

/-! Proofs about the service and the loss of a port of the Zhomon Link (12_zhomon_link R307, R308, R316, R318, R332). -/

namespace Sys2Proof.Proofs.ZhomonLink

open Sys2Proof Sys2Proof.Machine Sys2Proof.Proofs.Timebase Sys2Proof.Proofs.HostLink Sys2Proof.Proofs.PositionFeedback

theorem updPort_port (s : State) {p : Nat} (hp : p < 64) (f : ZlPort → ZlPort) :
    getI (s.updPort p f).link.ports p = f (getI s.link.ports p) := getI_updI_self _ _ hp _

theorem updPort_other (s : State) {p q : Nat} (h : q ≠ p) (f : ZlPort → ZlPort) :
    getI (s.updPort p f).link.ports q = getI s.link.ports q := getI_updI_ne _ _ _ h _

/-! An event of a port (R331) -/

theorem portPost_other (s : State) {p q : Nat} (h : q ≠ p) (code : Nat) (sev : Severity) :
    getI (portPost s p code sev).link.ports q = getI s.link.ports q := by
  obtain h' | h' := portPost_eq s p code sev <;> rw [h']
  exact updPort_other s h _

/-! Answers to a service request (R316) -/

theorem onService_of_valid {s : State} {p : Nat} {h : NodeHead} (hvalid : frameFault p (serviceSequences s.toBlocks p) h = 0)
    (f : State → State) : onService s p h f = f (countFrame s p 0 h) := by
  unfold onService
  rw [hvalid]
  rfl

/-- What a port holds once its request is answered. -/
def requestDone (item status : Nat) (data : Bytes) (x : ZlPort) : ZlPort :=
  { x with
    reqStatus := 2, step := .none, svc := none
    response := leBytes 2 item ++ leBytes 1 status ++ leBytes 1 data.length ++ padTo 32 data }

theorem answered_port (s : State) {p : Nat} (hp : p < 64) (h : NodeHead) (item status : Nat) (data : Bytes) :
    getI (requestAnswered (countFrame s p 0 h) p item status data).link.ports p =
      requestDone item status data (getI (countFrame s p 0 h).link.ports p) := updPort_port _ hp _

theorem answered_sameBut (s : State) (p : Nat) (h : NodeHead) (item status : Nat) (data : Bytes) :
    sameBut [.link, .out] s (requestAnswered (countFrame s p 0 h) p item status data) := by
  simp [sameBut]

section

variable {s : State} {p : Fin 64} (hstep : (getI s.link.ports p).step = .request)

include hstep

theorem execConfigReadResponse_of_request {h : NodeHead} (htype : fieldU (getI s.link.ports p).reqData 0 1 = 0x23)
    (hvalid : frameFault p (serviceSequences s.toBlocks p) h = 0) (item status : Nat) (data : Bytes) :
    exec (.configReadResponse p h item status data) s = .next (requestAnswered (countFrame s p 0 h) p item status data) := by
  simp only [exec, execConfigReadResponse, hstep, htype, beq_self_eq_true, Bool.and_self, if_true, onService_of_valid hvalid]

theorem execConfigWriteResponse_of_request {h : NodeHead} (htype : fieldU (getI s.link.ports p).reqData 0 1 = 0x22)
    (hvalid : frameFault p (serviceSequences s.toBlocks p) h = 0) (item status : Nat) :
    exec (.configWriteResponse p h item status) s = .next (requestAnswered (countFrame s p 0 h) p item status []) := by
  simp only [exec, execConfigWriteResponse, hstep, htype, beq_self_eq_true, if_true, onService_of_valid hvalid]

end

/-! Requests without a response (R316) -/

section

variable {s : State} {p : Fin 64} {r : ServiceReq} (hsvc : (getI s.link.ports p).svc = some r) (hlate : r.sentTick + 10 ≤ s.now)

include hsvc hlate

theorem execServiceFrameTimeout_of_again (hsends : r.sends < 3) :
    exec (.serviceFrameTimeout p) s = .next (s.updPort p (fun x => { x with svc := some { r with due := true } })) := by
  simp only [exec, execServiceFrameTimeout, hsvc, Nat.not_lt.mpr hlate, hsends, if_true, if_false]

theorem execServiceFrameTimeout_of_enum (hsends : 3 ≤ r.sends) (hst : (getI s.link.ports p).st = .enum) :
    exec (.serviceFrameTimeout p) s = .next (bringUpFailed s p) := by
  simp only [exec, execServiceFrameTimeout, hsvc, Nat.not_lt.mpr hlate, Nat.not_lt.mpr hsends, hst, beq_self_eq_true, if_true, if_false]

theorem execServiceFrameTimeout_of_up (hsends : 3 ≤ r.sends) (hst : (getI s.link.ports p).st ≠ .enum) :
    exec (.serviceFrameTimeout p) s = .next (s.updPort p (fun x => { x with reqStatus := 3, step := .none, svc := none })) := by
  simp only [exec, execServiceFrameTimeout, hsvc, Nat.not_lt.mpr hlate, Nat.not_lt.mpr hsends, beq_eq_false_iff_ne.mpr hst, Bool.false_eq_true,
    if_false]

end

/-- A request that has left once more. -/
def sentAgain (s : State) (r : ServiceReq) : ServiceReq :=
  { sequences := zlSequence s.tickCount 2 :: r.sequences, sentTick := s.now, sends := r.sends + 1, due := false }

/-- A request that is due again leaves once more in slot 2. -/
theorem slot2Frame_of_due {s : State} {p : Fin 64} {r : ServiceReq} {t : Nat} {b : Bytes} (hsvc : (getI s.link.ports p).svc = some r)
    (hdue : r.due = true) (hlate : (getI s.link.ports p).late = false) (hst : (getI s.link.ports p).st = .enum ∨ (getI s.link.ports p).st = .up)
    (hpayload : servicePayload s.toBlocks p = some (t, b)) (hcredit : hasCredit (getI s.link.ports p) = true) :
    slot2Frame s p = (sendZl s p (zlFrame s.toBlocks (if t == 0x21 then 0xFF else p) t (zlSequence s.tickCount 2) b)).updPort p
      (fun x => { x with svc := some (sentAgain s r) }) := by
  have hstep : (getI s.link.ports p).step ≠ .none := by
    intro h
    simp [servicePayload, h] at hpayload
  have hup : ((getI s.link.ports p).st == .enum || (getI s.link.ports p).st == .up) = true := by simpa using hst
  have hsend : slot2Frame s p = sendService s p (r.sends + 1) r.sequences := by
    simp only [slot2Frame, hlate, hup, bne_iff_ne.mpr hstep, hcredit, hsvc, hdue, Bool.not_false, Bool.and_self, if_true]
  rw [hsend]
  unfold sendService
  rw [hpayload]
  rfl

/-! Links that stall or are lost (R308, R318, R332) -/

theorem toPort_port (s : State) {p : Nat} (hp : p < 64) (st : PortState) :
    (getI (toPort s p st).link.ports p).st = st ∧ (getI (toPort s p st).link.ports p).since = s.now ∧
      (getI (toPort s p st).link.ports p).counts = (getI s.link.ports p).counts := by
  unfold toPort
  rw [updPort_port s hp]
  exact ⟨rfl, rfl, rfl⟩

theorem bringUpFailed_st (s : State) {p : Nat} (hp : p < 64) : (getI (bringUpFailed s p).link.ports p).st = .down :=
  (congrArg ZlPort.st (portPost_port (toPort s p .down) p 0x0C04 .warn p) :).trans (toPort_port s hp .down).1

/-- The state with the loss of a link counted. -/
def downCounted (s : State) (p : Nat) : State := s.updPort p (fun x => { x with counts := { x.counts with downs := inc32 x.counts.downs } })

theorem linkDown_port (s : State) {p : Nat} (hp : p < 64) :
    (getI (linkDown s p).link.ports p).st = .down ∧ (getI (linkDown s p).link.ports p).since = s.now ∧
      (getI (linkDown s p).link.ports p).counts.downs = inc32 (getI s.link.ports p).counts.downs := by
  have hpost := portPost_port (toPort (downCounted s p) p .down) p 0x0C01 .warn p
  obtain ⟨hst, hsince, hcounts⟩ := toPort_port (downCounted s p) hp .down
  refine ⟨(congrArg ZlPort.st hpost :).trans hst, (congrArg ZlPort.since hpost :).trans hsince, ?_⟩
  refine (congrArg (fun x : ZlPort => x.counts.downs) hpost :).trans ((congrArg PortCounts.downs hcounts).trans ?_)
  exact (congrArg (fun x : ZlPort => x.counts.downs) (updPort_port s hp _) :)

theorem linkDown_other (s : State) {p q : Nat} (h : q ≠ p) : getI (linkDown s p).link.ports q = getI s.link.ports q :=
  (portPost_other (toPort (downCounted s p) p .down) h 0x0C01 .warn).trans
    ((updPort_other (downCounted s p) h _).trans (updPort_other s h _))

theorem execZlLinkDown_of_up {s : State} {p : Fin 64} {cause : LinkCause} (hst : (getI s.link.ports p).st = .up)
    (hcause : cause = .noResponse → 100 ≤ (getI s.link.ports p).missRun) : exec (.zlLinkDown p cause) s = .next (linkDown s p) := by
  refine congrArg Host.Outcome.next (if_pos ?_)
  by_cases h : cause = .noResponse
  · rw [hst, decide_eq_true (hcause h), Bool.or_true]
    rfl
  · rw [hst, bne_iff_ne.mpr h]
    rfl

/-- The state with a stalled slot marked and counted. -/
def stallCounted (s : State) (p slot : Nat) : State :=
  s.updPort p (fun x => { x with stalled := setBit x.stalled slot true, counts := { x.counts with stalls := inc32 x.counts.stalls } })

theorem execCreditStall_of_stall {s : State} {p : Fin 64} {slot : Fin 2} (hst : (getI s.link.ports p).st = .up)
    (hcredit : 16 ≤ ((getI s.link.ports p).sentMod + 256 - (getI s.link.ports p).freedMod) % 256)
    (hstalled : bit (getI s.link.ports p).stalled slot = false) : exec (.creditStall p slot) s = .next (creditStall s p slot) := by
  refine congrArg Host.Outcome.next (if_pos ?_)
  rw [hst, hstalled, hasCredit, decide_eq_false (Nat.not_lt.mpr hcredit)]
  rfl

/-- An overrun of a port marks its frame late, and leaves the other ports. -/
theorem overrunPort_ports (s : State) (p q : Nat) :
    getI (overrunPort s p).link.ports q = getI (s.updPort p (fun x => { x with late := true })).link.ports q := by
  have hframe : sameBut [.faults, .time, .work] (s.updPort p (fun x => { x with late := true })) (overrunPort s p) := by
    simp [sameBut, overrunPort]
  exact eq_of_sameBut (fun x => getI x.link.ports q) hframe fun _ => rfl

theorem creditStall_eq (s : State) (p slot : Nat) :
    creditStall s p slot = if slot == 1 then overrunPort (portPost (stallCounted s p slot) p 0x0C06 .warn) p
      else portPost (stallCounted s p slot) p 0x0C06 .warn := rfl

theorem creditStall_port (s : State) {p : Nat} (hp : p < 64) (slot : Nat) :
    (getI (creditStall s p slot).link.ports p).counts.stalls = inc32 (getI s.link.ports p).counts.stalls ∧
      (getI (creditStall s p slot).link.ports p).stalled = setBit (getI s.link.ports p).stalled slot true := by
  have hpost := portPost_port (stallCounted s p slot) p 0x0C06 .warn p
  have hcounted : getI (stallCounted s p slot).link.ports p = _ := updPort_port s hp _
  rw [hcounted] at hpost
  have hstalls := congrArg (fun x : ZlPort => x.counts.stalls) hpost
  have hslots := congrArg ZlPort.stalled hpost
  rw [creditStall_eq]
  split
  · rw [overrunPort_ports, updPort_port _ hp]
    exact ⟨hstalls, hslots⟩
  · exact ⟨hstalls, hslots⟩

theorem creditStall_other (s : State) {p q : Nat} (h : q ≠ p) (slot : Nat) :
    getI (creditStall s p slot).link.ports q = getI s.link.ports q := by
  have hpost := (portPost_other (stallCounted s p slot) h 0x0C06 .warn).trans (updPort_other s h _)
  rw [creditStall_eq]
  split
  · rw [overrunPort_ports, updPort_other _ h]
    exact hpost
  · exact hpost

/-- Settles O32: a response is counted and ends its request, a request goes on by its sends, a stall and a loss change their port alone. -/
theorem portServiceCompletes : Obligations.PortServiceCompletes := by
  unfold Obligations.PortServiceCompletes
  refine ⟨fun s p h item status data hstep htype hvalid => ?read, fun s p h item status hstep htype hvalid => ?write,
    fun s p r hsvc hlate hsends => ?again, fun s p r hsvc hdue hlate hst hpayload hcredit => ?due, fun s p r hsvc hlate hsends => ?givenUp,
    fun s p count hst => ?credit, fun s p slot hst hcredit hstalled => ?stall, fun s p cause hst hcause => ?down⟩
  case read =>
    refine ⟨_, execConfigReadResponse_of_request hstep htype hvalid item status data, answered_sameBut s p h item status data, ?_⟩
    beta_reduce
    rw [answered_port s p.isLt, countFrame_valid_port s p h p.isLt]
    exact ⟨rfl, rfl, rfl, rfl, rfl⟩
  case write =>
    refine ⟨_, execConfigWriteResponse_of_request hstep htype hvalid item status, answered_sameBut s p h item status [], ?_⟩
    beta_reduce
    rw [answered_port s p.isLt]
    exact ⟨rfl, rfl, rfl⟩
  case again => exact ⟨_, execServiceFrameTimeout_of_again hsvc hlate hsends, State_updPort_hide s _ _ _ (by decide), rfl⟩
  case due =>
    obtain ⟨⟨t, b⟩, hpayload⟩ := Option.isSome_iff_exists.mp hpayload
    have hframe : sameBut [.link, .out] s (slot2Frame s p) := slot2Frame_hide s p _ (by decide) (by decide)
    refine ⟨hframe, ?_⟩
    rw [slot2Frame_of_due hsvc hdue hlate hst hpayload hcredit, updPort_port _ p.isLt]
    refine ⟨rfl, ?_, _, rfl⟩
    exact (congrArg (fun x : ZlPort => x.counts.sent) (updPort_port s p.isLt _) :)
  case givenUp =>
    by_cases hst : (getI s.link.ports p).st = .enum
    · refine ⟨_, execServiceFrameTimeout_of_enum hsvc hlate hsends hst, bringUpFailed_hide s p _ (by decide) (by decide),
        fun _ => bringUpFailed_st s p.isLt, fun h => absurd hst h⟩
    · exact ⟨_, execServiceFrameTimeout_of_up hsvc hlate hsends hst, State_updPort_hide s _ _ _ (by decide), fun h => absurd h hst,
        fun _ => ⟨rfl, updPort_port s p.isLt _⟩⟩
  case credit =>
    have hup : ((getI s.link.ports p).st == .enum || (getI s.link.ports p).st == .up) = true := by simpa using hst
    have hcredited := updI_congr s.link.ports p (fun x => if x.st == .enum || x.st == .up then { x with freedMod := count % 256 } else x)
      (fun x => { x with freedMod := count % 256 }) (if_pos hup)
    exact ⟨_, rfl, State_updPort_hide s _ _ _ (by decide), congrArg (fun v => { s.link with ports := v }) hcredited⟩
  case stall =>
    obtain ⟨hstalls, hslots⟩ := creditStall_port s p.isLt slot
    exact ⟨_, execCreditStall_of_stall hst hcredit hstalled, creditStall_hide s p slot _ (by decide) (by decide) (by decide) (by decide),
      hstalls, hslots, fun q hq => creditStall_other s hq slot⟩
  case down =>
    obtain ⟨hdown, hsince, hdowns⟩ := linkDown_port s p.isLt
    exact ⟨_, execZlLinkDown_of_up hst hcause, linkDown_hide s p _ (by decide) (by decide), hdown, hsince, hdowns,
      fun q hq => linkDown_other s hq⟩

end Sys2Proof.Proofs.ZhomonLink

/-! Proofs about the field nodes (12_zhomon_link R303, R309, R310, R316, R319, R321, R322, R324, R325): their links, frames and commands. -/

namespace Sys2Proof.Proofs.FieldNodes

open Sys2Proof Sys2Proof.Machine Sys2Proof.Proofs.Scope Sys2Proof.Proofs.Timebase Sys2Proof.Proofs.HostLink Sys2Proof.Proofs.CameraPipeline

theorem updNode_node (s : State) {p : Nat} (hp : p < 64) (f : FieldNode → FieldNode) :
    getI (s.updNode p f).link.nodes p = f (getI s.link.nodes p) := getI_updI_self _ _ hp _

/-- A command that changes one node alone. -/
theorem does_of_updNode {c : Instr} {s : State} {p : Fin 64} {f : FieldNode → FieldNode} {q : FieldNode → Prop}
    (hexec : exec c s = .next (s.updNode p f)) (h : q (f (getI s.link.nodes p))) :
    Does c s [.link] (fun t => q (getI t.link.nodes p)) :=
  ⟨_, hexec, State_updNode_hide s _ f _ (by decide), (congrArg q (updNode_node s p.isLt f)).mpr h⟩

/-! The authority (R321, R324) -/

/-- What the evaluation of the authority leaves of a node. -/
structure Evaluated (x y : FieldNode) : Prop where
  links : y.links = x.links
  authority : y.authority = authorityOf x
  released : x.authority ≠ none → authorityOf x = none → y.power.dark = true ∧ y.cmds = []
  kept : authorityOf x ≠ none → y = { x with authority := authorityOf x }
  accepted : y.accepted = x.accepted
  duplicates : y.duplicates = x.duplicates

theorem evalAuthority_evaluated (x : FieldNode) : Evaluated x (evalAuthority x) := by
  unfold evalAuthority
  dsimp only
  split
  · next h =>
    rw [Bool.and_eq_true, Option.isNone_iff_eq_none] at h
    exact ⟨rfl, h.1.symm, fun _ _ => ⟨rfl, rfl⟩, fun hne => absurd h.1 hne, rfl, rfl⟩
  · next h =>
    refine ⟨rfl, rfl, fun hsome hnone => absurd ?_ h, fun _ => rfl, rfl, rfl⟩
    rw [hnone, Option.isSome_iff_ne_none.mpr hsome]
    rfl

theorem loseAuthority_cmds (x : FieldNode) : (loseAuthority x).power.dark = true ∧ (loseAuthority x).cmds = [] ∧
    (loseAuthority x).ramp = some (x.ramp.getD 0) ∧ (x.ramp = none → (loseAuthority x).rampFrom = x.currents) ∧
    (loseAuthority x).currents = x.currents :=
  ⟨rfl, rfl, rfl, fun h => by simp [loseAuthority, h], rfl⟩

/-! Training and TICK (R309, R319) -/

theorem nodeTick_of_ok {x : FieldNode} {l : Fin 2} {count arrival : Nat} {ok : Bool} (hok : nodeTickOk x l count ok = true) :
    let y := x.updLink l (fun k => { k with count := some count, live := k.run })
    (nodeTick x l count ok arrival).links = y.links ∧ (nodeTick x l count ok arrival).authority = authorityOf y ∧
    (authorityOf y = some l → (nodeTick x l count ok arrival).reference = arrival - (getI x.links l).delay ∧
      (nodeTick x l count ok arrival).tickCount = some count) := by
  intro y
  obtain ⟨hlinks, hauthority, -, -, -, -⟩ := evalAuthority_evaluated y
  have heq : nodeTick x l count ok arrival = if (evalAuthority y).authority == some l then
      endGate { evalAuthority y with reference := arrival - (getI (evalAuthority y).links l).delay, tickCount := some count }
    else evalAuthority y := if_pos hok
  have hdelay : (getI y.links l).delay = (getI x.links l).delay := 
    (congrArg NodeLink.delay (getI_updI_self x.links l l.isLt (fun k => { k with count := some count, live := k.run })) :)
  rw [heq, hauthority]
  by_cases hown : authorityOf y = some l
  · rw [if_pos (beq_iff_eq.mpr hown), hlinks]
    exact ⟨hlinks, hauthority, fun _ => ⟨congrArg (arrival - ·) hdelay, rfl⟩⟩
  · rw [if_neg (by rwa [beq_iff_eq])]
    exact ⟨hlinks, hauthority, fun h => absurd h hown⟩

/-- A node whose reference its own clock moves on by one tick. -/
def movedOn (x : FieldNode) : FieldNode :=
  endGate { x with reference := x.reference + 160000, tickCount := x.tickCount.map (fun k => (k + 1) % 65536) }

theorem ownTick_of_authority {x : FieldNode} (h : x.authority ≠ none) : ownTick x = movedOn x := by
  unfold ownTick
  refine if_neg ?_
  rw [Option.isNone_iff_eq_none]
  exact h

/-- Settles O33: a link that changes has the authority evaluated again, a TICK that counts is the reference, and a lost authority leaves the
node dark. -/
theorem nodeLinksComplete : Obligations.NodeLinksComplete := by
  unfold Obligations.NodeLinksComplete
  refine ⟨fun s p link => ⟨_, rfl, State_updNode_hide s _ _ _ (by decide), rfl⟩, fun s p link hts1 => ?trained,
    fun s p link count arrival ok hok => ?tick, fun s p hauthority => ?missing, fun s p hauthority => ?lost, fun s p link => ?untrained,
    fun s p link => ?notLive⟩
  case trained =>
    refine does_of_updNode (q := fun x => x.links = _) rfl ?_
    simp only [Bool.not_true, Bool.false_eq_true, if_false, hts1, beq_self_eq_true, if_true]
    exact (evalAuthority_evaluated _).links
  case tick => exact does_of_updNode (q := fun x => x.links = _ ∧ x.authority = _ ∧ (_ → x.reference = _ ∧ x.tickCount = _)) rfl (nodeTick_of_ok hok)
  case missing =>
    refine ⟨_, rfl, State_updNode_hide s _ _ _ (by decide), ?_⟩
    exact congrArg (fun v => { s.link with nodes := v }) (updI_congr s.link.nodes p ownTick movedOn (ownTick_of_authority hauthority))
  case lost =>
    have hexec : exec (.nodeAuthorityLost p) s = .next (s.updNode p loseAuthority) :=
      congrArg Host.Outcome.next (if_pos (Option.isNone_iff_eq_none.mpr hauthority))
    exact does_of_updNode (q := fun x => x.power.dark = true ∧ x.cmds = [] ∧ x.ramp = _ ∧ (_ → x.rampFrom = _) ∧ x.currents = _) hexec
      (loseAuthority_cmds _)
  case untrained =>
    obtain ⟨hlinks, hauthority, hreleased, -, -, -⟩ := evalAuthority_evaluated ((getI s.link.nodes p).updLink link (fun k =>
      { k with trained := false, run := false, live := false, ts1 := 0, count := none }))
    exact does_of_updNode (q := fun x => x.links = _ ∧ x.authority = _ ∧ (_ → _ → x.power.dark = true ∧ x.cmds = [])) rfl
      ⟨hlinks, hauthority, hreleased⟩
  case notLive =>
    obtain ⟨hlinks, hauthority, hreleased, -, -, -⟩ := evalAuthority_evaluated ((getI s.link.nodes p).updLink link (fun k =>
      { k with live := false }))
    exact does_of_updNode (q := fun x => x.links = _ ∧ x.authority = _ ∧ (_ → _ → x.power.dark = true ∧ x.cmds = [])) rfl
      ⟨hlinks, hauthority, hreleased⟩

/-! Frames accepted once (R303, R325) -/

/-- What a node holds once a frame is accepted, whatever the node answers. -/
def acceptedNode (x : FieldNode) (f : DeviceFrame) : FieldNode :=
  let x := { x with
    accepted := some f.sequence
    held := x.held.map (fun h => match h with
      | some c => if laterSeq c.frame.sequence f.sequence then h else none
      | none => none) }
  match f.body with
  | .statusRequest _ => { x with gateSeen := false, commandMissed := false }
  | .laserCommand t st ev => if gated x t then x else { x with cmds := x.cmds ++ [.laser t { start := st, events := ev }] }
  | .currentCommand t c m => { x with cmds := x.cmds ++ [.currents t c m] }
  | _ => x

theorem acceptFrame_node (s : State) {p : Nat} (hp : p < 64) (f : DeviceFrame) :
    getI (acceptFrame s p f).link.nodes p = acceptedNode (getI s.link.nodes p) f := by
  have hlink : ∀ {x y : State}, sameBut [.freeCtr, .out] x y → y.link = x.link := fun h => eq_of_sameBut (·.link) h fun _ => rfl
  have hanswered : ∀ (x : State) (r : Bytes × State) (type : Nat), sameBut [.freeCtr, .out] x r.2 →
      (answerRequest r.2 p type f.sequence r.1).link = x.link := fun x r type h =>
    hlink ((answerRequest_hide r.2 p type f.sequence r.1 _ (by decide)).trans h)
  unfold acceptFrame acceptedNode
  cases f.body with
  | sensorRequest t m =>
    dsimp only
    rw [hanswered _ (sensorPayload _ p _ _) 0x81 (sensorPayload_hide _ _ _ _ _ (by decide)), updNode_node s hp] <;> rfl
  | statusRequest t =>
    dsimp only
    rw [updNode_node _ hp, hanswered _ (laserPayload _ p _) 0x91 (laserPayload_hide _ _ _ _ (by decide)), updNode_node s hp] <;> rfl
  | laserCommand t st ev => exact (updNode_node _ hp _).trans (by rw [updNode_node s hp] <;> rfl)
  | currentCommand t c m => exact (updNode_node _ hp _).trans (by rw [updNode_node s hp] <;> rfl)
  | _ => exact updNode_node s hp _

theorem acceptedNode_accepted (x : FieldNode) (f : DeviceFrame) : (acceptedNode x f).accepted = some f.sequence := by
  unfold acceptedNode
  dsimp only
  (repeat' split) <;> rfl

/-- A slot that holds no copy holds none once a frame is accepted. -/
theorem acceptedNode_held {x : FieldNode} {i : Nat} (hi : i < 2) (hempty : getI x.held i = none) (f : DeviceFrame) :
    getI (acceptedNode x f).held i = none := by
  have hheld : (acceptedNode x f).held = x.held.map (fun h => match h with
      | some c => if laterSeq c.frame.sequence f.sequence then h else none
      | none => none) := by
    unfold acceptedNode
    dsimp only
    (repeat' split) <;> rfl
  rw [hheld, getI_map _ _ hi, hempty]

theorem frameSeen_kept {x : FieldNode} {l : Nat} {f : DeviceFrame} (h : (frameSeen x l f).authority ≠ none) :
    (frameSeen x l f).cmds = x.cmds ∧ (frameSeen x l f).gateUpTo = x.gateUpTo := by
  obtain ⟨-, hauthority, -, hkept, -, -⟩ := evalAuthority_evaluated (x.updLink l (fun k => { k with claim := f.claim, live := k.run }))
  have heq : frameSeen x l f = _ := hkept (by rwa [← hauthority])
  rw [heq]
  exact ⟨rfl, rfl⟩

theorem frameSeen_counts (x : FieldNode) (l : Nat) (f : DeviceFrame) :
    (frameSeen x l f).accepted = x.accepted ∧ (frameSeen x l f).duplicates = x.duplicates := by
  obtain ⟨-, -, -, -, haccepted, hduplicates⟩ := evalAuthority_evaluated (x.updLink l (fun k => { k with claim := f.claim, live := k.run }))
  exact ⟨haccepted, hduplicates⟩

theorem fresher_congr {x y : FieldNode} (h : x.accepted = y.accepted) (q : Nat) : fresher x q = fresher y q := by
  simp only [fresher, h]

theorem gated_congr {x y : FieldNode} (h : x.gateUpTo = y.gateUpTo) (t : Nat) : gated x t = gated y t := by simp only [gated, h]

section

variable {s : State} {p : Fin 64} {link : Fin 2} {f : DeviceFrame} (hok : nodeFrameOk (getI s.link.nodes p) link f = true)

include hok

theorem execNodeFrameReceived_of_ok (hbody : tickBody p f.body = true) :
    exec (.nodeFrameReceived p link f) s = .next (takeFrame (s.updNode p (fun x => frameSeen x link f)) p link f) :=
  congrArg Host.Outcome.next (if_pos (by rw [hok, hbody]; rfl))

theorem execNodeServiceFrame_of_ok (hbody : serviceBody f.body = true) :
    exec (.nodeServiceFrame p link f) s = .next (serveNode (s.updNode p (fun x => frameSeen x link f)) p link f) :=
  congrArg Host.Outcome.next (if_pos (by rw [hok, hbody]; rfl))

theorem execNodeFrameReceived_of_authority (hbody : tickBody p f.body = true) (hfresh : fresher (getI s.link.nodes p) f.sequence = true)
    (hauthority : (frameSeen (getI s.link.nodes p) link f).authority = some link) :
    exec (.nodeFrameReceived p link f) s = .next (acceptFrame (s.updNode p (fun x => frameSeen x link f)) p f) := by
  have hfresh' : fresher (frameSeen (getI s.link.nodes p) link f) f.sequence = true :=
    (fresher_congr (frameSeen_counts _ link f).1 _).trans hfresh
  rw [execNodeFrameReceived_of_ok hok hbody]
  unfold takeFrame
  simp only [updNode_node s p.isLt, hfresh', hauthority, Bool.not_true, Bool.false_eq_true, if_false, beq_self_eq_true, if_true]

theorem execNodeFrameReceived_of_repeated (hbody : tickBody p f.body = true) (hfresh : fresher (getI s.link.nodes p) f.sequence = false) :
    exec (.nodeFrameReceived p link f) s =
      .next ((s.updNode p (fun x => frameSeen x link f)).updNode p (fun x => { x with duplicates := x.duplicates + 1 })) := by
  have hfresh' : fresher (frameSeen (getI s.link.nodes p) link f) f.sequence = false :=
    (fresher_congr (frameSeen_counts _ link f).1 _).trans hfresh
  rw [execNodeFrameReceived_of_ok hok hbody]
  unfold takeFrame
  simp only [updNode_node s p.isLt, hfresh', Bool.not_false, if_true]

end

/-- A node that has taken a frame of its authority has its commands as the frame's kind gives. -/
theorem acceptedNode_cmds (x : FieldNode) (f : DeviceFrame) :
    (∀ k st ev, f.body = .laserCommand k st ev → (acceptedNode x f).cmds =
      if gated x k then x.cmds else x.cmds ++ [.laser k { start := st, events := ev }]) ∧
    (∀ k c m, f.body = .currentCommand k c m → (acceptedNode x f).cmds = x.cmds ++ [.currents k c m]) := by
  refine ⟨fun k st ev h => ?_, fun k c m h => ?_⟩
  · simp only [acceptedNode, h, apply_ite FieldNode.cmds]
    rfl
  · simp only [acceptedNode, h]

/-! Held copies (R325) -/

/-- The state with the held copy of a slot taken out. -/
def copyTaken (s : State) (p slot : Nat) : State := s.updNode p (fun x => { x with held := updI x.held slot (fun _ => none) })

theorem execNodeHoldDeadline_of_held {s : State} {p : Fin 64} {slot : Fin 2} {h : HeldFrame}
    (hheld : getI (getI s.link.nodes p).held slot = some h) :
    exec (.nodeHoldDeadline p slot) s = .next (if fresher (getI s.link.nodes p) h.frame.sequence then
      acceptFrame (copyTaken s p slot) p h.frame else copyTaken s p slot) := by
  simp only [exec, execNodeHoldDeadline, hheld]
  rfl

/-! Service frames (R316) -/

/-- A service frame answered on its link. -/
def answered (s : State) (p : Nat) (l : Fin 2) (f : DeviceFrame) (type : Nat) (d : Bytes) : State :=
  s.send (.nodeFrame p l.val (nodeBytes (getI s.link.nodes p) l type f.sequence d))

section

variable (s : State) (p : Nat) (l : Fin 2) {f : DeviceFrame}

theorem serveNode_of_echo (hbody : f.body = .echo) : serveNode s p l f = answered s.free.2 p l f 0xA5 (leBytes 4 s.free.1) := by
  unfold serveNode
  rw [hbody]
  rfl

theorem serveNode_of_enumerate {address version : Nat} (hbody : f.body = .enumerate address version) :
    serveNode s p l f =
      let r := nodeEnumerate (getI s.link.nodes p) l address
      let e := enumPayload (s.updNode p (fun _ => r.1)) p r.2
      answered e.2 p l f 0xA1 e.1 := by
  unfold serveNode
  rw [hbody]
  rfl

theorem serveNode_of_write {item : Nat} {d : Bytes} (hbody : f.body = .configWrite item d) (hitem : item < 0x8000) :
    serveNode s p l f =
      let r := nodeConfigWrite p (getI s.link.nodes p) l item d
      answered (s.updNode p (fun _ => r.1)) p l f 0xA2 (leBytes 2 item ++ leBytes 1 r.2) := by
  unfold serveNode
  rw [hbody]
  exact if_neg (Nat.not_le.mpr hitem)

theorem serveNode_of_read {item : Nat} (hbody : f.body = .configRead item) (hitem : item < 0x8000) :
    serveNode s p l f =
      let r := nodeConfigRead p (getI s.link.nodes p) l item
      answered s p l f 0xA3 (leBytes 2 item ++ leBytes 1 r.1 ++ leBytes 1 r.2.length ++ r.2) := by
  unfold serveNode
  rw [hbody]
  exact if_neg (Nat.not_le.mpr hitem)

end

theorem answered_hide (s : State) (p : Nat) (l : Fin 2) (f : DeviceFrame) (type : Nat) (d : Bytes) (ps : List Part) (hout : .out ∈ ps) :
    (answered s p l f type d).hide ps = s.hide ps := State_send_hide s _ ps hout

/-- What an ENUMERATE response is built on has the node that is answered for, and has put out nothing more. -/
theorem enumPayload_state (s : State) (p status : Nat) :
    (enumPayload s p status).2.link = s.link ∧ (enumPayload s p status).2.out = s.out := by
  have hframe : sameBut [.freeCtr] s (enumPayload s p status).2 := enumPayload_hide s p status _ (by decide)
  exact ⟨eq_of_sameBut (·.link) hframe fun _ => rfl, eq_of_sameBut (·.out) hframe fun _ => rfl⟩

theorem frameSeen_links (x : FieldNode) (l : Nat) (f : DeviceFrame) :
    (frameSeen x l f).links = updI x.links l (fun k => { k with claim := f.claim, live := k.run }) :=
  (evalAuthority_evaluated (x.updLink l (fun k => { k with claim := f.claim, live := k.run }))).links

theorem nodeEnumerate_of_untrained {x : FieldNode} {l : Nat} (hother : (getI x.links (1 - l)).trained = false) (address : Nat) :
    nodeEnumerate x l address = (x.updLink l (fun k => { k with address }), 0) := by
  unfold nodeEnumerate
  exact if_neg (by simp [hother])

theorem nodeConfigWrite_delay (p : Nat) (x : FieldNode) (l : Nat) {v : Nat} (hv : v < 2 ^ 32) :
    nodeConfigWrite p x l 0x0002 (leBytes 4 v) = (x.updLink l (fun k => { k with delay := v }), 0) := by
  simp [nodeConfigWrite, nodeItem, leNat_leBytes_of_lt (n := 4) (v := v) (by omega)]

/-- The run and the delay of a link are read with status 0. -/
theorem nodeConfigRead_status (p : Nat) (x : FieldNode) (l : Nat) {item : Nat} (hitem : item = 1 ∨ item = 2) :
    (nodeConfigRead p x l item).1 = 0 := by
  obtain rfl | rfl := hitem <;> rfl

/-- The status of an ENUMERATE response stands behind kind, version and links. -/
theorem enumPayload_status (s : State) (p : Nat) : (enumPayload s p 0).1.getD 3 1 = 0 := rfl

/-! Commands of a tick (R310, R321, R322) -/

theorem laterTick_self (k : Nat) : laterTick k k = false := by
  have hmod : (k + 65536 - k % 65536) % 65536 = 0 := by omega
  simp [laterTick, hmod]

/-- The node whose command for tick `k` is applied, before the command itself. -/
def cleared (x : FieldNode) (k : Nat) : FieldNode :=
  { x with cmds := x.cmds.filter (fun c => laterTick c.target k), missRun := 0, ramp := none, commandMissed := false }

theorem cleared_cmds (x : FieldNode) (k : Nat) : ∀ y ∈ (cleared x k).cmds, y.target ≠ k := by
  rintro y hy rfl
  have hlater := (List.mem_filter.mp hy).2
  rw [laterTick_self] at hlater
  cases hlater

/-- The command itself applied. -/
def applied (x : FieldNode) (c : NodeCommand) : FieldNode :=
  match c with
  | .laser _ v => { x with power := v }
  | .currents _ v m => { x with currents := Vector.ofFn (fun q => if bit x.axisMask q.val && bit m q.val then v[q] else 0) }

theorem applied_keeps (x : FieldNode) (c : NodeCommand) :
    (applied x c).missRun = x.missRun ∧ (applied x c).ramp = x.ramp ∧ (applied x c).cmds = x.cmds := by
  cases c <;> exact ⟨rfl, rfl, rfl⟩

theorem applyNode_of_command {x : FieldNode} {k : Nat} {c : NodeCommand} (hk : x.tickCount = some k)
    (hc : (x.cmds.filter (fun y => y.target == k)).getLast? = some c) : applyNode x = applied (cleared x k) c := by
  unfold applyNode
  split
  · next h => rw [hk] at h; cases h
  · next n h =>
    obtain rfl : n = k := Option.some.inj (h.symm.trans hk)
    rw [hc]
    cases c <;> rfl

theorem execNodeApplyCommand_of_authority {s : State} {p : Fin 64} (hauthority : (getI s.link.nodes p).authority ≠ none) :
    exec (.nodeApplyCommand p) s = .next (s.updNode p applyNode) :=
  congrArg Host.Outcome.next (if_pos (Option.isSome_iff_ne_none.mpr hauthority))

theorem execNodeCommandMissed_of_none {s : State} {p : Fin 64} (hauthority : (getI s.link.nodes p).authority ≠ none)
    (hdue : commandDue (getI s.link.nodes p) = false) : exec (.nodeCommandMissed p) s = .next (s.updNode p (missNode p)) :=
  congrArg Host.Outcome.next (if_pos (by rw [Option.isSome_iff_ne_none.mpr hauthority, hdue]; rfl))

theorem rampNode_keeps (x : FieldNode) : (rampNode x).missed = x.missed ∧ (rampNode x).missRun = x.missRun ∧
    (x.ramp.isSome = true → (rampNode x).ramp.isSome = true) := by
  unfold rampNode
  split
  · next h => exact ⟨rfl, rfl, fun hsome => hsome⟩
  · exact ⟨rfl, rfl, fun _ => rfl⟩

theorem missNode_laser {p : Nat} (hp : p < 32) (x : FieldNode) :
    missNode p x = { x with missed := (x.missed + 1) % 65536, power := darkCommand, commandMissed := true } := if_pos hp

/-- A scanner node that has missed a command with its count of misses. -/
def missCounted (x : FieldNode) : FieldNode := { x with missed := (x.missed + 1) % 65536, missRun := x.missRun + 1 }

/-- A scanner node with the start of its ramp. -/
def rampBegun (x : FieldNode) : FieldNode := if x.ramp.isNone then { x with ramp := some 0, rampFrom := x.currents } else x

theorem rampBegun_keeps (x : FieldNode) : (rampBegun x).missed = x.missed ∧ (rampBegun x).missRun = x.missRun ∧ (rampBegun x).ramp.isSome = true := by
  unfold rampBegun
  split
  · exact ⟨rfl, rfl, rfl⟩
  · next h => exact ⟨rfl, rfl, by simpa [Option.isSome_iff_ne_none] using h⟩

theorem missNode_scanner {p : Nat} (hp : 32 ≤ p) (x : FieldNode) :
    missNode p x = if x.missRun + 1 < 3 then missCounted x else rampNode (rampBegun (missCounted x)) := if_neg (Nat.not_lt.mpr hp)

theorem missNode_missed (p : Nat) (x : FieldNode) : (missNode p x).missed = (x.missed + 1) % 65536 := by
  rcases Nat.lt_or_ge p 32 with hp | hp
  · rw [missNode_laser hp]
  · rw [missNode_scanner hp]
    split
    · rfl
    · rw [(rampNode_keeps _).1, (rampBegun_keeps _).1]
      rfl

theorem missNode_scanner_run {p : Nat} (hp : 32 ≤ p) (x : FieldNode) : (missNode p x).missRun = x.missRun + 1 ∧
    (x.missRun < 2 → (missNode p x).currents = x.currents) ∧ (2 ≤ x.missRun → (missNode p x).ramp.isSome = true) := by
  rw [missNode_scanner hp]
  obtain ⟨-, hrun, hramp⟩ := rampNode_keeps (rampBegun (missCounted x))
  obtain ⟨-, hbegunRun, hbegunRamp⟩ := rampBegun_keeps (missCounted x)
  by_cases hfew : x.missRun + 1 < 3
  · rw [if_pos hfew]
    exact ⟨rfl, fun _ => rfl, fun h => by omega⟩
  · rw [if_neg hfew]
    exact ⟨hrun.trans hbegunRun, fun h => by omega, fun _ => hramp hbegunRamp⟩

/-- Settles O34: a tick frame by its sequence, a service frame by its kind, a command by its tick. -/
theorem nodeFramesComplete : Obligations.NodeFramesComplete := by
  unfold Obligations.NodeFramesComplete
  refine ⟨fun s p link f hok hbody hfresh hauthority => ?accepted, fun s p link f hok hbody hfresh => ?repeated, fun s p slot h hheld => ?held,
    fun s p link f hok hbody => ?echo, fun s p link f address version hok hbody hother => ?enumerate,
    fun s p link f v hok hv hbody => ?write, fun s p link f item hok hbody hitem => ?read,
    fun s p k c hauthority hk hc => ?applied, fun s p hauthority hdue => ?missed, fun s p link hlaser => ?gate⟩
  case accepted =>
    obtain ⟨hcmds, hgate⟩ := frameSeen_kept (x := getI s.link.nodes p) (l := link) (f := f) (by rw [hauthority]; exact Option.some_ne_none _)
    obtain ⟨hlaser, hcurrent⟩ := acceptedNode_cmds (frameSeen (getI s.link.nodes p) link f) f
    refine ⟨_, execNodeFrameReceived_of_authority hok hbody hfresh hauthority,
      (acceptFrame_hide _ _ _ _ (by decide) (by decide) (by decide)).trans (State_updNode_hide s _ _ _ (by decide)), ?_⟩
    beta_reduce
    rw [acceptFrame_node _ p.isLt, updNode_node s p.isLt]
    refine ⟨acceptedNode_accepted _ f, fun k st ev h => ?_, fun k c m h => ?_⟩
    · rw [hlaser k st ev h, hcmds, gated_congr hgate]
    · rw [hcurrent k c m h, hcmds]
  case repeated =>
    obtain ⟨haccepted, hduplicates⟩ := frameSeen_counts (getI s.link.nodes p) link f
    refine ⟨_, execNodeFrameReceived_of_repeated hok hbody hfresh,
      (State_updNode_hide _ _ _ _ (by decide)).trans (State_updNode_hide s _ _ _ (by decide)), ?_⟩
    beta_reduce
    rw [updNode_node _ p.isLt, updNode_node s p.isLt]
    exact ⟨congrArg (· + 1) hduplicates, haccepted⟩
  case held =>
    have htaken : getI (copyTaken s p slot).link.nodes p = _ := updNode_node s p.isLt _
    have hempty : getI (getI (copyTaken s p slot).link.nodes p).held slot = none := by
      rw [htaken]
      exact getI_updI_self _ _ slot.isLt _
    have hframe : sameBut [.link, .out, .freeCtr] s (copyTaken s p slot) := State_updNode_hide s _ _ _ (by decide)
    refine ⟨_, execNodeHoldDeadline_of_held hheld, ?_⟩
    split
    · refine ⟨(acceptFrame_hide _ _ _ _ (by decide) (by decide) (by decide)).trans hframe, ?_⟩
      beta_reduce
      rw [acceptFrame_node _ p.isLt]
      exact ⟨acceptedNode_held slot.isLt hempty _, acceptedNode_accepted _ _⟩
    · exact ⟨hframe, hempty, by rw [htaken]⟩
  case echo =>
    refine ⟨_, execNodeServiceFrame_of_ok hok (by rw [hbody]; rfl), serveNode_hide _ _ _ _ _ (by decide) (by decide) (by decide) |>.trans
      (State_updNode_hide s _ _ _ (by decide)), ?_⟩
    rw [serveNode_of_echo _ _ _ hbody]
    exact ⟨_, rfl⟩
  case enumerate =>
    have hexec := execNodeServiceFrame_of_ok hok (by rw [hbody]; rfl)
    have hone : 1 - link.val ≠ link.val := by omega
    have huntrained : (getI (frameSeen (getI s.link.nodes p) link f).links (1 - link.val)).trained = false := by
      rw [frameSeen_links, getI_updI_ne _ _ _ hone]
      exact hother
    rw [serveNode_of_enumerate _ _ _ hbody, updNode_node s p.isLt, nodeEnumerate_of_untrained huntrained] at hexec
    dsimp only at hexec
    obtain ⟨hlink, hout⟩ := enumPayload_state ((s.updNode p (fun x => frameSeen x link f)).updNode p (fun _ =>
      (frameSeen (getI s.link.nodes p) link f).updLink link (fun k => { k with address }))) p 0
    refine ⟨_, hexec, ?_, ?_, _, congrArg (· ++ [_]) hout, enumPayload_status _ p⟩
    · exact (answered_hide _ _ _ _ _ _ _ (by decide)).trans ((enumPayload_hide _ _ _ _ (by decide)).trans
        ((State_updNode_hide _ _ _ _ (by decide)).trans (State_updNode_hide s _ _ _ (by decide))))
    · refine (congrArg (fun x => (getI (getI (LinkState.nodes x) p).links link).address) hlink).trans ?_
      rw [updNode_node _ p.isLt]
      exact congrArg NodeLink.address (getI_updI_self _ _ link.isLt (fun k => { k with address }))
  case write =>
    have hexec := execNodeServiceFrame_of_ok hok (by rw [hbody]; rfl)
    rw [serveNode_of_write _ _ _ hbody (by decide), updNode_node s p.isLt, nodeConfigWrite_delay _ _ _ hv] at hexec
    refine ⟨_, hexec, ?_, rfl, ?_⟩
    · exact (answered_hide _ _ _ _ _ _ _ (by decide)).trans
        ((State_updNode_hide _ _ _ _ (by decide)).trans (State_updNode_hide s _ _ _ (by decide)))
    · show (getI (getI ((s.updNode p _).updNode p _).link.nodes p).links link).delay = v
      rw [updNode_node _ p.isLt]
      exact congrArg NodeLink.delay (getI_updI_self _ _ link.isLt (fun k => { k with delay := v }))
  case read =>
    have hexec := execNodeServiceFrame_of_ok hok (by rw [hbody]; rfl)
    rw [serveNode_of_read _ _ _ hbody (by omega)] at hexec
    dsimp only at hexec
    rw [nodeConfigRead_status _ _ _ hitem, List.append_assoc (leBytes 2 item ++ leBytes 1 0)] at hexec
    exact ⟨_, hexec, (answered_hide _ _ _ _ _ _ _ (by decide)).trans (State_updNode_hide s _ _ _ (by decide)), _, rfl⟩
  case applied =>
    have hnode := applyNode_of_command hk hc
    refine does_of_updNode (q := fun x => x.missRun = 0 ∧ x.ramp = none ∧ (∀ y ∈ x.cmds, y.target ≠ k) ∧ (∀ v, c = .laser k v → x.power = v) ∧
      (∀ v m, c = .currents k v m → ∀ q : Fin 3,
        x.currents[q] = if bit (getI s.link.nodes p).axisMask q && bit m q then v[q] else 0))
      (execNodeApplyCommand_of_authority hauthority) ?_
    obtain ⟨hmissRun, hramp, hcmds⟩ := applied_keeps (cleared (getI s.link.nodes p) k) c
    rw [hnode, hmissRun, hramp, hcmds]
    refine ⟨rfl, rfl, cleared_cmds _ k, ?_, ?_⟩
    · rintro v rfl
      rfl
    · rintro v m rfl q
      simp [applied, cleared]
  case missed =>
    exact does_of_updNode (q := fun x => x.missed = _ ∧ (_ → x.power.dark = true ∧ x.commandMissed = true) ∧
      (_ → x.missRun = _ ∧ (_ → x.currents = _) ∧ (_ → x.ramp.isSome = true))) (execNodeCommandMissed_of_none hauthority hdue)
      ⟨missNode_missed p _, fun hp => by rw [missNode_laser hp]; exact ⟨rfl, rfl⟩, fun hp => missNode_scanner_run hp _⟩
  case gate =>
    have hexec : exec (.nodeGateReceived p link) s = .next (s.updNode p gateNode) := congrArg Host.Outcome.next (if_pos hlaser)
    exact does_of_updNode (q := fun x => x.power.dark = true ∧ x.gateSeen = true ∧ x.currents = _) hexec ⟨rfl, rfl, rfl⟩

end Sys2Proof.Proofs.FieldNodes

/-! Proofs about the messages of the peer link (13_dual_unit_operation R345): a response released by an ACK. -/

namespace Sys2Proof.Proofs.PeerMessages

open Sys2Proof Sys2Proof.Machine Sys2Proof.Proofs.Timebase Sys2Proof.Proofs.HostLink

/-! A block-transfer segment held back

A response that the ACK of its WRITE releases leaves through the queue of its kind (Table 1.4): a segment of a block transfer, which has type
0x84 and status 0, through Q51 or Q55, every other response through Q49 or Q53. A condition on Q49 alone does not let a segment leave. -/

/-- A response for which its queue has no room waits there, and nothing leaves. -/
theorem sendUdp_out_of_full {s : State} {queue : Nat} {port : Fin 2} {dst : Src} {payload : Bytes} (hready : portReady s.toBlocks port = true)
    (hfamily : familyInUse s.toBlocks port dst.v6 = true)
    (hresolved : resolved s.toBlocks port (nextHop s.toBlocks port dst.v6 dst.addr) = true)
    (hfull : roomIn s.toBlocks queue payload.length = false) (localPort : Nat) :
    (sendUdp s queue port localPort dst payload).out = s.out := by
  simp only [sendUdp, placeMessage, hready, hfamily, hresolved, hfull, Bool.not_true, Bool.or_self, Bool.and_false, Bool.false_eq_true, if_false,
    if_true]
  split <;> rfl

theorem serveRequests_of_none {s : State} (hempty0 : getI s.host.requests 0 = []) (hempty1 : getI s.host.requests 1 = []) :
    serveRequests s = s := by
  unfold serveRequests
  rw [hempty0, hempty1]
  rfl

/-- The state in which an ACK of message `q` has been received and its group is forgotten. -/
def acknowledged (s : State) (q : Nat) : State :=
  (receiveService s 5).updPair (fun p => { p with forwarded := p.forwarded.filter (fun g => g.sequence != q) })

theorem acknowledged_sameBut (s : State) (q : Nat) : sameBut [.pair, .queues] s (acknowledged s q) := by
  simp [sameBut, acknowledged]

theorem execAck_of_held {s : State} {q : Nat} {f : Forwarded} {r : GdpResponse} (hst : s.pair.st = .active)
    (hfind : s.pair.forwarded.find? (fun x => x.sequence == q) = some f) (hresponse : f.response = some r) :
    exec (.ack true 4 q) s = .next (serveRequests (sendResponse (acknowledged s q) r)) := by
  have hpair : (receiveService s 5).pair = s.pair :=
    eq_of_sameBut (ps := [.queues]) (·.pair) (receiveService_hide s 5 _ (by decide)) fun _ => rfl
  have hgo : ¬ (s.pair.st != .active || 4 != 4) = true := by rw [hst]; decide
  refine congrArg Host.Outcome.next ((if_neg (by decide)).trans ((if_neg hgo).trans ?_))
  dsimp only
  rw [hpair, hfind]
  dsimp only
  rw [hresponse]
  rfl

/-- A segment with a group held back for it, for the host at port 0. -/
def segment : GdpResponse :=
  { port := 0, src := { v6 := false, addr := 0x0A000002, udp := 50000 }, type := 0x84, reqId := 7, status := 0, position := 0xFFFF, body := [] }

/-- The segment waits where Q51 is full. -/
theorem sendGdp_segment_out {s : State} (hready : portReady s.toBlocks segment.port = true)
    (hfamily : familyInUse s.toBlocks segment.port segment.src.v6 = true)
    (hresolved : resolved s.toBlocks segment.port (nextHop s.toBlocks segment.port segment.src.v6 segment.src.addr) = true)
    (hfull : roomIn s.toBlocks 51 (gdpBytes segment).length = false) : (sendGdp s segment.port segment).out = s.out := by
  have hqueue : responseQueue segment.port segment = 51 := by decide
  rw [sendGdp, hqueue]
  exact sendUdp_out_of_full hready hfamily hresolved hfull 47410

/-- The group whose response the segment is. -/
def heldGroup : Forwarded := { sequence := 9, due := 1, sent := 1, body := [7], response := some segment }

/-- The active unit of a pair with the segment held back, its host reachable at port 0, and Q51 full. -/
def segmentHeld : State :=
  { State.reset.updEth 0 (fun e => { e with linkUp := true, ipv4 := 0x0A000001, prefixLen := 24, arp := [(0x0A000002, 0xB0B, 6200000)] }) with
    pair := { State.reset.pair with st := .active, forwarded := [heldGroup] }
    queues := updI State.reset.queues 51 (fun x => { x with placed := 65536 }) }

theorem segmentHeld_sendable : Sendable segmentHeld.toBlocks 49 0 segment.src (gdpBytes segment).length := by
  unfold Sendable
  decide +kernel

theorem segmentHeld_find : segmentHeld.pair.forwarded.find? (fun x => x.sequence == 9) = some heldGroup := by
  have hforwarded : segmentHeld.pair.forwarded = [heldGroup] := rfl
  rw [hforwarded]
  rfl

/-- With the ACK received Q51 is still full, and the host is still to be reached. -/
theorem acknowledged_full :
    roomIn (acknowledged segmentHeld 9).toBlocks 51 (gdpBytes segment).length = false ∧
      portReady (acknowledged segmentHeld 9).toBlocks segment.port = true ∧
      familyInUse (acknowledged segmentHeld 9).toBlocks segment.port segment.src.v6 = true ∧
      resolved (acknowledged segmentHeld 9).toBlocks segment.port
        (nextHop (acknowledged segmentHeld 9).toBlocks segment.port segment.src.v6 segment.src.addr) = true := by
  decide +kernel

/-- In the machine the ACK lets nothing leave. -/
theorem ack_segmentHeld {t : State} (h : exec (.ack true 4 9) segmentHeld = .next t) : t.out = segmentHeld.out := by
  obtain ⟨hfull, hready, hfamily, hresolved⟩ := acknowledged_full
  rw [execAck_of_held (f := heldGroup) (r := segment) rfl segmentHeld_find rfl] at h
  obtain rfl := Host.Outcome.next.inj h
  have hrequests : (sendResponse (acknowledged segmentHeld 9) segment).host.requests = segmentHeld.host.requests :=
    (traffic_sendResponse _ _).requests.trans (eq_of_sameBut (·.host.requests) (acknowledged_sameBut _ _) fun _ => rfl)
  rw [serveRequests_of_none (by rw [hrequests]; rfl) (by rw [hrequests]; rfl), sendResponse_out]
  exact (sendGdp_segment_out hready hfamily hresolved hfull).trans (eq_of_sameBut (·.out) (acknowledged_sameBut _ _) fun _ => rfl)

/-- Refutes O35: the ACK for a group whose response is a segment of a block transfer. The statement has the response leave because Q49 has room;
the machine places a segment in Q51, which is full here, and nothing leaves. -/
theorem not_peerMessagesComplete : ¬ Obligations.PeerMessagesComplete := by
  unfold Obligations.PeerMessagesComplete
  rintro ⟨-, -, -, -, -, -, -, -, hack, -⟩
  obtain ⟨t, ht, -, -, hout⟩ := hack segmentHeld 9 heldGroup segment rfl segmentHeld_find rfl segmentHeld_sendable rfl rfl
  rw [ack_segmentHeld ht] at hout
  exact List.cons_ne_nil _ _ (List.self_eq_append_right.mp hout)

end Sys2Proof.Proofs.PeerMessages

/-! Proofs about the states of the pair (13_dual_unit_operation R335, R338, R341, R352, R353, R355, R361). -/

namespace Sys2Proof.Proofs.PairStates

open Sys2Proof Sys2Proof.Machine Sys2Proof.Proofs.Timebase Sys2Proof.Proofs.HostLink

/-! The state that the coming boundary brings (R335, R355) -/

theorem toNext_of_none {s : State} (h : s.pair.next = none) (st : PairSt) (cause : Nat) :
    toNext s st cause = s.updPair (fun p => { p with next := some (st, cause) }) := by
  simp [toNext, State.updPair, h]

theorem toNext_next {s : State} (h : s.pair.next = none) (st : PairSt) (cause : Nat) : (toNext s st cause).pair.next = some (st, cause) := by
  rw [toNext_of_none h]
  rfl

/-- What Table 13.7 makes of the pair when the peer is lost: a change to ALONE, or the line acquired first. -/
def peerLost (s : State) : PairState :=
  if claimMode s.toBlocks || s.pair.drives then { s.pair with next := some (.alone, 5) } else { s.pair with acquire := true }

/-- The loss of the peer is posted and answered. -/
theorem loseHeartbeat_of_post {s : State} (h : s.pair.next = none) (e : Event) :
    loseHeartbeat (s.post e) = { s with pair := peerLost s, faults := posts s [e] } := by
  unfold loseHeartbeat peerLost
  show (if claimMode s.toBlocks || s.pair.drives then toNext (s.post e) .alone 5 else _) = _
  split
  · rw [toNext_of_none (s := s.post e) h]
    rfl
  · rfl

/-- A command that answers a state with another pair and other faults. -/
theorem does_of_pair_faults {c : Instr} {s : State} {p : PairState} {f : FaultState} {q : State → Prop}
    (hexec : exec c s = .next { s with pair := p, faults := f }) (h : q { s with pair := p, faults := f }) : Does c s [.faults, .pair] q :=
  ⟨_, hexec, rfl, h⟩

theorem execDiscoverTimeout_of_due {s : State} (hst : s.pair.st = .discover) (hnext : s.pair.next = none) (hacquire : s.pair.acquire = false)
    (hphase : s.start.phase = 0) (hdue : s.pair.since + 5000 ≤ s.now) :
    exec .discoverTimeout s = .next (loseHeartbeat (s.post (pairEvent 0x0D02 .warn []))) :=
  congrArg Host.Outcome.next (if_pos (by simp [hst, hnext, hacquire, hphase, hdue]))

theorem execHeartbeatLoss_of_due {s : State} (hdue : heartbeatDue s.toBlocks = true) :
    exec .heartbeatLoss s = .next (loseHeartbeat (s.post (pairEvent 0x0D03 .warn []))) := congrArg Host.Outcome.next (if_pos hdue)

theorem next_of_heartbeatDue {s : State} (hdue : heartbeatDue s.toBlocks = true) : s.pair.next = none := by
  simp only [heartbeatDue, Bool.and_eq_true, Option.isNone_iff_eq_none] at hdue
  exact hdue.1.1.2

/-! Entry to lockstep (R341) -/

section

variable {s : State} (hready : lockstepReady s.toBlocks = true)

include hready

theorem next_of_lockstepReady : s.pair.next = none := by
  simp only [lockstepReady, Bool.and_eq_true, Option.isNone_iff_eq_none] at hready
  obtain ⟨⟨⟨⟨⟨-, hnext⟩, -⟩, -⟩, -⟩, -⟩ := hready
  exact hnext

theorem execLockstepEntry_of_chosen (hchosen : s.pair.chosen = true) (image : StateImage) :
    exec (.lockstepEntry image) s = .next (toNext s .active 0) := by
  simp only [exec, execLockstepEntry, hready, hchosen, Bool.not_true, Bool.false_eq_true, if_false, if_true]

theorem execLockstepEntry_of_follower (hchosen : s.pair.chosen = false) (image : StateImage) :
    exec (.lockstepEntry image) s = .next (toNext (loadImage (loadCopy s) image) .standby 0) := by
  simp only [exec, execLockstepEntry, hready, hchosen, Bool.not_true, Bool.false_eq_true, if_false]

end

/-- The copy that SYNC has brought leaves the pair itself. -/
theorem loadCopy_pair (s : State) : (loadCopy s).pair = s.pair :=
  eq_of_sameBut (ps := [.axes, .cams, .dict, .values, .faults, .host, .job, .link, .melt, .out, .power, .queues, .steps, .temp, .time, .work])
    (·.pair)
    (loadCopy_hide s _ (by decide) (by decide) (by decide) (by decide) (by decide) (by decide) (by decide) (by decide) (by decide) (by decide)
      (by decide) (by decide) (by decide) (by decide) (by decide) (by decide)) fun _ => rfl

/-! PEER_AUTH_N (R352) -/

/-- The line won: this unit drives it. -/
def lineWon (s : State) : State := s.updPair (fun p => { p with acquire := false, drives := true, lineLow := true })

/-- The line lost to the peer. -/
def lineLost (s : State) : State := s.updPair (fun p => { p with acquire := false, lineLow := true })

section

variable {s : State} {ns : Nat} (hacquire : s.pair.acquire = true) (hwait : acquireWait s.toBlocks ≤ ns)

include hacquire hwait

theorem acquireLine_of_high :
    acquireLine s ns true = if s.pair.st == .standby || s.pair.st == .discover then toNext (lineWon s) .alone 5 else lineWon s :=
  if_neg (by simp [hacquire, hwait])

theorem acquireLine_of_low (hst : s.pair.st = .standby ∨ s.pair.st = .discover) :
    acquireLine s ns false = toNext (lineLost s) .detached 5 := by
  have hsync : ¬ (s.pair.st == .sync) = true := by obtain h | h := hst <;> rw [h] <;> decide
  have hlost : (s.pair.st == .standby || s.pair.st == .discover) = true := by simpa using hst
  exact (if_neg (by simp [hacquire, hwait])).trans ((if_neg hsync).trans (if_pos hlost))

end

/-! Hand-over (R353) -/

theorem execHandOver_of_due {s : State} {h cause : Nat} (hplan : s.work.handOver = some (h, cause)) (hdue : h ≤ s.now + 1) :
    exec .handOver s = .next (exchange s cause) := by
  simp only [exec, execHandOver, hplan, hdue, if_true]

/-- The pair in state `st` from this boundary on, before its line, its record and its pins. -/
def roleTaken (s : State) (st : PairSt) : State :=
  (s.updPair (fun p => { lineAfter s.pair.st st p with st, since := s.now, next := none, acquire := false, lanternDue := s.now })).updWork
    (fun w => { w with handOver := none, unhealthyRun := 0, healthySince := none, homeRun := 0 })

theorem exchange_of_active {s : State} (hst : s.pair.st = .active) (cause : Nat) :
    exchange s cause = pairPins (noteRole (roleTaken s .standby) s.role cause) := by
  refine (if_pos (by rw [hst]; rfl)).trans ?_
  simp only [enterPair, roleTaken, hst]
  rfl

theorem exchange_of_standby {s : State} (hst : s.pair.st = .standby) (cause : Nat) :
    exchange s cause =
      pairPins (noteRole ((roleTaken s .active).updPair (fun p => { p with acquire := !claimMode (roleTaken s .active).toBlocks })) s.role cause) := by
  refine (if_neg (by rw [hst]; decide)).trans ((if_pos (by rw [hst]; rfl)).trans ?_)
  simp only [enterPair, roleTaken, hst]
  rfl

/-- The record of a role change leaves the pair's state and all that is outside it. -/
theorem noteRole_keeps (s : State) (was cause : Nat) :
    (noteRole s was cause).pair.st = s.pair.st ∧ (noteRole s was cause).pair.since = s.pair.since ∧ (noteRole s was cause).work = s.work := by
  unfold noteRole
  split <;> exact ⟨rfl, rfl, rfl⟩

theorem exchange_keeps {s : State} (hst : s.pair.st = .active ∨ s.pair.st = .standby) (cause : Nat) :
    (exchange s cause).pair.st = (if s.pair.st = .active then .standby else .active) ∧ (exchange s cause).pair.since = s.now ∧
      (exchange s cause).work.handOver = none := by
  obtain h | h := hst
  · obtain ⟨hst, hsince, hwork⟩ := noteRole_keeps (roleTaken s .standby) s.role cause
    rw [exchange_of_active h, h, if_pos rfl]
    exact ⟨hst, hsince, congrArg PairWork.handOver hwork⟩
  · obtain ⟨hst, hsince, hwork⟩ := noteRole_keeps
      ((roleTaken s .active).updPair (fun p => { p with acquire := !claimMode (roleTaken s .active).toBlocks })) s.role cause
    rw [exchange_of_standby h, h, if_neg (by decide)]
    exact ⟨hst, hsince, congrArg PairWork.handOver hwork⟩

/-! The peer link and its faults (R338, R361) -/

theorem execPeerLinkDown_of_up {s : State} (hup : s.pair.linkUp = true) (hst : s.pair.st ≠ .single) :
    exec .peerLinkDown s = .next (
      let t := (s.updPair (fun p => { p with linkUp := false, downRun := 0 })).post (pairEvent 0x0D0B .warn [])
      if s.pair.st == .sync then toNext t .detached 0 else t) := by
  refine congrArg Host.Outcome.next ((if_neg (by rw [hup]; decide)).trans (if_neg ?_))
  rw [beq_iff_eq]
  exact hst

theorem execPeerAuthNFault_of_fault {s : State} (hst : s.pair.st ≠ .single) (hfault : s.pair.drives = true ∨ peerFlag s.toBlocks 4 = false) :
    exec .peerAuthNFault s = .next ((s.updPair (fun p => { p with lineLow := !p.drives })).post (pairEvent 0x0D0C .warn [])) := by
  refine congrArg Host.Outcome.next (if_neg ?_)
  obtain h | h := hfault <;> simp [hst, h]

/-- Settles O36: each event by the state it asks for, a hand-over by the pair that the exchange leaves. -/
theorem pairStateCommandsComplete : Obligations.PairStateCommandsComplete := by
  unfold Obligations.PairStateCommandsComplete
  refine ⟨fun s image hready hchosen => ?active, fun s image hready hchosen => ?standby, fun s hst hnext hacquire hphase hdue => ?discover,
    fun s hdue => ?heartbeat, fun s ns hacquire hwait hnext => ?won, fun s ns hacquire hwait hnext hst => ?lost,
    fun s h cause hplan hdue hst => ?handOver, fun s hup hst => ?linkDown,
    fun s => ⟨_, rfl, State_updPair_hide s _ _ (by decide), rfl⟩, fun s hst hfault => ?fault⟩
  case active =>
    refine ⟨_, execLockstepEntry_of_chosen hready hchosen image, toNext_hide s _ _ _ (by decide), ?_⟩
    rw [toNext_of_none (next_of_lockstepReady hready)]
    rfl
  case standby =>
    have hnext : (loadImage (loadCopy s) image).pair.next = none :=
      (congrArg PairState.next (loadCopy_pair s)).trans (next_of_lockstepReady hready)
    refine ⟨_, execLockstepEntry_of_follower hready hchosen image, ?_, ?_⟩
    · simp [sameBut]
    · rw [toNext_of_none hnext]
      exact ⟨rfl, rfl, rfl, rfl, rfl⟩
  case discover =>
    have hexec := execDiscoverTimeout_of_due hst hnext hacquire hphase hdue
    rw [loseHeartbeat_of_post hnext] at hexec
    exact does_of_pair_faults hexec ⟨rfl, rfl⟩
  case heartbeat =>
    have hexec := execHeartbeatLoss_of_due hdue
    rw [loseHeartbeat_of_post (next_of_heartbeatDue hdue)] at hexec
    exact does_of_pair_faults hexec ⟨rfl, rfl⟩
  case won =>
    refine ⟨_, congrArg Host.Outcome.next (acquireLine_of_high hacquire hwait), ?_⟩
    by_cases hst : s.pair.st = .standby ∨ s.pair.st = .discover
    · have hst' : (s.pair.st == .standby || s.pair.st == .discover) = true := by simpa using hst
      rw [if_pos hst', toNext_of_none (s := lineWon s) hnext, if_pos hst]
      exact ⟨rfl, rfl, rfl, rfl, rfl⟩
    · have hst' : ¬ (s.pair.st == .standby || s.pair.st == .discover) = true := by simpa using hst
      rw [if_neg hst', if_neg hst]
      exact ⟨rfl, rfl, rfl, rfl, hnext⟩
  case lost =>
    refine ⟨_, congrArg Host.Outcome.next (acquireLine_of_low hacquire hwait hst), ?_⟩
    rw [toNext_of_none (s := lineLost s) hnext]
    exact ⟨rfl, rfl⟩
  case handOver =>
    refine ⟨_, execHandOver_of_due hplan hdue, ?_, exchange_keeps hst cause⟩
    simp [sameBut, exchange]
  case linkDown =>
    refine ⟨_, execPeerLinkDown_of_up hup hst, ?_⟩
    dsimp only
    split
    · next hsync =>
      refine ⟨rfl, rfl, rfl, fun _ hnext => ?_⟩
      exact toNext_next hnext .detached 0
    · next hsync => exact ⟨rfl, rfl, rfl, fun h => absurd (by rw [h]; rfl) hsync⟩
  case fault => exact ⟨_, execPeerAuthNFault_of_fault hst hfault, rfl, rfl, rfl⟩

end Sys2Proof.Proofs.PairStates

/-! Proofs about the stepper axes (14_recoater_axes R369): the start of a move at a soft limit. -/

namespace Sys2Proof.Proofs.RecoaterAxes

open Sys2Proof Sys2Proof.Machine

/-! A relative move from the soft maximum

The position of an axis stands in 2^-16 microstep (R364), the ends of a move stand in 2^-256 microstep, and `stepMoveStart` converts the
position (`fineStep`) before it checks the move. A check of the move from the position as it stands takes the axis to be near microstep 0. -/

/-- A move of one microstep onwards (Table 14.2: type 2, target 1, the axis's maximum speed, no dwell). -/
def oneFurther : StepMove := { raw := [2, 0, 0, 0, 1, 0, 0, 0, 0, 0, 0, 0, 0, 0, 0, 0] }

/-- An axis at rest at the Default of its soft maximum, with the move in its queue. -/
def atSoftMaximum : StepAxis := { stepReset with pos := 2147483647 * 65536, queue := [oneFurther] }

/-- The machine after power-on, with axis 0 at its soft maximum. -/
def limitState : State := State.reset.updStep 0 (fun _ => atSoftMaximum)

theorem limitState_axis : getI limitState.steps (0 : Fin 8) = atSoftMaximum := getI_updI_self _ 0 (by decide) _

/-- Checked from the position as it stands, the move fails no condition of R369. -/
theorem moveRefusal_unconverted :
    moveRefusal (stepEnv limitState.toBlocks (0 : Fin 8)) atSoftMaximum oneFurther atSoftMaximum.pos (oneFurther.target atSoftMaximum.pos) = 0 := by
  decide

/-- In the unit of its ends, the move leaves the soft limits: condition 2 of R369. -/
theorem moveRefusal_converted :
    moveRefusal (stepEnv limitState.toBlocks (0 : Fin 8)) atSoftMaximum oneFurther (fineStep atSoftMaximum.pos)
      (oneFurther.target (fineStep atSoftMaximum.pos)) = 2 := by
  decide

/-- A move that fails a condition of R369 leaves its axis IDLE. -/
theorem stepMoveStart_of_refused {e : StepEnv} {ax : StepAxis} {v : StepMove} {q : List StepMove} (hqueue : ax.queue = v :: q)
    (hrefused : moveRefusal e ax v (fineStep ax.pos) (v.target (fineStep ax.pos)) ≠ 0) : (stepMoveStart e ax).1.st = .idle := by
  simp only [stepMoveStart, hqueue, if_neg hrefused]

theorem onStep_axis (s : State) (m : Fin 8) (f : StepEnv → StepAxis → StepAxis × List Event) :
    getI (onStep s m f).steps m = (f (stepEnv s.toBlocks m) (getI s.steps m)).1 :=
  getI_updI_self _ _ m.isLt _

/-- In the machine the move does not begin. -/
theorem moveStart_limitState {t : State} (h : exec (.moveStart 0) limitState = .next t) : (getI t.steps (0 : Fin 8)).st = .idle := by
  obtain rfl : onStep limitState (0 : Fin 8) _ = t := Host.Outcome.next.inj h
  rw [onStep_axis, limitState_axis]
  have hguard : ((atSoftMaximum.st == .idle && (stepEnv limitState.toBlocks (0 : Fin 8)).enable ||
      (atSoftMaximum.st == .dwell && decide (atSoftMaximum.dwellEnd ≤ (stepEnv limitState.toBlocks (0 : Fin 8)).now))) &&
      !atSoftMaximum.queue.isEmpty) = true := by decide
  rw [if_pos hguard]
  exact stepMoveStart_of_refused (v := oneFurther) (q := []) rfl (by rw [moveRefusal_converted]; decide)

/-- Refutes O38: an axis at its soft maximum whose move goes one microstep further. Checked from the position in 2^-16 microstep the move
passes, and the statement has it begin; the machine checks it from the position in 2^-256 microstep, refuses it and leaves the axis IDLE. -/
theorem not_stepperDecisionsComplete : ¬ Obligations.StepperDecisionsComplete := by
  unfold Obligations.StepperDecisionsComplete
  rintro ⟨hstart, -⟩
  have hstart := hstart limitState 0 oneFurther []
  rw [limitState_axis] at hstart
  obtain ⟨t, ht, -, hmoving, -⟩ := hstart (.inl ⟨rfl, by decide⟩) rfl moveRefusal_unconverted
  rw [moveStart_limitState ht] at hmoving
  cases hmoving

end Sys2Proof.Proofs.RecoaterAxes

/-! Proofs about the LED strings (15_chamber_illumination R393, R394, R399–R402): patterns, opens, location and probes. -/

namespace Sys2Proof.Proofs.ChamberIllumination

open Sys2Proof Sys2Proof.Machine Sys2Proof.Proofs.Timebase Sys2Proof.Proofs.HostLink Sys2Proof.Proofs.CameraPipeline Sys2Proof.Proofs.Instances

theorem updLed_string (s : State) {l : Nat} (hl : l < 16) (f : LedString → LedString) :
    getI (s.updLed l f).light.strings l = f (getI s.light.strings l) := getI_updI_self _ _ hl _

/-! The patterns of the coming frame (R393, R394) -/

/-- A string that is fixed leaves the others, and of the light all but the strings. -/
structure TouchesOnly (l : Nat) (s t : State) : Prop where
  others : ∀ i, i ≠ l → getI t.light.strings i = getI s.light.strings i
  fixed : t.light.fixed = s.light.fixed
  rle : t.light.rle = s.light.rle
  dict : t.dict = s.dict

theorem TouchesOnly.refl (l : Nat) (s : State) : TouchesOnly l s s := ⟨fun _ _ => rfl, rfl, rfl, rfl⟩

theorem TouchesOnly.trans {l : Nat} {s t u : State} (h : TouchesOnly l s t) (h' : TouchesOnly l t u) : TouchesOnly l s u :=
  ⟨fun i hi => (h'.others i hi).trans (h.others i hi), h'.fixed.trans h.fixed, h'.rle.trans h.rle, h'.dict.trans h.dict⟩

theorem touchesOnly_updLed (s : State) (l : Nat) (f : LedString → LedString) : TouchesOnly l s (s.updLed l f) :=
  ⟨fun _ hi => getI_updI_ne _ _ _ hi _, rfl, rfl, rfl⟩

theorem touchesOnly_post (s : State) (l : Nat) (e : Event) : TouchesOnly l s (s.post e) := ⟨fun _ _ => rfl, rfl, rfl, rfl⟩

theorem touchesOnly_postDeficit (s : State) (l : Nat) (was beyond : Bool) : TouchesOnly l s (postDeficit s l was beyond) := by
  unfold postDeficit
  split
  · exact (touchesOnly_updLed s l _).trans (touchesOnly_post _ l _)
  · exact .refl l s

theorem touchesOnly_fixOn (s : State) (l : Nat) : TouchesOnly l s (fixOn s l) :=
  (touchesOnly_updLed s l _).trans (touchesOnly_postDeficit _ l _ _)

theorem touchesOnly_fixLocating (s : State) (l lamp : Nat) : TouchesOnly l s (fixLocating s l lamp) := by
  unfold fixLocating
  dsimp only
  split <;> exact touchesOnly_updLed s l _

theorem touchesOnly_fixString (s : State) (l : Nat) : TouchesOnly l s (fixString s l) := by
  unfold fixString
  dsimp only
  split
  · split
    · exact (touchesOnly_updLed s l _).trans (touchesOnly_fixOn _ l)
    · exact .refl l s
  · exact touchesOnly_fixOn s l
  · split
    · exact (touchesOnly_updLed s l _).trans (touchesOnly_fixOn _ l)
    · exact touchesOnly_fixLocating s l _
  · exact .refl l s

/-- A deficit that is posted leaves the string's state. -/
theorem postDeficit_st (s : State) (l : Nat) (was beyond : Bool) (i : Nat) :
    (getI (postDeficit s l was beyond).light.strings i).st = (getI s.light.strings i).st := by
  unfold postDeficit
  split
  · show (getI (updI s.light.strings l _) i).st = _
    rw [getI_updI]
    split
    · next h => rw [h.1]
    · rfl
  · rfl

theorem fixOn_st (s : State) {l : Nat} (hl : l < 16) : (getI (fixOn s l).light.strings l).st = (getI s.light.strings l).st := by
  refine (postDeficit_st _ l _ _ l).trans ?_
  rw [updLed_string _ hl]

section

variable {s : State} {l : Nat}

theorem fixString_of_enabled (hl : l < 16) (hst : (getI s.light.strings l).st = .off) (henabled : s.objB (0x4100 + l) 0x00 = true) :
    (getI (fixString s l).light.strings l).st = .on := by
  simp only [fixString, hst, henabled, if_true]
  rw [fixOn_st _ hl, updLed_string _ hl]

theorem fixString_of_disabled (hst : (getI s.light.strings l).st = .off) (hdisabled : s.objB (0x4100 + l) 0x00 = false) : fixString s l = s := by
  simp only [fixString, hst, hdisabled, Bool.false_eq_true, if_false]

theorem fixString_of_fault (hst : (getI s.light.strings l).st = .fault) : fixString s l = s := by
  simp only [fixString, hst]

end

/-- The state with the coming frame marked as fixed. -/
def frameMarked (s : State) : State := { s.atClock 9500 with light := { s.light with fixed := s.now + 1 } }

/-- The state in which the strings are fixed: the frame is marked and the colour groups are judged. -/
def groupsPosted (s : State) : State := postGroups (frameMarked s)

theorem groupsPosted_hide (s : State) (ps : List Part) (hfaults : .faults ∈ ps) (hlight : .light ∈ ps) :
    (groupsPosted s).hide ps = (s.atClock 9500).hide ps :=
  (postGroups_hide (frameMarked s) ps hfaults hlight).trans (set_light_hide (s.atClock 9500) _ ps hlight)

theorem groupsPosted_light (s : State) :
    (groupsPosted s).light.strings = s.light.strings ∧ (groupsPosted s).light.fixed = s.now + 1 ∧ (groupsPosted s).light.rle = s.light.rle := by
  have hgroups : ∀ (x : State) (g : Nat → Bool) (e : Nat → Event), (forI 4 x (fun y k => if g k then y.post (e k) else y)).light = x.light :=
    fun x g e => forI_keeps 4 (f := fun y k => if g k then y.post (e k) else y) (·.light) (fun y k => by split <;> rfl) x
  unfold groupsPosted postGroups frameMarked
  dsimp only
  rw [hgroups]
  exact ⟨rfl, rfl, rfl⟩

/-- The state with every string fixed for the coming frame. -/
def stringsFixed (s : State) : State := forI 16 (groupsPosted s) fixString

theorem execPatternFix_of_due {s : State} (hlast : s.tickCount % 4 = 3) (hrun : s.time.running = true)
    (hdrives : drivesOutputs s.toBlocks = true) (hfixed : s.light.fixed ≠ s.now + 1) : exec .patternFix s = .next (stringsFixed s) := by
  refine congrArg Host.Outcome.next (if_pos ?_)
  rw [Bool.and_eq_true, Bool.and_eq_true, Bool.and_eq_true]
  exact ⟨⟨⟨beq_iff_eq.mpr hlast, hrun⟩, hdrives⟩, bne_iff_ne.mpr hfixed⟩

theorem stringsFixed_hide (s : State) (ps : List Part) (hfaults : .faults ∈ ps) (hlight : .light ∈ ps) :
    (stringsFixed s).hide ps = (s.atClock 9500).hide ps :=
  (forI_hide 16 _ ps fixString fun s l => fixString_hide s l ps hfaults hlight).trans (groupsPosted_hide s ps hfaults hlight)

/-- In its turn a string is as it was, and so is its enable. -/
theorem stringsFixed_turn (s : State) {l : Nat} (hl : l < 16) : ∃ x : State,
    getI x.light.strings l = getI s.light.strings l ∧ x.dict = s.dict ∧
    getI (stringsFixed s).light.strings l = getI (fixString x l).light.strings l := by
  unfold stringsFixed
  have hothers : ∀ s k i, i ≠ k → getI (fixString s k).light.strings i = getI s.light.strings i := fun s k => (touchesOnly_fixString s k).others
  have hdict : (groupsPosted s).dict = (s.atClock 9500).dict :=
    eq_of_sameBut (·.dict) (groupsPosted_hide s [.faults, .light] (by decide) (by decide)) fun _ => rfl
  have hown := forI_own (f := fixString) (get := fun s i => getI s.light.strings i) hothers (groupsPosted s) hl
  have habove := forI_above (f := fixString) (get := fun s i => getI s.light.strings i) hothers (groupsPosted s) (Nat.le_refl l)
  have hkept := forI_keeps (f := fixString) l (·.dict) (fun s k => (touchesOnly_fixString s k).dict) (groupsPosted s)
  exact ⟨_, habove.trans (by rw [(groupsPosted_light s).1]), hkept.trans hdict, hown⟩

theorem stringsFixed_light (s : State) : (stringsFixed s).light.fixed = s.now + 1 ∧ (stringsFixed s).light.rle = s.light.rle := by
  unfold stringsFixed
  obtain ⟨-, hfixed, hrle⟩ := groupsPosted_light s
  have hfixed' := forI_keeps (f := fixString) 16 (·.light.fixed) (fun s k => (touchesOnly_fixString s k).fixed) (groupsPosted s)
  have hrle' := forI_keeps (f := fixString) 16 (·.light.rle) (fun s k => (touchesOnly_fixString s k).rle) (groupsPosted s)
  exact ⟨hfixed'.trans hfixed, hrle'.trans hrle⟩

/-- What the coming frame makes of a string that is OFF or in FAULT. -/
theorem stringsFixed_string (s : State) {l : Nat} (hl : l < 16) :
    ((getI s.light.strings l).st = .off → s.objB (0x4100 + l) 0x00 = true → (getI (stringsFixed s).light.strings l).st = .on) ∧
    ((getI s.light.strings l).st = .off → s.objB (0x4100 + l) 0x00 = false →
      getI (stringsFixed s).light.strings l = getI s.light.strings l) ∧
    ((getI s.light.strings l).st = .fault → getI (stringsFixed s).light.strings l = getI s.light.strings l) := by
  obtain ⟨x, hstring, hdict, hturn⟩ := stringsFixed_turn s hl
  have henable : x.objB (0x4100 + l) 0x00 = s.objB (0x4100 + l) 0x00 := by simp only [Blocks.objB, Blocks.objI, hdict]
  rw [hturn, ← hstring, ← henable]
  refine ⟨fixString_of_enabled hl, fun hst hdisabled => ?_, fun hst => ?_⟩
  · rw [fixString_of_disabled hst hdisabled]
  · rw [fixString_of_fault hst]

/-! Opens, tests and probes (R399–R402) -/

section

variable {s : State} {l : Fin 16} {w current : Nat} (hst : (getI s.light.strings l).st = .on) (hdrives : drivesOutputs s.toBlocks = true)
  (hcounts : windowCounts s.toBlocks (getI s.light.strings l) (s.objN (0x4100 + l) 0x01) w = true)
  (hspan : inSpan (getI s.light.strings l) w = false)

include hst hdrives hcounts hspan

/-- A current window in which the current is judged. -/
theorem windowCurrent_of_counting : windowCurrent s l w current =
    if s.objN (0x4100 + l) 0x0A ≤ current then s.updLed l (fun x => { x with current })
    else s.updLed l (fun x => { x with
      current, st := .locating, test := none, changes := [(0, allClosed)]
      candidates := (List.range (s.objN (0x4100 + l) 0x01)).filter
        (fun k => !bit (patternAt (getI s.light.strings l).changes (205 * w)) k) }) := by
  simp only [windowCurrent, hst, hdrives, hcounts, hspan, bne_self_eq_false, Bool.not_true, Bool.or_self, Bool.false_eq_true, if_false]

end

/-- The string with lamp `k` failed open. -/
def openLamp (k : Nat) (x : LedString) : LedString := { x with failed := setBit x.failed k true, opens := inc32 x.opens }

theorem lampOpen_string (s : State) {l : Nat} (hl : l < 16) (k : Nat) :
    getI (lampOpen s l k).light.strings l = openLamp k (getI s.light.strings l) := updLed_string s hl _

/-- The candidate's test span is over (R400). -/
def candidateTested (rest : List Nat) (x : LedString) : LedString := { x with candidates := rest, test := none }

section

variable {s : State} {l : Fin 16} {k p current : Nat} (hst : (getI s.light.strings l).st = .locating)
  (htest : (getI s.light.strings l).test = some (k, p))

include hst htest

theorem locateResult_of_open (hopen : current < s.objN (0x4100 + l) 0x0A) :
    locateResult s l current = lampOpen (s.updLed l (candidateTested [])) l k := by
  simp only [locateResult, hst, htest, if_pos hopen]
  rfl

theorem locateResult_of_more (hclosed : s.objN (0x4100 + l) 0x0A ≤ current)
    (hrest : (getI s.light.strings l).candidates.filter (fun c => c != k) ≠ []) :
    locateResult s l current = s.updLed l (candidateTested ((getI s.light.strings l).candidates.filter (fun c => c != k))) := by
  simp only [locateResult, hst, htest, if_neg (Nat.not_lt.mpr hclosed), List.isEmpty_iff, if_neg hrest]
  rfl

theorem locateResult_of_last (hclosed : s.objN (0x4100 + l) 0x0A ≤ current)
    (hrest : (getI s.light.strings l).candidates.filter (fun c => c != k) = []) :
    locateResult s l current =
      (s.updLed l (fun x => { x with st := .fault, candidates := [], test := none, changes := [] })).post (ledEvent l 0x0F03 .warn []) := by
  simp only [locateResult, hst, htest, if_neg (Nat.not_lt.mpr hclosed), List.isEmpty_iff, if_pos hrest]

end

/-- The string with the probe of lamp `k` stored and the next one due 100,000 ticks later (R401). -/
def probedString (k voltage : Nat) (x : LedString) : LedString :=
  { x with test := none, voltages := x.voltages.set k voltage, probed := x.probed.set k (nth x.probed k + 100000) }

/-- The string with lamp `k` failed and shorted. -/
def shortedLamp (k : Nat) (x : LedString) : LedString := { x with failed := setBit x.failed k true, shorted := setBit x.shorted k true }

section

variable {s : State} {l : Fin 16} {k p current voltage : Nat} (hst : (getI s.light.strings l).st = .on)
  (htest : (getI s.light.strings l).test = some (k, p))

include hst htest

theorem probeResult_of_open (hopen : current < s.objN (0x4100 + l) 0x0A) :
    probeResult s l current voltage = lampOpen (s.updLed l (probedString k voltage)) l k := by
  simp only [probeResult, hst, htest]
  exact if_pos hopen

theorem probeResult_of_short (hclosed : s.objN (0x4100 + l) 0x0A ≤ current) (hshort : voltage < s.objN (0x4100 + l) 0x0B) :
    probeResult s l current voltage =
      ((s.updLed l (probedString k voltage)).updLed l (shortedLamp k)).post (ledEvent l 0x0F02 .warn (leBytes 1 k)) := by
  simp only [probeResult, hst, htest]
  exact (if_neg (Nat.not_lt.mpr hclosed)).trans (if_pos hshort)

theorem probeResult_of_good (hclosed : s.objN (0x4100 + l) 0x0A ≤ current) (hgood : s.objN (0x4100 + l) 0x0B ≤ voltage) :
    probeResult s l current voltage = s.updLed l (probedString k voltage) := by
  simp only [probeResult, hst, htest]
  exact (if_neg (Nat.not_lt.mpr hclosed)).trans (if_neg (Nat.not_lt.mpr hgood))

end

/-- Probes that found no place are counted by the spans of 100,000 ticks that have passed. -/
theorem probesMissed_of_missed {s : State} {l : Fin 16} (hmissed : missedProbes s.toBlocks l ≠ []) :
    let y := getI s.light.strings l
    (getI (probesMissed s l).light.strings l).notPlaced =
      satU 32 (y.notPlaced + sumN ((missedProbes s.toBlocks l).map (fun k => (s.now - nth y.probed k) / 100000))) ∧
    (probesMissed s l).faults = if ledDue s.now y.notPlacedPosted then posts s [ledEvent l 0x0F06 .note []] else s.faults := by
  simp only [probesMissed, List.isEmpty_iff, if_neg hmissed]
  split
  · refine ⟨?_, rfl⟩
    simp only [post_keeps]
    rw [updLed_string _ l.isLt]
  · refine ⟨?_, rfl⟩
    rw [updLed_string _ l.isLt]

/-- Settles O39: a frame by the turn of each string, a window, a test and a probe by the branch that its current and its voltage take. -/
theorem ledCommandsComplete : Obligations.LedCommandsComplete := by
  unfold Obligations.LedCommandsComplete
  refine ⟨fun s hlast hrun hdrives hfixed => ?fix, fun s l w current hst hdrives hcounts hspan => ?window,
    fun s l k p current hst htest => ?locate, fun s l k p current voltage hst htest => ?probe, fun s l hmissed => ?missed⟩
  case fix =>
    obtain ⟨hframe, hrle⟩ := stringsFixed_light s
    have htime : (stringsFixed s).time = (s.atClock 9500).time :=
      eq_of_sameBut (·.time) (stringsFixed_hide s [.faults, .light] (by decide) (by decide)) fun _ => rfl
    exact ⟨_, execPatternFix_of_due hlast hrun hdrives hfixed,
      (stringsFixed_hide s _ (by decide) (by decide)).trans (State_atClock_hide s 9500 _ (by decide)), htime, hframe, hrle,
      fun l hl => stringsFixed_string s hl⟩
  case window =>
    refine ⟨_, rfl, windowCurrent_hide s l w current _ (by decide), fun hlit => ?_, fun hopen => ?_⟩
    · rw [windowCurrent_of_counting hst hdrives hcounts hspan, if_pos hlit]
      rfl
    · rw [windowCurrent_of_counting hst hdrives hcounts hspan, if_neg (Nat.not_le.mpr hopen), updLed_string _ l.isLt]
      exact ⟨rfl, rfl, rfl, rfl⟩
  case locate =>
    refine ⟨_, rfl, locateResult_hide s l current _ (by decide) (by decide), fun hopen => ?_, fun hclosed hrest => ?_, fun hclosed hrest => ?_⟩
    · rw [locateResult_of_open hst htest hopen, lampOpen_string _ l.isLt, updLed_string _ l.isLt]
      exact ⟨bit_setBit_true _ k, rfl, rfl, rfl⟩
    · rw [locateResult_of_more hst htest hclosed hrest, updLed_string _ l.isLt]
      exact ⟨hst, rfl, rfl⟩
    · rw [locateResult_of_last hst htest hclosed hrest]
      refine ⟨?_, rfl⟩
      simp only [post_keeps]
      rw [updLed_string _ l.isLt]
  case probe =>
    have hstored : (getI (probeResult s l current voltage).light.strings l).voltages = (getI s.light.strings l).voltages.set k voltage ∧
        (getI (probeResult s l current voltage).light.strings l).test = none := by
      rcases Nat.lt_or_ge current (s.objN (0x4100 + l) 0x0A) with hopen | hclosed
      · rw [probeResult_of_open hst htest hopen, lampOpen_string _ l.isLt, updLed_string _ l.isLt]
        exact ⟨rfl, rfl⟩
      · rcases Nat.lt_or_ge voltage (s.objN (0x4100 + l) 0x0B) with hshort | hgood
        · rw [probeResult_of_short hst htest hclosed hshort]
          simp only [post_keeps]
          rw [updLed_string _ l.isLt, updLed_string _ l.isLt]
          exact ⟨rfl, rfl⟩
        · rw [probeResult_of_good hst htest hclosed hgood, updLed_string _ l.isLt]
          exact ⟨rfl, rfl⟩
    refine ⟨_, rfl, probeResult_hide s l current voltage _ (by decide) (by decide), hstored.1, hstored.2, fun hopen => ?_,
      fun hclosed hshort => ?_, fun hclosed hgood => ?_⟩
    · rw [probeResult_of_open hst htest hopen, lampOpen_string _ l.isLt, updLed_string _ l.isLt]
      exact ⟨bit_setBit_true _ k, rfl, rfl⟩
    · rw [probeResult_of_short hst htest hclosed hshort]
      simp only [post_keeps]
      rw [updLed_string _ l.isLt, updLed_string _ l.isLt]
      exact ⟨bit_setBit_true _ k, bit_setBit_true _ k, rfl⟩
    · rw [probeResult_of_good hst htest hclosed hgood, updLed_string _ l.isLt]
      exact ⟨rfl, rfl⟩
  case missed => exact ⟨_, rfl, probesMissed_hide s l _ (by decide) (by decide), probesMissed_of_missed hmissed⟩

end Sys2Proof.Proofs.ChamberIllumination

/-! Proofs about the run-length engine (16_rle_engine R413, R416, R417): blocks of closing maps and of host jobs. -/

namespace Sys2Proof.Proofs.RunLengthEngine

open Sys2Proof Sys2Proof.Machine Sys2Proof.Proofs.Timebase Sys2Proof.Proofs.HostLink Sys2Proof.Proofs.CameraPipeline

/-! Blocks of the map path (R412, R413) -/

/-- The block the front entry of Q46 is turned into. -/
def mapBlockOf (e : MapCells) : MapBlock := { serial := e.serial, plane := e.plane, data := blockOf (compressCells e.cells.length e.cells) }

/-- The posts of a map that is dropped after a second mismatch, each for its layer. -/
def droppedEvents (s : State) (e : MapCells) : List Event :=
  (s.melt.closing.filter (fun c => c.serial == e.serial)).map
    (fun c => mkEvent (.block 1) 0x1002 .warn .layerPackage 0 (leBytes 4 c.map.layer))

/-- The machine with every entry and plan of the front entry's map discarded. -/
def mapDropped (s : State) (e : MapCells) (rest : List MapCells) : State :=
  s.updMeltState (fun x => { x with
    closing := x.closing.filter (fun c => c.serial != e.serial), q46 := rest.filter (fun d => d.serial != e.serial) })

theorem post_postAll_faults (s : State) (e : Event) (es : List Event) : ((s.post e).postAll es).faults = posts s (e :: es) := by
  have hlist : ∀ (l : List Event) (x : Event) (r : List Event), (l ++ [x]) ++ r = l ++ x :: r := fun l x r => by simp
  exact congrArg (fun l => { s.faults with posted := l }) (hlist s.faults.posted _ _)

theorem noteMismatch_zero (s : State) : noteMismatch s 0 = s := if_pos rfl

theorem noteMismatch_two (s : State) :
    noteMismatch s 2 = (s.updRle (fun r => { r with mismatches := satU 32 (r.mismatches + 2) })).post (rleEvent 0x1001 .note []) :=
  if_neg (by decide)

section

variable {s : State} {e : MapCells} {rest : List MapCells} (hfront : s.melt.q46 = e :: rest)

include hfront

theorem compressMap_of_full {mismatches : Nat} (hfull : 524288 < blockBytes s.melt.q47 + (mapBlockOf e).data.length) :
    compressMap s mismatches = noteStall s 47 true false := by
  unfold compressMap
  rw [hfront]
  exact if_pos hfull

variable (hroom : blockBytes s.melt.q47 + (mapBlockOf e).data.length ≤ 524288)

include hroom

theorem compressMap_of_match :
    compressMap s 0 = ((noteStall s 47 false false).updMeltState (fun x => { x with q46 := rest, q47 := x.q47 ++ [mapBlockOf e] })).updRle
      (fun r => { r with mapBlocks := inc32 r.mapBlocks }) := by
  unfold compressMap
  rw [hfront]
  exact (if_neg (Nat.not_lt.mpr hroom)).trans (by rw [noteMismatch_zero]; rfl)

theorem compressMap_of_mismatches :
    compressMap s 2 = (mapDropped (noteMismatch (noteStall s 47 false false) 2) e rest).postAll (droppedEvents s e) := by
  unfold compressMap
  rw [hfront]
  exact if_neg (Nat.not_lt.mpr hroom)

end

/-! Blocks of the host job (R416, R417) -/

section

variable {s : State} (hrunning : s.light.rle.st = .running) (hmaps : mapWork s.toBlocks = false)

include hrunning hmaps

theorem rleStep_of_uncorrectable (mismatches : Nat) : rleStep s mismatches true = jobError s 11 s.light.rle.consumed := by
  simp [rleStep, hrunning, hmaps]

theorem rleStep_of_decompression (hkind : s.objN 0x4200 0x01 ≠ 0) : rleStep s 0 false = decompressHost s := by
  simp [rleStep, hrunning, hmaps, hkind]

end

theorem decompressHost_of_block {s : State} {n : Nat} {cells : List Nat}
    (hblock : decodeBlock ((s.objT 0x4200 0x02).drop s.light.rle.consumed) = .ok (n, cells)) :
    decompressHost s =
      if s.objN 0x4200 0x03 < s.light.rle.output.length + 2 * cells.length then s.updRle (fun r => { r with st := .full })
      else s.updRle (fun r => rleWrite r (cells.map (leBytes 2)).flatten n (s.objT 0x4200 0x02).length) := by
  unfold decompressHost
  simp only [hblock]

/-- Settles O40: a block of a map by its room in Q47 and its mismatches, one of a host job by what it decodes to. -/
theorem runLengthCommandsComplete : Obligations.RunLengthCommandsComplete := by
  unfold Obligations.RunLengthCommandsComplete
  refine ⟨fun s e rest hfront hroom => ?matching, fun s e rest hfront hroom => ?dropped, fun s mismatches e rest hfront hfull => ?waiting,
    fun s mismatches hrunning hmaps => ?uncorrectable, fun s n cells hrunning hmaps hkind hblock => ?decompressed⟩
  case matching =>
    refine ⟨_, rfl, compressMap_hide s 0 _ (by decide) (by decide) (by decide) (by decide), ?_⟩
    rw [compressMap_of_match hfront hroom]
    exact ⟨rfl, rfl, rfl⟩
  case dropped =>
    refine ⟨_, rfl, compressMap_hide s 2 _ (by decide) (by decide) (by decide) (by decide), ?_⟩
    rw [compressMap_of_mismatches hfront hroom, noteMismatch_two]
    exact ⟨rfl, rfl, post_postAll_faults _ _ (droppedEvents s e)⟩
  case waiting =>
    refine ⟨_, congrArg Host.Outcome.next (compressMap_of_full hfront hfull), noteStall_hide s 47 true false _ (by decide), ?_⟩
    exact congrArg QueueStat.waiting (getI_updI_self s.queues 47 (by decide) _)
  case uncorrectable =>
    refine ⟨_, congrArg Host.Outcome.next (rleStep_of_uncorrectable hrunning hmaps mismatches), ?_, rfl, rfl⟩
    simp [sameBut, jobError]
  case decompressed =>
    refine ⟨_, congrArg Host.Outcome.next ((rleStep_of_decompression hrunning hmaps hkind).trans (decompressHost_of_block hblock)), ?_,
      fun hroom => ?_, fun hfull => ?_, ?_⟩
    · split <;> simp [sameBut]
    · rw [if_neg (Nat.not_lt.mpr hroom)]
      simp [State.updRle, rleWrite, hrunning]
    · rw [if_pos hfull]
      rfl
    · split <;> rfl

end Sys2Proof.Proofs.RunLengthEngine

/-! Proofs about temperatures, load switches and resets (17_thermal_and_power R426, R430, R434, R436, R439, R440, R442; 20_startup_and_faults
R489, R490; 21_package_and_electrical R524, R527). -/

namespace Sys2Proof.Proofs.ThermalAndPower

open Sys2Proof Sys2Proof.Machine Sys2Proof.Proofs.Architecture Sys2Proof.Proofs.Timebase Sys2Proof.Proofs.Instances

/-! The die (R430) -/

/-- The die temperature is the maximum of the sensors, of which the first one only starts the comparison. -/
theorem dieTemp_isMax (t : TempState) : dieTemp t ∈ t.die.toList ∧ ∀ x ∈ t.die.toList, x ≤ dieTemp t := by
  have hfirst : getI t.die 0 ∈ t.die.toList := by
    rw [show getI t.die 0 = t.die[(0 : Fin 8)] from getI_fin t.die (0 : Fin 8)]
    exact Vector.mem_toList_iff.mpr (Vector.getElem_mem _)
  have hmax : (getI t.die 0 :: t.die.toList).max? = some (dieTemp t) := List.max?_cons'
  obtain ⟨hmem, hle⟩ := List.max?_eq_some_iff.mp hmax
  refine ⟨?_, fun x hx => hle x (List.mem_cons_of_mem _ hx)⟩
  rcases List.mem_cons.mp hmem with h | h
  · rwa [h]
  · exact h

/-- The temperatures after a slot: its result kept unless the input is off, and the die read. -/
def slotTaken (s : State) (k : Nat) (m : SlotMeasure) (die : Vector Int 8) : TempState :=
  let hot := dieTemp { s.temp with die }
  { s.temp with
    inputs := if s.objN (0x2210 + k) 0x00 = 0 then s.temp.inputs
      else updI s.temp.inputs k (fun x => { x with slot := some (slotResult s.toBlocks k m) })
    die, peak := max s.temp.peak hot, dieAbove := s.temp.dieAbove && decide (s.objI 0x2200 0x02 < hot) }

theorem execTemperatureSlot_eq (s : State) (k : Fin 48) (m : SlotMeasure) (die : Vector Int 8) :
    exec (.temperatureSlot k m die) s = .next { s with temp := slotTaken s k m die } := by
  simp only [exec, execTemperatureSlot, slotTaken]
  split <;> rfl

/-- Settles O56, by the maximum that the die temperature is. -/
theorem dieTemperatureIsTheHighest : Obligations.DieTemperatureIsTheHighest := by
  unfold Obligations.DieTemperatureIsTheHighest
  intro s k m die
  obtain ⟨hmem, hle⟩ := dieTemp_isMax (slotTaken s k m die)
  refine ⟨_, execTemperatureSlot_eq s k m die, set_temp_hide s _ _ (by decide), rfl, fun i => hle _ ?_, ?_⟩
  · exact Vector.mem_toList_iff.mpr (Vector.getElem_mem _)
  · obtain ⟨i, hi, hget⟩ := Vector.mem_iff_getElem.mp (Vector.mem_toList_iff.mp hmem)
    exact ⟨⟨i, hi⟩, hget.symm⟩

/-! The scan and the warning of the die (R426, R430) -/

/-- The input of a scan in its own turn (R425–R428). -/
def publishTurn (scan : Nat) (s : State) (k : Nat) : State :=
  let r := publishInput s.toBlocks scan k (getI s.temp.inputs k)
  (s.updTemp k (fun _ => r.1)).postAll r.2

/-- The state in which every input has had its turn. -/
def inputsPublished (s : State) : State := forI 48 s (publishTurn (s.tickCount / 1000))

theorem inputsPublished_sameBut (s : State) : sameBut [.temp, .faults] s (inputsPublished s) :=
  forI_hide _ _ _ _ fun s k => by simp [publishTurn]

/-- The turns of the inputs leave what the scan has as a whole. -/
theorem inputsPublished_scan (s : State) :
    (inputsPublished s).temp.scans = s.temp.scans ∧ (inputsPublished s).temp.die = s.temp.die :=
  ⟨forI_keeps (f := publishTurn _) 48 (·.temp.scans) (fun _ _ => rfl) s, forI_keeps (f := publishTurn _) 48 (·.temp.die) (fun _ _ => rfl) s⟩

/-- An input that is off shows no reading, and validity 5 (Table 17.2). -/
theorem publishInput_of_off {s : Blocks} {k : Nat} (hoff : s.objN (0x2210 + k) 0x00 = 0) (scan : Nat) (x : TempInput) :
    (publishInput s scan k x).1.reading = -32768 ∧ (publishInput s scan k x).1.validity = 5 := by
  simp only [publishInput, hoff, if_true, evalRise]
  (repeat' split) <;> exact ⟨rfl, rfl⟩

theorem inputsPublished_of_off (s : State) {k : Nat} (hk : k < 48) (hoff : s.objN (0x2210 + k) 0x00 = 0) :
    (getI (inputsPublished s).temp.inputs k).reading = -32768 ∧ (getI (inputsPublished s).temp.inputs k).validity = 5 := by
  have hown : getI (inputsPublished s).temp.inputs k = _ :=
    forI_own (f := publishTurn (s.tickCount / 1000)) (get := fun s k => getI s.temp.inputs k) (fun _ _ _ h => getI_updI_ne _ _ _ h _) s hk
  have hdict : (forI k s (publishTurn (s.tickCount / 1000))).dict = s.dict := forI_keeps (f := publishTurn _) k (·.dict) (fun _ _ => rfl) s
  rw [hown]
  dsimp only [publishTurn, State.postAll]
  rw [updTemp_temp, getI_updI_self _ _ hk]
  exact publishInput_of_off (by simpa only [Blocks.objN, Blocks.objI, hdict] using hoff) _ _

theorem publishScan_temp (s : State) : (publishScan s).temp = { (inputsPublished s).temp with
    scans := (s.temp.scans + 1) % 2 ^ 32, published := some (s.tickCount / 1000, s.now)
    channelThrottle := throttleMask (inputsPublished s).toBlocks 0x0D, axisThrottle := throttleMask (inputsPublished s).toBlocks 0x0E } := by
  have hnow : (inputsPublished s).now = s.now := eq_of_sameBut (fun x => x.now) (inputsPublished_sameBut s) fun _ => rfl
  rw [← (inputsPublished_scan s).1, ← hnow]
  rfl

theorem publishDue_of_due {s : State} (hdue : scanDue s.toBlocks = true) (hfree : scanCalibrated s.toBlocks = false) :
    publishDue s = publishScan s := by
  simp only [publishDue, hdue, hfree, Bool.not_false, Bool.and_self, if_true]

theorem execDieWarning_of_due {s : State} (hhot : s.objI 0x2200 0x02 < dieTemp s.temp) (habove : s.temp.dieAbove = false)
    (hdue : ∀ k, s.temp.diePosted = some k → k + 100000 ≤ s.now) :
    exec .dieWarning s = .next (State.post { s with temp := { s.temp with dieAbove := true, diePosted := some s.now } }
      (mkEvent (.block 4) 0x1108 .warn .device 0 [])) := by
  have hguard : ¬(dieTemp s.temp ≤ s.objI 0x2200 0x02 || s.temp.dieAbove) = true := by
    simpa only [habove, Bool.or_false, decide_eq_true_eq] using Int.not_le.mpr hhot
  simp only [exec, execDieWarning, if_neg hguard]
  cases h : s.temp.diePosted with
  | none => rfl
  | some k => simp only [hdue k h, decide_true, if_true]

/-- Settles O41: the slot by the one equation of its command, the scan by the turns of its inputs, the warning by its guards. -/
theorem temperatureCommandsComplete : Obligations.TemperatureCommandsComplete := by
  unfold Obligations.TemperatureCommandsComplete
  refine ⟨fun s k m die hon => ?slot, fun s hdue hfree => ?scan, fun s hhot habove hdue => ?warning⟩
  case slot => exact ⟨_, execTemperatureSlot_eq s k m die, set_temp_hide s _ _ (by decide), if_neg hon, rfl, rfl, rfl, rfl⟩
  case scan =>
    refine ⟨_, congrArg Host.Outcome.next (publishDue_of_due hdue hfree), publishScan_hide _ _ (by decide) (by decide), ?_⟩
    dsimp only
    rw [publishScan_temp]
    exact ⟨rfl, rfl, (inputsPublished_scan s).2, fun k hk => inputsPublished_of_off s hk⟩
  case warning => exact ⟨_, execDieWarning_of_due hhot habove hdue, by simp [sameBut], rfl, rfl⟩

/-! Load switches (R439, R440, R442) -/

/-- The next group that falls due leaves the switches and the group in progress. -/
theorem noteGroup_power (s : State) :
    (noteGroup s).power.switches = s.power.switches ∧ (noteGroup s).power.group = s.power.group := by
  unfold noteGroup
  split <;> exact ⟨rfl, rfl⟩

/-- A switch that trips, as its reason leaves it (R439, R440). -/
def trippedSwitch (now reason : Nat) (x : LoadSwitch) : LoadSwitch :=
  { x with
    st := if x.retries = 0 then .tripped else .retry, since := now, reason, trips := inc32 x.trips, retries := x.retries - 1 }

theorem tripSwitch_switches (s : State) (k reason : Nat) :
    (tripSwitch s k reason).power.switches = updI s.power.switches k (trippedSwitch s.now reason) := by
  unfold tripSwitch
  dsimp only
  split <;> rfl

/-- A switch with retries left does not halt the groups. -/
theorem tripSwitch_faults_of_retries {s : State} {k : Nat} (hretries : 0 < (getI s.power.switches k).retries) (reason : Nat) :
    (tripSwitch s k reason).faults = posts s [powerEvent 0x1106 (sevOfNum (s.objN (0x2110 + k) 0x09)) .loadSwitch k []] := by
  have hleft : (getI s.power.switches k).retries ≠ 0 := Nat.ne_of_gt hretries
  simp only [tripSwitch, hleft, decide_false, Bool.false_and, Bool.false_eq_true, if_false]
  rfl

section

variable {s : State} {k : Fin 16}

theorem execPowerGood_of_softStart (hst : (getI s.power.switches k).st = .softStart) :
    exec (.powerGood k) s = .next (noteGroup (switchTo s k .on)) :=
  congrArg Host.Outcome.next (if_pos (beq_iff_eq.mpr hst))

theorem execSoftStartTimeout_of_due (hst : (getI s.power.switches k).st = .softStart)
    (hdue : (getI s.power.switches k).since + s.objN (0x2110 + k) 0x05 ≤ s.now) :
    exec (.softStartTimeout k) s = .next (tripSwitch s k 3) :=
  congrArg Host.Outcome.next (if_pos (by simpa [hst] using hdue))

theorem execLoadSwitchTrip_of_closed (hst : (getI s.power.switches k).st = .softStart ∨ (getI s.power.switches k).st = .on) (twice : Bool) :
    exec (.loadSwitchTrip k twice) s = .next (tripSwitch s k (if twice then 2 else 1)) :=
  congrArg Host.Outcome.next (if_pos (by simpa using hst))

theorem execRetryDelayExpiry_of_due (hst : (getI s.power.switches k).st = .retry)
    (hdue : (getI s.power.switches k).since + s.objN (0x2110 + k) 0x08 ≤ s.now) :
    exec (.retryDelayExpiry k) s = .next (switchTo s k .softStart) :=
  congrArg Host.Outcome.next (if_pos (by simpa [hst] using hdue))

end

theorem execStartUpGroup_of_due {s : State} {d : Nat} (hgroup : s.power.groupDue = some d) (hdue : d ≤ s.now)
    (hhalted : s.power.groupHalted = false) : exec .startUpGroup s = .next (startGroup s (s.power.group + 1)) := by
  simp only [exec, execStartUpGroup, hgroup, hhalted, hdue, decide_true, Bool.not_false, Bool.and_self, if_true]

/-- A switch in its turn while group `g` starts: one of the group that takes command 1 receives it (R442). -/
def groupTurn (g : Nat) (s : State) (k : Nat) : State :=
  if s.objN (0x2110 + k) 0x0B = g && switchAccepted s.toBlocks k 1 then switchCommand s k 1 else s

/-- Group `g` in progress, with the switches not yet started. -/
def groupBegun (s : State) (g : Nat) : State := s.updPower (fun p => { p with group := g, groupDue := none })

theorem startGroup_eq (s : State) (g : Nat) : startGroup s g = noteGroup (forI 16 (groupBegun s g) (groupTurn g)) := rfl

theorem groupTurn_group (g : Nat) (s : State) (k : Nat) : (groupTurn g s k).power.group = s.power.group := by
  unfold groupTurn
  split <;> rfl

theorem groupTurn_other (g : Nat) (s : State) (k i : Nat) (h : i ≠ k) :
    getI (groupTurn g s k).power.switches i = getI s.power.switches i := by
  unfold groupTurn
  split
  · exact getI_updI_ne _ _ _ h _
  · rfl

theorem groupTurns_sameBut (g : Nat) (s : State) (n : Nat) : sameBut [.power] s (forI n s (groupTurn g)) :=
  forI_hide _ _ _ _ fun s k => by simp [groupTurn]

theorem startGroup_group (s : State) (g : Nat) : (startGroup s g).power.group = g := by
  rw [startGroup_eq, (noteGroup_power _).2]
  exact forI_keeps (f := groupTurn g) 16 (·.power.group) (groupTurn_group g) _

/-- In its turn a switch is as it was, and so is all that its command is judged by. -/
theorem startGroup_switch (s : State) (g : Nat) {k : Nat} (hk : k < 16) :
    getI (startGroup s g).power.switches k =
      if s.objN (0x2110 + k) 0x0B = g && switchAccepted s.toBlocks k 1 then
        { getI s.power.switches k with st := .softStart, since := s.now, retries := s.objN (0x2110 + k) 0x07 }
      else getI s.power.switches k := by
  let x := forI k (groupBegun s g) (groupTurn g)
  have hframe := groupTurns_sameBut g (groupBegun s g) k
  have hdict : x.dict = s.dict := eq_of_sameBut (·.dict) hframe fun _ => rfl
  have hfaults : x.faults = s.faults := eq_of_sameBut (·.faults) hframe fun _ => rfl
  have hnow : x.now = s.now := eq_of_sameBut (fun x => x.now) hframe fun _ => rfl
  have hswitch : getI x.power.switches k = getI s.power.switches k :=
    forI_above (get := fun s k => getI s.power.switches k) (groupTurn_other g) _ (Nat.le_refl k)
  have hobjN (sub : Nat) : x.objN (0x2110 + k) sub = s.objN (0x2110 + k) sub := by simp only [Blocks.objN, Blocks.objI, hdict]
  have haccepted : switchAccepted x.toBlocks k 1 = switchAccepted s.toBlocks k 1 := by
    simp only [switchAccepted, hswitch, hfaults, Blocks.objB, Blocks.objI, hdict]
  have hown := forI_own (get := fun s k => getI s.power.switches k) (groupTurn_other g) (groupBegun s g) hk
  rw [startGroup_eq, (noteGroup_power _).1, hown, ← haccepted, ← hobjN, ← hobjN, ← hnow, ← hswitch]
  change getI (groupTurn g x k).power.switches k = _
  unfold groupTurn
  split
  · exact getI_updI_self _ _ hk _
  · rfl

/-- Settles O43: each switch by the one branch of its command, the groups by the turn that every switch has in its group's start. -/
theorem loadSwitchesComplete : Obligations.LoadSwitchesComplete := by
  unfold Obligations.LoadSwitchesComplete
  refine ⟨fun s k hst => ?good, fun s k hst hdue => ?timeout, fun s k twice hst => ?trip, fun s k hst hdue => ?retry,
    fun s d hgroup hdue hhalted => ?group⟩
  case good => exact ⟨_, execPowerGood_of_softStart hst, by simp [sameBut], noteGroup_power _⟩
  case timeout => exact ⟨_, execSoftStartTimeout_of_due hst hdue, by simp [sameBut], tripSwitch_switches s k 3⟩
  case trip =>
    exact ⟨_, execLoadSwitchTrip_of_closed hst twice, by simp [sameBut], tripSwitch_switches s k _,
      fun hretries => tripSwitch_faults_of_retries hretries _⟩
  case retry => exact ⟨_, execRetryDelayExpiry_of_due hst hdue, by simp [sameBut], rfl⟩
  case group =>
    refine ⟨_, execStartUpGroup_of_due hgroup hdue hhalted, by simp [sameBut], startGroup_group s _, fun k hk => ⟨fun hof => ?_, fun hnot => ?_⟩⟩
    · rw [startGroup_switch s _ hk, if_pos (by simpa using hof)]
      exact ⟨rfl, rfl⟩
    · rw [startGroup_switch s _ hk, if_neg (by simp [hnot])]

/-! A reset (R489) -/

/-- A flash operation that ends changes nothing but the flash, and of that neither the sections, nor the ring, nor the BOOT values. -/
theorem endFlashOp_keeps (s : State) (status : Nat) :
    sameBut [.flash, .freeCtr] s (endFlashOp s status) ∧ (endFlashOp s status).flash.sections = s.flash.sections ∧
    (endFlashOp s status).flash.append = s.flash.append ∧ (endFlashOp s status).flash.ring = s.flash.ring := by
  refine ⟨endFlashOp_hide _ _ _ (by decide) (by decide), ?_⟩
  unfold endFlashOp
  split <;> exact ⟨rfl, rfl, rfl⟩

/-- Only an upload that is broken off spoils a slot. -/
theorem endFlashOp_slots {s : State} (hupload : ∀ slot image, s.flash.op ≠ .upload slot image) (status : Nat) :
    (endFlashOp s status).flash.slots = s.flash.slots ∧ (endFlashOp s status).freeCtr = s.freeCtr := by
  unfold endFlashOp
  split
  · exact ⟨rfl, rfl⟩
  · next h => exact absurd h (hupload _ _)
  · exact ⟨rfl, rfl⟩

theorem inReset_enterReset (s : State) (cause : Nat) : InReset s cause (enterReset s cause) := by
  obtain ⟨hframe, hsections, happend, hring⟩ := endFlashOp_keeps s 0
  have hnodes : (endFlashOp s 0).link.nodes = s.link.nodes := eq_of_sameBut (·.link.nodes) hframe fun _ => rfl
  exact ⟨rfl, rfl, rfl, rfl, rfl, rfl, rfl, rfl, rfl, hsections, happend, endFlashOp_op s 0, hring, hnodes, fun h => endFlashOp_slots h 0⟩

/-- The peak of the die outlives the reset (R430). -/
theorem enterReset_peakKept (s : State) (cause : Nat) : (enterReset s cause).temp.peakKept = s.temp.peak :=
  eq_of_sameBut (·.temp.peak) (endFlashOp_keeps s 0).1 fun _ => rfl

theorem sameBut_everything_of_pending {s t : State} (h : t.pending = s.pending) : sameBut everything s t :=
  hide_everything_eq_iff.mpr h

/-- The reset with a cause, by a command that answers it. -/
theorem does_enterReset {c : Instr} {s : State} {cause : Nat} (hexec : exec c s = .next (enterReset s cause)) :
    Does c s everything (InReset s cause) :=
  ⟨_, hexec, enterReset_hide_everything s cause, inReset_enterReset s cause⟩

theorem execRailFaultPersists_of_due {s : State} {k : Fin 6} {d : Nat} (hout : getI s.power.outside k = true)
    (hfault : getI s.power.faultTick k = some d) (hdue : d + 100 ≤ s.now) : exec .railFaultPersists s = .next (enterReset s 0) := by
  refine congrArg Host.Outcome.next (if_pos ?_)
  rw [anyI, List.any_eq_true]
  refine ⟨k, List.mem_range.mpr k.isLt, ?_⟩
  rw [hout, hfault]
  simpa using hdue

theorem execHoldUpExpiry_of_due {s : State} {d : Nat} (hpf : s.power.pfDetected = some d) (hdue : d + s.objN 0x2100 0x0A ≤ s.now) :
    exec .holdUpExpiry s = .next (enterReset s 2) := by
  simp only [exec, execHoldUpExpiry, hpf, if_pos hdue]

/-- Without the auxiliary supply the device has no outputs and no record of its power sequence (R434). -/
theorem loseVaux_holds (s : State) :
    InReset s 0 (loseVaux s) ∧ (loseVaux s).power.st = .reset ∧ (loseVaux s).pins.outputs = .unpowered ∧ (loseVaux s).power.record = 0 :=
  ⟨inReset_enterReset s 0, rfl, rfl, rfl⟩

/-! A rail outside its window in a running device (R431, R434, R436) -/

/-- The state in which the hold-up has begun and nothing is stopped yet. -/
def holdUpSeen (s : State) : State :=
  { s with
    power := { s.power with pfDetected := some s.now }
    start := { s.start with phaseOver := s.start.phaseOver || s.start.phase != 0 } }

/-- What the hold-up stops: the job gates, the steppers, the calibrations and the flash operation. -/
def holdUpStopped (s : State) : State := endFlashOp (abortAllCalibrations (stopAllSteppers (setJobGates (holdUpSeen s) true))) 5

theorem beginHoldUp_of_running {s : State} (hrun : s.time.running = true) (hpf : s.power.pfDetected = none) :
    beginHoldUp s = queueOpenRecords ((holdUpStopped s).post pfEvent) := by
  have hcond : ¬(s.power.pfDetected.isSome || !s.time.running) = true := by simp [hrun, hpf]
  exact if_neg hcond

/-- VIN outside its window. -/
def vinOutside (s : State) : State := s.updPower (fun p => { p with outside := updI p.outside 0 (fun _ => true) })

theorem vinFault_of_running {s : State} (hrun : s.time.running = true) (hpf : s.power.pfDetected = none) :
    vinFault s = localFault (queueOpenRecords ((holdUpStopped (vinOutside s)).post pfEvent)) :=
  congrArg localFault (beginHoldUp_of_running (s := vinOutside s) hrun hpf)

section

variable (s : State)

theorem setJobGates_sameBut_holdUpStopped :
    sameBut [.steps, .analog, .faults, .flash, .freeCtr] (setJobGates (holdUpSeen s) true) (holdUpStopped s) := by
  simp [sameBut, holdUpStopped]

theorem stopAllSteppers_sameBut_holdUpStopped :
    sameBut [.analog, .faults, .flash, .freeCtr] (stopAllSteppers (setJobGates (holdUpSeen s) true)) (holdUpStopped s) := by
  simp [sameBut, holdUpStopped]

/-- Neither the event of the hold-up nor what is queued for the ring changes more than the faults, Q62 and the pair's work. -/
theorem holdUpStopped_sameBut :
    sameBut [.faults, .queues, .work] (holdUpStopped s) (localFault (queueOpenRecords ((holdUpStopped s).post pfEvent))) := by
  simp [sameBut]

theorem holdUpStopped_power : (holdUpStopped s).power = { s.power with pfDetected := some s.now } :=
  eq_of_sameBut (·.power) (setJobGates_sameBut_holdUpStopped s) fun _ => rfl

end

/-- The event of a rail outside its window (Table 17.6). -/
def railEvent (k : Nat) : Event := powerEvent 0x1109 .safe .rail k []

/-- A rail outside its window, with the calibrations aborted. -/
def railOutside (s : State) (k : Nat) : State :=
  abortAllCalibrations (s.updPower (fun p => { p with
    outside := updI p.outside k (fun _ => true), faultTick := updI p.faultTick k (fun t => some (t.getD s.now)) }))

theorem railOutside_sameBut (s : State) (k : Nat) : sameBut [.analog, .faults, .power] s (railOutside s k) := by
  simp [sameBut, railOutside]

theorem railOutside_outside (s : State) (k : Fin 6) : getI (railOutside s k).power.outside k = true := by
  have hframe : sameBut [.analog, .faults] (s.updPower _) (railOutside s k) := abortAllCalibrations_hide _ _ (by decide) (by decide)
  rw [show (railOutside s k).power = _ from eq_of_sameBut (·.power) hframe fun _ => rfl]
  exact getI_updI_self _ _ k.isLt _

theorem railFault_eq (s : State) (k : Nat) : railFault s k = if inLockstep (railOutside s k).toBlocks then localFault (railOutside s k)
    else (stopAllSteppers (setJobGates (railOutside s k) true)).post (railEvent k) := by
  unfold railFault railOutside
  rfl

theorem execRailOutsideWindow_of_single {s : State} {k : Fin 6} (hk : 2 ≤ k.val) (hreset : s.start.inReset = false)
    (htest : s.start.testMode = false) (hpair : inLockstep s.toBlocks = false) :
    exec (.railOutsideWindow k) s = .next ((stopAllSteppers (setJobGates (railOutside s k) true)).post (railEvent k)) := by
  have hlockstep : inLockstep (railOutside s k).toBlocks = false :=
    (eq_of_sameBut (fun x => inLockstep x.toBlocks) (railOutside_sameBut s k) fun _ => rfl).trans hpair
  simp only [exec, execRailOutsideWindow, hreset, htest, Bool.false_eq_true, if_false]
  rw [if_neg (by omega), if_neg (by omega)]
  rw [railFault_eq, if_neg (Bool.eq_false_iff.mp hlockstep)]

/-! The release of a reset (R430, R490) -/

theorem execDieShutdownRelease_of_hot {s : State} (hreset : s.start.inReset = true) (hcause : s.start.cause = 4) :
    exec .dieShutdownRelease s =
      .next ((leaveReset s).post (mkEvent (.block 4) 0x1107 .warn .device 0 (leBytesI 2 s.temp.peakKept))) :=
  congrArg Host.Outcome.next (if_pos (by simp [hreset, hcause]))

section

variable {s : State} (hdown : s.power.st = .down) (hreset : s.start.inReset = true)

include hdown hreset

theorem execPowerDownEnd_of_watchdog (hcause : s.start.cause = 5) :
    exec .powerDownEnd s = .next ((leaveReset s).post (mkEvent (.core 0) 0x1406 .warn .device 0 [])) := by
  simp [exec, execPowerDownEnd, hdown, hreset, hcause]

theorem execPowerDownEnd_of_restart (hcause : s.start.cause = 0 ∨ s.start.cause = 1 ∨ s.start.cause = 3) :
    exec .powerDownEnd s = .next (leaveReset s) := by
  rcases hcause with hcause | hcause | hcause <;> simp [exec, execPowerDownEnd, hdown, hreset, hcause]

theorem execPowerDownEnd_of_waiting (hcause : s.start.cause = 2 ∨ s.start.cause = 4) :
    exec .powerDownEnd s = .next (s.updPower (fun p => { p with st := .reset })) := by
  rcases hcause with hcause | hcause <;> simp [exec, execPowerDownEnd, hdown, hreset, hcause]

end

/-- Settles O47: every reset is the one operation with its cause, a rail outside its window stops the unit, and each release has its branch. -/
theorem resetsRestartTheDevice : Obligations.ResetsRestartTheDevice := by
  unfold Obligations.ResetsRestartTheDevice
  refine ⟨fun s => does_enterReset rfl, fun s core => does_enterReset rfl, fun s => ?die, fun s => ?rise, fun s => ?fall,
    fun s k d hout hfault hdue => does_enterReset (execRailFaultPersists_of_due hout hfault hdue),
    fun s d hpf hdue => does_enterReset (execHoldUpExpiry_of_due hpf hdue), fun s => ?vaux, fun s => ?vauxRail, fun s hrun hpf => ?vin,
    fun s k hk hreset htest hpair => ?rail, fun s strap => ?powerOn, fun s hreset hcause => ?released, fun s hdown hreset hcause => ?restart,
    fun s hdown hreset hcause => ?waiting⟩
  case die => exact ⟨_, rfl, enterReset_hide_everything s 4, inReset_enterReset s 4, enterReset_peakKept s 4⟩
  case rise => exact ⟨_, rfl, sameBut_everything_of_pending (enterReset_pending s 1), inReset_enterReset s 1, rfl, rfl⟩
  case fall => exact ⟨_, rfl, sameBut_everything_of_pending (enterReset_pending s 1), inReset_enterReset s 1, rfl, rfl⟩
  case vaux => exact ⟨_, rfl, loseVaux_hide_everything s, loseVaux_holds s⟩
  case vauxRail => exact ⟨_, rfl, loseVaux_hide_everything s, inReset_enterReset s 0, rfl⟩
  case vin =>
    have hafter := holdUpStopped_sameBut (vinOutside s)
    have hgates := setJobGates_sameBut_holdUpStopped (vinOutside s)
    have hsteps := stopAllSteppers_sameBut_holdUpStopped (vinOutside s)
    have hpower := (eq_of_sameBut (·.power) hafter fun _ => rfl).trans (holdUpStopped_power (vinOutside s))
    refine ⟨_, congrArg Host.Outcome.next (vinFault_of_running hrun hpf), ?_, ?_, ?_, ?_, fun n hn => ?_, fun m hm => ?_, ?_⟩
    · rw [← vinFault_of_running hrun hpf]
      simp [sameBut]
    · rw [hpower]
      exact getI_updI_self _ _ (by decide) _
    · rw [hpower]
      rfl
    · rw [hpower]
      rfl
    · rw [eq_of_sameBut (·.scan) hafter fun _ => rfl, eq_of_sameBut (·.scan) hgates fun _ => rfl]
      exact setJobGates_job _ hn
    · rw [eq_of_sameBut (·.steps) hafter fun _ => rfl, eq_of_sameBut (·.steps) hsteps fun _ => rfl]
      exact stopAllSteppers_st _ hm
    · rw [localFault_faults, queueOpenRecords_posted]
      exact mem_post_posted (eq_of_sameBut (·.tickCount) hgates fun _ => rfl) pfEvent
  case rail =>
    have hstopped : sameBut [.scan, .steps] (railOutside s k) (stopAllSteppers (setJobGates (railOutside s k) true)) := by simp [sameBut]
    have hticks : (stopAllSteppers (setJobGates (railOutside s k) true)).tickCount = s.tickCount :=
      (eq_of_sameBut (·.tickCount) hstopped fun _ => rfl).trans (eq_of_sameBut (·.tickCount) (railOutside_sameBut s k) fun _ => rfl)
    have hscan : (stopAllSteppers (setJobGates (railOutside s k) true)).scan = (setJobGates (railOutside s k) true).scan :=
      eq_of_sameBut (·.scan) (stopAllSteppers_hide _ [.steps] (by decide)) fun _ => rfl
    refine ⟨_, execRailOutsideWindow_of_single hk hreset htest hpair, by simp [sameBut, railOutside], ?_, fun n hn => ?_,
      fun m hm => stopAllSteppers_st (setJobGates (railOutside s k) true) hm, mem_post_posted hticks (railEvent k)⟩
    · simp only [post_keeps]
      rw [eq_of_sameBut (·.power) hstopped fun _ => rfl]
      exact railOutside_outside s k
    · simp only [post_keeps]
      rw [hscan]
      exact setJobGates_job _ hn
  case powerOn =>
    obtain ⟨-, hsections, -, hring⟩ := endFlashOp_keeps s 0
    exact ⟨_, rfl, sameBut_everything_of_pending (endFlashOp_pending s 0), rfl, rfl, rfl, rfl, rfl, rfl, rfl, hsections, hring⟩
  case released => exact ⟨_, execDieShutdownRelease_of_hot hreset hcause, by simp [sameBut], rfl, rfl, rfl⟩
  case restart =>
    rcases Decidable.em (s.start.cause = 5) with h5 | h5
    · exact ⟨_, execPowerDownEnd_of_watchdog hdown hreset h5, by simp [sameBut], rfl, rfl, by rw [if_pos h5]; rfl⟩
    · have hcauses : s.start.cause = 0 ∨ s.start.cause = 1 ∨ s.start.cause = 3 := by simpa [h5] using hcause
      refine ⟨_, execPowerDownEnd_of_restart hdown hreset hcauses, by simp [sameBut], rfl, rfl, ?_⟩
      rw [if_neg h5]
      simp [posts, leaveReset]
  case waiting => exact ⟨_, execPowerDownEnd_of_waiting hdown hreset hcause, by simp [sameBut], rfl⟩

end Sys2Proof.Proofs.ThermalAndPower

/-! Proofs about the calibration of the trims (18_analog_io_and_trims R452, R454, R456). -/

namespace Sys2Proof.Proofs.Calibration

open Sys2Proof Sys2Proof.Machine

/-! Values that the device stages (R452) -/

/-- A staged value waits in the pending store. -/
theorem staged_mem (s : State) (index sub : Nat) (v : Val) :
    ∃ w ∈ (stageValue s index sub v).dict.pending, w.index = index ∧ w.sub = sub ∧ w.val = v :=
  ⟨newPending s.toBlocks index sub v true, List.mem_append_right _ (List.mem_singleton_self _), rfl, rfl, rfl⟩

/-- A value staged for another object takes no pending value's place. -/
theorem mem_stageValue_of_other {s : State} {w : PendingWrite} (hw : w ∈ s.dict.pending) (index : Nat) {sub : Nat} (hsub : w.sub ≠ sub) (v : Val) :
    w ∈ (stageValue s index sub v).dict.pending := by
  refine List.mem_append_left _ (List.mem_filter.mpr ⟨hw, ?_⟩)
  simp [newPending, hsub]

/-! Both measurements of a calibration (R454, R456) -/

/-- A code at an end of its range has been limited. -/
def atLimit (c : Int × Int) : Bool := c.1 == -512 || c.1 == 511 || c.2 == -512 || c.2 == 511

theorem atLimit_iff (c : Int × Int) : atLimit c = true ↔ c.1 = -512 ∨ c.1 = 511 ∨ c.2 = -512 ∨ c.2 = 511 := by
  simp [atLimit, or_assoc]

/-- The trim with the codes of the first measurement committed. -/
def committedTrim (now : Nat) (c : Int × Int) (t : Trim) : Trim := { t with phase := 2, since := now + 21, limited := atLimit c }

/-- Both codes staged for the trim. -/
def codesStaged (s : State) (index : Nat) (c : Int × Int) : State := stageValue (stageValue s index 0x00 (.int c.1)) index 0x01 (.int c.2)

theorem execCalibrationCommit_of_first {s : State} {j : Fin 81} (hphase : (getI s.analog.trims j).phase = 1) (sum0 sumF : Int) :
    let c := calCodes (trimKind j) (s.objI (0x4300 + j) 0x00) (s.objI (0x4300 + j) 0x01) sum0 sumF
    exec (.calibrationCommit j sum0 sumF) s = .next ((codesStaged s (0x4300 + j) c).updTrim j (committedTrim s.now c)) := by
  have hguard : ¬((getI s.analog.trims j).phase != 1) = true := by simp [hphase]
  exact if_neg hguard

theorem codesStaged_mem (s : State) (index : Nat) (c : Int × Int) :
    (∃ w ∈ (codesStaged s index c).dict.pending, w.index = index ∧ w.sub = 0x00 ∧ w.val = .int c.1) ∧
    (∃ w ∈ (codesStaged s index c).dict.pending, w.index = index ∧ w.sub = 0x01 ∧ w.val = .int c.2) := by
  obtain ⟨w, hmem, hindex, hsub, hval⟩ := staged_mem s index 0x00 (.int c.1)
  exact ⟨⟨w, mem_stageValue_of_other hmem index (by rw [hsub]; decide) _, hindex, hsub, hval⟩, staged_mem _ index 0x01 (.int c.2)⟩

/-- What the committed codes leave, for any codes. -/
theorem codesCommitted_holds (s : State) (j : Fin 81) (c : Int × Int) :
    let t := (codesStaged s (0x4300 + j) c).updTrim j (committedTrim s.now c)
    (∃ w ∈ t.dict.pending, w.index = 0x4300 + j.val ∧ w.sub = 0x00 ∧ w.val = .int c.1) ∧
    (∃ w ∈ t.dict.pending, w.index = 0x4300 + j.val ∧ w.sub = 0x01 ∧ w.val = .int c.2) ∧ (getI t.analog.trims j).phase = 2 ∧
    ((getI t.analog.trims j).limited = true ↔ c.1 = -512 ∨ c.1 = 511 ∨ c.2 = -512 ∨ c.2 = 511) := by
  have htrim : getI ((codesStaged s (0x4300 + j) c).updTrim j (committedTrim s.now c)).analog.trims j =
      committedTrim s.now c (getI s.analog.trims j) := getI_updI_self _ _ j.isLt _
  obtain ⟨hoffset, hgain⟩ := codesStaged_mem s (0x4300 + j) c
  dsimp only
  rw [htrim]
  exact ⟨hoffset, hgain, rfl, atLimit_iff c⟩

/-- The status and the event of a completed calibration, by its codes and its residuals (R456). -/
def calVerdict (s : State) (j : Nat) (r : Int × Int) : Nat × Event :=
  let beyond := decide (s.objN 0x4351 (trimKind j) < r.1.natAbs) || decide (s.objN 0x4351 (trimKind j) < r.2.natAbs)
  if (getI s.analog.trims j).limited then (3, trimEvent j 0x1202 .warn)
  else if beyond then (4, trimEvent j 0x1203 .warn) else (2, trimEvent j 0x1201 .note)

/-- The trim with the residuals of the second measurement. -/
def completedTrim (s : State) (status : Nat) (r : Int × Int) (t : Trim) : Trim :=
  { t with status, r0 := r.1, rF := r.2, tick := s.tickCount, count := inc32 t.count, phase := 0 }

theorem execCalibrationComplete_of_second {s : State} {j : Fin 81} (hphase : (getI s.analog.trims j).phase = 2) (sum0 sumF : Int) :
    let r := calResiduals (trimKind j) sum0 sumF
    exec (.calibrationComplete j sum0 sumF) s =
      .next ((s.updTrim j (completedTrim s (calVerdict s j r).1 r)).post (calVerdict s j r).2) := by
  have hguard : ¬((getI s.analog.trims j).phase != 2) = true := by simp [hphase]
  simp only [exec, execCalibrationComplete, if_neg hguard, calVerdict]
  (repeat' split) <;> rfl

section

variable {s : State} {j : Nat} {r : Int × Int}

theorem calVerdict_of_limited (h : (getI s.analog.trims j).limited = true) : calVerdict s j r = (3, trimEvent j 0x1202 .warn) := by
  simp only [calVerdict, h, if_true]

theorem calVerdict_of_within (h : (getI s.analog.trims j).limited = false) (h0 : r.1.natAbs ≤ s.objN 0x4351 (trimKind j))
    (hF : r.2.natAbs ≤ s.objN 0x4351 (trimKind j)) : calVerdict s j r = (2, trimEvent j 0x1201 .note) := by
  simp only [calVerdict, h, Nat.not_lt.mpr h0, Nat.not_lt.mpr hF, decide_false, Bool.or_self, Bool.false_eq_true, if_false]

theorem calVerdict_of_beyond (h : (getI s.analog.trims j).limited = false) (h0 : s.objN 0x4351 (trimKind j) < r.1.natAbs) :
    calVerdict s j r = (4, trimEvent j 0x1203 .warn) := by
  simp only [calVerdict, h, h0, decide_true, Bool.true_or, Bool.false_eq_true, if_false, if_true]

end

/-- What a completed calibration shows, for any residuals. -/
theorem calibrated_holds (s : State) (j : Fin 81) (r : Int × Int) :
    let t := (s.updTrim j (completedTrim s (calVerdict s j r).1 r)).post (calVerdict s j r).2
    let x := getI t.analog.trims j
    x.phase = 0 ∧ x.r0 = r.1 ∧ x.rF = r.2 ∧ x.tick = s.tickCount ∧ x.count = inc32 (getI s.analog.trims j).count ∧
    ((getI s.analog.trims j).limited = true → x.status = 3 ∧ t.faults = posts s [trimEvent j 0x1202 .warn]) ∧
    ((getI s.analog.trims j).limited = false → r.1.natAbs ≤ s.objN 0x4351 (trimKind j) → r.2.natAbs ≤ s.objN 0x4351 (trimKind j) →
      x.status = 2 ∧ t.faults = posts s [trimEvent j 0x1201 .note]) ∧
    ((getI s.analog.trims j).limited = false → s.objN 0x4351 (trimKind j) < r.1.natAbs →
      x.status = 4 ∧ t.faults = posts s [trimEvent j 0x1203 .warn]) := by
  have htrim : getI ((s.updTrim j (completedTrim s (calVerdict s j r).1 r)).post (calVerdict s j r).2).analog.trims j =
      completedTrim s (calVerdict s j r).1 r (getI s.analog.trims j) := getI_updI_self _ _ j.isLt _
  dsimp only
  rw [htrim]
  refine ⟨rfl, rfl, rfl, rfl, rfl, fun h => ?_, fun h h0 hF => ?_, fun h h0 => ?_⟩
  · rw [calVerdict_of_limited h]
    exact ⟨rfl, rfl⟩
  · rw [calVerdict_of_within h h0 hF]
    exact ⟨rfl, rfl⟩
  · rw [calVerdict_of_beyond h h0]
    exact ⟨rfl, rfl⟩

/-- Settles O44: the first measurement stages its two codes, the second one gives its verdict. -/
theorem calibrationsComplete : Obligations.CalibrationsComplete := by
  unfold Obligations.CalibrationsComplete
  refine ⟨fun s j sum0 sumF hphase => ?commit, fun s j sum0 sumF hphase => ?complete⟩
  case commit =>
    exact ⟨_, execCalibrationCommit_of_first hphase sum0 sumF, by simp [sameBut, codesStaged], codesCommitted_holds s j _⟩
  case complete =>
    refine ⟨_, execCalibrationComplete_of_second hphase sum0 sumF, by simp [sameBut], ?_⟩
    exact calibrated_holds s j (calResiduals (trimKind j) sum0 sumF)

end Sys2Proof.Proofs.Calibration

/-! Proofs about the memory code (19_memory_and_settings R465, R467): the products of GF(2^8) as repeated doubling, the syndromes of a code word
as values of its polynomial, and the one place that explains them. -/

namespace Sys2Proof.Proofs.MemoryCode

open Sys2Proof Sys2Proof.Machine

/-! Doubling: the product with α -/

/-- The product of a field element with α, as a map that is linear on all numbers. -/
def double (a : Nat) : Nat := 2 * a ^^^ (if a.testBit 7 then 0x11D else 0)

theorem twice_eq_double : ∀ a < 256, (if 128 ≤ a then ((2 * a) ^^^ 0x11D) % 256 else 2 * a) = double a := by decide +kernel

theorem double_lt : ∀ a < 256, double a < 256 := by decide +kernel

theorem double_eq_zero : ∀ a < 256, double a = 0 → a = 0 := by decide +kernel

theorem two_mul_xor (a b : Nat) : 2 * (a ^^^ b) = 2 * a ^^^ 2 * b := by
  refine Nat.eq_of_testBit_eq fun i => ?_
  cases i with
  | zero => simp [Nat.testBit_zero]
  | succ i => simp [Nat.testBit_succ, Nat.testBit_xor, Nat.xor_div_two]

theorem double_xor (a b : Nat) : double (a ^^^ b) = double a ^^^ double b := by
  unfold double
  rw [two_mul_xor, Nat.testBit_xor]
  cases a.testBit 7 <;> cases b.testBit 7 <;> simp [Nat.xor_assoc, Nat.xor_left_comm, Nat.xor_comm]

theorem double_zero : double 0 = 0 := rfl

theorem iterate_double_lt {a : Nat} (ha : a < 256) (n : Nat) : double^[n] a < 256 := by
  induction n with
  | zero => exact ha
  | succ n ih => rw [Function.iterate_succ_apply']; exact double_lt _ ih

theorem iterate_double_xor (n a b : Nat) : double^[n] (a ^^^ b) = double^[n] a ^^^ double^[n] b := by
  induction n with
  | zero => rfl
  | succ n ih => simp only [Function.iterate_succ_apply', ih, double_xor]

theorem iterate_double_zero (n : Nat) : double^[n] 0 = 0 := Function.iterate_fixed double_zero n

theorem double_injective {a b : Nat} (ha : a < 256) (hb : b < 256) (h : double a = double b) : a = b := by
  have hzero : double (a ^^^ b) = 0 := by rw [double_xor, h, Nat.xor_self]
  exact Nat.xor_eq_zero_iff.mp (double_eq_zero _ (Nat.xor_lt_two_pow (n := 8) ha hb) hzero)

theorem iterate_double_injective {a b : Nat} (ha : a < 256) (hb : b < 256) (n : Nat) (h : double^[n] a = double^[n] b) : a = b := by
  induction n with
  | zero => exact h
  | succ n ih =>
    rw [Function.iterate_succ_apply', Function.iterate_succ_apply'] at h
    exact ih (double_injective (iterate_double_lt ha n) (iterate_double_lt hb n) h)

/-- The powers of α up to 35 differ: none but the first carries a byte other than zero to itself. -/
theorem not_mem_iterate_double : ∀ e < 256, 0 < e → e ∉ List.iterate double (double e) 35 := by decide +kernel

theorem iterate_double_ne {e m : Nat} (he : e < 256) (hpos : 0 < e) (hm : 0 < m) (hle : m ≤ 35) : double^[m] e ≠ e := by
  intro h
  obtain ⟨k, rfl⟩ : ∃ k, m = k + 1 := ⟨m - 1, by omega⟩
  refine not_mem_iterate_double e he hpos (List.mem_iterate.mpr ⟨k, by omega, ?_⟩)
  rw [← Function.iterate_succ_apply, h]

/-- Bytes at different distances from the end have different second syndromes. -/
theorem iterate_double_ne_iterate {e m n : Nat} (he : e < 256) (hpos : 0 < e) (hm : m ≤ 35) (hn : n ≤ 35) (hne : m ≠ n) :
    double^[m] e ≠ double^[n] e := by
  have hlt : ∀ {a b : Nat}, a < b → b ≤ 35 → double^[b] e ≠ double^[a] e := by
    intro a b hab hb h
    obtain ⟨k, rfl⟩ : ∃ k, b = a + k := ⟨b - a, by omega⟩
    rw [Function.iterate_add_apply] at h
    exact iterate_double_ne he hpos (by omega : 0 < k) (by omega) (iterate_double_injective (iterate_double_lt he k) he a h)
  rcases Nat.lt_or_gt_of_ne hne with h | h
  · exact (hlt h hn).symm
  · exact hlt h hm

/-! Products as repeated doubling -/

theorem gfMulAux_succ {a : Nat} (ha : a < 256) (k b : Nat) :
    gfMulAux (k + 1) a b = (if b % 2 == 1 then a else 0) ^^^ gfMulAux k (double a) (b / 2) := by
  rw [← twice_eq_double a ha]
  rfl

theorem gfMulAux_lt (k : Nat) : ∀ {a : Nat} (b : Nat), a < 256 → gfMulAux k a b < 256 := by
  induction k with
  | zero => intro a b _; exact Nat.zero_lt_succ _
  | succ k ih =>
    intro a b ha
    rw [gfMulAux_succ ha]
    refine Nat.xor_lt_two_pow (n := 8) ?_ (ih _ (double_lt a ha))
    split
    · exact ha
    · decide

theorem gfMul_lt {a : Nat} (ha : a < 256) (b : Nat) : gfMul a b < 256 := gfMulAux_lt 8 b ha

theorem gfMulAux_double_left (k : Nat) : ∀ {a : Nat} (b : Nat), a < 256 → gfMulAux k (double a) b = double (gfMulAux k a b) := by
  induction k with
  | zero => intro a b _; simp [gfMulAux, double_zero]
  | succ k ih =>
    intro a b ha
    rw [gfMulAux_succ ha, gfMulAux_succ (double_lt a ha), double_xor, ih _ (double_lt a ha)]
    split <;> rfl

theorem gfMulAux_xor_right (k : Nat) : ∀ {a : Nat} (b c : Nat), a < 256 → gfMulAux k a (b ^^^ c) = gfMulAux k a b ^^^ gfMulAux k a c := by
  induction k with
  | zero => intro a b c _; simp [gfMulAux]
  | succ k ih =>
    intro a b c ha
    rw [gfMulAux_succ ha, gfMulAux_succ ha, gfMulAux_succ ha, Nat.xor_div_two, ih _ _ (double_lt a ha)]
    have hbit : (b ^^^ c) % 2 = (b + c) % 2 := Nat.xor_mod_two_eq
    rcases Nat.mod_two_eq_zero_or_one b with hb | hb <;> rcases Nat.mod_two_eq_zero_or_one c with hc | hc <;>
      simp [hbit, Nat.add_mod, hb, hc, Nat.xor_assoc, Nat.xor_left_comm]

/-- A factor below 2^k has no bit k. -/
theorem gfMulAux_succ_of_lt (k : Nat) : ∀ {a b : Nat}, a < 256 → b < 2 ^ k → gfMulAux (k + 1) a b = gfMulAux k a b := by
  induction k with
  | zero =>
    intro a b ha hb
    obtain rfl : b = 0 := by omega
    simp [gfMulAux]
  | succ k ih =>
    intro a b ha hb
    rw [gfMulAux_succ ha, ih (double_lt a ha) (by omega), ← gfMulAux_succ ha]

theorem gfMul_two_mul {a b : Nat} (ha : a < 256) (hb : b < 128) : gfMul a (2 * b) = double (gfMul a b) := by
  have hlow : gfMulAux 8 a b = gfMulAux 7 a b := gfMulAux_succ_of_lt 7 ha hb
  show gfMulAux 8 a (2 * b) = double (gfMulAux 8 a b)
  rw [gfMulAux_succ ha, hlow, ← gfMulAux_double_left 7 b ha]
  simp

theorem gfMul_carry : ∀ a < 256, gfMul a 0x1D = double (gfMul a 128) := by decide +kernel

theorem double_high : ∀ b < 128, double (b ^^^ 128) = 2 * b ^^^ 0x1D ∧ double b = 2 * b := by decide +kernel

theorem xor_high : ∀ b < 256, ∃ c < 128, b = c ∨ b = c ^^^ 128 := by decide +kernel

theorem gfMul_double {a b : Nat} (ha : a < 256) (hb : b < 256) : gfMul a (double b) = double (gfMul a b) := by
  obtain ⟨c, hc, rfl | rfl⟩ := xor_high b hb
  · rw [(double_high b hc).2, gfMul_two_mul ha hc]
  · rw [(double_high c hc).1]
    show gfMulAux 8 a _ = double (gfMulAux 8 a _)
    rw [gfMulAux_xor_right 8 _ _ ha, gfMulAux_xor_right 8 _ _ ha, double_xor]
    exact congrArg₂ (· ^^^ ·) (gfMul_two_mul ha hc) (gfMul_carry a ha)

theorem gfMul_one : ∀ a < 256, gfMul a 1 = a := by decide +kernel

theorem gfMul_two_left : ∀ b < 256, gfMul 2 b = double b := by decide +kernel

theorem gfPow_lt (n : Nat) : gfPow n < 256 := by
  induction n with
  | zero => decide
  | succ n _ => exact gfMul_lt (by decide) _

/-- The product with a power of α is as many doublings. -/
theorem gfMul_gfPow {a : Nat} (ha : a < 256) (n : Nat) : gfMul a (gfPow n) = double^[n] a := by
  induction n with
  | zero => exact gfMul_one a ha
  | succ n ih => rw [gfPow, gfMul_two_left _ (gfPow_lt n), gfMul_double ha (gfPow_lt n), ih, Function.iterate_succ_apply']

/-! Syndromes as values of a polynomial -/

/-- The value at α^j of the polynomial with the given bytes below the value `a`, by Horner's rule. -/
def horner (j a : Nat) (word : List Nat) : Nat := word.foldl (fun a x => double^[j] a ^^^ x) a

theorem horner_append (j a : Nat) (u v : List Nat) : horner j a (u ++ v) = horner j (horner j a u) v := List.foldl_append ..

theorem horner_cons (j a x : Nat) (v : List Nat) : horner j a (x :: v) = horner j (double^[j] a ^^^ x) v := rfl

theorem horner_lt (j : Nat) : ∀ (word : List Nat) {a : Nat}, a < 256 → (∀ x ∈ word, x < 256) → horner j a word < 256
  | [], _, ha, _ => ha
  | x :: v, _, ha, hbytes => horner_lt j v (Nat.xor_lt_two_pow (n := 8) (iterate_double_lt ha j) (hbytes x (by simp)))
      fun y hy => hbytes y (List.mem_cons_of_mem _ hy)

/-- What stands above the bytes is carried up by one power for each of them. -/
theorem horner_xor (j : Nat) : ∀ (word : List Nat) (a b : Nat), horner j (a ^^^ b) word = horner j a word ^^^ double^[j * word.length] b
  | [], _, _ => rfl
  | x :: v, a, b => by
    rw [horner_cons, horner_cons, iterate_double_xor, Nat.xor_right_comm, horner_xor j v, ← Function.iterate_add_apply,
      List.length_cons, Nat.mul_succ]

theorem horner_eq_xor (j a : Nat) (word : List Nat) : horner j a word = horner j 0 word ^^^ double^[j * word.length] a := by
  rw [← horner_xor, Nat.zero_xor]

theorem syndrome_eq_horner {word : List Nat} (hbytes : ∀ x ∈ word, x < 256) (j : Nat) : syndrome word j = horner j 0 word := by
  have hfold : ∀ (v : List Nat) (a : Nat), a < 256 → (∀ x ∈ v, x < 256) →
      v.foldl (fun a x => gfMul a (gfPow j) ^^^ x) a = horner j a v := by
    intro v
    induction v with
    | nil => intro a _ _; rfl
    | cons x v ih =>
      intro a ha hv
      rw [List.foldl_cons, horner_cons, gfMul_gfPow ha]
      exact ih _ (Nat.xor_lt_two_pow (n := 8) (iterate_double_lt ha j) (hv x (by simp))) fun y hy => hv y (List.mem_cons_of_mem _ hy)
  exact hfold word 0 (by decide) hbytes

/-! The check bytes -/

/-- One byte taken into the remainder. -/
def divide (r : List Nat) (x : Nat) : List Nat :=
  [nth r 1 ^^^ gfMul (nth r 0) 0x0F, nth r 2 ^^^ gfMul (nth r 0) 0x36, nth r 3 ^^^ gfMul (nth r 0) 0x78, x ^^^ gfMul (nth r 0) 0x40]

theorem checkBytes_eq (data : List Nat) : checkBytes data = (data ++ [0, 0, 0, 0]).foldl divide [0, 0, 0, 0] := rfl

/-- A remainder: four bytes. -/
def IsRemainder (r : List Nat) : Prop := r.length = 4 ∧ ∀ x ∈ r, x < 256

/-- α^0 to α^3 are the roots of the code's polynomial. -/
theorem horner_generator : ∀ j < 4, ∀ q < 256,
    double^[j * 4] q = horner j 0 [gfMul q 0x0F, gfMul q 0x36, gfMul q 0x78, gfMul q 0x40] := by decide +kernel

theorem isRemainder_divide {r : List Nat} (hr : IsRemainder r) {x : Nat} (hx : x < 256) : IsRemainder (divide r x) := by
  obtain ⟨hlength, hbytes⟩ := hr
  match r, hlength with
  | [a, b, c, d], _ =>
    simp only [List.mem_cons, List.not_mem_nil, or_false, forall_eq_or_imp, forall_eq] at hbytes
    obtain ⟨ha, hb, hc, hd⟩ := hbytes
    have hsum : ∀ {y : Nat} (g : Nat), y < 256 → y ^^^ gfMul a g < 256 := fun g hy => Nat.xor_lt_two_pow (n := 8) hy (gfMul_lt ha g)
    refine ⟨rfl, ?_⟩
    simp only [divide, nth, List.mem_cons, List.not_mem_nil, or_false, forall_eq_or_imp, forall_eq]
    exact ⟨hsum _ hb, hsum _ hc, hsum _ hd, hsum _ hx⟩

/-- The remainder has the value of the polynomial taken in so far. -/
theorem horner_divide {j : Nat} (hj : j < 4) {r : List Nat} (hr : IsRemainder r) (x : Nat) :
    horner j 0 (divide r x) = double^[j] (horner j 0 r) ^^^ x := by
  obtain ⟨hlength, hbytes⟩ := hr
  match r, hlength with
  | [a, b, c, d], _ =>
    have hroot := horner_generator j hj a (hbytes a (by simp))
    have hpow : double^[j * 4] a = double^[j] (double^[j] (double^[j] (double^[j] a))) := by
      simp only [← Function.iterate_add_apply]
      congr 1
      omega
    rw [hpow] at hroot
    simp only [divide, nth, horner, List.foldl_cons, List.foldl_nil, iterate_double_xor, iterate_double_zero, Nat.zero_xor, List.getD_cons_zero,
      List.getD_cons_succ] at hroot ⊢
    rw [hroot]
    simp only [Nat.xor_assoc, Nat.xor_left_comm, Nat.xor_comm]

theorem foldl_divide {j : Nat} (hj : j < 4) : ∀ (v : List Nat) {r : List Nat}, IsRemainder r → (∀ x ∈ v, x < 256) →
    IsRemainder (v.foldl divide r) ∧ horner j 0 (v.foldl divide r) = horner j (horner j 0 r) v
  | [], _, hr, _ => ⟨hr, rfl⟩
  | x :: v, r, hr, hbytes => by
    have hdivided := foldl_divide hj v (isRemainder_divide hr (hbytes x (by simp))) fun y hy => hbytes y (List.mem_cons_of_mem _ hy)
    rw [horner_divide hj hr] at hdivided
    exact hdivided

section

variable {data : List Nat} (hbytes : ∀ x ∈ data, x < 256)

include hbytes

theorem checkBytes_remainder {j : Nat} (hj : j < 4) :
    IsRemainder (checkBytes data) ∧ horner j 0 (checkBytes data) = horner j 0 (data ++ [0, 0, 0, 0]) := by
  rw [checkBytes_eq]
  have hzero : ∀ j < 4, horner j 0 [0, 0, 0, 0] = 0 := by decide
  have hfold := foldl_divide (r := [0, 0, 0, 0]) hj (data ++ [0, 0, 0, 0]) ⟨rfl, by decide⟩ (by
    intro x hx
    rcases List.mem_append.mp hx with h | h
    · exact hbytes x h
    · exact (by decide : ∀ y ∈ [0, 0, 0, 0], y < 256) x h)
  rw [hzero j hj] at hfold
  exact hfold

theorem isRemainder_checkBytes : IsRemainder (checkBytes data) := (checkBytes_remainder hbytes (j := 0) (by decide)).1

theorem codeWord_bytes : ∀ x ∈ data ++ checkBytes data, x < 256 := fun x hx =>
  (List.mem_append.mp hx).elim (hbytes x) ((isRemainder_checkBytes hbytes).2 x)

/-- A code word has the value zero at every root. -/
theorem horner_codeWord {j : Nat} (hj : j < 4) : horner j 0 (data ++ checkBytes data) = 0 := by
  obtain ⟨⟨hlength, -⟩, hvalue⟩ := checkBytes_remainder hbytes hj
  have hzero : ∀ j < 4, horner j 0 [0, 0, 0, 0] = 0 := by decide
  rw [horner_append, horner_eq_xor, hvalue, horner_append, horner_eq_xor j _ [0, 0, 0, 0], hzero j hj, hlength, List.length_cons,
    List.length_cons, List.length_cons, List.length_cons, List.length_nil, Nat.zero_xor, Nat.xor_self]

end

/-! One bad byte -/

/-- A byte changed by `e` changes the value by `e` carried up to its place. -/
theorem horner_set (j e : Nat) (word : List Nat) {p : Nat} (hp : p < word.length) :
    horner j 0 (word.set p (nth word p ^^^ e)) = horner j 0 word ^^^ double^[j * (word.length - 1 - p)] e := by
  obtain ⟨u, x, v, rfl, rfl⟩ : ∃ u x v, word = u ++ x :: v ∧ p = u.length :=
    ⟨word.take p, word[p], word.drop (p + 1), by simp, by simp; omega⟩
  have hnth : nth (u ++ x :: v) u.length = x := by simp [nth]
  have hplace : (u ++ x :: v).length - 1 - u.length = v.length := by simp
  rw [hnth, hplace, List.set_append_right _ _ (Nat.le_refl _), Nat.sub_self, List.set_cons_zero, horner_append, horner_append, horner_cons,
    horner_cons, ← Nat.xor_assoc, horner_xor]

/-- The four syndromes of one bad byte `n` places before the end of the word. -/
def singleSyndromes (e n : Nat) : List Nat := (List.range 4).map (fun j => double^[j * n] e)

theorem nth_singleSyndromes (e n : Nat) : ∀ j < 4, nth (singleSyndromes e n) j = double^[j * n] e := by
  intro j hj
  simp [nth, singleSyndromes, hj]

section

variable {e p : Nat} (hlt : e < 256) (hpos : 0 < e) (hp : p < 36)

include hlt

/-- The syndromes of one bad byte are those of its place. -/
theorem singleAt_place : singleAt (singleSyndromes e (35 - p)) p = true := by
  refine List.all_eq_true.mpr fun j hj => beq_iff_eq.mpr ?_
  have hj : j < 4 := List.mem_range.mp hj
  rw [nth_singleSyndromes _ _ j hj, nth_singleSyndromes _ _ 0 (by decide), Nat.zero_mul, Function.iterate_zero_apply, gfMul_gfPow hlt]

include hpos hp

/-- No other place explains them. -/
theorem singleAt_other {i : Nat} (hi : i < 36) (hne : i ≠ p) : singleAt (singleSyndromes e (35 - p)) i = false := by
  refine Bool.eq_false_iff.mpr fun h => ?_
  have hsecond := beq_iff_eq.mp (List.all_eq_true.mp h 1 (by decide))
  rw [nth_singleSyndromes _ _ 1 (by decide), nth_singleSyndromes _ _ 0 (by decide), Nat.zero_mul, Function.iterate_zero_apply,
    gfMul_gfPow hlt, Nat.one_mul, Nat.one_mul] at hsecond
  exact iterate_double_ne_iterate hlt hpos (by omega) (by omega) (by omega) hsecond

theorem find_singleAt : (List.range 36).find? (singleAt (singleSyndromes e (35 - p))) = some p := by
  refine List.find?_range_eq_some.mpr ⟨singleAt_place hlt, List.mem_range.mpr hp, fun i hi => ?_⟩
  rw [singleAt_other hlt hpos hp (by omega) (by omega)]
  rfl

theorem decodeWord_of_singleSyndromes {word : List Nat} (hword : (List.range 4).map (syndrome word) = singleSyndromes e (35 - p)) :
    decodeWord word = .corrected p := by
  have hfirst : nth (singleSyndromes e (35 - p)) 0 = e := (nth_singleSyndromes e _ 0 (by decide)).trans (by rw [Nat.zero_mul]; rfl)
  have hne : (nth (singleSyndromes e (35 - p)) 0 == 0) = false := by rw [hfirst]; exact beq_eq_false_iff_ne.mpr (by omega)
  have hall : (singleSyndromes e (35 - p)).all (fun x => x == 0) = false := by
    refine List.all_eq_false.mpr ⟨e, List.mem_map.mpr ⟨0, by decide, by rw [Nat.zero_mul]; rfl⟩, ?_⟩
    simp only [beq_iff_eq]
    omega
  simp only [decodeWord, hword, hall, hne, find_singleAt hlt hpos hp, Bool.false_eq_true, if_false]

end

theorem decodeWord_of_zero {word : List Nat} (hword : ∀ j < 4, syndrome word j = 0) : decodeWord word = .good := by
  refine if_pos (List.all_eq_true.mpr fun x hx => ?_)
  obtain ⟨j, hj, rfl⟩ := List.mem_map.mp hx
  exact beq_iff_eq.mpr (hword j (List.mem_range.mp hj))

/-- Settles O58: the check bytes make the word's polynomial vanish at the four roots, and one bad byte leaves the syndromes of its place alone. -/
theorem oneBadByteIsCorrected : Obligations.OneBadByteIsCorrected := by
  unfold Obligations.OneBadByteIsCorrected
  intro data hlength hdata
  have hbytes := codeWord_bytes hdata
  have htotal : (data ++ checkBytes data).length = 36 := by rw [List.length_append, hlength, (isRemainder_checkBytes hdata).1]
  refine ⟨decodeWord_of_zero fun j hj => (syndrome_eq_horner hbytes j).trans (horner_codeWord hdata hj), fun p e hp hpos hlt => ?_⟩
  refine decodeWord_of_singleSyndromes hlt hpos hp (List.map_congr_left fun j hj => ?_)
  have hplace : p < (data ++ checkBytes data).length := by omega
  have hchanged : ∀ x ∈ (data ++ checkBytes data).set p (nth (data ++ checkBytes data) p ^^^ e), x < 256 := by
    intro x hx
    rcases List.mem_or_eq_of_mem_set hx with h | rfl
    · exact hbytes x h
    · refine Nat.xor_lt_two_pow (n := 8) (hbytes _ ?_) hlt
      rw [nth, List.getD_eq_getElem _ _ hplace]
      exact List.getElem_mem hplace
  rw [syndrome_eq_horner hchanged, horner_set _ _ _ hplace, horner_codeWord hdata (List.mem_range.mp hj), Nat.zero_xor, htotal]

end Sys2Proof.Proofs.MemoryCode

/-! Proofs about the memories (19_memory_and_settings R463, R469, R470): training, initialization, scrubbing and uncorrectable words. -/

namespace Sys2Proof.Proofs.Memory

open Sys2Proof Sys2Proof.Machine Sys2Proof.Proofs.Timebase Sys2Proof.Proofs.HostLink Sys2Proof.Proofs.ScanExecution
  Sys2Proof.Proofs.CameraPipeline Sys2Proof.Proofs.Instances

/-! Uncorrectable words (R470, R471) -/

/-- A region's result changes of the memories the list of bad objects alone. -/
theorem regionResult_mem (s : State) (region item : Nat) : ∃ l, (regionResult s region item).mem = { s.mem with badObjects := l } := by
  unfold regionResult
  split
  case h_3 => exact ⟨_, rfl⟩
  all_goals
    refine ⟨s.mem.badObjects, eq_of_sameBut (ps := [.dict, .faults, .host, .job, .melt, .queues, .work]) (·.mem) ?_ fun _ => rfl⟩
    simp [sameBut]

theorem localFault_health (s : State) : (localFault s).work.health = s.work.health := by
  unfold localFault
  split <;> rfl

theorem regionResult_health (s : State) (region item : Nat) : (regionResult s region item).work.health = s.work.health := by
  unfold regionResult
  split
  case h_1 | h_2 => exact localFault_health s
  all_goals
    refine eq_of_sameBut (ps := [.dict, .faults, .host, .job, .melt, .mem, .queues]) (·.work.health) ?_ fun _ => rfl
    simp [sameBut]

/-- The state with an uncorrectable word counted and recorded, and its condition of health raised. -/
def wordCounted (s : State) (location address region foundBy : Nat) : State :=
  { s.updMem (fun m => { m with
      uncorrectable := updI m.uncorrectable location inc32
      record := errorRecord s.toBlocks address location 2 0xFF foundBy region }) with
    work := { s.work with
      uncorrectable := inc32 s.work.uncorrectable
      health := updI s.work.health 2 (fun h => { h with until_ := s.now + 100000 }) } }

section

variable (s : State) (location address region foundBy item : Nat)

theorem noteUncorrectable_eq : noteUncorrectable s location address region foundBy item =
    (regionResult (wordCounted s location address region foundBy) region item).post (memEvent 0x1301 (regionSeverity region) region []) := rfl

theorem noteUncorrectable_mem :
    let t := noteUncorrectable s location address region foundBy item
    t.mem.corrected = s.mem.corrected ∧ t.mem.uncorrectable = updI s.mem.uncorrectable location inc32 ∧
      t.mem.record = errorRecord s.toBlocks address location 2 0xFF foundBy region := by
  obtain ⟨l, hmem⟩ := regionResult_mem (wordCounted s location address region foundBy) region item
  exact ⟨(congrArg MemState.corrected hmem :), (congrArg MemState.uncorrectable hmem :), (congrArg MemState.record hmem :)⟩

theorem noteUncorrectable_health : (getI (noteUncorrectable s location address region foundBy item).work.health 2).until_ = s.now + 100000 := by
  rw [noteUncorrectable_eq]
  show (getI (regionResult _ region item).work.health 2).until_ = _
  rw [regionResult_health]
  exact congrArg HealthBit.until_ (getI_updI_self s.work.health 2 (by decide) _)

theorem noteUncorrectable_posted :
    { memEvent 0x1301 (regionSeverity region) region [] with tick := s.tickCount } ∈
      (noteUncorrectable s location address region foundBy item).faults.posted := by
  have hregion := regionResult_hide (wordCounted s location address region foundBy) region item
    [.dict, .faults, .host, .job, .melt, .mem, .queues, .work]
    (by decide) (by decide) (by decide) (by decide) (by decide) (by decide) (by decide) (by decide)
  have htick : (regionResult (wordCounted s location address region foundBy) region item).tickCount = s.tickCount :=
    eq_of_sameBut (·.tickCount) hregion fun _ => rfl
  exact mem_post_posted htick _

end

/-- Whether the tick works does not depend on an uncorrectable word. -/
theorem noteUncorrectable_tickWorks (s : State) (location address region foundBy item : Nat) :
    tickWorks (noteUncorrectable s location address region foundBy item).toBlocks = tickWorks s.toBlocks :=
  eq_of_sameBut (fun s => tickWorks s.toBlocks) (noteUncorrectable_hide s location address region foundBy item
    [.dict, .faults, .host, .job, .melt, .mem, .queues, .work]
    (by decide) (by decide) (by decide) (by decide) (by decide) (by decide) (by decide) (by decide)) fun _ => rfl

section

variable {s : State} {location address region foundBy item : Nat}

theorem uncorrectableWord_of_quiet
    (hquiet : location ≠ 3 ∧ region ≠ 1 ∧ region ≠ 2 ∨ tickWorks s.toBlocks = false ∨ expects item = none) :
    uncorrectableWord s location address region foundBy item = noteUncorrectable s location address region foundBy item := by
  unfold uncorrectableWord
  dsimp only
  rw [noteUncorrectable_tickWorks]
  obtain ⟨hlocation, h1, h2⟩ | hidle | hnone := hquiet
  · simp [hlocation, h1, h2]
  · simp [hidle]
  · simp only [hnone, ite_self]

theorem uncorrectableWord_of_expected {m : Monitor} (hbound : location = 3 ∨ region = 1 ∨ region = 2) (hworks : tickWorks s.toBlocks = true)
    (hexpects : expects item = some m) :
    uncorrectableWord s location address region foundBy item =
      overrun (noteUncorrectable s location address region foundBy item) m := by
  unfold uncorrectableWord
  dsimp only
  rw [noteUncorrectable_tickWorks, hworks]
  simp only [hexpects, Bool.and_true]
  refine if_pos ?_
  simpa [or_assoc] using hbound

end

theorem expects_engine (k : Fin 16) : expects k = some (.se k) := dif_pos k.isLt

/-! The overrun of a scan engine (R57, Table 2.4) -/

theorem brake_gates (e : ScanEnv) (c : Chan) (holdNow : Bool) : (brake e c holdNow).gates = c.gates := by
  unfold brake
  dsimp only
  (repeat' split) <;> rfl

theorem stopChannel_overrun (e : ScanEnv) (c : Chan) (cause : Nat) (holdNow : Bool) :
    (stopChannel e c cause holdNow).1.gates.overrun = c.gates.overrun := by
  unfold stopChannel
  dsimp only
  split
  · rfl
  · dsimp only
    split
    · rw [brake_gates]
    · rfl

theorem stopChan_overrun (s : State) {n : Nat} (hn : n < 32) (cause : Nat) (holdNow : Bool) :
    (getI (stopChan s n cause holdNow).scan.chans n).gates.overrun = (getI s.scan.chans n).gates.overrun := by
  rw [stopChan, onChan_chan hn, stopChannel_overrun]

/-- The channel's turn in the overrun of its engine. -/
def overrunTurn (k : Nat) (s : State) (i : Nat) : State :=
  ((stopChan (s.updGates (2 * k + i) (fun g => { g with overrun := true })) (2 * k + i) 6 false).updChan (2 * k + i)
    (fun c => { c with cmdNext := { start := 0, events := [] }, spNext := holdPoint c.spNow })).updMelt (2 * k + i) darkenNext

theorem overrunTurn_other (k : Nat) (s : State) (i j : Nat) (h : j ≠ i) :
    getI (overrunTurn k s i).scan.chans (2 * k + j) = getI s.scan.chans (2 * k + j) := by
  have hne : 2 * k + j ≠ 2 * k + i := by omega
  calc
    _ = getI (stopChan (s.updGates (2 * k + i) (fun g => { g with overrun := true })) (2 * k + i) 6 false).scan.chans (2 * k + j) :=
      getI_updI_ne _ _ _ hne _
    _ = getI (s.updGates (2 * k + i) (fun g => { g with overrun := true })).scan.chans (2 * k + j) := onChan_other hne
    _ = _ := getI_updI_ne _ _ _ hne _

theorem overrunTurn_own {k i : Nat} (s : State) (hn : 2 * k + i < 32) :
    (getI (overrunTurn k s i).scan.chans (2 * k + i)).gates.overrun = true ∧
      (getI (overrunTurn k s i).scan.chans (2 * k + i)).cmdNext = { start := 0, events := [] } := by
  have hstop : (getI (stopChan (s.updGates (2 * k + i) (fun g => { g with overrun := true })) (2 * k + i) 6 false).scan.chans
      (2 * k + i)).gates.overrun = true := by
    rw [stopChan_overrun _ hn]
    exact congrArg (·.gates.overrun) (getI_updI_self s.scan.chans (2 * k + i) hn _)
  have hown : getI (overrunTurn k s i).scan.chans (2 * k + i) =
      { getI (stopChan (s.updGates (2 * k + i) (fun g => { g with overrun := true })) (2 * k + i) 6 false).scan.chans (2 * k + i) with
        cmdNext := { start := 0, events := [] }
        spNext := holdPoint (getI (stopChan (s.updGates (2 * k + i) (fun g => { g with overrun := true })) (2 * k + i) 6 false).scan.chans
          (2 * k + i)).spNow } := getI_updI_self _ _ hn _
  rw [hown]
  exact ⟨hstop, rfl⟩

theorem overrunScan_eq (s : State) (k : Nat) : overrunScan s k = forI 2 s (overrunTurn k) := rfl

theorem overrunScan_own (s : State) {k i : Nat} (hk : k < 16) (hi : i < 2) :
    (getI (overrunScan s k).scan.chans (2 * k + i)).gates.overrun = true ∧
      (getI (overrunScan s k).scan.chans (2 * k + i)).cmdNext = { start := 0, events := [] } := by
  have hown : getI (forI 2 s (overrunTurn k)).scan.chans (2 * k + i) =
      getI (overrunTurn k (forI i s (overrunTurn k)) i).scan.chans (2 * k + i) :=
    forI_own (f := overrunTurn k) (get := fun s j => getI s.scan.chans (2 * k + j)) (overrunTurn_other k) s hi
  rw [overrunScan_eq, hown]
  exact overrunTurn_own (forI i s (overrunTurn k)) (by omega)

/-- What follows the stop of the engine's channels leaves them. -/
theorem overrunAction_scan (s : State) (k : Fin 16) : (overrunAction s (.se k)).scan = (overrunScan s k).scan := by
  have hafter : sameBut [.faults, .link, .out, .pair, .time, .work] (overrunScan s k) (overrunAction s (.se k)) := by
    simp [sameBut, overrunAction]
  exact eq_of_sameBut (·.scan) hafter fun _ => rfl

theorem postInTick_scan (held : List Event) (s : State) : (postInTick held s).scan = s.scan :=
  eq_of_sameBut (·.scan) (postInTick_hide held s [.faults, .host, .out, .queues] (by decide) (by decide) (by decide) (by decide)) fun _ => rfl

/-- An engine's overrun is an overrun of the state that the tick's phase work leaves. -/
theorem overrun_scan (s : State) (k : Fin 16) : ∃ x, (overrun s (.se k)).scan = (overrunScan x k).scan :=
  ⟨_, (postInTick_scan (finishTick s).faults.posted _).trans (overrunAction_scan _ k)⟩

theorem overrun_engine (s : State) (k : Fin 16) {i : Nat} (hi : i < 2) :
    (getI (overrun s (.se k)).scan.chans (2 * k + i)).gates.overrun = true ∧
      (getI (overrun s (.se k)).scan.chans (2 * k + i)).cmdNext = { start := 0, events := [] } := by
  obtain ⟨x, hscan⟩ := overrun_scan s k
  rw [hscan]
  exact overrunScan_own x k.isLt hi

theorem overrun_mem (s : State) (m : Monitor) : (overrun s m).mem = s.mem :=
  eq_of_sameBut (ps := everything.filter (· != .mem)) (·.mem) (by simp [sameBut]) fun _ => rfl

/-! Words the scrubber reads (R469, R471) -/

/-- The passes with the last word of a target counted as the end of one. -/
def passCounted (s : State) (target address : Nat) : State :=
  if address != lastWord s.toBlocks target then s
  else if target = 2 then s.updMem (fun m => { m with passesSram := inc32 m.passesSram })
  else s.updMem (fun m => { m with passesDdr := inc32 m.passesDdr })

/-- A pass that is counted leaves all of the memories but the counts of passes. -/
theorem passCounted_eq (s : State) (target address : Nat) : passCounted s target address = { s with mem := { s.mem with
    passesDdr := if address = lastWord s.toBlocks target ∧ target ≠ 2 then inc32 s.mem.passesDdr else s.mem.passesDdr
    passesSram := if address = lastWord s.toBlocks target ∧ target = 2 then inc32 s.mem.passesSram else s.mem.passesSram } } := by
  unfold passCounted
  by_cases haddress : address = lastWord s.toBlocks target
  · by_cases htarget : target = 2 <;> simp [haddress, htarget, State.updMem]
  · simp [haddress]

/-- The corrected word, with the bad byte made right by the first syndrome. -/
def corrected (word : List Nat) (p : Nat) : List Nat := word.mapIdx (fun i x => if i = p then x ^^^ syndrome word 0 else x)

theorem noteCorrected_mem (s : State) (location address position foundBy : Nat) :
    let t := noteCorrected s location address position foundBy
    t.mem.corrected = updI s.mem.corrected location inc32 ∧ t.mem.uncorrectable = s.mem.uncorrectable ∧
      t.mem.record = errorRecord s.toBlocks address location 1 position foundBy 0 := by
  have hpost : ∀ (b : Bool) (x : State) (e : Event), (if b then x.post e else x).mem = x.mem := fun b x e => by split <;> rfl
  unfold noteCorrected
  dsimp only
  simp only [hpost]
  exact ⟨rfl, rfl, rfl⟩

section

variable {s : State} {target : Nat} (hscrubs : scrubs s.toBlocks target = true) (hinjection : s.mem.injection = none)
  (address region : Nat) {word : List Nat}

include hscrubs hinjection

/-- With no injection armed the word is judged as it was read. -/
theorem scrubWord_eq : scrubWord s target address region word =
    match decodeWord word with
    | .good => passCounted s target address
    | .corrected p => (noteCorrected (passCounted s target address) target address p 1).send
        (.writeBack target address (storeWord target (corrected word p)))
    | .bad => noteUncorrectable (passCounted s target address) target address region 1 0 := by
  have hword : word.mapIdx (fun i x => if i < 0 then x ^^^ 0xFF else x) = word := List.ext_getElem (by simp) (by simp)
  unfold scrubWord
  simp only [hscrubs, hinjection, Bool.not_true, Bool.false_eq_true, if_false, if_true, hword]
  rfl

end

/-! The other commands (R463) -/

theorem execDdrTraining_of_present {s : State} {c : Fin 2} (hphase : s.start.phase = 3)
    (hpresent : populationOk (getI s.mem.population c) = true) (ok : Bool) :
    exec (.ddrTraining c ok) s = .next (
      let t := s.updMem (fun m => { m with state := updI m.state c (fun _ => if ok then 1 else 2) })
      if ok then t else t.post (memEvent 0x1303 .warn c [])) := by
  refine congrArg Host.Outcome.next (if_pos ?_)
  rw [hphase, hpresent]
  rfl

theorem execBackgroundInitComplete_of_trained {s : State} {c : Fin 2} (htrained : getI s.mem.state c = 1) :
    exec (.backgroundInitComplete c) s = .next (s.updMem (fun m => { m with initDone := updI m.initDone c (fun _ => true) })) :=
  congrArg Host.Outcome.next (if_pos (beq_iff_eq.mpr htrained))

/-- Settles O45: a word by what the decoder makes of it, an uncorrectable one by its region and by the stage that expected it. -/
theorem memoryCommandsComplete : Obligations.MemoryCommandsComplete := by
  unfold Obligations.MemoryCommandsComplete
  refine ⟨fun s c ok hphase hpresent => ?training, fun s c htrained => ?initialised,
    fun s target address region word p hscrubs hinjection hword => ?corrected,
    fun s target address region word hscrubs hinjection hword => ?good, fun s target address region word hscrubs hinjection hword => ?bad,
    fun s location address region foundBy item hquiet => ?quiet, fun s location address region foundBy k hbound hworks => ?engine⟩
  case training =>
    refine ⟨_, execDdrTraining_of_present hphase hpresent ok, ?_⟩
    cases ok
    · exact ⟨by simp [sameBut], rfl, rfl⟩
    · exact ⟨by simp [sameBut], rfl, rfl⟩
  case initialised => exact ⟨_, execBackgroundInitComplete_of_trained htrained, State_updMem_hide s _ _ (by decide), rfl⟩
  case corrected =>
    have heq := scrubWord_eq hscrubs hinjection address region (word := loadWord word)
    rw [hword] at heq
    obtain ⟨hcorrected, huncorrectable, hrecord⟩ := noteCorrected_mem (passCounted s target address) target address p 1
    have hpass := passCounted_eq s target address
    have hout : (noteCorrected (passCounted s target address) target address p 1).out = s.out :=
      (eq_of_sameBut (·.out) (noteCorrected_hide _ _ _ _ _ [.faults, .mem, .work] (by decide) (by decide) (by decide)) fun _ => rfl).trans
        (by rw [hpass])
    refine ⟨_, congrArg Host.Outcome.next heq, ?_, ?_, ?_, ?_, ?_⟩
    · exact (State_send_hide _ _ _ (by decide)).trans ((noteCorrected_hide _ _ _ _ _ _ (by decide) (by decide) (by decide)).trans
        (by rw [hpass]; exact set_mem_hide s _ _ (by decide)))
    · exact hcorrected.trans (by rw [hpass])
    · exact huncorrectable.trans (by rw [hpass])
    · exact hrecord.trans (by rw [hpass]; rfl)
    · exact congrArg (· ++ [_]) hout
  case good =>
    have heq := scrubWord_eq hscrubs hinjection address region (word := loadWord word)
    rw [hword, passCounted_eq] at heq
    refine ⟨_, congrArg Host.Outcome.next heq, set_mem_hide s _ _ (by decide), rfl, rfl, ?_, ?_⟩
    · simp [Fin.ext_iff]
    · simp [Fin.ext_iff]
  case bad =>
    have heq := scrubWord_eq hscrubs hinjection address region (word := loadWord word)
    rw [hword, passCounted_eq] at heq
    obtain ⟨hcorrected, huncorrectable, hrecord⟩ := noteUncorrectable_mem { s with mem := { s.mem with
      passesDdr := if address = lastWord s.toBlocks target ∧ (target : Nat) ≠ 2 then inc32 s.mem.passesDdr else s.mem.passesDdr
      passesSram := if address = lastWord s.toBlocks target ∧ (target : Nat) = 2 then inc32 s.mem.passesSram else s.mem.passesSram } }
      target address region 1 0
    refine ⟨_, congrArg Host.Outcome.next heq, ?_, hcorrected, huncorrectable, hrecord⟩
    exact (noteUncorrectable_hide _ _ _ _ _ _ _ (by decide) (by decide) (by decide) (by decide) (by decide) (by decide) (by decide)
      (by decide)).trans (set_mem_hide s _ _ (by decide))
  case quiet =>
    obtain ⟨-, huncorrectable, hrecord⟩ := noteUncorrectable_mem s location address region foundBy item
    refine ⟨_, congrArg Host.Outcome.next (uncorrectableWord_of_quiet hquiet), ?_, huncorrectable, hrecord,
      noteUncorrectable_posted s location address region foundBy item, noteUncorrectable_health s location address region foundBy item⟩
    exact noteUncorrectable_hide _ _ _ _ _ _ _ (by decide) (by decide) (by decide) (by decide) (by decide) (by decide) (by decide) (by decide)
  case engine =>
    obtain ⟨-, huncorrectable, -⟩ := noteUncorrectable_mem s location address region foundBy k
    refine ⟨_, congrArg Host.Outcome.next (uncorrectableWord_of_expected hbound hworks (expects_engine k)),
      (congrArg MemState.uncorrectable (overrun_mem _ _)).trans huncorrectable, fun i hi => ?_⟩
    obtain ⟨hgate, hcommand⟩ := overrun_engine (noteUncorrectable s location address region foundBy k) k hi
    exact ⟨hgate, by rw [hcommand]; rfl⟩

end Sys2Proof.Proofs.Memory

/-! Proofs about the flash (19_memory_and_settings R478, R481–R483, 20_startup_and_faults R507): images, the settings' sections and the ring. -/

namespace Sys2Proof.Proofs.Flash

open Sys2Proof Sys2Proof.Machine Sys2Proof.Proofs.Timebase Sys2Proof.Proofs.HostLink Sys2Proof.Proofs.ThermalAndPower

/-! Images (R478) -/

section

variable {s : State} {slot : Nat} {image : Bytes} (hupload : s.flash.op = .upload slot image)

include hupload

theorem execImageProgramComplete_of_verified : exec (.imageProgramComplete true) s =
    .next ((flashWrite s (slotAddress s.flash slot) image).updFlash (fun f => { f with
      op := .none, progress := image.length
      slots := updI f.slots slot (fun _ => { bytes := image, status := 1, version := fieldU image 8 4 }) })) := by
  simp only [exec, execImageProgramComplete, hupload, if_true]

theorem execImageProgramComplete_of_spoiled : exec (.imageProgramComplete false) s =
    .next ((spoilSlot (flashWrite s (slotAddress s.flash slot) image) slot).updFlash (fun f => { f with op := .none })) := by
  simp only [exec, execImageProgramComplete, hupload, Bool.false_eq_true, if_false]

end

/-- A slot that is spoiled holds no valid image. -/
theorem spoilSlot_status (s : State) {slot : Nat} (hslot : slot < 2) : (getI (spoilSlot s slot).flash.slots slot).status ≠ 1 := by
  have hstatus : ∀ r < 5, [0, 2, 3, 4, 5].getD r 0 ≠ 1 := by decide
  have hself := congrArg ImageSlot.status (getI_updI_self s.free.2.flash.slots slot hslot
    (fun _ => { bytes := [], status := [0, 2, 3, 4, 5].getD (s.free.1 % 5) 0, version := 0 }))
  exact fun h => hstatus _ (Nat.mod_lt _ (by decide)) (hself.symm.trans h)

theorem spoilSlot_other (s : State) {slot k : Nat} (hk : k ≠ slot) : getI (spoilSlot s slot).flash.slots k = getI s.flash.slots k :=
  getI_updI_ne _ _ _ hk _

/-! Sections (R481, R482) -/

/-- A section renewed with its entries among `l`: it changes its place and its generation. -/
def renewed (k : Nat) (saved : Bool) (l : List (Nat × Val)) (x : Section) : Section :=
  { place := 1 - x.place, generation := (x.generation + 1) % 2 ^ 32, saved
    entries := l.filter (fun e => sectionOf (e.1 / 256) (e.1 % 256) == k) }

theorem renewSection_sections (f : FlashState) (k : Nat) (saved : Bool) (l : List (Nat × Val)) :
    (renewSection f k saved l).sections = updI f.sections k (renewed k saved l) := rfl

/-- The three sections renewed by a save. -/
def allRenewed (f : FlashState) (l : List (Nat × Val)) : FlashState :=
  renewSection (renewSection (renewSection f 0 true l) 1 true l) 2 true l

theorem allRenewed_section (f : FlashState) (l : List (Nat × Val)) {i : Nat} (hi : i < 3) :
    getI (allRenewed f l).sections i = renewed i true l (getI f.sections i) := by
  simp only [allRenewed, renewSection_sections, getI_updI]
  match i, hi with
  | 0, _ => rfl
  | 1, _ => rfl
  | 2, _ => rfl

/-- The sections without an entry after a clear: the second one only where all are cleared. -/
def cleared (f : FlashState) (all : Bool) : FlashState :=
  let g := { renewSection (renewSection f 0 false []) 2 false [] with append := [], olderAppend := f.append }
  if all then renewSection g 1 false [] else g

theorem cleared_section (f : FlashState) {all : Bool} {i : Nat} (hi : i < 3) (hcleared : i = 1 → all = true) :
    getI (cleared f all).sections i = renewed i false [] (getI f.sections i) := by
  unfold cleared
  match i, hi with
  | 0, _ => cases all <;> simp [renewSection_sections, getI_updI]
  | 1, _ => simp [hcleared rfl, renewSection_sections, getI_updI]
  | 2, _ => cases all <;> simp [renewSection_sections, getI_updI]

theorem cleared_second (f : FlashState) : getI (cleared f false).sections 1 = getI f.sections 1 := by
  simp [cleared, renewSection_sections, getI_updI]

theorem cleared_keeps (f : FlashState) (all : Bool) :
    (cleared f all).append = [] ∧ (cleared f all).slots = f.slots ∧ (cleared f all).ring = f.ring := by
  unfold cleared
  cases all <;> exact ⟨rfl, rfl, rfl⟩

/-- The end of a save or a clear: status 3, and its event. -/
def persisted (s : State) : State := (s.updFlash (fun f => { f with op := .none, status := 3 })).post (flashEvent 0x1307 .note 0 [])

/-- An event posted on a state that has posted as much as `s` in the same tick. -/
theorem faults_post_of_same {s t : State} (hfaults : t.faults = s.faults) (hboundary : t.time.boundary = s.time.boundary) (e : Event) :
    (t.post e).faults = posts s [e] := posts_congr hfaults hboundary [e]

/-- What a state holds that has renewed its flash to `f`, written copies of its sections and ended with its event. -/
theorem persisted_written {α : Type} (s : State) (f : FlashState) (l : List α) (write : State → α → State)
    (hwrite : ∀ x a, sameBut [.out] x (write x a)) :
    let t := persisted (l.foldl write (s.updFlash (fun _ => f)))
    t.flash = { f with op := .none, status := 3 } ∧ t.faults = posts s [flashEvent 0x1307 .note 0 []] := by
  have hwritten : sameBut [.out] (s.updFlash (fun _ => f)) (l.foldl write (s.updFlash (fun _ => f))) := foldl_hide _ _ _ _ hwrite
  have hflash : (l.foldl write (s.updFlash (fun _ => f))).flash = f := eq_of_sameBut (·.flash) hwritten fun _ => rfl
  have hfaults : (l.foldl write (s.updFlash (fun _ => f))).faults = (s.updFlash (fun _ => f)).faults := eq_of_sameBut (·.faults) hwritten fun _ => rfl
  have htime : (l.foldl write (s.updFlash (fun _ => f))).time = (s.updFlash (fun _ => f)).time := eq_of_sameBut (·.time) hwritten fun _ => rfl
  refine ⟨?_, faults_post_of_same (s := s) hfaults (congrArg TimeState.boundary htime :) _⟩
  show { (l.foldl write (s.updFlash (fun _ => f))).flash with op := .none, status := 3 } = _
  rw [hflash]

theorem finishPersistence_of_save {s : State} {l : List (Nat × Val)} {k : Nat} (hsave : s.flash.op = .save l k) :
    finishPersistence s = persisted ([0, 1, 2].foldl (fun x i => writeSection x i k)
      (s.updFlash (fun _ => { allRenewed s.flash l with append := [], olderAppend := s.flash.append, lastSave := k }))) := by
  unfold finishPersistence
  rw [hsave]
  rfl

theorem finishPersistence_of_clear {s : State} {all : Bool} (hclear : s.flash.op = .clear all) :
    finishPersistence s = persisted ((clearedSections all).foldl (fun x i => writeSection x i x.tickCount)
      (s.updFlash (fun _ => cleared s.flash all))) := by
  unfold finishPersistence
  rw [hclear]
  rfl

/-! Operations that fail (R483) -/

theorem execFlashOperationFailed_of_op {s : State} (hop : s.flash.op ≠ .none) : exec .flashOperationFailed s =
    .next (((endFlashOp s 4).updFlash (fun f => { f with failures := inc32 f.failures })).post (flashEvent 0x1308 .warn 0 [])) := by
  simp only [exec, execFlashOperationFailed, beq_eq_false_iff_ne.mpr hop, Bool.false_eq_true, if_false]

theorem execFlashOperationFailed_of_none {s : State} (hop : s.flash.op = .none) : exec .flashOperationFailed s =
    .next ((s.updFlash (fun f => { f with failTick := some s.now, failures := inc32 f.failures })).post (flashEvent 0x1308 .warn 0 [])) := by
  simp only [exec, execFlashOperationFailed, hop, beq_self_eq_true, if_true]
  rfl

/-- An operation that fails takes the status with it. -/
theorem endFlashOp_status {s : State} (hop : s.flash.op ≠ .none) (status : Nat) :
    (endFlashOp s status).flash.status = status ∧ (endFlashOp s status).flash.failures = s.flash.failures := by
  unfold endFlashOp
  split
  · next h => exact absurd h hop
  · exact ⟨rfl, rfl⟩
  · exact ⟨rfl, rfl⟩

/-! The ring (R507) -/

/-- The slots the ring keeps when its position enters a sector: all but those of the next one, which is erased. -/
def ringKept (f : FlashState) : List RingSlot :=
  if f.ringNext % 16 = 0 then f.ring.filter (fun x => x.position / 16 != (f.ringNext / 16 + 1) % 256) else f.ring

/-- The state with the sector that comes next erased, where the position enters one. -/
def sectorErased (s : State) : State :=
  if s.flash.ringNext % 16 = 0 then flashErase s (0x10000 + 0x1000 * ((s.flash.ringNext / 16 + 1) % 256)) 0x1000 else s

theorem sectorErased_sameBut (s : State) : sameBut [.out] s (sectorErased s) := by
  unfold sectorErased
  split <;> simp [sameBut]

/-- The flash with a record written at the ring's next position. -/
def ringAdvanced (f : FlashState) (r : Record) : FlashState :=
  { f with
    ring := ringKept f ++ [{ record := r, sequence := (f.ringSequence + 1) % 2 ^ 32, position := f.ringNext }]
    ringSequence := (f.ringSequence + 1) % 2 ^ 32, ringNext := (f.ringNext + 1) % 4096 }

theorem ringWrite_of_pending {s : State} {r : Record} {rest : List Record} (hpending : s.faults.ringPending = r :: rest)
    (hpresent : s.flash.present = true) (hknown : s.faults.ringKnown = true) :
    ringWrite s = takeRing ((flashWrite (sectorErased s) (0x10000 + 256 * s.flash.ringNext)
      (ringSlotBytes s.pair.unitId r ((s.flash.ringSequence + 1) % 2 ^ 32))).updFlash (fun _ => ringAdvanced s.flash r)) := by
  have hpair : (sectorErased s).pair = s.pair := eq_of_sameBut (·.pair) (sectorErased_sameBut s) fun _ => rfl
  have hflash : (sectorErased s).flash = s.flash := eq_of_sameBut (·.flash) (sectorErased_sameBut s) fun _ => rfl
  unfold ringWrite
  simp only [hpending, hpresent, hknown, Bool.not_true, Bool.or_false, Bool.false_eq_true, if_false]
  change takeRing ((flashWrite (sectorErased s) _ (ringSlotBytes (sectorErased s).pair.unitId r _)).updFlash (fun f => { f with
    ring := ringKept s.flash ++ [{ record := r, sequence := (s.flash.ringSequence + 1) % 2 ^ 32, position := s.flash.ringNext }]
    ringSequence := (s.flash.ringSequence + 1) % 2 ^ 32, ringNext := (s.flash.ringNext + 1) % 4096 })) = _
  rw [hpair, ringAdvanced, ← hflash]
  rfl

/-- A record that is taken from the ring's queue leaves the flash and what has been put out. -/
theorem takeRing_keeps (s : State) : (takeRing s).flash = s.flash ∧ (takeRing s).out = s.out ∧
    (takeRing s).faults = { s.faults with ringPending := s.faults.ringPending.drop 1 } := by
  have hstall : ∀ x, sameBut [.queues] x (noteRingStall x) := fun x => noteRingStall_hide x _ (by decide)
  have hflash : ∀ x, (noteRingStall x).flash = x.flash := fun x => eq_of_sameBut (·.flash) (hstall x) fun _ => rfl
  have hout : ∀ x, (noteRingStall x).out = x.out := fun x => eq_of_sameBut (·.out) (hstall x) fun _ => rfl
  exact ⟨hflash _, hout _, noteRingStall_faults _⟩

/-- Settles O46: an image, a save and a clear by the operation under way, a ring write by the record that waits first. -/
theorem flashCommandsComplete : Obligations.FlashCommandsComplete := by
  unfold Obligations.FlashCommandsComplete
  refine ⟨fun s slot image hupload => ?verified, fun s slot image hslot hupload => ?spoiled, fun s l k hsave => ?save,
    fun s all hclear => ?clear, fun s hop => ?failed, fun s hop => ?none, fun s r rest hpending hpresent hknown => ?ring⟩
  case verified => exact ⟨_, execImageProgramComplete_of_verified hupload, by simp [sameBut], rfl, rfl⟩
  case spoiled =>
    exact ⟨_, execImageProgramComplete_of_spoiled hupload, by simp [sameBut], rfl, spoilSlot_status _ hslot,
      fun k hk => spoilSlot_other _ hk, rfl⟩
  case save =>
    obtain ⟨hflash, hfaults⟩ := persisted_written s { allRenewed s.flash l with append := [], olderAppend := s.flash.append, lastSave := k }
      [0, 1, 2] (fun x i => writeSection x i k) (fun x i => writeSection_hide _ _ _ _ (by decide))
    rw [← finishPersistence_of_save hsave] at hflash hfaults
    refine ⟨_, rfl, finishPersistence_hide s _ (by decide) (by decide) (by decide), ?_⟩
    beta_reduce
    rw [hflash, hfaults]
    refine ⟨fun i hi => ?_, rfl, rfl, rfl, rfl, rfl, rfl, rfl⟩
    rw [allRenewed_section s.flash l hi]
    exact ⟨rfl, rfl, rfl⟩
  case clear =>
    obtain ⟨hflash, hfaults⟩ := persisted_written s (cleared s.flash all) (clearedSections all) (fun x i => writeSection x i x.tickCount)
      (fun x i => writeSection_hide _ _ _ _ (by decide))
    rw [← finishPersistence_of_clear hclear] at hflash hfaults
    obtain ⟨happend, hslots, hring⟩ := cleared_keeps s.flash all
    refine ⟨_, rfl, finishPersistence_hide s _ (by decide) (by decide) (by decide), ?_⟩
    beta_reduce
    rw [hflash, hfaults]
    refine ⟨fun i hi hone => ?_, fun hall => ?_, rfl, rfl, happend, hslots, hring, rfl⟩
    · rw [cleared_section s.flash hi hone]
      exact ⟨rfl, rfl⟩
    · rw [hall]
      exact cleared_second s.flash
  case failed =>
    obtain ⟨hframe, hsections, happend, -⟩ := endFlashOp_keeps s 4
    obtain ⟨hstatus, hfailures⟩ := endFlashOp_status hop 4
    have hfaults : (endFlashOp s 4).faults = s.faults := eq_of_sameBut (·.faults) hframe fun _ => rfl
    have hboundary : (endFlashOp s 4).time.boundary = s.time.boundary := eq_of_sameBut (·.time.boundary) hframe fun _ => rfl
    exact ⟨_, execFlashOperationFailed_of_op hop, by simp [sameBut], endFlashOp_op s 4, hstatus, congrArg inc32 hfailures, hsections, happend,
      faults_post_of_same (s := s) hfaults hboundary _⟩
  case none => exact ⟨_, execFlashOperationFailed_of_none hop, by simp [sameBut], rfl, rfl⟩
  case ring =>
    have hframe := sectorErased_sameBut s
    have hfaults : (sectorErased s).faults = s.faults := eq_of_sameBut (·.faults) hframe fun _ => rfl
    refine ⟨_, rfl, ringWrite_hide s _ (by decide) (by decide) (by decide) (by decide), ?_⟩
    beta_reduce
    rw [ringWrite_of_pending hpending hpresent hknown]
    obtain ⟨hflash, hout, htaken⟩ := takeRing_keeps ((flashWrite (sectorErased s) (0x10000 + 256 * s.flash.ringNext)
      (ringSlotBytes s.pair.unitId r ((s.flash.ringSequence + 1) % 2 ^ 32))).updFlash (fun _ => ringAdvanced s.flash r))
    rw [hflash, hout, htaken]
    refine ⟨List.mem_append_right _ (List.mem_singleton_self _), ?_, List.getLast?_concat, rfl, rfl, fun hinside x hx => ?_⟩
    · show { (sectorErased s).faults with ringPending := (sectorErased s).faults.ringPending.drop 1 } = _
      rw [hfaults, hpending]
      rfl
    · refine List.mem_append_left _ ?_
      rw [ringKept, if_neg hinside]
      exact hx

end Sys2Proof.Proofs.Flash

/-! Proofs about start-up (20_startup_and_faults R491–R494): phases that end, and what START-UP gives way to. -/

namespace Sys2Proof.Proofs.StartUp

open Sys2Proof Sys2Proof.Machine Sys2Proof.Proofs.Timebase Sys2Proof.Proofs.HostLink Sys2Proof.Proofs.LayerStream
  Sys2Proof.Proofs.CameraPipeline Sys2Proof.Proofs.ThermalAndPower

/-! The next phase (R491, R493) -/

/-- The faults with the duration of the phase in progress noted. -/
def durationNoted (s : State) (durationUs : Nat) : FaultState :=
  { s.faults with durations := s.faults.durations.set (s.start.phase - 1) (satU 16 durationUs) }

theorem nextPhase_of_last {s : State} (hlast : s.start.phase = 7) (durationUs : Nat) :
    nextPhase s durationUs = { s with faults := durationNoted s durationUs, start := { s.start with phase := 0 } } := by
  unfold nextPhase
  exact if_pos hlast

/-- The state with the phase in progress marked and posted as one that has reached its maximum. -/
def maximumPosted (s : State) : State :=
  ({ s with faults := { s.faults with overMaximum := setBit s.faults.overMaximum (s.start.phase - 1) true } } : State).post
    (mkEvent (.core 0) 0x1402 .warn .device 0 (leBytes 1 s.start.phase))

theorem maximumPosted_hide (s : State) (ps : List Part) (hfaults : .faults ∈ ps) : (maximumPosted s).hide ps = s.hide ps :=
  (State_post_hide _ _ ps hfaults).trans (set_faults_hide s _ ps hfaults)

/-- A phase that gives way changes of start-up and of the faults the phase and its duration alone. -/
theorem nextPhase_start (s : State) (durationUs : Nat) :
    (nextPhase s durationUs).start = { s.start with phase := if s.start.phase = 7 then 0 else s.start.phase + 1 } ∧
      (nextPhase s durationUs).faults = durationNoted s durationUs := by
  by_cases hlast : s.start.phase = 7
  · rw [nextPhase_of_last hlast, if_pos hlast]
    exact ⟨rfl, rfl⟩
  · have hnext : nextPhase s durationUs =
        beginPhase { s with faults := durationNoted s durationUs, start := { s.start with phase := s.start.phase + 1 } } (s.start.phase + 1) := by
      unfold nextPhase
      exact if_neg hlast
    have hbegin : ∀ x k, sameBut [.cams, .host, .link, .out, .pair, .pins] x (beginPhase x k) := fun x k =>
      beginPhase_hide x k _ (by decide) (by decide) (by decide) (by decide) (by decide) (by decide)
    rw [hnext, if_neg hlast]
    exact ⟨eq_of_sameBut (·.start) (hbegin _ _) fun _ => rfl, eq_of_sameBut (·.faults) (hbegin _ _) fun _ => rfl⟩

/-- What a phase leaves behind does not touch start-up itself. -/
theorem finishPhase_start (s : State) (r : PhaseReport) : (finishPhase s r).start = s.start :=
  eq_of_sameBut (ps := [.dict, .faults, .flash, .mem, .out, .pair, .pins, .values]) (·.start)
    (finishPhase_hide s r _ (by decide) (by decide) (by decide) (by decide) (by decide) (by decide) (by decide) (by decide)) fun _ => rfl

theorem finishPhase_of_last {s : State} (hlast : s.start.phase = 7) (r : PhaseReport) : finishPhase s r = s := by
  simp only [finishPhase, hlast]

section

variable {s : State} (hstarting : startingUp s.toBlocks = true)

include hstarting

theorem not_inReset_of_startingUp : s.start.inReset = false := by
  simp only [startingUp, Bool.and_eq_true, Bool.not_eq_true'] at hstarting
  exact hstarting.1.1.1

theorem execStartupPhaseComplete_of_done (hdone : phaseDone s.toBlocks = true) (r : PhaseReport) :
    exec (.startupPhaseComplete r) s = .next (nextPhase (finishPhase s r) r.durationUs) :=
  congrArg Host.Outcome.next (if_pos (by rw [hstarting, hdone]; rfl))

theorem execStartupPhaseMaximum_of_late (hlate : 4 ≤ s.start.phase) :
    exec .startupPhaseMaximum s = .next (nextPhase (maximumPosted s) (phaseMaximum s.start.phase)) :=
  congrArg Host.Outcome.next (if_pos (by rw [hstarting, decide_eq_true hlate]; rfl))

end

theorem phaseDone_of_last {s : State} (hlast : s.start.phase = 7) (hpair : s.pair.st ≠ .discover) : phaseDone s.toBlocks = true := by
  simp only [phaseDone, hlast]
  exact bne_iff_ne.mpr hpair

/-! The end of start-up (R494, R496, R497) -/

/-- The event of the end of start-up, with the durations of its phases. -/
def startedEvent (s : State) : Event := mkEvent (.core 0) 0x1403 .note .device 0 (s.faults.durations.flatMap (leBytes 2))

/-- The machine READY or HELD, with its gates, before its event. -/
def started (s : State) : State :=
  setJobGates (s.updJob (fun j => { j with dev := if safeOpen s.faults then .held else .ready })) (safeOpen s.faults)

theorem leaveStartUp_of_ended {s : State} (hdev : s.job.dev = .startUp) (hended : s.start.phase = 0) :
    leaveStartUp s = startGroup ((started s).post (startedEvent s)) 1 := by
  unfold leaveStartUp
  exact if_pos (by rw [hdev, hended]; rfl)

/-- Settles O48: every phase by the state that gives way, start-up's end by the one state it leaves. -/
theorem startUpPhasesComplete : Obligations.StartUpPhasesComplete := by
  unfold Obligations.StartUpPhasesComplete
  refine ⟨fun s r hstarting hdone hfirst hlast => ?next, fun s r hstarting hlast hpair => ?last, fun s hdev hended => ?ended,
    fun s hstarting hlate hlast => ?maximum⟩
  case next =>
    have hstart : (nextPhase (finishPhase s r) r.durationUs).start = { s.start with phase := s.start.phase + 1 } := by
      rw [(nextPhase_start _ _).1, finishPhase_start, if_neg (by omega)]
    refine ⟨_, execStartupPhaseComplete_of_done hstarting hdone r, by simp [sameBut], ?_⟩
    beta_reduce
    rw [hstart]
    exact ⟨rfl, rfl, not_inReset_of_startingUp hstarting⟩
  case last =>
    have hexec := execStartupPhaseComplete_of_done hstarting (phaseDone_of_last hlast hpair) r
    rw [finishPhase_of_last hlast, nextPhase_of_last hlast, durationNoted, hlast] at hexec
    exact ⟨_, hexec, rfl, rfl, rfl⟩
  case ended =>
    rw [leaveStartUp_of_ended hdev hended]
    have hgroup : sameBut [.power] ((started s).post (startedEvent s)) (startGroup ((started s).post (startedEvent s)) 1) :=
      startGroup_hide _ _ _ (by decide)
    have hjob := eq_of_sameBut (·.job) hgroup fun _ => rfl
    have hscan := eq_of_sameBut (·.scan) hgroup fun _ => rfl
    have hfaults := eq_of_sameBut (·.faults) hgroup fun _ => rfl
    refine ⟨?_, fun n hn => ?_, startGroup_group _ 1, ?_⟩
    · rw [hjob]
      rfl
    · rw [hscan]
      exact congrArg (·.gates.job) (setJobGates_chan (s.updJob _) _ hn)
    · rw [hfaults]
      exact mem_post_posted (s := s) (t := started s) rfl _
  case maximum =>
    obtain ⟨hstart, hfaults⟩ := nextPhase_start (maximumPosted s) (phaseMaximum s.start.phase)
    refine ⟨_, execStartupPhaseMaximum_of_late hstarting hlate, ?_, congrArg StartState.phase hstart, ?_, ?_⟩
    · exact (nextPhase_hide _ _ _ (by decide) (by decide) (by decide) (by decide) (by decide) (by decide) (by decide) (by decide)).trans
        (maximumPosted_hide s _ (by decide))
    · rw [hfaults]
      exact bit_setBit_true _ _
    · rw [hfaults]
      exact mem_post_posted (s := s) rfl _

end Sys2Proof.Proofs.StartUp

/-! Proofs about the object dictionary (03_object_dictionary R65, R66, R73, R74, R77): values as octets, values in force and pending
values. -/

namespace Sys2Proof.Proofs.ObjectDictionary

open Sys2Proof Sys2Proof.Machine Sys2Proof.Proofs.Scope Sys2Proof.Proofs.Architecture Sys2Proof.Proofs.Timebase

/-! Values as octets (R66, Table 3.1) -/

theorem leNat_leBytesI (n : Nat) (x : Int) : leNat (leBytesI n x) = toBits (8 * n) x := by
  have hpow : 2 ^ (8 * n) = 256 ^ n := Nat.pow_mul 2 8 n
  exact leNat_leBytes_of_lt (hpow ▸ toBits_lt (8 * n) x)

/-- An unsigned number that fits its octets is read back from them. -/
theorem leNat_leBytesI_of_fits {n : Nat} {x : Int} (hx : 0 ≤ x) (h : x < 256 ^ n) : (leNat (leBytesI n x) : Int) = x := by
  have hpow : ((2 ^ (8 * n) : Nat) : Int) = 256 ^ n := by
    rw [Nat.pow_mul]
    exact Int.natCast_pow 256 n
  rw [leNat_leBytesI, toBits_of_nonneg hx (hpow ▸ h)]

/-- A float whose exponent is not 0 is no denormal. -/
theorem flushF32_of_exponent {x : Nat} (h : x / 2 ^ 23 % 256 ≠ 0) : flushF32 x = x := if_neg (by simpa using h)

/-- Settles O52: each type by the bit pattern that its octets carry. -/
theorem objectValuesRoundTrip : Obligations.ObjectValuesRoundTrip := by
  unfold Obligations.ObjectValuesRoundTrip
  refine ⟨fun x hx => ?bool, fun k x _ _ hx h => ?unsigned, fun k x hk _ hlo hhi => ?signed, fun x hx hexp => ?float, fun _ _ => rfl⟩
  case bool => exact congrArg Val.int (leNat_leBytesI_of_fits (by omega) (by omega))
  case unsigned => exact congrArg Val.int (leNat_leBytesI_of_fits hx h)
  case signed =>
    have hbits : ofBits (8 * k) (leNat (leBytesI k x)) = x := by
      rw [leNat_leBytesI, ofBits_toBits (by omega) hlo hhi]
    exact congrArg Val.int hbits
  case float =>
    have hbits : leNat (leBytesI 4 x) = x := Int.ofNat_inj.mp (leNat_leBytesI_of_fits (by omega) (by omega))
    have hflush : (flushF32 (leNat (leBytesI 4 x)) : Int) = x := by rw [hbits, flushF32_of_exponent hexp]
    exact congrArg Val.int hflush

/-! The value in force of an object (R65, R74) -/

theorem objKey_div {sub : Nat} (index : Nat) (h : sub < 256) : objKey index sub / 256 = index := by
  unfold objKey
  omega

theorem objKey_mod {sub : Nat} (index : Nat) (h : sub < 256) : objKey index sub % 256 = sub := by
  unfold objKey
  omega

/-- Two objects have two keys. -/
theorem objKey_ne {i k index sub : Nat} (hk : k < 256) (hsub : sub < 256) (h : (i, k) ≠ (index, sub)) : objKey i k ≠ objKey index sub := by
  intro hkey
  refine h (Prod.ext ?_ ?_)
  · rw [← objKey_div i hk, hkey, objKey_div index hsub]
  · rw [← objKey_mod i hk, hkey, objKey_mod index hsub]

/-- The entry of a key in a list with rising keys. -/
theorem lookKey_eq_some_iff {α : Type} {k : Nat} {x : α} {l : List (Nat × α)} (hl : Rising l) : lookKey k l = some x ↔ (k, x) ∈ l := by
  induction l with
  | nil => simp [lookKey]
  | cons e l ih =>
    obtain ⟨i, y⟩ := e
    obtain ⟨habove, htail⟩ := List.pairwise_cons.mp hl
    have hrest : k ≤ i → (k, x) ∉ l := fun hk hx => Nat.not_lt.mpr hk (habove _ hx)
    rw [lookKey, List.mem_cons, Prod.mk.injEq]
    split
    · next hi => simp [hi, hrest hi.ge, eq_comm]
    · next hi =>
      split
      · next hk => simp [hrest hk.le, hk.ne]
      · simp [ih htail, Ne.symm hi]

theorem mem_dropKey {α : Type} {k j : Nat} {x : α} {l : List (Nat × α)} : (j, x) ∈ dropKey k l ↔ (j, x) ∈ l ∧ j ≠ k := by
  simp [dropKey]

theorem mem_putKey_self {α : Type} (k : Nat) (x : α) (l : List (Nat × α)) : (k, x) ∈ putKey k x l := by
  induction l with
  | nil => exact List.mem_cons_self
  | cons e l ih =>
    unfold putKey
    split
    · exact List.mem_cons_self
    · split
      · exact List.mem_cons_self
      · exact List.mem_cons_of_mem _ ih

theorem mem_putKey_of_ne {α : Type} {k j : Nat} (h : j ≠ k) (x y : α) (l : List (Nat × α)) : (j, y) ∈ putKey k x l ↔ (j, y) ∈ l := by
  induction l with
  | nil => simp [putKey, h]
  | cons e l ih =>
    obtain ⟨i, z⟩ := e
    unfold putKey
    split
    · simp [h]
    · split
      · next hi => simp [h, hi]
      · simp [ih]

theorem lookKey_putKey_self {α : Type} (k : Nat) (x : α) {l : List (Nat × α)} (hl : Rising l) : lookKey k (putKey k x l) = some x :=
  (lookKey_eq_some_iff (putKey_rising k x l hl)).mpr (mem_putKey_self k x l)

theorem lookKey_putKey_of_ne {α : Type} {k j : Nat} (h : j ≠ k) (x : α) {l : List (Nat × α)} (hl : Rising l) :
    lookKey j (putKey k x l) = lookKey j l := by
  ext y
  rw [lookKey_eq_some_iff (putKey_rising k x l hl), lookKey_eq_some_iff hl, mem_putKey_of_ne h]

theorem lookKey_dropKey_self {α : Type} (k : Nat) {l : List (Nat × α)} (hl : Rising l) : lookKey k (dropKey k l) = none := by
  ext y
  simp [lookKey_eq_some_iff (dropKey_rising k l hl), mem_dropKey]

theorem lookKey_dropKey_of_ne {α : Type} {k j : Nat} (h : j ≠ k) {l : List (Nat × α)} (hl : Rising l) :
    lookKey j (dropKey k l) = lookKey j l := by
  ext y
  rw [lookKey_eq_some_iff (dropKey_rising k l hl), lookKey_eq_some_iff hl, mem_dropKey, and_iff_left h]

theorem objVal_setVal_self {d : DictState} (index : Nat) {sub : Nat} (v : Val) (hd : d.wf) (hsub : sub < 256) :
    objVal (setVal d index sub v) index sub = v := by
  obtain ⟨hrising, _, _⟩ := hd
  simp only [objVal, setVal, objKey_div index hsub, objKey_mod index hsub]
  split
  · next hv => rw [lookKey_dropKey_self _ hrising, Option.getD_none, eq_of_beq hv]
  · rw [lookKey_putKey_self _ v hrising, Option.getD_some]

theorem objVal_setVal_of_ne {d : DictState} {i k index sub : Nat} (v : Val) (hd : d.wf) (hkey : objKey i k ≠ objKey index sub) :
    objVal (setVal d index sub v) i k = objVal d i k := by
  obtain ⟨hrising, _, _⟩ := hd
  simp only [objVal, setVal]
  split
  · rw [lookKey_dropKey_of_ne hkey hrising]
  · rw [lookKey_putKey_of_ne hkey v hrising]

/-- Settles O53: the entry of the object's key is the value, or none where the value is the Default; the entries of other keys stay. -/
theorem valuesInForceReadBack : Obligations.ValuesInForceReadBack := by
  unfold Obligations.ValuesInForceReadBack
  intro d index sub v hd hsub
  exact ⟨objVal_setVal_self index v hd hsub, fun i k hk hne => objVal_setVal_of_ne v hd (objKey_ne hk hsub hne)⟩

/-- Settles O5: the values in force are not in the frame of a command that brings no values into force. -/
theorem valuesChangeOnlyAtTheirMoments : Obligations.ValuesChangeOnlyAtTheirMoments := by
  unfold Obligations.ValuesChangeOnlyAtTheirMoments
  intro c s t hvalues ht
  obtain ⟨_, ht', hsame⟩ := exec_within_of_not_setsValues c s hvalues
  obtain rfl : t = _ := Host.Outcome.next.inj (ht.symm.trans ht')
  exact eq_of_sameBut (·.dict.vals) hsame fun x => if_neg (c := Part.values ∈ ordinaryParts) (t := []) (e := x.dict.vals) (by decide)

/-! Pending values (R77) -/

/-- Settles O54: a pending value leaves exactly if it is of the object and the moment of the one entered behind the others. -/
theorem latestCommitGoverns : Obligations.LatestCommitGoverns := by
  unfold Obligations.LatestCommitGoverns
  intro now l w
  refine ⟨List.getLast?_concat .., fun x hx hindex hsub hmoment => ?_, fun x hx hother => ?_⟩
  · rcases List.mem_append.mp hx with hx | hx
    · obtain ⟨_, hkept⟩ := List.mem_filter.mp hx
      simp [hindex, hsub, hmoment] at hkept
    · exact List.mem_singleton.mp hx
  · refine List.mem_append_left _ (List.mem_filter.mpr ⟨hx, ?_⟩)
    simpa [imp_iff_not_or, or_assoc] using hother

end Sys2Proof.Proofs.ObjectDictionary

/-! Proofs about the canonical form of the object dictionary (03_object_dictionary R63, R65; 20_startup_and_faults R491): the form speaks
of the values in force and the stored BOOT values alone, values come into force by `setVal`, BOOT values are stored by `appendBoot`, and
every step is made of these and of operations that leave both as they are. -/

namespace Sys2Proof.Proofs.CanonicalForm

open Sys2Proof Sys2Proof.Machine Sys2Proof.Proofs.Architecture

/-! What keeps the form at once -/

@[simp] theorem mem_besideDict (p : Part) : p ∈ besideDict ↔ p ≠ .values ∧ p ≠ .dict := by
  cases p <;> decide

/-- The canonical form does not speak of pending values and counts. -/
theorem canonical_of_dict {s t : State} (hs : Canonical s) (hvals : t.dict.vals = s.dict.vals)
    (hboot : t.dict.boot = s.dict.boot) : Canonical t := by
  unfold Canonical DictState.wf at *
  rwa [hvals, hboot]

/-- A dictionary without entries is in canonical form. -/
theorem canonical_of_nil {s : State} (hvals : s.dict.vals = []) (hboot : s.dict.boot = []) : Canonical s := by
  unfold Canonical DictState.wf
  rw [hvals, hboot]
  exact ⟨.nil, nofun, .nil⟩

/-! Pending values, and values that come into force -/

theorem bindPending_canonical {s : State} (hs : Canonical s) : Canonical (bindPending s) := canonical_of_dict hs rfl rfl

theorem stageValue_canonical {s : State} (hs : Canonical s) (index sub : Nat) (v : Val) : Canonical (stageValue s index sub v) :=
  canonical_of_dict hs rfl rfl

theorem stageGrid_canonical {s : State} (hs : Canonical s) (l : LayerSolve) (k : Nat) : Canonical (stageGrid l s k) :=
  canonical_of_dict hs rfl rfl

theorem commitGrids_canonical {s : State} (hs : Canonical s) : Canonical (commitGrids s) := by
  unfold commitGrids
  split
  · exact hs
  next l _ _ =>
    split
    · extract_lets r t
      have hr : Canonical r.1 := canonical_of_hide (by simp [r]) hs
      have ht : Canonical t := forI_canonical _ _ _
        (fun _ k hx => ite_canonical _ _ _ (fun _ => hx) (fun _ => stageGrid_canonical hx l k)) hr
      exact canonical_of_hide (by simp) ht
    · exact hs

theorem frameValues_canonical {s : State} (hs : Canonical s) (i : Nat) : Canonical (frameValues s i) :=
  foldl_wf _ _ _ (fun d w hd => setVal_wf d w.index w.sub w.val hd) hs

theorem frameStarts_canonical {s : State} (hs : Canonical s) (c v : Nat) : Canonical (frameStarts s c v) := by
  have hcut : Canonical (truncateOpen s c v) := canonical_of_hide (by simp) hs
  have hvalues := foldl_canonical (boundCtxs s.toBlocks c v) _ frameValues (fun _ i hx => frameValues_canonical hx i) hcut
  exact canonical_of_hide (by simp [frameStarts]) hvalues

theorem enterReset_canonical (s : State) (cause : Nat) : Canonical (enterReset s cause) := canonical_of_nil rfl rfl

theorem loseVaux_canonical (s : State) : Canonical (loseVaux s) := canonical_of_nil rfl rfl

theorem requestReset_canonical {s : State} (hs : Canonical s) : Canonical (requestReset s) :=
  ite_canonical _ _ _ (fun _ => enterReset_canonical s 3) (fun _ => hs)

theorem runCommand_beside {s : State} {w : PendingWrite} (h : w.index ≠ 0x1002) : (runCommand s w).hide besideDict = s.hide besideDict := by
  simp [runCommand, h]
  intros
  split <;> simp

/-- Of the commands only a reset asked for reaches the dictionary. -/
theorem runCommand_canonical {s : State} (hs : Canonical s) (w : PendingWrite) : Canonical (runCommand s w) := by
  by_cases h : w.index = 0x1002
  · have hrun : runCommand s w = requestReset s := if_pos (beq_iff_eq.mpr h)
    exact hrun ▸ requestReset_canonical hs
  · exact canonical_of_hide (runCommand_beside h) hs

theorem forceValue_canonical {s : State} (hs : Canonical s) (w : PendingWrite) : Canonical (forceValue s w) := by
  unfold forceValue
  split
  · exact canonical_of_hide (by simp) hs
  · have hset : Canonical (s.updDict (fun d => setVal d w.index w.sub w.val)) := setVal_wf s.dict w.index w.sub w.val hs
    exact canonical_of_hide (by simp) hset

theorem takeEffect_canonical {s : State} (hs : Canonical s) (w : PendingWrite) : Canonical (takeEffect s w) := by
  unfold takeEffect
  split
  · exact ite_canonical _ _ _ (fun _ => runCommand_canonical hs w) (fun _ => canonical_of_dict hs rfl rfl)
  · exact forceValue_canonical hs w

theorem idleFrames_canonical {s : State} (hs : Canonical s) : Canonical (idleFrames s) :=
  foldl_canonical _ _ _ (fun _ i hx => ite_canonical _ _ _ (fun _ => frameValues_canonical hx i) (fun _ => hx)) hs

theorem dictBoundary_canonical {s : State} (hs : Canonical s) (layer : Bool) : Canonical (dictBoundary layer s) := by
  unfold dictBoundary
  extract_lets before all due kept t u
  have hkept : Canonical (s.updDict (fun d => { d with pending := kept })) := canonical_of_dict hs rfl rfl
  have ht : Canonical t := foldl_canonical _ _ _ (fun _ w hx => takeEffect_canonical hx w) hkept
  have hu : Canonical u := canonical_of_hide (by simp [u]) (idleFrames_canonical ht)
  exact ite_canonical _ _ _ (fun _ => canonical_of_hide (by simp) hu) (fun _ => hu)

theorem jobAndValues_canonical {s : State} (hs : Canonical s) : Canonical (jobAndValues s) := by
  unfold jobAndValues
  extract_lets was t u layer v
  have hu : Canonical u := canonical_of_hide (by simp [u, t]) hs
  have hv : Canonical v := dictBoundary_canonical hu layer
  exact ite_canonical _ _ _ (fun _ => canonical_of_hide (by simp) hv) (fun _ => canonical_of_hide (by simp) hv)

theorem bootInForce_wf (f : FlashState) {d : DictState} (hd : d.wf) : (bootInForce f d).wf := by
  unfold bootInForce
  split
  · exact hd
  · refine foldl_wf _ _ _ (fun d x hd => ?_) hd
    split
    · split
      · exact setVal_wf _ _ _ _ hd
      · exact hd
    · exact hd

theorem crossPass_wf (l : List (Nat × Nat × Val × Nat)) {d : DictState} (hd : d.wf) : (crossPass l d).1.wf := by
  induction l generalizing d with
  | nil => exact hd
  | cons x l ih =>
    unfold crossPass
    split
    · exact ih hd
    · exact ih (setVal_wf _ _ _ _ hd)

theorem crossPasses_wf (n : Nat) (l : List (Nat × Nat × Val × Nat)) {d : DictState} (hd : d.wf) : (crossPasses n l d).1.wf := by
  induction n generalizing l d with
  | zero => exact hd
  | succ n ih =>
    unfold crossPasses
    dsimp only
    split
    · exact crossPass_wf l hd
    · exact ih _ (crossPass_wf l hd)

theorem loadPersisted_wf (f : FlashState) {d : DictState} (hd : d.wf) : (loadPersisted f d).1.wf := by
  unfold loadPersisted
  split
  · exact hd
  · exact crossPasses_wf _ _ (foldl_wf _ _ _ (fun d x hd => setVal_wf d _ _ _ hd) hd)

theorem endFlashPhase_canonical {s : State} (hs : Canonical s) : Canonical (endFlashPhase s) := by
  unfold endFlashPhase
  extract_lets t r late u v
  have ht : Canonical t := canonical_of_hide (by simp [t]) hs
  have hv : Canonical (v.updDict (fun _ => r.1)) := loadPersisted_wf t.flash ht
  exact ite_canonical _ _ _ (fun _ => canonical_of_dict hv rfl rfl) (fun _ => canonical_of_dict hv rfl rfl)

theorem finishPhase_canonical {s : State} (hs : Canonical s) (r : PhaseReport) : Canonical (finishPhase s r) := by
  unfold finishPhase
  split
  · exact canonical_of_hide (by simp) hs
  · exact endFlashPhase_canonical hs
  · exact hs

theorem loadCopy_canonical {s : State} (hs : Canonical s) : Canonical (loadCopy s) := by
  unfold loadCopy
  extract_lets w t u v
  have ht : Canonical t := foldl_canonical _ _ _ (fun _ o hx => forceValue_canonical hx _) hs
  have hu : Canonical u := canonical_of_dict ht rfl rfl
  exact canonical_of_hide (by simp [v]) hu

/-! Commits, and the requests that make them -/

theorem appendBoot_canonical {s : State} (hs : Canonical s) (index sub : Nat) (v : Val) : Canonical (appendBoot s index sub v) := by
  obtain ⟨hvals, hdefault, hboot⟩ := hs
  exact ⟨hvals, hdefault, putKey_rising _ v _ hboot⟩

theorem commitOne_canonical {s : State} (hs : Canonical s) (x : GroupWrite) : Canonical (commitOne s x) :=
  ite_canonical _ _ _ (fun _ => appendBoot_canonical (canonical_of_dict hs rfl rfl) x.1 x.2.1 _) (fun _ => canonical_of_dict hs rfl rfl)

theorem forwardedWrite_canonical {s : State} (hs : Canonical s) (delta commitTime : Nat) (o : ObjVal) :
    Canonical (forwardedWrite s delta commitTime o) :=
  ite_canonical _ _ _ (fun _ => appendBoot_canonical (canonical_of_dict hs rfl rfl) o.index o.sub _)
    (fun _ => ite_canonical _ _ _ (fun _ => canonical_of_dict hs rfl rfl) (fun _ => canonical_of_dict hs rfl rfl))

theorem countRefused_canonical {s : State} (hs : Canonical s) (n : Nat) : Canonical (countRefused s n) := canonical_of_dict hs rfl rfl

theorem commitAll_canonical {s : State} (hs : Canonical s) (l : List GroupWrite) (now : Nat) :
    Canonical (l.foldl commitOne (s.updDict (fun d => { d with lastCommit := now }))) :=
  foldl_canonical _ _ _ (fun _ x hx => commitOne_canonical hx x) (canonical_of_dict hs rfl rfl)

theorem commitGroup_canonical {s : State} (hs : Canonical s) (l : List GroupWrite) (response : Option GdpResponse) :
    Canonical (commitGroup s l response) :=
  canonical_of_hide (by simp [commitGroup]) (commitAll_canonical hs l s.localTime)

theorem hostWrite_canonical {s : State} (hs : Canonical s) (index sub : Nat) (data : Bytes) (clk : Nat) :
    Canonical (hostWrite s index sub data clk) := by
  have hclock : Canonical (s.atClock clk) := canonical_of_dict hs rfl rfl
  refine ite_canonical _ _ _ (fun _ => ?_) (fun _ => hs)
  unfold writeGroup
  split
  · exact countRefused_canonical hclock _
  · exact commitGroup_canonical hclock _ none

theorem closeTransfer_canonical {s : State} (hs : Canonical s) (h code : Nat) : Canonical (closeTransfer s h code) := by
  unfold closeTransfer
  split
  · exact hs
  · exact ite_canonical _ _ _ (fun _ => canonical_of_dict hs rfl rfl) (fun _ => canonical_of_dict hs rfl rfl)

theorem timeoutTransfer_canonical {s : State} (hs : Canonical s) (k : Nat) : Canonical (timeoutTransfer s k) := by
  unfold timeoutTransfer
  split
  · exact ite_canonical _ _ _ (fun _ => closeTransfer_canonical hs k _) (fun _ => hs)
  · exact hs

theorem serveWrite_canonical {s : State} (hs : Canonical s) (h : GdpHead) (items : List WriteItem) : Canonical (serveWrite h items s) := by
  unfold serveWrite
  split
  · exact canonical_of_hide (by simp) hs
  next first rest =>
    have hrefused := countRefused_canonical hs (first :: rest).length
    refine ite_canonical _ _ _ (fun _ => canonical_of_hide (by simp) hrefused) (fun _ => ?_)
    extract_lets l all answer t
    split
    · exact canonical_of_hide (by simp) hrefused
    · have hall : Canonical all := commitAll_canonical hs l s.localTime
      exact canonical_of_hide (by simp [t]) hall

theorem serveWriteOpen_canonical {s : State} (hs : Canonical s) (h : GdpHead) (index sub size crc : Nat) :
    Canonical (serveWriteOpen h index sub size crc s) := by
  unfold serveWriteOpen
  refine ite_canonical _ _ _ (fun _ => canonical_of_hide (by simp) (countRefused_canonical hs 1)) (fun _ => ?_)
  split
  · exact hs
  · exact canonical_of_hide (by simp) hs

theorem finishWrite_canonical {s : State} (hs : Canonical s) (h : GdpHead) (k : Nat) (x : BlockTransfer) :
    Canonical (finishWrite h k x s) := by
  have hfree : Canonical (setTransfer s k none) := canonical_of_dict hs rfl rfl
  unfold finishWrite
  refine ite_canonical _ _ _ (fun _ => canonical_of_hide (by simp) (countRefused_canonical hfree 1)) (fun _ => ?_)
  extract_lets l answer t
  split
  · exact canonical_of_hide (by simp) (countRefused_canonical hfree 1)
  · exact canonical_of_hide (by simp [t]) (commitGroup_canonical hfree l (some answer))

theorem serveSegment_canonical {s : State} (hs : Canonical s) (h : GdpHead) (handle segment : Nat) (data : Bytes) :
    Canonical (serveSegment h handle segment data s) := by
  unfold serveSegment
  split
  · exact canonical_of_hide (by simp) hs
  · extract_lets x t y
    have ht : Canonical t := canonical_of_dict hs rfl rfl
    refine ite_canonical _ _ _ (fun _ => canonical_of_hide (by simp) ht) (fun _ => ?_)
    refine ite_canonical _ _ _ (fun _ => canonical_of_hide (by simp) ht) (fun _ => ?_)
    exact ite_canonical _ _ _ (fun _ => finishWrite_canonical ht h handle y) (fun _ => canonical_of_hide (by simp) ht)

theorem serveBody_canonical {s : State} (hs : Canonical s) (h : GdpHead) (b : GdpBody) : Canonical (serveBody h b s) := by
  cases b with
  | write items => exact serveWrite_canonical hs h items
  | writeOpen index sub size crc => exact serveWriteOpen_canonical hs h index sub size crc
  | segment handle number data => exact serveSegment_canonical hs h handle number data
  | other => exact hs
  | _ => exact canonical_of_hide (by simp [serveBody]) hs

theorem serveRequest_canonical {s : State} (hs : Canonical s) (r : GdpRequest) : Canonical (serveRequest s r) := by
  unfold serveRequest
  refine ite_canonical _ _ _ (fun _ => canonical_of_hide (by simp) hs) (fun _ => ?_)
  refine ite_canonical _ _ _ (fun _ => canonical_of_hide (by simp) hs) (fun _ => ?_)
  split
  · exact serveBody_canonical hs r.head r.body
  · exact canonical_of_hide (by simp) hs

theorem serveSome_canonical (n : Nat) {s : State} (hs : Canonical s) : Canonical (serveSome n s) := by
  induction n generalizing s with
  | zero => exact hs
  | succ n ih =>
    unfold serveSome
    refine ite_canonical _ _ _ (fun _ => hs) (fun _ => ?_)
    split
    · exact hs
    · split
      · exact hs
      · exact ih (serveRequest_canonical (canonical_of_hide (by simp) hs) _)

theorem serveRequests_canonical {s : State} (hs : Canonical s) : Canonical (serveRequests s) := serveSome_canonical _ hs

theorem gdpRequest_canonical {s : State} (hs : Canonical s) (r : GdpRequest) : Canonical (gdpRequest s r) := by
  unfold gdpRequest
  refine ite_canonical _ _ _ (fun _ => hs) (fun _ => ?_)
  refine ite_canonical _ _ _ (fun _ => canonical_of_hide (by simp) hs) (fun _ => ?_)
  extract_lets p q _ u
  have hp : Canonical p.1 := canonical_of_hide (by simp [p]) hs
  have hu : Canonical u := ite_canonical _ _ _ (fun _ => canonical_of_dict hp rfl rfl) (fun _ => canonical_of_dict hp rfl rfl)
  exact ite_canonical _ _ _ (fun _ => hp) (fun _ => serveRequests_canonical (canonical_of_dict hu rfl rfl))

theorem gdpFrame_canonical {s : State} (hs : Canonical s) (h : GdpHead) (type min : Nat) (zero : Bool) (body : GdpBody) :
    Canonical (gdpFrame h type min zero body s) := gdpRequest_canonical (canonical_of_hide (by simp) hs) _

/-- A datagram goes by its port to the services of requests or of streams. -/
theorem message_canonical {s : State} (hs : Canonical s) (f : EthFrame) (dst : Nat) :
    Canonical (if dst == 47410 then gdpRequest s (gdpRequestOf s.toBlocks f) else lsPayload s f) :=
  ite_canonical _ _ _ (fun _ => gdpRequest_canonical hs _) (fun _ => canonical_of_hide (by simp) hs)

theorem frameArrives_canonical {s : State} (hs : Canonical s) (f : EthFrame) : Canonical (frameArrives s f) := by
  have hcounted : Canonical (countReceived s f.port) := canonical_of_hide (by simp) hs
  unfold frameArrives
  refine ite_canonical _ _ _ (fun _ => hs) (fun _ => ?_)
  refine ite_canonical _ _ _ (fun _ => canonical_of_hide (by simp) hcounted) (fun _ => ?_)
  dsimp only
  split
  · exact message_canonical hcounted f _
  · exact message_canonical hcounted f _
  · exact canonical_of_hide (by simp) hcounted

/-! The tick -/

theorem startUpClose_canonical {s : State} (hs : Canonical s) (a : Nat) : Canonical (startUpClose s a) := by
  unfold startUpClose
  refine ite_canonical _ _ _ (fun _ => hs) (fun _ => ?_)
  extract_lets t _
  have ht : Canonical t := canonical_of_dict hs rfl rfl
  have hstaged : Canonical (stageValue t (0x3200 + a) 0x02 (.int 1)) := stageValue_canonical ht _ _ _
  exact ite_canonical _ _ _ (fun _ => canonical_of_dict ht rfl rfl) (fun _ => canonical_of_hide (by simp) hstaged)

theorem releases_canonical {s : State} (hs : Canonical s) : Canonical (releases s) := by
  unfold releases
  extract_lets t u v
  have hv : Canonical v := canonical_of_hide (by simp [v, u, t]) hs
  exact forI_canonical _ _ _ (fun _ k hx => timeoutTransfer_canonical hx k) (canonical_of_hide (by simp) hv)

theorem dueReset_canonical {s : State} (hs : Canonical s) : Canonical (dueReset s) := by
  unfold dueReset
  split
  · exact ite_canonical _ _ _ (fun _ => enterReset_canonical s 3) (fun _ => hs)
  · exact hs

theorem boundary_canonical {s : State} (hs : Canonical s) (inp : TickInputs) : Canonical (boundary s inp) := by
  unfold boundary
  extract_lets t u
  have hu : Canonical u := canonical_of_hide (by simp [u, t]) hs
  exact dueReset_canonical (releases_canonical (jobAndValues_canonical hu))

theorem phaseThree_canonical {s : State} (hs : Canonical s) : Canonical (phaseThree s) := by
  have hdecided : Canonical (decideLayer s) := canonical_of_hide (by simp) hs
  have hclosed := forI_canonical 96 (decideLayer s) startUpClose (fun _ a hx => startUpClose_canonical hx a) hdecided
  exact canonical_of_hide (by simp [phaseThree]) hclosed

theorem finishTick_canonical {s : State} (hs : Canonical s) : Canonical (finishTick s) := by
  unfold finishTick
  refine ite_canonical _ _ _ (fun _ => hs) (fun _ => ?_)
  extract_lets t
  have ht : Canonical t := canonical_of_dict hs rfl rfl
  refine ite_canonical _ _ _ (fun _ => canonical_of_hide (by simp) ht) (fun _ => ?_)
  have hjudged : Canonical (phaseTwo (judgeArrivals t)) := canonical_of_hide (by simp) ht
  exact canonical_of_hide (by simp) (phaseThree_canonical hjudged)

theorem endTick_canonical {s : State} (hs : Canonical s) : Canonical (endTick s) := by
  unfold endTick
  extract_lets t u
  have ht : Canonical t := finishTick_canonical hs
  refine ite_canonical _ _ _ (fun _ => bindPending_canonical ht) (fun _ => ?_)
  have hdecided : Canonical (decisionPoint (forI 64 t slot2Frame)) := canonical_of_hide (by simp) ht
  have hu : Canonical u := canonical_of_hide (by simp [u]) (commitGrids_canonical hdecided)
  exact bindPending_canonical (canonical_of_hide (by simp) hu)

theorem tick_canonical {s : State} (hs : Canonical s) (inp : TickInputs) : Canonical (tick s inp) := by
  unfold tick
  refine ite_canonical _ _ _ (fun _ => canonical_of_hide (by simp) hs) (fun _ => ?_)
  refine ite_canonical _ _ _ (fun _ => hs) (fun _ => ?_)
  extract_lets t
  have hend : Canonical (endTick { s with out := [] }) := endTick_canonical hs
  have ht : Canonical t := boundary_canonical (canonical_of_hide (by simp) hend) inp
  refine ite_canonical _ _ _ (fun _ => ht) (fun _ => ?_)
  have hsnap : Canonical (drainEgress (snapshotBlocks t)) := canonical_of_hide (by simp) ht
  exact canonical_of_hide (by simp) (serveRequests_canonical hsnap)

theorem overrun_canonical {s : State} (hs : Canonical s) (m : Monitor) : Canonical (overrun s m) := by
  have hfinished : Canonical (finishTick s) := finishTick_canonical hs
  exact ite_canonical _ _ _ (fun _ => canonical_of_hide (by simp) hfinished) (fun _ => canonical_of_hide (by simp) hfinished)

/-! Memory words -/

theorem regionResult_canonical {s : State} (hs : Canonical s) (region item : Nat) : Canonical (regionResult s region item) := by
  unfold regionResult
  split
  case h_8 => exact closeTransfer_canonical hs item _
  all_goals exact canonical_of_hide (by simp) hs

theorem noteUncorrectable_canonical {s : State} (hs : Canonical s) (location address region foundBy item : Nat) :
    Canonical (noteUncorrectable s location address region foundBy item) := by
  unfold noteUncorrectable
  extract_lets t work u
  have hu : Canonical u := canonical_of_dict hs rfl rfl
  exact canonical_of_dict (regionResult_canonical hu region item) rfl rfl

theorem scrubWord_canonical {s : State} (hs : Canonical s) (target address region : Nat) (word : List Nat) :
    Canonical (scrubWord s target address region word) := by
  unfold scrubWord
  refine ite_canonical _ _ _ (fun _ => hs) (fun _ => ?_)
  extract_lets bad word t u
  have hu : Canonical u := canonical_of_hide (by simp [u, t]) hs
  split
  · exact hu
  · exact canonical_of_hide (by simp) hu
  · exact noteUncorrectable_canonical hu target address region 1 0

theorem uncorrectableWord_canonical {s : State} (hs : Canonical s) (location address region foundBy item : Nat) :
    Canonical (uncorrectableWord s location address region foundBy item) := by
  unfold uncorrectableWord
  extract_lets t
  have ht : Canonical t := noteUncorrectable_canonical hs location address region foundBy item
  refine ite_canonical _ _ _ (fun _ => ?_) (fun _ => ht)
  split
  · exact overrun_canonical ht _
  · exact ht

/-! Every step -/

/-- The outcome is a next state in canonical form. -/
def CanonicalNext (o : Host.Outcome State Fault Refusal) : Prop := ∃ t, o = .next t ∧ Canonical t

theorem canonicalNext {t : State} (ht : Canonical t) : CanonicalNext (.next t) := ⟨t, rfl, ht⟩

theorem execDieWarning_canonical {s : State} (hs : Canonical s) : CanonicalNext (execDieWarning s) := by
  unfold execDieWarning
  split
  · exact canonicalNext hs
  · exact canonicalNext (canonical_of_hide (by simp) hs)

theorem execCalibrationCommit_canonical {s : State} (hs : Canonical s) (j : Fin 81) (sum0 sumF : Int) :
    CanonicalNext (execCalibrationCommit j sum0 sumF s) := by
  unfold execCalibrationCommit
  split
  · exact canonicalNext hs
  · exact canonicalNext (canonical_of_dict hs rfl rfl)

theorem execCalibrationComplete_canonical {s : State} (hs : Canonical s) (j : Fin 81) (sum0 sumF : Int) :
    CanonicalNext (execCalibrationComplete j sum0 sumF s) := by
  unfold execCalibrationComplete
  dsimp only
  split
  · exact canonicalNext hs
  · exact canonicalNext (canonical_of_dict hs rfl rfl)

theorem execPowerSequenceStepTimeout_canonical {s : State} (hs : Canonical s) (rail : Fin 6) :
    CanonicalNext (execPowerSequenceStepTimeout rail s) := by
  unfold execPowerSequenceStepTimeout
  split
  · exact canonicalNext (canonical_of_dict hs rfl rfl)
  · exact canonicalNext hs

theorem execImageProgramComplete_canonical {s : State} (hs : Canonical s) (verified : Bool) :
    CanonicalNext (execImageProgramComplete verified s) := by
  unfold execImageProgramComplete
  split
  · split
    · exact canonicalNext (canonical_of_dict hs rfl rfl)
    · exact canonicalNext (canonical_of_hide (by simp) hs)
  · exact canonicalNext hs

theorem execPowerSequenceStep_canonical {s : State} (hs : Canonical s) : CanonicalNext (execPowerSequenceStep s) := by
  unfold execPowerSequenceStep
  split
  · split
    · exact canonicalNext hs
    · split
      · exact canonicalNext (canonical_of_dict hs rfl rfl)
      · split
        · exact canonicalNext hs
        · have hboot : Canonical (s.updDict (bootInForce s.flash)) := bootInForce_wf s.flash hs
          exact canonicalNext (ite_canonical _ _ _ (fun _ => canonical_of_dict hboot rfl rfl) (fun _ => canonical_of_dict hboot rfl rfl))
  · exact canonicalNext hs

theorem execFrameStart_canonical {s : State} (hs : Canonical s) (c : Fin 20) (vc : Fin 4) (h : CsiHeader) :
    CanonicalNext (execFrameStart c vc h s) := by
  have hheader : Canonical (checkHeader (s.atClock h.clk) c vc h).1 := canonical_of_hide (by simp) hs
  refine canonicalNext (ite_canonical _ _ _ (fun _ => ?_) (fun _ => hs))
  exact ite_canonical _ _ _ (fun _ => frameStarts_canonical hheader c vc) (fun _ => hheader)

theorem execLockstepEntry_canonical {s : State} (hs : Canonical s) (image : StateImage) : CanonicalNext (execLockstepEntry image s) := by
  refine canonicalNext (ite_canonical _ _ _ (fun _ => hs) (fun _ => ?_))
  exact ite_canonical _ _ _ (fun _ => canonical_of_hide (by simp) hs) (fun _ => canonical_of_hide (by simp) (loadCopy_canonical hs))

theorem execPeerWrite_canonical {s : State} (hs : Canonical s) (valid : Bool) (sequence : Nat) (items : List ObjVal)
    (commitTime boundary : Nat) (response : Option GdpResponse) :
    CanonicalNext (execPeerWrite valid sequence items commitTime boundary response s) := by
  refine canonicalNext (ite_canonical _ _ _ (fun _ => canonical_of_hide (by simp) hs) (fun _ => ?_))
  refine ite_canonical _ _ _ (fun _ => canonical_of_hide (by simp) hs) (fun _ => ?_)
  extract_lets t delta u v w
  have ht : Canonical t := canonical_of_hide (by simp [t]) hs
  have hu : Canonical u := canonical_of_dict ht rfl rfl
  have hv : Canonical v := foldl_canonical _ _ _ (fun _ o hx => forwardedWrite_canonical hx delta commitTime o) hu
  refine ite_canonical _ _ _ (fun _ => ht) (fun _ => ?_)
  split
  · exact canonical_of_dict hv rfl rfl
  · exact canonical_of_dict hv rfl rfl

theorem execAck_canonical {s : State} (hs : Canonical s) (valid : Bool) (type sequence : Nat) :
    CanonicalNext (execAck valid type sequence s) := by
  refine canonicalNext (ite_canonical _ _ _ (fun _ => canonical_of_hide (by simp) hs) (fun _ => ?_))
  refine ite_canonical _ _ _ (fun _ => canonical_of_hide (by simp) hs) (fun _ => ?_)
  dsimp only
  split
  · exact canonical_of_hide (by simp) hs
  · split
    · exact serveRequests_canonical (canonical_of_hide (by simp) hs)
    · exact canonical_of_hide (by simp) hs

theorem execRailOutsideWindow_canonical {s : State} (hs : Canonical s) (rail : Fin 6) : CanonicalNext (execRailOutsideWindow rail s) := by
  refine canonicalNext (ite_canonical _ _ _ (fun _ => canonical_of_hide (by simp) hs) (fun _ => ?_))
  refine ite_canonical _ _ _ (fun _ => loseVaux_canonical s) (fun _ => ?_)
  refine ite_canonical _ _ _ (fun _ => hs) (fun _ => ?_)
  exact ite_canonical _ _ _ (fun _ => enterReset_canonical s 0) (fun _ => canonical_of_hide (by simp) hs)

theorem execHoldUpExpiry_canonical {s : State} (hs : Canonical s) : CanonicalNext (execHoldUpExpiry s) := by
  refine canonicalNext ?_
  split
  · exact ite_canonical _ _ _ (fun _ => enterReset_canonical s 2) (fun _ => hs)
  · exact hs

theorem execGridUpdateCommit_canonical {s : State} (hs : Canonical s) : CanonicalNext (execGridUpdateCommit s) := by
  refine canonicalNext ?_
  split
  · exact ite_canonical _ _ _ (fun _ => commitGrids_canonical (canonical_of_dict hs rfl rfl)) (fun _ => hs)
  · exact hs

/-- Every command keeps the canonical form: the dictionary is not in its frame, or changes by the operations above alone. -/
theorem exec_canonical {s : State} (c : Instr) (hs : Canonical s) : CanonicalNext (exec c s) := by
  cases c with
  | localTimeSet | objectWrite | resetRequest | hostLaserEnable | channelStop | rejoin | axisClose | axisOpen | axisClearFault
  | clearAmplitudeMarks | manualTrigger | i2cRequest | streamingEnable | snapshotArm | portEnable | portCommand | nodeRequest | pairCommand
  | moveRequest | retarget | setPosition | halt | stop | home | stepperClearFault | stringEnable | clearFailedLamps | rleStart | rleResume
  | rleUnload | switchOff | switchOn | resetTrip | calibrationCommand | errorInjection | activate | save
  | clearObjectsAndTables | clearAll | acknowledge | clearRing => exact canonicalNext (hostWrite_canonical hs _ _ _ _)
  | read | write | blockReadOpen | blockReadSegments | blockWriteOpen | blockWriteSegment | blockClose | subscribe | unsubscribe =>
    exact canonicalNext (gdpFrame_canonical hs _ _ _ _ _)
  | ethernetFrameReceived f => exact canonicalNext (frameArrives_canonical hs f)
  | blockTransferTimeout k => exact canonicalNext (timeoutTransfer_canonical hs k)
  | tickBoundary inp => exact canonicalNext (tick_canonical hs inp)
  | arrivalCutoff => exact canonicalNext (finishTick_canonical hs)
  | overrun m => exact canonicalNext (ite_canonical _ _ _ (fun _ => overrun_canonical hs m) (fun _ => hs))
  | applyPoint => exact canonicalNext (canonical_of_dict hs rfl rfl)
  | startUpClose a => exact canonicalNext (startUpClose_canonical hs a)
  | scrub target address region word => exact canonicalNext (scrubWord_canonical hs target address region (loadWord word))
  | uncorrectableWord location address region foundBy item =>
    exact canonicalNext (uncorrectableWord_canonical hs location address region foundBy item)
  | dieShutdown => exact canonicalNext (enterReset_canonical s 4)
  | vaux33Loss => exact canonicalNext (loseVaux_canonical s)
  | resetN => exact canonicalNext (enterReset_canonical s 1)
  | watchdogExpiry => exact canonicalNext (enterReset_canonical s 5)
  | powerOn | testEnRise | testEnFall => exact canonicalNext (canonical_of_nil rfl rfl)
  | dieWarning => exact execDieWarning_canonical hs
  | calibrationCommit j sum0 sumF => exact execCalibrationCommit_canonical hs j sum0 sumF
  | calibrationComplete j sum0 sumF => exact execCalibrationComplete_canonical hs j sum0 sumF
  | powerSequenceStepTimeout rail => exact execPowerSequenceStepTimeout_canonical hs rail
  | imageProgramComplete verified => exact execImageProgramComplete_canonical hs verified
  | i2cTransactionComplete | clockStretchTimeout | initScriptEntryDone | echoResponse | configWriteResponse | serviceFrameTimeout
  | nodeHoldDeadline | state | handOver | startUpGroup =>
    exact canonicalNext (canonical_of_hide (by (repeat' split) <;> simp) hs)
  | imageUpload image crc clk =>
    exact canonicalNext (ite_canonical _ _ _ (fun _ => countRefused_canonical hs 1) (fun _ => hostWrite_canonical hs _ _ _ _))
  | gridUpdateCommit => exact execGridUpdateCommit_canonical hs
  | frameStart c vc h => exact execFrameStart_canonical hs c vc h
  | lockstepEntry image => exact execLockstepEntry_canonical hs image
  | peerWrite valid sequence items commitTime boundary response =>
    exact execPeerWrite_canonical hs valid sequence items commitTime boundary response
  | ack valid type sequence => exact execAck_canonical hs valid type sequence
  | peerAckTimeout => exact canonicalNext (serveRequests_canonical (canonical_of_hide (by simp) hs))
  | railOutsideWindow rail => exact execRailOutsideWindow_canonical hs rail
  | railFaultPersists => exact canonicalNext (ite_canonical _ _ _ (fun _ => enterReset_canonical s 0) (fun _ => hs))
  | powerSequenceStep => exact execPowerSequenceStep_canonical hs
  | holdUpExpiry => exact execHoldUpExpiry_canonical hs
  | startupPhaseComplete r =>
    exact canonicalNext (ite_canonical _ _ _ (fun _ => canonical_of_hide (by simp) (finishPhase_canonical hs r)) (fun _ => hs))
  | _ => exact canonicalNext (canonical_of_hide (by simp) hs)

/-- Settles O8: at reset no value differs from its Default and none is stored. -/
theorem dictionaryIsCanonicalAtReset : Obligations.DictionaryIsCanonicalAtReset := by
  unfold Obligations.DictionaryIsCanonicalAtReset
  exact canonical_of_nil rfl rfl

/-- Settles O7: an empty queue changes nothing, and the command at the front keeps the form of the state with the queue's rest. -/
theorem stepsKeepTheDictionaryCanonical : Obligations.StepsKeepTheDictionaryCanonical := by
  unfold Obligations.StepsKeepTheDictionaryCanonical
  intro s t hs ht
  unfold step at ht
  split at ht
  · exact Host.Outcome.next.inj ht ▸ hs
  next c rest _ =>
    obtain ⟨t', ht', hcanonical⟩ := exec_canonical (s := s.withPending rest) c hs
    exact Host.Outcome.next.inj (ht'.symm.trans ht) ▸ hcanonical

end Sys2Proof.Proofs.CanonicalForm

/-! Proofs about block transfers (03_object_dictionary R80, R87; 04_host_link R103–R105). -/

namespace Sys2Proof.Proofs.BlockTransfers

open Sys2Proof Sys2Proof.Machine Sys2Proof.Proofs.Scope Sys2Proof.Proofs.Architecture Sys2Proof.Proofs.Timebase Sys2Proof.Proofs.HostLink

/-! The transfer of a handle -/

theorem freeHandle_congr {s t : Blocks} (h : t.host.transfers = s.host.transfers) : freeHandle t = freeHandle s := by
  rw [freeHandle, freeHandle, h]

theorem transferOf_congr {s t : Blocks} (h : t.host.transfers = s.host.transfers) (k : Nat) (writing : Bool) :
    transferOf t k writing = transferOf s k writing := by
  rw [transferOf, transferOf, h]

theorem lt_of_freeHandle {s : Blocks} {k : Nat} (h : freeHandle s = some k) : k < 4 := List.mem_range.mp (List.mem_of_find?_eq_some h)

theorem lt_of_transferOf {s : Blocks} {k : Nat} {writing : Bool} {x : BlockTransfer} (h : transferOf s k writing = some x) : k < 4 := by
  unfold transferOf at h
  split at h
  · assumption
  · cases h

/-- What a handle holds last is what it holds. -/
theorem setTransfer_setTransfer (s : State) (k : Nat) (x y : Option BlockTransfer) :
    setTransfer (setTransfer s k x) k y = setTransfer s k y := by
  simp only [setTransfer, State.updHost, updI_updI]

theorem transfers_eq_of_traffic {s t : State} (h : Traffic s t) : t.host.transfers = s.host.transfers :=
  h.service HostState.transfers fun _ => rfl

theorem arrived_transfers (s : State) (h : GdpHead) : (arrived s h).host.transfers = s.host.transfers :=
  (traffic_arrived s h).service HostState.transfers fun _ => rfl

theorem arrived_now (s : State) (h : GdpHead) : (arrived s h).now = s.now := (traffic_arrived s h).now

/-- A handle holds what a request sets it to, once the host link has sent the answers. -/
theorem getI_transfers_of_traffic {s t : State} {k : Nat} {x : Option BlockTransfer} (hk : k < 4) (h : Traffic (setTransfer s k x) t) :
    getI t.host.transfers k = x := by
  rw [transfers_eq_of_traffic h]
  exact getI_updI_self _ _ hk _

theorem getI_transfers_answer {k : Nat} (hk : k < 4) (s : State) (x : Option BlockTransfer) (h : GdpHead) (type status position : Nat)
    (body : Bytes) : getI (answer (setTransfer s k x) h type status position body).host.transfers k = x :=
  getI_transfers_of_traffic hk (traffic_answer _ h type status position body)

/-- The answer to a request that sets a handle. -/
theorem answer_setTransfer_out {s : State} {h : GdpHead} {type status position : Nat} {body : Bytes} (k : Nat) (x : Option BlockTransfer)
    (hkind : type ||| 0x80 ≠ 0x84 ∨ status ≠ 0) (hanswer : Answerable s h (16 + body.length)) :
    (answer (setTransfer (arrived s h) k x) h type status position body).out = s.out ++ [answerFrame s h type status position body] :=
  answer_arrived_out (f := fun y => { y with transfers := updI y.transfers k (fun _ => x), closed := updI y.closed k (fun _ => default) })
    (fun _ => rfl) (fun _ => rfl) hkind hanswer

/-! Bodies of requests and answers (Table 4.4) -/

@[simp] theorem handleBytes_length (k : Nat) : (handleBytes k).length = 4 := by
  simp [handleBytes]

@[simp] theorem segmentBody_length (k next time boundary : Nat) : (segmentBody k next time boundary).length = 24 := by
  simp [segmentBody]

/-- A segment has at most 1,024 octets. -/
theorem segmentOf_length_le (x : BlockTransfer) (k seg : Nat) : (segmentOf x k seg).length ≤ 1032 := by
  simp only [segmentOf, slice, List.length_append, handleBytes_length, leBytes_length, List.length_take]
  omega

/-! Requests served -/

theorem serveReadOpen_of_free {s : State} {index sub k : Nat} {b : Bytes} (hread : readObject s index sub true = .ok b)
    (hfree : freeHandle s.toBlocks = some k) (h : GdpHead) :
    serveReadOpen h index sub s =
      answer (setTransfer s k (some
        { writing := false, src := h.src, index, sub, size := b.length, crc := crc32c b, next := 0, data := b, lastTick := s.now }))
        h 3 0 0xFFFF (handleBytes k ++ leBytes 4 b.length ++ leBytes 4 (crc32c b)) := by
  simp only [serveReadOpen, hread, hfree]

theorem serveWriteOpen_of_free {s : State} {index sub size k : Nat} (hcode : writeOpenCode s.toBlocks index sub size = 0)
    (hfree : freeHandle s.toBlocks = some k) (h : GdpHead) (crc : Nat) :
    serveWriteOpen h index sub size crc s =
      answer (setTransfer s k (some { writing := true, src := h.src, index, sub, size, crc, next := 0, data := [], lastTick := s.now }))
        h 5 0 0xFFFF (handleBytes k) := by
  simp only [serveWriteOpen, hcode, hfree, bne_self_eq_false, Bool.false_eq_true, if_false]

/-- A segment in its turn that is not the last is gathered. -/
theorem serveSegment_of_next {s : State} {handle : Nat} {data : Bytes} {x : BlockTransfer}
    (hx : transferOf s.toBlocks handle true = some x) (hlen : data.length = Nat.min 1024 (x.size - 1024 * x.next))
    (hmore : 1024 * (x.next + 1) < x.size) (h : GdpHead) :
    serveSegment h handle x.next data s =
      answer (setTransfer s handle (some { x with next := x.next + 1, data := x.data ++ data, lastTick := s.now })) h 6 0 0xFFFF
        (segmentBody handle (x.next + 1) 0 0) := by
  simp only [serveSegment, hx, hlen, bne_self_eq_false, Bool.false_eq_true, if_false, if_neg (Nat.not_le.mpr hmore),
    setTransfer_setTransfer]

/-- A segment out of its turn is refused with the number of the one expected. -/
theorem serveSegment_of_other {s : State} {handle segment : Nat} {x : BlockTransfer} (hx : transferOf s.toBlocks handle true = some x)
    (hother : segment ≠ x.next) (h : GdpHead) (data : Bytes) :
    serveSegment h handle segment data s =
      answer (setTransfer s handle (some { x with lastTick := s.now })) h 6 0x05010001 0xFFFF
        (segmentBody handle x.next 0 0 ++ leBytes 2 x.index ++ leBytes 1 x.sub ++ [0]) := by
  have htable : concerned { x with lastTick := s.now } 0x05010001 = leBytes 2 x.index ++ leBytes 1 x.sub ++ [0] := rfl
  simp only [serveSegment, hx, bne_iff_ne.mpr hother, if_true, htable, List.append_assoc]

theorem serveClose_of_held {s : State} {handle : Nat} (hlt : handle < 4) (hheld : (getI s.host.transfers handle).isSome = true)
    (h : GdpHead) : serveClose h handle s = answer (setTransfer s handle none) h 7 0 0xFFFF (handleBytes handle) := by
  simp only [serveClose, hheld, decide_eq_true hlt, Bool.and_self, if_true]

/-! Segments of a read copy (R103, R105) -/

theorem sendable_of_le {s : Blocks} {queue : Nat} {port : Fin 2} {dst : Src} {len longer : Nat} (hle : len ≤ longer)
    (h : Sendable s queue port dst longer) : Sendable s queue port dst len := by
  obtain ⟨hready, hfamily, hresolved, hwaiting, hroom⟩ := h
  have hspace : (getI s.queues queue).placed + longer ≤ 65536 := of_decide_eq_true hroom
  exact ⟨hready, hfamily, hresolved, hwaiting, decide_eq_true (by omega)⟩

/-- A message that leaves at once takes its length from the space of its queue. -/
theorem sendable_sendUdp {s : State} {queue : Nat} {port : Fin 2} {dst : Src} {payload : Bytes} {rest : Nat} (hqueue : queue < 64)
    (h : Sendable s.toBlocks queue port dst (payload.length + rest)) (localPort : Nat) :
    Sendable (sendUdp s queue port localPort dst payload).toBlocks queue port dst rest := by
  have hsame := (traffic_sendUdp s queue port localPort dst payload).toSamePorts
  have hsend : Sendable s.toBlocks queue port dst payload.length := sendable_of_le (by omega) h
  obtain ⟨hready, hfamily, hresolved, hwaiting, hroom⟩ := h
  have hspace : (getI s.queues queue).placed + (payload.length + rest) ≤ 65536 := of_decide_eq_true hroom
  refine ⟨hsame.portReady port ▸ hready, hsame.familyInUse port _ ▸ hfamily, ?_, ?_, ?_⟩
  · rw [hsame.nextHop, hsame.resolved]
    exact hresolved
  · rw [sendUdp_of_sendable hsend]
    exact hwaiting
  · have hplaced : (getI (sendUdp s queue port localPort dst payload).queues queue).placed =
        (getI s.queues queue).placed + payload.length := by
      rw [sendUdp_of_sendable hsend]
      exact congrArg QueueStat.placed (getI_updI_self _ _ hqueue _)
    rw [roomIn, hplaced]
    exact decide_eq_true (by omega)

/-- The responses held for repeats take no space from a queue. -/
theorem sendable_setReplay {s : State} {queue : Nat} {port : Fin 2} {dst : Src} {len : Nat} (l : List GdpResponse)
    (h : Sendable s.toBlocks queue port dst len) :
    Sendable (s.updHost (fun x => { x with replay := l })).toBlocks queue port dst len :=
  sendable_congr (traffic_setReplay s l).toSamePorts rfl rfl h

/-- The queue of the segments of a read copy (Table 1.4). -/
def segmentQueue (port : Fin 2) : Nat := if port = 0 then 51 else 55

theorem segmentQueue_lt (port : Fin 2) : segmentQueue port < 64 := by
  match port with
  | 0 => decide
  | 1 => decide

theorem segmentQueue_ne_requestQueue (port : Fin 2) : segmentQueue port ≠ requestQueue port := by
  match port with
  | 0 => decide
  | 1 => decide

theorem responseQueue_segment (h : GdpHead) (position : Nat) (body : Bytes) :
    responseQueue h.port (response h 4 0 position body) = segmentQueue h.port := by
  have hport : ∀ port : Fin 2, 51 + (if port == 0 then 0 else 4) = segmentQueue port := by decide
  exact hport h.port

/-- A segment with space for it leaves at once, and the others keep their space. -/
theorem segment_sent {s : State} {h : GdpHead} {body : Bytes} {rest : Nat} (hbody : body.length ≤ 1032)
    (hsend : Sendable s.toBlocks (segmentQueue h.port) h.port h.src (1048 + rest)) :
    (sendResponse s (response h 4 0 0xFFFF body)).out = s.out ++ [answerFrame s h 4 0 0xFFFF body] ∧
      Sendable (sendResponse s (response h 4 0 0xFFFF body)).toBlocks (segmentQueue h.port) h.port h.src rest := by
  have hlen : (gdpBytes (response h 4 0 0xFFFF body)).length = 16 + body.length := gdpBytes_length _
  have hfits : Sendable s.toBlocks (segmentQueue h.port) h.port h.src ((gdpBytes (response h 4 0 0xFFFF body)).length + rest) :=
    sendable_of_le (by omega) hsend
  have hqueue := responseQueue_segment h 0xFFFF body
  have hport : (response h 4 0 0xFFFF body).port = h.port := rfl
  refine ⟨?_, ?_⟩
  · rw [sendResponse_out, sendGdp, hport, hqueue]
    exact sendUdp_out (sendable_of_le (by omega) hfits) 47410
  · have hsent : Sendable (sendGdp s h.port (response h 4 0 0xFFFF body)).toBlocks (segmentQueue h.port) h.port h.src rest := by
      rw [sendGdp, hqueue]
      exact sendable_sendUdp (segmentQueue_lt h.port) hfits 47410
    unfold sendResponse
    exact sendable_setReplay _ hsent

/-- Segments with space for all of them leave one after another. -/
theorem segments_out {h : GdpHead} {body : Nat → Bytes} (hbody : ∀ i, (body i).length ≤ 1032) (l : List Nat) {s : State}
    (hsend : Sendable s.toBlocks (segmentQueue h.port) h.port h.src (1048 * l.length)) :
    (l.foldl (fun s i => sendResponse s (response h 4 0 0xFFFF (body i))) s).out =
      s.out ++ l.map (fun i => answerFrame s h 4 0 0xFFFF (body i)) := by
  induction l generalizing s with
  | nil => exact (List.append_nil _).symm
  | cons i l ih =>
    obtain ⟨hout, hrest⟩ := segment_sent (rest := 1048 * l.length) (hbody i) (sendable_of_le (by rw [List.length_cons]; omega) hsend)
    have hsame := (traffic_sendResponse s (response h 4 0 0xFFFF (body i))).toSamePorts
    rw [List.foldl_cons, ih hrest, hout, List.map_cons, List.append_assoc, List.singleton_append]
    simp only [answerFrame, hsame.vlanTag]

/-- A read copy with a segment just read. -/
def readOn (s : State) (handle : Nat) (x : BlockTransfer) : State := noteServed (setTransfer s handle (some { x with lastTick := s.now }))

/-- Segments that the copy has are all sent. -/
theorem serveSegments_of_held {s : State} {handle count first : Nat} {x : BlockTransfer} (hpos : 1 ≤ count) (hmax : count ≤ 32)
    (hx : transferOf s.toBlocks handle false = some x) (hheld : first + count ≤ (x.size + 1023) / 1024) (h : GdpHead) :
    serveSegments h handle count first s = (List.range count).foldl
      (fun s i => sendResponse s (response h 4 0 0xFFFF (segmentOf x handle (first + i)))) (readOn s handle x) := by
  have hcount : (decide (count = 0) || decide (32 < count)) = false := by
    rw [Bool.or_eq_false_iff, decide_eq_false_iff_not, decide_eq_false_iff_not]
    omega
  have hall : (List.range count).filter (fun i => decide (first + i < (x.size + 1023) / 1024)) = List.range count := by
    refine List.filter_eq_self.mpr fun i hi => decide_eq_true ?_
    have := List.mem_range.mp hi
    omega
  simp only [serveSegments, hcount, hx, hall, Bool.false_eq_true, if_false, if_pos hheld, readOn]

theorem samePorts_readOn_arrived (s : State) (h : GdpHead) (handle : Nat) (x : BlockTransfer) :
    SamePorts s (readOn (arrived s h) handle x) := ⟨(traffic_arrived s h).dict, (traffic_arrived s h).port⟩

theorem readOn_arrived_sendable {s : State} {h : GdpHead} {len : Nat} (handle : Nat) (x : BlockTransfer)
    (hsend : Sendable s.toBlocks (segmentQueue h.port) h.port h.src len) :
    Sendable (readOn (arrived s h) handle x).toBlocks (segmentQueue h.port) h.port h.src len :=
  sendable_congr (samePorts_readOn_arrived s h handle x) (arrived_egress s h)
    (arrived_queue s h (segmentQueue_ne_requestQueue h.port)) hsend

theorem readOn_arrived_out (s : State) (h : GdpHead) (handle : Nat) (x : BlockTransfer) : (readOn (arrived s h) handle x).out = s.out :=
  arrived_out s h

/-! A transfer without a segment (R80) -/

theorem timeoutTransfer_of_due {s : State} {k : Nat} {x : BlockTransfer} (hx : getI s.host.transfers k = some x)
    (hdue : x.lastTick + 100000 ≤ s.now) : timeoutTransfer s k = closeTransfer s k 0x05010003 := by
  simp only [timeoutTransfer, hx, if_pos hdue]

theorem closeTransfer_of_held {s : State} {k : Nat} {x : BlockTransfer} (hx : getI s.host.transfers k = some x) (code : Nat) :
    (closeTransfer s k code).host = { s.host with
      transfers := updI s.host.transfers k (fun _ => none)
      closed := updI s.host.closed k (fun _ => { code, index := x.index, sub := x.sub }) } ∧
    (closeTransfer s k code).dict.rejected = if x.writing then inc32 s.dict.rejected else s.dict.rejected := by
  simp only [closeTransfer, hx]
  split <;> exact ⟨rfl, rfl⟩

/-- Settles O20: a request that is heard is served on the state in which it has arrived, whose transfers are those before; a handle holds
what the request sets it to, and the segments of a copy leave one after another as Q51 or Q55 has space for them all. -/
theorem blockTransfersComplete : Obligations.BlockTransfersComplete := by
  unfold Obligations.BlockTransfersComplete
  refine ⟨fun s h index sub k b hheard hanswer hread hfree => ?readOpen,
    fun s h handle count first x hheard hpos hmax hx hheld hsend => ?segments,
    fun s h index sub size crc k hheard hanswer hcode hfree => ?writeOpen,
    fun s h handle segment data x hheard hanswer hx hturn hlen hmore => ?gathered,
    fun s h handle segment data x hheard hanswer hx hother => ?refused,
    fun s h handle hheard hanswer hlt hheld => ?close, fun s k x hx hdue => ?timeout⟩
  case readOpen =>
    have hrun := gdpFrame_of_heard hheard 3 (.readOpen index sub)
    have hserve := serveReadOpen_of_free hread ((freeHandle_congr (arrived_transfers s h)).trans hfree) h
    rw [arrived_now] at hserve
    refine ⟨_, congrArg Host.Outcome.next (hrun.trans hserve), by simp [sameBut], ?_, ?_⟩
    · exact getI_transfers_answer (lt_of_freeHandle hfree) ..
    · exact answer_setTransfer_out k _ (by decide) (by simpa using hanswer)
  case segments =>
    have hrun := gdpFrame_of_heard hheard 4 (.segments handle count first)
    have hserve := serveSegments_of_held hpos hmax ((transferOf_congr (arrived_transfers s h) handle false).trans hx) hheld h
    refine ⟨_, congrArg Host.Outcome.next (hrun.trans hserve), by simp [sameBut, readOn], ?_⟩
    have hspace : Sendable (readOn (arrived s h) handle x).toBlocks (segmentQueue h.port) h.port h.src
        (1048 * (List.range count).length) := by
      rw [List.length_range]
      exact readOn_arrived_sendable handle x hsend
    have hframe : ∀ body, answerFrame (readOn (arrived s h) handle x) h 4 0 0xFFFF body = answerFrame s h 4 0 0xFFFF body := fun body => by
      rw [answerFrame, answerFrame, (samePorts_readOn_arrived s h handle x).vlanTag]
    have hsent := segments_out (fun i => segmentOf_length_le x handle (first + i)) (List.range count) hspace
    rw [readOn_arrived_out] at hsent
    simpa only [hframe] using hsent
  case writeOpen =>
    have hrun := gdpFrame_of_heard hheard 5 (.writeOpen index sub size crc)
    have hserve := serveWriteOpen_of_free hcode ((freeHandle_congr (arrived_transfers s h)).trans hfree) h crc
    rw [arrived_now] at hserve
    refine ⟨_, congrArg Host.Outcome.next (hrun.trans hserve), by simp [sameBut], ?_, ?_⟩
    · exact getI_transfers_answer (lt_of_freeHandle hfree) ..
    · exact answer_setTransfer_out k _ (by decide) (by simpa using hanswer)
  case gathered =>
    subst hturn
    have hrun := gdpFrame_of_heard hheard 6 (.segment handle x.next data)
    have hserve := serveSegment_of_next ((transferOf_congr (arrived_transfers s h) handle true).trans hx) hlen hmore h
    rw [arrived_now] at hserve
    refine ⟨_, congrArg Host.Outcome.next (hrun.trans hserve), by simp [sameBut], ?_, ?_⟩
    · exact getI_transfers_answer (lt_of_transferOf hx) ..
    · exact answer_setTransfer_out handle _ (by decide) (by simpa using hanswer)
  case refused =>
    have hrun := gdpFrame_of_heard hheard 6 (.segment handle segment data)
    have hserve := serveSegment_of_other ((transferOf_congr (arrived_transfers s h) handle true).trans hx) hother h data
    rw [arrived_now] at hserve
    refine ⟨_, congrArg Host.Outcome.next (hrun.trans hserve), by simp [sameBut], ?_, ?_⟩
    · exact getI_transfers_answer (lt_of_transferOf hx) ..
    · exact answer_setTransfer_out handle _ (by decide) (by simpa using hanswer)
  case close =>
    have hrun := gdpFrame_of_heard hheard 7 (.close handle)
    have hserve := serveClose_of_held hlt ((arrived_transfers s h).symm ▸ hheld) h
    refine ⟨_, congrArg Host.Outcome.next (hrun.trans hserve), by simp [sameBut], ?_, ?_⟩
    · exact getI_transfers_answer hlt ..
    · exact answer_setTransfer_out handle none (by decide) (by simpa using hanswer)
  case timeout =>
    obtain ⟨hhost, hrejected⟩ := closeTransfer_of_held hx 0x05010003
    refine ⟨_, congrArg Host.Outcome.next (timeoutTransfer_of_due hx hdue), by simp [sameBut], ?_, ?_, hrejected⟩
    · rw [hhost, getI_updI_self _ _ k.isLt]
    · rw [hhost, getI_updI_self _ _ k.isLt]

end Sys2Proof.Proofs.BlockTransfers
